-- ==== Sys2Proof/Word.lean ====
section
/-! DEFINITION. The word types of the OT-1280 model: octets, 32-bit registers (spec 00_scope, R3) and the sparse
array used wherever the spec gives a numbered collection. -/

namespace Sys2Proof

/-- An octet. -/
abbrev Byte := BitVec 8

/-- A BAR0 register: every register is 32 bits wide (R3). -/
abbrev Reg := BitVec 32

/-- A sparse array: key and value pairs, keys strictly rising, no pair equal to the default of its key. -/
abbrev Tab (α : Type) := List (Nat × α)

/-- An instant or a duration in units of 2^-48 ns, the finest unit the spec counts time in (R107). -/
abbrev Time := Int

end Sys2Proof
end

