-- ==== Sys2Proof/Syntax.lean ====
section
/-! DEFINITION. The commands the device takes: one constructor per row of the command table, with its operands. -/

namespace Sys2Proof

/-- Who makes a register access or owns a queue (R12 to R16): the functions, the management firmware and a work queue. -/
inductive Requester where
  /-- the data-plane function -/
  | pf0
  /-- the control-plane function -/
  | pf1
  /-- virtual function `n` (1 up) of PF0 (false) or PF1 (true) -/
  | vf (ofPf1 : Bool) (n : Nat)
  /-- the management function, through host link 0 (false) or 1 (true) -/
  | pf7 (link : Bool)
  /-- the firmware itself -/
  | mgmt
  /-- a work entry of queue `qid` -/
  | wq (qid : Nat)
  deriving DecidableEq, Repr

/-- The road of a management request (R471 to R474): mailbox `m`, MCTP over PCIe VDM (false) or SMBus (true), or the SGMII
port with the 42 octets of headers the request came under. -/
inductive Road where
  | mailbox (m : Nat)
  | mctp (smbus : Bool)
  | sgmii (header : List Byte)
  deriving DecidableEq, Repr

/-- What a swap request swaps (R73): a port's gate control bank, a DMA channel's register set, a time base's epoch. -/
inductive SwapKind where
  | bank (port : Nat)
  | dmaSet (ch : Nat)
  | epoch (tb : Nat)
  deriving DecidableEq, Repr

/-- A reference sample of a time base (R124): a PTP offset in 2^-16 ns with the log2 of its interval, a PPS offset in
2^-16 ns, or the k-th group of 10,000 edges of the 10 MHz input, so many 80 ps steps after a TIME edge. -/
inductive RefSample where
  | ptp (offset log : Int)
  | pps (offset : Int)
  | tenMhz (k sub : Nat)
  deriving DecidableEq, Repr

/-- An error the prism store's ECC finds (R294): a corrected one, or what an uncorrectable one took. -/
inductive StoreErr where
  | corrected
  /-- slot `k` of the current sequence of handle `sh` -/
  | slot (sh k : Nat)
  /-- a coefficient: set, phase, tap -/
  | coef (set phase tap : Nat)
  deriving DecidableEq, Repr

/-- What the MAC merge sublayer makes of an arrival (R171): an ordinary frame, a Verify or Respond mPacket, or a fragment
with its frame count, its fragment count for a continuation, and whether it is the final one; or that the first octet of a
frame or fragment has come, and no more yet; or that only the line's own errors are told. -/
inductive RxMac where
  | begin
  | idle
  | frame
  | verify
  | respond
  | start (count : Nat) (final : Bool)
  | cont (count frag : Nat) (final : Bool)
  deriving DecidableEq, Repr

/-- The BAR of a register access (R522): BAR2 takes, with a write, the TAGs in host memory of the entries that a cancellation or an
invalidation covers. -/
inductive Bar where
  | bar0
  | bar2 (tags : List Nat)
  | bar4
  deriving DecidableEq, Repr

/-- An arrival on a port and what the device finds out about it on the way: the octets without FCS, whether the FCS or
mCRC is correct, the 80 ps steps of its message timestamp point after the TIME edge, whether the packet buffer has room,
what its ECC found (none, or an uncorrectable error or not), the DDR4 address in the overflow region that the key lookup reached
(R180) with what the ECC found there, an error of the prism store or of the mirror staging region met on the way, and
the FEC and PCS errors since the last arrival, with what the PRBS checkers of the port's lanes found: lane, lock, bit errors. -/
structure RxIn where
  mac : RxMac
  bytes : List Byte
  ok : Bool
  sub : Nat
  room : Bool
  bufErr : Option Bool
  overflow : Option (Nat × Option Bool)
  store : Option StoreErr
  mirrorUe : Option Nat
  fecCorr : Nat
  fecUncorr : Nat
  pcsErr : Nat
  prbs : List (Nat × Bool × Nat)
  deriving DecidableEq, Repr

/-- A command the device takes from outside, one constructor per row of the command table. Its docstring names
the rule the row cites. -/
inductive Instr where
  /-- LANDING (R72). At L(T) the tick counter advances, the swap set of T is applied, the unit state board is compared, offset-0 tick actions fire and the landing edge is driven downstream. -/
  | landing (ue : Option Nat) (work : List Nat)
  /-- REBUILD_DONE (R62). Rebuilding from the new plan finishes and traffic resumes at the next landing Tr with PLAN.RESUME written. -/
  | rebuildDone (ecc : List (Nat × Bool))
  /-- CUT_OFF (R81). At C(n) = L(n) - 1 us, armed swap-type tick actions are evaluated and join the swap set of n, join late or are discarded. -/
  | cutOff (unverified : List SwapKind)
  /-- SHADOW_VERIFY (R75). A committed shadow in a swap set is verified between its commit and its cut-off. -/
  | shadowVerify (k : SwapKind)
  /-- AMENDMENT_LOAD (R60). After a commit, the covered shadows are saved and the amendment's sections are loaded into shadows before L(TARGET - 1). -/
  | amendmentLoad (ecc : List (Nat × Bool))
  /-- TICK_ACTION_FIRE (R80). An armed non-swap tick action reaches its instant and fires on time, fires late or is discarded. -/
  | tickActionFire (i : Nat)
  /-- TICK_ACTION_ARM (R78). A write to the word at offset 0xC of a tick action entry arms it. -/
  | tickActionArm (req : Requester) (i : Nat) (v : Reg)
  /-- TICK_ACTION_DISARM (R78). A write to the word at offset 0x0, 0x4 or 0x8 of a tick action entry disarms it. -/
  | tickActionDisarm (req : Requester) (i : Nat) (w : Nat) (v : Reg)
  /-- STAGE (R51). PLAN STAGE begins fetching PLAN.LEN bytes from PLAN.SRC into the staging area. -/
  | stage (req : Requester) (hall : Bool)
  /-- STAGING_DONE (R51). The staged copy has been read and is verified check by check, ending in STAGED_AMEND, STAGED_PLAN or rejection. -/
  | stagingDone (data : Option (List Byte)) (unplaced : Bool) (ecc : List (Nat × Bool))
  /-- COMMIT_AMEND (R55). COMMIT_AMEND commits the staged amendment for PLAN.TARGET or completes LATE. -/
  | commitAmend (req : Requester) (hall : Bool)
  /-- COMMIT_REPLAN (R56). COMMIT_REPLAN commits the staged full plan for PLAN.TARGET, takes effect at once in NONE, or completes LATE. -/
  | commitReplan (req : Requester) (hall : Bool)
  /-- PLAN_ABORT (R53). ABORT discards a staged or committed image and restores shadows of an aborted amendment. -/
  | planAbort (req : Requester) (hall : Bool)
  /-- PLAN_CMD_RESERVED (R53). A reserved PLAN command code completes with STATE. -/
  | planCmdReserved (req : Requester) (hall : Bool)
  /-- TICK_FRAME_SEND (R94). At L(T-1)+4 us a tick source sends the TICK frame for T on each D port, setting GO or ABORT from the combined hall status. -/
  | tickFrameSend
  /-- TICK_FRAME_RECEIVE (R96). A follower takes a TICK frame, relays it downstream and uses it for lock, step adoption and the GO or ABORT outcome. -/
  | tickFrameReceive (b : List Byte)
  /-- STATUS_FRAME_SEND (R105). A device sends its STATUS frame upstream once its followers have reported or at L(T-1)+3.5 us. -/
  | statusFrameSend
  /-- STATUS_FRAME_RECEIVE (R105). A device takes a follower's STATUS frame and folds its READY and PENDING into its own. -/
  | statusFrameReceive (d1 : Bool) (b : List Byte)
  /-- USTOR_EDGE_RECEIVE (R96). A follower takes the parent's landing edge and moves its landing offset by one-sixteenth of the error. -/
  | ustorEdgeReceive (sub : Nat)
  /-- USTOR_EDGE_MISSING (R97). Four consecutive expected edges or frames missing or failing move the follower to SEEKING or HOLDOVER. -/
  | ustorEdgeMissing
  /-- USTOR_NO_LOCK (R97). No lock within 1 s of the plan commit raises USTOR_NO_LOCK. -/
  | ustorNoLock
  /-- CAL_PULSE_SEND (R95). A calibrating follower sends a pulse on its U ETX at L(n) + period / 2. -/
  | calPulseSend
  /-- CAL_PULSE_RETURN (R95). The parent returns a calibration pulse on its D ETX 1,024 ns after its arrival. -/
  | calPulseReturn (d1 : Bool)
  /-- CAL_PULSE_ARRIVE (R95). The follower measures the round trip of a returned pulse and updates its one-way delay. -/
  | calPulseArrive (trip : Nat)
  /-- CAL_PULSE_TIMEOUT (R95). A pulse not returned within 2,048 ns fails and restarts the count of round trips. -/
  | calPulseTimeout
  /-- PROMOTE (R100). PROMOTE makes a follower in HOLDOVER the tick source of its subtree. -/
  | promote (req : Requester)
  /-- RESYNC (R100). RESYNC ends the current tick, holds the data plane and lands the next tick in LOCKED. -/
  | resync (req : Requester)
  /-- RECAL (R100). RECAL starts a link delay calibration while LOCKED. -/
  | recal (req : Requester)
  /-- TICK_CMD_RESERVED (R100). A reserved TICK command code completes with STATE. -/
  | tickCmdReserved (req : Requester)
  /-- SERVO_SAMPLE (R125). A reference sample yields an offset that drives the PI servo, lock state changes and corrections. -/
  | servoSample (n : Nat) (x : RefSample)
  /-- REFERENCE_LOSS (R112). No valid sample for LOSS_MS moves a time base to FREE or HOLDOVER. -/
  | referenceLoss (n : Nat)
  /-- ANNOUNCE_TIMEOUT (R112). No timeTransmitter left after announceReceiptTimeout moves a locked or refused time base to HOLDOVER. -/
  | announceTimeout (n : Nat) (k : Nat)
  /-- ACCEPT (R120). ACCEPT applies the refused correction without the threshold and leaves REFUSED. -/
  | accept (req : Requester) (n : Nat)
  /-- SET (R122). SET loads SET_TIME into a FREE time base's count. -/
  | tsuSet (req : Requester) (n : Nat)
  /-- ADJ_PHASE (R127). ADJ_PHASE applies the host phase as a correction in host-assisted SERVO mode. -/
  | adjPhase (req : Requester) (n : Nat)
  /-- EPOCH_NEXT (R121). EPOCH_NEXT requests the shadow-epoch swap at the next landing. -/
  | epochNext (req : Requester) (n : Nat)
  /-- TSU_CMD_RESERVED (R122). A reserved time base command code completes with STATE. -/
  | tsuCmdReserved (req : Requester) (n : Nat)
  /-- ADJ_FREQ_WRITE (R127). A write of ADJ_FREQ sets FREQ on the next TIME edge in host-assisted mode. -/
  | adjFreqWrite (req : Requester) (n : Nat) (v : Reg)
  /-- TIME_READ_CAPTURE (R130). A read of the first word of TSU.TB[n].TIME captures the whole count and latches the other words. -/
  | timeReadCapture (req : Requester) (n : Nat)
  /-- PTP_SYNC_RECEIVE (R124). A Sync or Follow_Up from the selected timeTransmitter yields a reference sample. -/
  | ptpSyncReceive (p : Nat) (x : RxIn)
  /-- PTP_ANNOUNCE_RECEIVE (R135). An Announce updates foreign records and may change the selected timeTransmitter. -/
  | ptpAnnounceReceive (p : Nat) (x : RxIn)
  /-- PDELAY_REQ_RECEIVE (R136). A Pdelay_Req on a port in PORTS is answered with a Pdelay_Resp built in hardware. -/
  | pdelayReqReceive (p : Nat) (x : RxIn)
  /-- PDELAY_RESP_RECEIVE (R136). A Pdelay_Resp updates the port's meanLinkDelay, neighborRateRatio and asCapable. -/
  | pdelayRespReceive (p : Nat) (x : RxIn)
  /-- DELAY_RESP_RECEIVE (R133). A Delay_Resp in profile 1 updates meanPathDelay. -/
  | delayRespReceive (p : Nat) (x : RxIn)
  /-- PTP_MESSAGE_SEND (R317). The ordinary clock sends a one-step Delay_Req or Pdelay_Req at its own interval. -/
  | ptpMessageSend (n : Nat) (p : Nat)
  /-- PPS_INPUT_EDGE (R140). A PPS input edge is timestamped in every time base and checked for validity. -/
  | ppsInputEdge (i : Nat) (sub : Nat) (high : Bool) (edges : Nat)
  /-- PPS_OUTPUT_EDGE (R142). PPS_OUTn rises as the time base count crosses a whole second. -/
  | ppsOutputEdge (n : Nat)
  /-- LINK_ALIGNING (R151). Signal detect, CDR lock and training on every lane move a TRAINING port to ALIGNING. -/
  | linkAligning (p : Nat)
  /-- LINK_UP (R151). Lock held for UP_QUAL_MS moves a port to UP. -/
  | linkUp (p : Nat) (start : Nat)
  /-- ALIGN_TIMEOUT (R151). A port still ALIGNING after 500 ms returns to TRAINING. -/
  | alignTimeout (p : Nat)
  /-- LINK_FAULT (R154). A fault lasting longer than DOWN_HOLD_US takes the port from UP to FAULT and stops its frames at once. -/
  | linkFault (p : Nat) (st : Nat) (ns : Nat)
  /-- CDR_LOSS_TIMEOUT (R151). A lane without CDR lock for 10 ms takes a FAULT port to TRAINING. -/
  | cdrLossTimeout (p : Nat) (l : Nat)
  /-- RETRAIN (R151). RETRAIN takes a port in UP or FAULT back to TRAINING. -/
  | retrain (req : Requester) (p : Nat)
  /-- PRT_CMD_RESERVED (R151). A reserved port command code completes with STATE. -/
  | prtCmdReserved (req : Requester) (p : Nat)
  /-- FRAME_RECEIVE (R155). A received frame is checked by the MAC and passed to identification, metering, elimination, forwarding and its destination. -/
  | frameReceive (p : Nat) (x : RxIn)
  /-- RX_FRAME_DELIVER (R338). A received frame is written to the buffer of its queue's next entry with its trailers and completion. -/
  | rxFrameDeliver (q : Nat)
  /-- TWIN_RESET_TIMER (R191). A handle with no pass for Rt ticks resets with take_any set and raises TWIN_RESET. -/
  | twinResetTimer (sh : Nat)
  /-- PATH_DOWN (R193). A path silent for PATH_WIN + 1 ticks while the other is current sets PATH_DOWN and raises PATH_LOSS. -/
  | pathDown (sh : Nat)
  /-- NODE_FORGET (R197). A node table entry that has seen no frame for FORGET_MS is freed. -/
  | nodeForget (pair : Nat) (mac : Nat)
  /-- SUPERVISION_SEND (R196). A PRP or HSR pair sends a supervision frame every LIFE_CHECK_MS when SUP_EN is 1. -/
  | supervisionSend (p : Nat)
  /-- RECOV_RESET (R208). RECOV_RESET resets a handle's recovery state without the fault source. -/
  | recovReset (req : Requester) (sh : Nat)
  /-- CONTAIN (R208). CONTAIN contains a stream handle by command. -/
  | contain (req : Requester) (sh : Nat)
  /-- STR_RELEASE (R208). RELEASE ends a handle's containment by command. -/
  | strRelease (req : Requester) (sh : Nat)
  /-- STR_CMD_RESERVED (R208). A reserved STR command code completes with STATE. -/
  | strCmdReserved (req : Requester) (sh : Nat)
  /-- STR_SEL_WRITE (R210). A write of STR.SEL snapshots a handle's record into the window and may clear its counters. -/
  | strSelWrite (req : Requester) (v : Reg)
  /-- VERIFY_TIMER (R167). A Verify mPacket is sent every VERIFY_TIME_MS until a Respond arrives or three attempts fail. -/
  | verifyTimer (p : Nat)
  /-- TREAD_START (R216). A tread takes effect and sets gate states; an actuation frame left blocked at the end of an ACT tread completes ACT_DENIED. -/
  | treadStart (p : Nat)
  /-- MM_HOLD_ASSERT (R224). The MAC merge hold is asserted HOLD_ADV before a HOLD tread and preempts preemptable traffic. -/
  | mmHoldAssert (p : Nat)
  /-- TX_SELECT (R217). When the line is free, the port selects the next eligible, admitted frame by express, class and queue order. -/
  | txSelect (p : Nat)
  /-- TX_LAUNCH (R300). A frame's first preamble octet passes the PCS and its launch tick and tread are fixed. -/
  | txLaunch (p : Nat) (k : Nat) (ue : Option Bool)
  /-- TX_END (R300). The last octet of a frame or its final fragment passes the PCS and its completion is written. -/
  | txEnd (p : Nat) (ue : Option Bool)
  /-- COMMIT_AT (R230). COMMIT_AT requests a gate bank swap at SCH.P[p].TARGET in hardware GATE_SWAP mode. -/
  | commitAt (req : Requester) (p : Nat)
  /-- COMMIT_NEXT (R230). COMMIT_NEXT requests a gate bank swap at the next landing in host-assisted mode. -/
  | commitNext (req : Requester) (p : Nat)
  /-- WITHDRAW (R234). WITHDRAW releases a COMMIT_AT or COMMIT_NEXT request before its cut-off. -/
  | withdraw (req : Requester) (p : Nat)
  /-- SCH_CMD_RESERVED (R230). A reserved SCH command code completes with STATE. -/
  | schCmdReserved (req : Requester) (p : Nat)
  /-- RD_SEL_WRITE (R236). A write of SCH.RD_SEL snapshots a port's active bank into the read window. -/
  | rdSelWrite (req : Requester) (v : Reg)
  /-- SET_PATH_OFS (R265). SET_PATH_OFS sets a stream's path offset at the next landing and causes a timing break. -/
  | setPathOfs (req : Requester) (sh : Nat)
  /-- SET_REORDER (R265). SET_REORDER sets a stream's reorder window at the next landing. -/
  | setReorder (req : Requester) (sh : Nat)
  /-- BREAK (R265). BREAK causes a timing break on a stream at the next landing. -/
  | przBreak (req : Requester) (sh : Nat)
  /-- PRZ_IN_CMD_RESERVED (R265). A reserved prism input command completes with STATE. -/
  | przInCmdReserved (req : Requester) (sh : Nat)
  /-- IN_SEL_WRITE (R264). A write of PRZ.IN_SEL snapshots a handle's input record and may clear its counters. -/
  | inSelWrite (req : Requester) (v : Reg)
  /-- PANE_SEAL (R282). At its seal instant a pane's undecided outputs become missing and its final header is written. -/
  | paneSeal (g : Nat) (uncomputed : List (Nat × Nat)) (slow : Bool)
  /-- PG_CONTAIN (R295). CONTAIN makes a pane group's data-path view CONTAINED from the next landing. -/
  | pgContain (req : Requester) (g : Nat)
  /-- PG_RELEASE (R295). RELEASE ends a pane group's containment by command. -/
  | pgRelease (req : Requester) (g : Nat)
  /-- PG_CMD_RESERVED (R295). A reserved pane-group command completes with STATE. -/
  | pgCmdReserved (req : Requester) (g : Nat)
  /-- TX_FETCH_DONE (R299). A host frame read completes, is checked and becomes eligible or completes with CHECK or HOST_RD_ERR. -/
  | txFetchDone (q : Nat) (frame : Option (List Byte))
  /-- LOAD_PENDING (R307). LOAD_PENDING starts loading a GOOSE template into a GCB's pending slot. -/
  | loadPending (req : Requester) (index : Nat)
  /-- TEMPLATE_LOAD_DONE (R307). A template read completes and is checked, leaving the pending slot ready or rejected. -/
  | templateLoadDone (unit : Nat) (index : Nat) (bytes : Option (List Byte))
  /-- GCB_COMMIT (R308). COMMIT makes the pending slot active with stNum advanced and the curve restarted. -/
  | gcbCommit (req : Requester) (index : Nat)
  /-- GCB_ENABLE (R313). ENABLE starts a GCB at the next landing from its pending slot. -/
  | gcbEnable (req : Requester) (index : Nat)
  /-- GCB_DISABLE (R313). DISABLE stops a GCB at the next landing and drops a waiting frame. -/
  | gcbDisable (req : Requester) (index : Nat)
  /-- TXE_CMD_RESERVED (R313). A reserved TXE command code or unit completes with STATE. -/
  | txeCmdReserved (req : Requester) (unit : Nat) (index : Nat)
  /-- GCB_FRAME_DUE (R310). A GCB retransmission falls due and becomes a waiting frame or merges into one. -/
  | gcbFrameDue (i : Nat)
  /-- SVP_LOAD (R315). LOAD loads and checks an SV publisher template. -/
  | svpLoad (req : Requester) (index : Nat)
  /-- SVP_ENABLE (R315). ENABLE starts an SV publisher at the next landing. -/
  | svpEnable (req : Requester) (index : Nat)
  /-- SVP_DISABLE (R315). DISABLE stops an SV publisher at the next landing. -/
  | svpDisable (req : Requester) (index : Nat)
  /-- SVP_SLOT_READ (R316). From L(n-1) the value ring slots of tick n are read from host memory. -/
  | svpSlotRead (n : Nat) (f : Nat) (values : Option (List Byte))
  /-- SVP_FRAME_READY (R316). At its last grid instant an SV frame becomes ready or underruns. -/
  | svpFrameReady (n : Nat)
  /-- RA_WINDOW_EXPIRY (R321). A bound frame not launched by L(TARGET+1+WINDOW) completes LATE and raises RA_LATE. -/
  | raWindowExpiry (q : Nat) (i : Nat)
  /-- CANCEL (R323). A QM.CANCEL doorbell cancels an A-ring entry with an outcome set by its state. -/
  | cancel (req : Requester) (q : Nat) (v : Reg) (tag : Nat)
  /-- TAIL (R334). A QM.TAIL doorbell advances TAIL or causes a producer lap error and stop. -/
  | tail (req : Requester) (q : Nat) (v : Reg)
  /-- INVAL (R343). A QM.INVAL doorbell drops cached copies of entries for refetch or cancels A-ring entries. -/
  | inval (req : Requester) (q : Nat) (v : Reg) (tags : List Nat)
  /-- CR_HEAD (R331). A CR_HEAD doorbell reports a completion ring head or causes a consumer lap error. -/
  | crHead (req : Requester) (q : Nat) (v : Reg)
  /-- CR_HEAD_WRITE (R331). A write of QM.CR[r].HEAD is checked and applied as a head report. -/
  | crHeadWrite (req : Requester) (r : Nat) (v : Reg)
  /-- DESC_FETCH_DONE (R341). A descriptor read completes into the cache, or fails with HOST_RD_ERR and stops the queue. -/
  | descFetchDone (q : Nat) (data : Option (List Byte))
  /-- NOP (R339). A NOP work entry completes with OK. -/
  | nop (qid : Nat)
  /-- CSR_WRITE (R339). A CSR_WRITE work entry writes a BAR0 register. -/
  | csrWrite (qid : Nat)
  /-- CSR_READ (R339). A CSR_READ work entry reads a BAR0 register into its completion. -/
  | csrRead (qid : Nat)
  /-- CSR_CMD (R339). A CSR_CMD work entry writes a command register and completes when the block finishes. -/
  | csrCmd (qid : Nat)
  /-- ACT_WRITE (R339). An ACT_WRITE work entry writes a whole tick action entry and arms it. -/
  | actWrite (qid : Nat)
  /-- QM_ENABLE (R352). ENABLE turns a queue to RUN or a completion ring to ENABLED. -/
  | qmEnable (req : Requester) (ring : Bool) (index : Nat)
  /-- QM_HOLD (R353). HOLD holds a running queue so no entry starts. -/
  | qmHold (req : Requester) (ring : Bool) (index : Nat)
  /-- QM_RELEASE (R352). RELEASE returns a held queue to RUN. -/
  | qmRelease (req : Requester) (ring : Bool) (index : Nat)
  /-- QM_STOP (R354). STOP stops a queue in its STOP_MODE. -/
  | qmStop (req : Requester) (ring : Bool) (index : Nat)
  /-- RESUME (R355). RESUME restarts a stopped queue fetching from HEAD. -/
  | resume (req : Requester) (ring : Bool) (index : Nat)
  /-- QM_DISABLE (R352). DISABLE turns a stopped queue or an unused ring OFF. -/
  | qmDisable (req : Requester) (ring : Bool) (index : Nat)
  /-- RESET_IDX (R352). RESET_IDX clears HEAD and TAIL of an OFF queue or ring. -/
  | resetIdx (req : Requester) (ring : Bool) (index : Nat)
  /-- QM_CMD_RESERVED (R352). A reserved QM command code completes with STATE. -/
  | qmCmdReserved (req : Requester) (ring : Bool) (index : Nat)
  /-- QUEUE_STOPPED (R355). A stopping queue reaches STOPPED once every entry past its point of no return has completed. -/
  | queueStopped (q : Nat)
  /-- FUNCTION_LEVEL_RESET (R357). An FLR stops and clears every queue and DMA channel of the function and its virtual functions. -/
  | functionLevelReset (func : Nat) (vf : Nat)
  /-- DMA_ENABLE (R371). ENABLE takes a DMA channel from OFF to IDLE. -/
  | dmaEnable (req : Requester) (c : Nat)
  /-- DMA_COMMIT (R373). COMMIT arms a DMA channel's shadow set for a swap at end of count or at a landing. -/
  | dmaCommit (req : Requester) (c : Nat)
  /-- DMA_STOP (R371). STOP stops a DMA channel at once or at its next boundary. -/
  | dmaStop (req : Requester) (c : Nat)
  /-- DMA_CLEAR (R371). CLEAR returns a stopped channel to IDLE. -/
  | dmaClear (req : Requester) (c : Nat)
  /-- DMA_DISABLE (R371). DISABLE turns a DMA channel OFF. -/
  | dmaDisable (req : Requester) (c : Nat)
  /-- DMA_CMD_RESERVED (R371). A reserved DMA command code completes with STATE. -/
  | dmaCmdReserved (req : Requester) (c : Nat)
  /-- DMA_DOORBELL (R372). A write of DMA.CH[c].DB triggers a run, becomes pending or is ignored. -/
  | dmaDoorbell (req : Requester) (c : Nat)
  /-- DMA_BURST_ISSUE (R362). A channel issues its next burst once buffer and burst room allow, reaching its end of count on the last write. -/
  | dmaBurstIssue (c : Nat)
  /-- DMA_READ_DONE (R365). A DMA read returns data, or fails and ends the run with HOST_RD_ERR. -/
  | dmaReadDone (c : Nat) (n : Nat) (data : Option (List Byte)) (ecc : List (Nat × Bool))
  /-- DMA_DESC_FETCH_DONE (R374). A chain descriptor is fetched and checked at its point of use, with the hop limit applied. -/
  | dmaDescFetchDone (c : Nat) (data : Option (List Byte))
  /-- DMA_WRITE_RESPONSE (R366). A DMA write is answered, possibly with an error that gives HOST_WR_ERR or WR_ERR_LAST. -/
  | dmaWriteResponse (c : Nat) (n : Nat) (err : Bool)
  /-- DMA_RUN_DEADLINE (R384). A pane run at its deadline abandons its current pane and drops those not started. -/
  | dmaRunDeadline (c : Nat)
  /-- PATROL_SCRUB (R393). Patrol scrub reads the next block, corrects and writes back or reports an uncorrectable error. -/
  | patrolScrub (c : Nat) (find : Option Bool)
  /-- PEER_IN_ASSERT (R402). PAIR_PEER_IN asserts; a SECONDARY claimant or holder yields and the contest is counted. -/
  | peerInAssert
  /-- PEER_IN_DEASSERT (R404). PAIR_PEER_IN deasserts, starting the guard time toward a claim. -/
  | peerInDeassert
  /-- GUARD_EXPIRY (R404). With PAIR_PEER_IN deasserted for RDN.GUARD and a cause present, the device asserts PAIR_ACT_OUT and enters CLAIMING. -/
  | guardExpiry
  /-- CLAIM_CONFIRM (R402). PAIR_PEER_IN stays deasserted 100 ns after assertion and the device becomes ACTIVE with the grant. -/
  | claimConfirm
  /-- HANDOVER (R406). HANDOVER drops the grant at the next landing, marks the final epoch and keeps the line until it is confirmed. -/
  | handover (req : Requester)
  /-- HANDOVER_TIMEOUT (R406). Without a commit report by L(h+HB_TICKS), a releasing device deasserts its line and marks held completions unconfirmed. -/
  | handoverTimeout
  /-- CLAIM (R423). CLAIM makes a standby claim under the interlock rule. -/
  | claim (req : Requester)
  /-- RDN_RELEASE (R423). RELEASE gives up an ACTIVE or CLAIMING device's grant or claim. -/
  | rdnRelease (req : Requester)
  /-- RDN_RESYNC (R423). RESYNC on a standby sets COMMITTED to all ones and requests a FULL epoch. -/
  | rdnResync (req : Requester)
  /-- RDN_CMD_RESERVED (R423). A reserved RDN command code completes with STATE. -/
  | rdnCmdReserved (req : Requester)
  /-- HEARTBEAT_SEND (R410). Each device sends a heartbeat on both mirror ports at L(n)+2 us and on each epoch commit. -/
  | heartbeatSend
  /-- HEARTBEAT_RECEIVE (R411). A valid heartbeat clears HB_MISS_RUN and may confirm a held cancellation or handover. -/
  | heartbeatReceive (p : Nat) (x : RxIn)
  /-- EPOCH_SEND (R415). From L(n+1)+10 us the active sends the epoch's data frames and trailer on both mirror ports. -/
  | epochSend
  /-- EPOCH_DATA (R416). A standby takes an EPOCH_DATA frame into its incoming bank. -/
  | epochData (p : Nat) (x : RxIn)
  /-- EPOCH_TRAILER (R416). A standby checks an EPOCH_TRAILER and commits or discards the incoming bank. -/
  | epochTrailer (p : Nat) (x : RxIn)
  /-- KICK (R424). A write of MGT.WDOG.KICK restarts the management watchdog. -/
  | kick (req : Requester) (v : Reg)
  /-- MGT_WDOG (R424). The watchdog expires, raises MGT_WDOG and releases the grant when WDOG_FO is 1. -/
  | mgtWdog
  /-- FCR_RELEASE (R442). RELEASE ends a latched fault state at the next landing. -/
  | fcrRelease (req : Requester) (arg : Nat)
  /-- UNCONTAIN (R442). UNCONTAIN ends the C2 containment of the named unit from the next landing. -/
  | uncontain (req : Requester) (arg : Nat)
  /-- FCR_CMD_RESERVED (R442). A reserved FCR command code completes with STATE. -/
  | fcrCmdReserved (req : Requester) (arg : Nat)
  /-- INJ_WRITE (R443). A write to FCR.G[k].INJ injects the named sources with the configured class. -/
  | injWrite (req : Requester) (k : Nat) (v : Reg) (real : List (Nat × List Nat))
  /-- VECTOR_FIRE (R448). A vector's count is reached or its timer or tolerance bound expires, and its MSI-X message is sent. -/
  | vectorFire (fn : Requester) (v : Nat)
  /-- MSIX_UNMASK (R449). Removing an MSI-X mask sends a message for a vector whose PBA bit is set. -/
  | msixUnmask (fn : Requester) (v : Option Nat)
  /-- FLUSH_MOD (R498). A write of PWR.FLUSH_MOD fires every pending vector of the named function. -/
  | flushMod (req : Requester) (v : Reg)
  /-- POWER_ON_RESET (R455). Release of PORST_N resets everything and starts the boot at stage 1. -/
  | powerOnReset (straps : Nat)
  /-- WARM_RESET (R453). SYSRST_N ends the grant within 40 ns, resets everything outside AON and boots from stage 2. -/
  | warmReset (cycles : Nat)
  /-- LINK_RESET (R454). PERSTh_N takes link h down and resets its functions, while the rest runs on. -/
  | linkReset (h : Nat)
  /-- FW_COPY_VERIFY (R459). The boot ROM reads and verifies a firmware copy, falling back or entering RECOVERY. -/
  | fwCopyVerify
  /-- DICE_DERIVE (R466). The boot ROM derives CDI and the keys, builds the Alias certificate and locks the UDS. -/
  | diceDerive
  /-- DDR_TRAIN (R387). Each DDR4 channel is trained and ends READY, ABSENT or FAILED. -/
  | ddrTrain (outcome : List Reg)
  /-- FW_START (R461). The firmware starts, BAR0 becomes accessible and the plan is loaded as BOOT_SRC asks. -/
  | fwStart (unplaced : Bool) (ecc : List (Nat × Bool))
  /-- ROLLBACK_SET (R463). ROLLBACK_SET programs the rollback counter up to ARG v. -/
  | rollbackSet (req : Requester)
  /-- REVOKE (R464). REVOKE programs the revoke bit of a key slot. -/
  | revoke (req : Requester)
  /-- KEY_WRITE (R464). KEY_WRITE programs SEC.KEY_STAGE into a blank key slot. -/
  | keyWrite (req : Requester)
  /-- SEC_CMD_RESERVED (R465). A reserved SEC command code completes with STATE. -/
  | secCmdReserved (req : Requester)
  /-- GET_INFO (R473). GET_INFO replies with firmware version, FWID, boot status and plan state. -/
  | getInfo (r : Road) (msg : List Byte)
  /-- GET_SENSORS (R473). GET_SENSORS replies with every sensor value. -/
  | getSensors (r : Road) (msg : List Byte)
  /-- GET_BOARD (R473). GET_BOARD replies with every unit state board word. -/
  | getBoard (r : Road) (msg : List Byte)
  /-- SET_MG_VIEW (R475). SET_MG_VIEW sets a management-view override for an entry. -/
  | setMgView (r : Road) (msg : List Byte)
  /-- CLEAR_MG_VIEW (R475). CLEAR_MG_VIEW ends an entry's management-view override. -/
  | clearMgView (r : Road) (msg : List Byte)
  /-- FW_WRITE (R473). FW_WRITE writes bytes to the firmware copy that is not running. -/
  | fwWrite (r : Road) (msg : List Byte)
  /-- FW_VERIFY (R473). FW_VERIFY verifies the non-running firmware copy and replies with its code. -/
  | fwVerify (r : Road) (msg : List Byte)
  /-- FW_ACTIVATE (R473). FW_ACTIVATE writes PREFERRED to the verified copy. -/
  | fwActivate (r : Road) (msg : List Byte)
  /-- FW_LOAD (R459). FW_LOAD in RECOVERY loads an image into RAM, verifies it and starts it. -/
  | fwLoad (r : Road) (msg : List Byte)
  /-- SYS_RESET (R473). SYS_RESET performs a warm reset 10 ms after the reply. -/
  | sysReset (r : Road) (msg : List Byte)
  /-- PLAN_WRITE (R473). PLAN_WRITE writes bytes into the plan staging area. -/
  | planWrite (r : Road) (msg : List Byte)
  /-- PLAN_SLOT_WRITE (R473). PLAN_SLOT_WRITE writes bytes into the SPI NOR plan slot. -/
  | planSlotWrite (r : Road) (msg : List Byte)
  /-- GET_LOG (R473). GET_LOG replies with the firmware log from a sequence number. -/
  | getLog (r : Road) (msg : List Byte)
  /-- SET_NET (R473). SET_NET sets the IPv4 address, mask and gateway of the SGMII port. -/
  | setNet (r : Road) (msg : List Byte)
  /-- GET_VERSION (R471). SPDM GET_VERSION replies with versions and resets that binding's SPDM state. -/
  | getVersion (smbus : Bool) (msg : List Byte)
  /-- GET_CAPABILITIES (R469). SPDM GET_CAPABILITIES replies with the advertised capabilities. -/
  | getCapabilities (smbus : Bool) (msg : List Byte)
  /-- NEGOTIATE_ALGORITHMS (R469). SPDM NEGOTIATE_ALGORITHMS settles on P-384 and SHA-384. -/
  | negotiateAlgorithms (smbus : Bool) (msg : List Byte)
  /-- GET_DIGESTS (R469). SPDM GET_DIGESTS replies with the certificate chain digest of slot 0. -/
  | getDigests (smbus : Bool) (msg : List Byte)
  /-- GET_CERTIFICATE (R469). SPDM GET_CERTIFICATE returns the slot 0 chain up to the Alias certificate. -/
  | getCertificate (smbus : Bool) (msg : List Byte)
  /-- CHALLENGE (R469). SPDM CHALLENGE is answered signed with the Alias key. -/
  | challenge (smbus : Bool) (msg : List Byte)
  /-- GET_MEASUREMENTS (R470). SPDM GET_MEASUREMENTS returns the signed measurement blocks. -/
  | getMeasurements (smbus : Bool) (msg : List Byte)
  /-- SET_ENDPOINT_ID (R471). An MCTP Set Endpoint ID from the bus owner sets the endpoint ID. -/
  | setEndpointId (smbus : Bool) (eid : Nat)
  /-- MGT_PORT_RECEIVE (R474). A frame on the SGMII management port is handled as ARP, ICMP echo or a UDP mailbox message. -/
  | mgtPortReceive (b : List Byte)
  /-- RESTART (R476). MGT RESTART performs a management reset of the cores and their SRAM. -/
  | restart (req : Requester)
  /-- MGT_CMD_RESERVED (R476). A reserved MGT.CTL command completes with STATE. -/
  | mgtCmdReserved (req : Requester)
  /-- MGT_FW_FAULT (R480). A firmware trap or SRAM uncorrectable error raises its source and performs a management reset. -/
  | mgtFwFault (sram : Bool)
  /-- SENSOR_SAMPLE (R478). Every 100 us the AON domain samples temperatures, rails and current and updates the alarms. -/
  | sensorSample (temps : List Int) (rails : List (Nat × Nat)) (amps : Nat)
  /-- MG_VIEW_WRITE (R28). A write of TOP.USB_MG through PF7 sets a management-view override, or is dropped from other requesters. -/
  | mgViewWrite (req : Requester) (u : Nat) (v : Reg)
  /-- PLL_UNLOCK (R482). A PLL loses lock and the domains it feeds stop glitch-free. -/
  | pllUnlock (i : Nat)
  /-- PLL_RESTART (R482). 10 us after a PLL relocks its domains restart with a re-plan, time step or management reset. -/
  | pllRestart (i : Nat) (ns : Nat)
  /-- SYSOSC_LOSS (R518). SYSCLK_IN shows no edge for 200 ns and AON switches to its internal oscillator. -/
  | sysoscLoss
  /-- SYSCLK_RESTORE (R518). SYSCLK_IN present for 1 ms makes AON switch back to it. -/
  | sysclkRestore
  /-- REFCLK_LOSS (R519). A gallery reference clock is lost or off frequency, and its lanes lose lock. -/
  | refclkLoss (g : Nat)
  /-- REFCLK_RESTORE (R519). A gallery reference clock within limits for 10 ms ends REFCLK_LOSS and its ports retrain. -/
  | refclkRestore (g : Nat)
  /-- CSR_TIMEOUT (R489). A register access to a stopped domain times out after 4 us. -/
  | csrTimeout (req : Requester) (off : Nat) (write : Option Reg)
  /-- POWER_WAKE (R492). A unit leaves its power state one exit latency before a scheduled act or on demand. -/
  | powerWake (u : Nat)
  /-- L1_ENTRY (R495). A PCIe link with no pending work requests ASPM L1. -/
  | l1Entry (h : Nat) (exit : Nat)
  /-- L1_EXIT (R495). A link leaves L1 ahead of due DMA or moderated vectors. -/
  | l1Exit (h : Nat)
  /-- LTR_SEND (R496). An LTR message is sent when PWR.LTR changes or on return to L0. -/
  | ltrSend (h : Nat)
  /-- D3HOT_ENTRY (R499). A function enters D3hot, stopping its host requests and messages and setting PME_Status if a vector is pending. -/
  | d3hotEntry (func : Nat) (pmeEn : Bool)
  /-- D0_RETURN (R499). A function returns to D0, its held records are written and its vectors fire. -/
  | d0Return (func : Nat) (pmeEn : Bool) (clear : Bool)
  /-- PME_RESEND (R499). PM_PME is sent again while PME_Status stays set. -/
  | pmeResend (func : Nat)
  /-- RC_READ (R172). A read of an RC counter returns its value, latches the high half and clears it. -/
  | rcRead (req : Requester) (off : Nat) (size : Nat) (bar : Bar)
  /-- WIDE_LOW_READ (R487). A read of the low half or first word of a wide register latches the rest for that requester. -/
  | wideLowRead (req : Requester) (off : Nat) (size : Nat)
  /-- WIDE_LOW_WRITE (R488). A write of the low words of a writable wide register is held per requester. -/
  | wideLowWrite (req : Requester) (off : Nat) (v : Reg)
  /-- WIDE_HIGH_WRITE (R488). A write of the high half or word 3 applies the whole wide value with the held words. -/
  | wideHighWrite (req : Requester) (off : Nat) (v : Reg)
  /-- REGISTER_WRITE (R3). A write to a register with no behaviour of its own sets its fields under their types, or is dropped. -/
  | registerWrite (req : Requester) (off : Nat) (size : Nat) (be : Bool) (v : BitVec 64) (bar : Bar)
  /-- SLEW_COMPLETE (R117). The remaining slew of the tick-source time base reaches 0 and STATUS.SLEWING clears. -/
  | slewComplete (n : Nat)
  /-- PCIE_LINK_UP (R24). PCIe link h completes training and reaches L0, so PCIE_LINK_DOWN[h] ceases and the host-link entry can read RUN. -/
  | pcieLinkUp (h : Nat)
  /-- PCIE_LINK_LOST (R24). PCIe link h leaves L0 or its low-power states through a link failure or partner action, making PCIE_LINK_DOWN[h] LIVE. -/
  | pcieLinkLost (h : Nat)
  /-- PORST_ASSERT (R451). PORST_N goes low, or the internal power-on reset asserts on rail loss, halting the device and releasing PAIR_ACT_OUT to high impedance. -/
  | porstAssert (cycles : Nat)
  /-- MGT_RESTART_DONE (R476). A management reset finishes within 400 ms and the firmware runs again, returning entry 230 to RUN. -/
  | mgtRestartDone
  deriving DecidableEq, Repr

end Sys2Proof
end

