-- ==== Sys2Proof/Decode.lean ====
section
/-! DEFINITION. The command table gives no row any bits: its commands are events and register accesses, so no word spells
one (log entry 2). -/

namespace Sys2Proof

/-- The command that a word of `nbits` bits spells by the bits of the command table: none, since no row has bits. -/
def decodeTableWord (_nbits _w : Nat) : Option Instr := none

end Sys2Proof
end

