-- ==== Sys2Proof/Config.lean ====
section
/-! DEFINITION. What the spec leaves open, as constants without a body: the functions other standards
define, and the figures each device has of its own. Nothing can evaluate them or prove a value of them. -/

namespace Sys2Proof.Config

/-- SHA-384 (FIPS 180-4), named by R43 and R456; its definition stands in another standard. Log entry 10. -/
opaque sha384 : List Byte → List Byte

/-- ECDSA P-384 verification (FIPS 186-5): public key point, signature, digest (R43). Log entry 10. -/
opaque ecdsaP384Verify : List Byte → List Byte → List Byte → Bool

/-- LMS verification (RFC 8554): public key, signature, message (R43). Log entry 10. -/
opaque lmsVerify : List Byte → List Byte → List Byte → Bool

/-- HMAC-SHA-384 (R466); its definition stands in another standard. Log entry 10. -/
opaque hmacSha384 : List Byte → List Byte → List Byte

/-- The public point of a private scalar on P-384 (FIPS 186-5, R467); its definition stands in another standard. Log entry 10. -/
opaque p384Point : Nat → List Byte

/-- The X.509 v3 Alias certificate (R468): the DeviceID scalar that signs it, its subject serial number, the Alias public point,
SEC_VERSION and FWID. Its encoding and signature stand in other standards. Log entry 10. -/
opaque aliasCertificate : Nat → List Byte → List Byte → Nat → List Byte → List Byte

/-- The SPDM reply body of a request, built by the DMTF standard the spec names (R469, R470), from what `State.spdmContext` lists.
Log entry 11. -/
opaque spdmReply : List Byte → List Byte → List Byte

/-- The SPDM ERROR reply to a request (DSP0274). Log entry 11. -/
opaque spdmError : List Byte → List Byte

/-- The MCTP control reply that confirms an endpoint ID on a binding (DSP0236). Log entry 11. -/
opaque mctpReply : Bool → Nat → List Byte

/-- SHA-384 of the boot ROM (R470): the ROM's code is not stated. Log entry 10. -/
opaque bootRomDigest : List Byte

/-- The length in ps of the acknowledge phase that a toggle crossing begins with free value number `n` (R483 gives the longest one
only). Log entry 72. -/
opaque ackPs : Nat → Nat

/-- The MAC address of the SGMII management port, 6 octets' worth. Log entry 17. -/
opaque mgtMac : Nat

/-- The device's own internal receive latency of a port, in 2^-16 ns (R165: reported, not stated). Log entry 13. -/
opaque rxLatInt : Nat → Reg

/-- The device's own internal transmit latency of a port, in 2^-16 ns (R165). Log entry 13. -/
opaque txLatInt : Nat → Reg

/-- The MAC address of a port's own PTP messages, 6 octets' worth: the spec does not state it. Log entry 17. -/
opaque portMac : Nat → Nat

/-- The clockIdentity of the device's ordinary clocks. Log entry 17. -/
opaque clockId : Nat

/-- The IPv4 source address of own PTP messages over UDP/IPv4. Log entry 17. -/
opaque ptpIp : Nat

end Sys2Proof.Config
end

