-- ==== Sys2Proof/Machine/Bits.lean ====
section
/-! DEFINITION. Bit fields, byte order, the two check codes (R8, R9), the sparse array's read and write, and the
rounding the spec's arithmetic names. -/

namespace Sys2Proof.Machine

/-! ### Sparse arrays -/

/-- The value at key `k`, the default `d k` where the array lists none. -/
def Tab.get {α : Type} (d : Nat → α) : Tab α → Nat → α
  | [], k => d k
  | (j, v) :: t, k => if j = k then v else Tab.get d t k

/-- Put `(k, v)` in place, keeping keys rising; a value equal to the default removes the pair. -/
def Tab.put {α : Type} [DecidableEq α] (d : Nat → α) : Tab α → Nat → α → Tab α
  | [], k, v => if v = d k then [] else [(k, v)]
  | (j, w) :: t, k, v =>
    if k < j then (if v = d k then (j, w) :: t else (k, v) :: (j, w) :: t)
    else if k = j then (if v = d k then t else (k, v) :: t)
    else (j, w) :: Tab.put d t k v

/-- The array's canonical form: keys strictly rising from `lo` on and no value equal to the default of its key. -/
def Tab.wfFrom {α : Type} [DecidableEq α] (d : Nat → α) : Nat → Tab α → Bool
  | _, [] => true
  | lo, (k, v) :: t => decide (lo ≤ k) && !decide (v = d k) && Tab.wfFrom d (k + 1) t

/-- The canonical form of a whole array. -/
def Tab.wf {α : Type} [DecidableEq α] (d : Nat → α) (t : Tab α) : Bool := Tab.wfFrom d 0 t

/-- Apply `f` for every element of a list, first to last. -/
def forEach {α σ : Type} (l : List α) (f : α → σ → σ) (s : σ) : σ :=
  l.foldl (fun s a => f a s) s

/-! ### Bit fields -/

/-- Field `[hi:lo]` of a register as a number. -/
def fld (r : Reg) (hi lo : Nat) : Nat := r.toNat / 2 ^ lo % 2 ^ (hi + 1 - lo)

/-- A register with field `[hi:lo]` replaced by `v` (cut to the field). -/
def withFld (r : Reg) (hi lo v : Nat) : Reg :=
  BitVec.ofNat 32 (r.toNat - fld r hi lo * 2 ^ lo + v % 2 ^ (hi + 1 - lo) * 2 ^ lo)

/-- Bit `i` of a register. -/
def rbit (r : Reg) (i : Nat) : Bool := r.getLsbD i

/-- A register with bit `i` set to `b`. -/
def withBit (r : Reg) (i : Nat) (b : Bool) : Reg := withFld r i i b.toNat

/-- The unsigned number whose bits are `w` wide, read as two's complement. -/
def signed (w n : Nat) : Int :=
  if n % 2 ^ w < 2 ^ (w - 1) then (n % 2 ^ w : Nat) else (n % 2 ^ w : Nat) - (2 ^ w : Nat)

/-- An integer as the `w`-bit two's complement number. -/
def unsigned (w : Nat) (i : Int) : Nat := (i % (2 ^ w : Nat)).toNat

/-- The signed modular difference of two stored ticks (R71). -/
def tickDiff (a b : Nat) : Int := signed 32 (unsigned 32 ((a : Int) - (b : Int)))

/-- Add one, stopping at the largest value of `w` bits. -/
def satAdd (w n k : Nat) : Nat := min (n + k) (2 ^ w - 1)

/-- The integer nearest to `n / d`, a tie going to the even one (`d > 0`). -/
def roundHalfEven (n : Int) (d : Nat) : Int :=
  let q := n / (d : Int)
  let r := n % (d : Int)
  if 2 * r < d then q else if 2 * r > d then q + 1 else if q % 2 = 0 then q else q + 1

/-- Ceiling of `a / b` as a natural number, 0 for a negative quotient (`b > 0`). -/
def ceilDiv (a b : Int) : Nat := (-((-a) / b)).toNat

/-- Clamp to `[-b, b]`. -/
def saturate (b : Nat) (i : Int) : Int := max (-(b : Int)) (min (b : Int) i)

/-! ### Byte order (R2) -/

/-- The little-endian number of a list of octets. -/
def leNat : List Byte → Nat
  | [] => 0
  | b :: t => b.toNat + 256 * leNat t

/-- The big-endian (network order) number of a list of octets. -/
def beNat (l : List Byte) : Nat := l.foldl (fun a b => 256 * a + b.toNat) 0

/-- `n` octets of a number, little-endian. -/
def leBytes : Nat → Nat → List Byte
  | 0, _ => []
  | n + 1, v => BitVec.ofNat 8 v :: leBytes n (v / 256)

/-- `n` octets of a number, big-endian. -/
def beBytes (n v : Nat) : List Byte := (leBytes n v).reverse

/-- `n` octets from offset `o`, zeros past the end. -/
def slice (l : List Byte) (o n : Nat) : List Byte :=
  let x := (l.drop o).take n
  x ++ List.replicate (n - x.length) 0

/-- Little-endian field of `n` octets at offset `o`. -/
def leAt (l : List Byte) (o n : Nat) : Nat := leNat (slice l o n)

/-- Network-order field of `n` octets at offset `o`. -/
def beAt (l : List Byte) (o n : Nat) : Nat := beNat (slice l o n)

/-- Overwrite octets from offset `o`; octets past the end are dropped. -/
def patch (l : List Byte) (o : Nat) (v : List Byte) : List Byte :=
  l.take o ++ (v.take (l.length - o)) ++ l.drop (o + v.length)

/-- The list read as 32-bit little-endian words. -/
def wordsOf : Nat → List Byte → List Reg
  | 0, _ => []
  | n + 1, l => BitVec.ofNat 32 (leAt l 0 4) :: wordsOf n (l.drop 4)

/-- All octets zero. -/
def allZero (l : List Byte) : Bool := l.all (· == 0)

/-- Exclusive or of all octets. -/
def xorBytes (l : List Byte) : Byte := l.foldl (· ^^^ ·) 0

/-! ### Check codes -/

/-- One step of the CRC-16 of R8, polynomial 0x1021, most significant bit first. -/
def crc16Bit (c : BitVec 16) : BitVec 16 :=
  if c.msb then (c <<< 1) ^^^ 0x1021#16 else c <<< 1

/-- CRC-16 over one more octet. -/
def crc16Byte (c : BitVec 16) (b : Byte) : BitVec 16 :=
  let x := c ^^^ ((b.setWidth 16) <<< 8)
  crc16Bit (crc16Bit (crc16Bit (crc16Bit (crc16Bit (crc16Bit (crc16Bit (crc16Bit x)))))))

/-- CRC-16 (R8): initial value 0xFFFF, no reflection, no final exclusive or. -/
def crc16 (l : List Byte) : BitVec 16 := l.foldl crc16Byte 0xFFFF#16

/-- One step of the reflected CRC-32C of R9. -/
def crc32cBit (c : BitVec 32) : BitVec 32 :=
  if c.getLsbD 0 then (c >>> 1) ^^^ 0x82F63B78#32 else c >>> 1

/-- CRC-32C over one more octet. -/
def crc32cByte (c : BitVec 32) (b : Byte) : BitVec 32 :=
  let x := c ^^^ (b.setWidth 32)
  crc32cBit (crc32cBit (crc32cBit (crc32cBit (crc32cBit (crc32cBit (crc32cBit (crc32cBit x)))))))

/-- CRC-32C (R9): polynomial 0x1EDC_6F41 reflected, initial value and final exclusive or all ones. -/
def crc32c (l : List Byte) : BitVec 32 := (l.foldl crc32cByte 0xFFFFFFFF#32) ^^^ 0xFFFFFFFF#32

/-- One step of the reflected CRC-32 of an Ethernet FCS. -/
def crc32Bit (c : BitVec 32) : BitVec 32 :=
  if c.getLsbD 0 then (c >>> 1) ^^^ 0xEDB88320#32 else c >>> 1

/-- The FCS register over one more octet. -/
def crc32Byte (c : BitVec 32) (b : Byte) : BitVec 32 :=
  let x := c ^^^ (b.setWidth 32)
  crc32Bit (crc32Bit (crc32Bit (crc32Bit (crc32Bit (crc32Bit (crc32Bit (crc32Bit x)))))))

/-- The FCS of a frame (R156), as the number whose octets are sent lowest first (IEEE 802.3, log entry 97). -/
def crc32 (l : List Byte) : BitVec 32 := (l.foldl crc32Byte 0xFFFFFFFF#32) ^^^ 0xFFFFFFFF#32

/-! ### Time units -/

/-- One nanosecond in units of 2^-48 ns. -/
def ns48 : Int := 2 ^ 48

/-- Whole nanoseconds as an instant. -/
def ofNs (n : Int) : Time := n * ns48

/-- Picoseconds as a duration. -/
def ofPs (n : Nat) : Time := (n : Int) * ns48 / 1000

/-- One second as an instant. -/
def oneSec : Time := ofNs 1000000000

/-- Four words of a time value (R67, TSU layout): `f` fraction bits of a nanosecond, ns, seconds low, seconds high. -/
def timeWords (fracBits : Nat) (t : Time) : List Reg :=
  let secs := t / oneSec
  let rest := t % oneSec
  let ns := rest / ns48
  let fr := rest % ns48 / (2 ^ (48 - fracBits) : Nat)
  [BitVec.ofInt 32 fr, BitVec.ofInt 32 ns, BitVec.ofInt 32 secs, BitVec.ofInt 32 (secs / (2 ^ 32 : Nat) % 65536)]

/-- The instant four words name, the fraction having `f` bits. -/
def timeOfWords (fracBits : Nat) (f ns lo hi : Reg) : Time :=
  ((lo.toNat + 2 ^ 32 * (hi.toNat % 65536) : Nat) : Int) * oneSec + ofNs ns.toNat
    + ((f.toNat % 2 ^ fracBits * 2 ^ (48 - fracBits) : Nat) : Int)

/-- A phase of R117's registers: 64 bits, signed ns with 16 fraction bits, as an instant. -/
def phaseTime (v : Nat) : Time := signed 64 v * (2 ^ 32 : Nat)

/-- A duration as the 64-bit phase of the registers (the finer bits are cut off). -/
def timePhase (t : Time) : Nat := unsigned 64 (t / (2 ^ 32 : Nat))

end Sys2Proof.Machine
end

