-- ==== Sys2Proof/Machine/Regs.lean ====
section
/-! DEFINITION. The register map: every register of BAR0 by name (its offset), and the table of what a read and a
write of it do (19_register_index, R3, R4, R522 to R524; the tables of the chapters). Port registers, which stand at
their port's first lane, are keyed from 0x1000_0000 by port number. -/

namespace Sys2Proof.Machine

/-- One register or array of registers: where it stands, how often, what it holds at reset and what access does. -/
structure RegDesc where
  /-- offset of the first element -/
  base : Nat
  /-- stride and count of each index -/
  dims : List (Nat × Nat)
  /-- consecutive 32-bit registers of one element -/
  words : Nat
  /-- value of each word at reset -/
  reset : Nat
  /-- bits of type RW -/
  rw : Nat
  /-- bits of type RW1C -/
  w1c : Nat
  /-- a read clears it (RC) -/
  rc : Bool
  deriving DecidableEq, Repr

namespace R

/-- TOP.ID -/
def topId : Nat := 0x0
/-- TOP.FUNC_MODE -/
def topFuncMode : Nat := 0x10
/-- TOP.MGT_WR_DROP -/
def topMgtWrDrop : Nat := 0x20
/-- TOP.USB_WR_DROP -/
def topUsbWrDrop : Nat := 0x24
/-- TOP.USB[u] -/
def topUsb (u : Nat) : Nat := 0x1000 + 0x4 * u
/-- TOP.USB_MG[u] -/
def topUsbMg (u : Nat) : Nat := 0x1400 + 0x4 * u
/-- PLAN.CTL -/
def planCtl : Nat := 0x100000
/-- PLAN.STATUS -/
def planStatus : Nat := 0x100004
/-- PLAN.SRC -/
def planSrc : Nat := 0x100008
/-- PLAN.LEN -/
def planLen : Nat := 0x100010
/-- PLAN.TARGET -/
def planTarget : Nat := 0x100014
/-- PLAN.ACTIVE_REV -/
def planActiveRev : Nat := 0x100018
/-- PLAN.ACTIVE_ID -/
def planActiveId : Nat := 0x100020
/-- PLAN.ERR_SECT -/
def planErrSect : Nat := 0x100028
/-- PLAN.CONFLICT -/
def planConflict : Nat := 0x10002C
/-- PLAN.RESUME -/
def planResume : Nat := 0x100030
/-- TICK.CTL -/
def tickCtl : Nat := 0x200000
/-- TICK.STATUS -/
def tickStatus : Nat := 0x200004
/-- TICK.PERIOD_NS -/
def tickPeriodNs : Nat := 0x200008
/-- TICK.PERIOD_FRAC -/
def tickPeriodFrac : Nat := 0x20000C
/-- TICK.NOW -/
def tickNow : Nat := 0x200010
/-- TICK.BASE_TICK -/
def tickBaseTick : Nat := 0x200018
/-- TICK.BASE_TIME -/
def tickBaseTime : Nat := 0x200020
/-- TICK.LATE_WIN -/
def tickLateWin : Nat := 0x200030
/-- TICK.MISSED -/
def tickMissed : Nat := 0x200034
/-- TICK.LAST_MISSED -/
def tickLastMissed : Nat := 0x200038
/-- TICK.SWAP_CONFLICT -/
def tickSwapConflict : Nat := 0x20003C
/-- TICK.ACT_LATE -/
def tickActLate : Nat := 0x200040
/-- TICK.ACT_DISCARD -/
def tickActDiscard : Nat := 0x200044
/-- TICK.ACT_SKIP -/
def tickActSkip : Nat := 0x200048
/-- TICK.ACT_CHECK -/
def tickActCheck : Nat := 0x20004C
/-- TICK.OVR_CAUSE -/
def tickOvrCause : Nat := 0x200050
/-- TICK.BUDGET_MAX[k] -/
def tickBudgetMax (k : Nat) : Nat := 0x200060 + 0x4 * k
/-- TICK.HALL_DELAY -/
def tickHallDelay : Nat := 0x200070
/-- TICK.HALL_OFFSET -/
def tickHallOffset : Nat := 0x200074
/-- TICK.RELOCK_WIN -/
def tickRelockWin : Nat := 0x200078
/-- TICK.RELOCK_SLEW -/
def tickRelockSlew : Nat := 0x20007C
/-- TICK.HSYNC_TARGET -/
def tickHsyncTarget : Nat := 0x200080
/-- TICK.HSYNC_RESULT -/
def tickHsyncResult : Nat := 0x200084
/-- TICK.ACT_ST[j] -/
def tickActSt (j : Nat) : Nat := 0x200800 + 0x4 * j
/-- TICK.ACT[i] -/
def tickAct (i : Nat) : Nat := 0x210000 + 0x10 * i
/-- TSU.PPS_IN_ST[i] -/
def tsuPpsInSt (i : Nat) : Nat := 0x300010 + 0x4 * i
/-- TSU.REF10M_ST -/
def tsuRef10mSt : Nat := 0x300018
/-- TSU.PPS_IN_COMP[i] -/
def tsuPpsInComp (i : Nat) : Nat := 0x30001C + 0x4 * i
/-- TSU.TC_CORR -/
def tsuTcCorr : Nat := 0x300030
/-- TSU.TC_V6 -/
def tsuTcV6 : Nat := 0x300034
/-- TSU.TC_NODOM -/
def tsuTcNodom : Nat := 0x300038
/-- TSU.TB[n].CTL -/
def tsuTbCtl (n : Nat) : Nat := 0x301000 + 0x400 * n
/-- TSU.TB[n].STATUS -/
def tsuTbStatus (n : Nat) : Nat := 0x301004 + 0x400 * n
/-- TSU.TB[n].TIME -/
def tsuTbTime (n : Nat) : Nat := 0x301010 + 0x400 * n
/-- TSU.TB[n].SET_TIME -/
def tsuTbSetTime (n : Nat) : Nat := 0x301020 + 0x400 * n
/-- TSU.TB[n].FREQ -/
def tsuTbFreq (n : Nat) : Nat := 0x301030 + 0x400 * n
/-- TSU.TB[n].ADJ_FREQ -/
def tsuTbAdjFreq (n : Nat) : Nat := 0x301034 + 0x400 * n
/-- TSU.TB[n].ADJ_PHASE -/
def tsuTbAdjPhase (n : Nat) : Nat := 0x301038 + 0x400 * n
/-- TSU.TB[n].REFUSED_OFS -/
def tsuTbRefusedOfs (n : Nat) : Nat := 0x301040 + 0x400 * n
/-- TSU.TB[n].SLEW_REM -/
def tsuTbSlewRem (n : Nat) : Nat := 0x301048 + 0x400 * n
/-- TSU.TB[n].OFFSET -/
def tsuTbOffset (n : Nat) : Nat := 0x301050 + 0x400 * n
/-- TSU.TB[n].MEAN_DELAY -/
def tsuTbMeanDelay (n : Nat) : Nat := 0x301058 + 0x400 * n
/-- TSU.TB[n].STEP_LIMIT -/
def tsuTbStepLimit (n : Nat) : Nat := 0x301060 + 0x400 * n
/-- TSU.TB[n].SLEW_MAX -/
def tsuTbSlewMax (n : Nat) : Nat := 0x301064 + 0x400 * n
/-- TSU.TB[n].KP -/
def tsuTbKp (n : Nat) : Nat := 0x301068 + 0x400 * n
/-- TSU.TB[n].KI -/
def tsuTbKi (n : Nat) : Nat := 0x30106C + 0x400 * n
/-- TSU.TB[n].LOCK_NS -/
def tsuTbLockNs (n : Nat) : Nat := 0x301070 + 0x400 * n
/-- TSU.TB[n].UNLOCK_NS -/
def tsuTbUnlockNs (n : Nat) : Nat := 0x301074 + 0x400 * n
/-- TSU.TB[n].LOSS_MS -/
def tsuTbLossMs (n : Nat) : Nat := 0x301078 + 0x400 * n
/-- TSU.TB[n].SH_PHASE -/
def tsuTbShPhase (n : Nat) : Nat := 0x301080 + 0x400 * n
/-- TSU.TB[n].SH_STEP_LIMIT -/
def tsuTbShStepLimit (n : Nat) : Nat := 0x301088 + 0x400 * n
/-- TSU.TB[n].SH_SLEW_MAX -/
def tsuTbShSlewMax (n : Nat) : Nat := 0x30108C + 0x400 * n
/-- TSU.TB[n].SH_KP -/
def tsuTbShKp (n : Nat) : Nat := 0x301090 + 0x400 * n
/-- TSU.TB[n].SH_KI -/
def tsuTbShKi (n : Nat) : Nat := 0x301094 + 0x400 * n
/-- TSU.TB[n].SH_LOCK_NS -/
def tsuTbShLockNs (n : Nat) : Nat := 0x301098 + 0x400 * n
/-- TSU.TB[n].SH_UNLOCK_NS -/
def tsuTbShUnlockNs (n : Nat) : Nat := 0x30109C + 0x400 * n
/-- TSU.TB[n].PTP_CFG -/
def tsuTbPtpCfg (n : Nat) : Nat := 0x3010A0 + 0x400 * n
/-- TSU.TB[n].PROP_THRESH -/
def tsuTbPropThresh (n : Nat) : Nat := 0x3010A4 + 0x400 * n
/-- TSU.TB[n].PPS_OUT -/
def tsuTbPpsOut (n : Nat) : Nat := 0x3010B0 + 0x400 * n
/-- TSU.TB[n].PPS_OUT_DELAY -/
def tsuTbPpsOutDelay (n : Nat) : Nat := 0x3010B4 + 0x400 * n
/-- TSU.TB[n].PPS0_CAPT -/
def tsuTbPps0Capt (n : Nat) : Nat := 0x3010C0 + 0x400 * n
/-- TSU.TB[n].PPS1_CAPT -/
def tsuTbPps1Capt (n : Nat) : Nat := 0x3010D0 + 0x400 * n
/-- TSU.TB[n].UTC_OFS -/
def tsuTbUtcOfs (n : Nat) : Nat := 0x3010E0 + 0x400 * n
/-- TSU.TB[n].GM_ID -/
def tsuTbGmId (n : Nat) : Nat := 0x3010E8 + 0x400 * n
/-- TSU.TB[n].SAMPLES -/
def tsuTbSamples (n : Nat) : Nat := 0x3010F0 + 0x400 * n
/-- TSU.TB[n].REFUSALS -/
def tsuTbRefusals (n : Nat) : Nat := 0x3010F4 + 0x400 * n
/-- TSU.TB[n].STEPS -/
def tsuTbSteps (n : Nat) : Nat := 0x3010F8 + 0x400 * n
/-- TSU.TB[n].SDO_MISMATCH -/
def tsuTbSdoMismatch (n : Nat) : Nat := 0x3010FC + 0x400 * n
/-- PRT.L[l].CFG -/
def prtLCfg (l : Nat) : Nat := 0x400800 + 0x1000 * l
/-- PRT.L[l].TXEQ -/
def prtLTxeq (l : Nat) : Nat := 0x400804 + 0x1000 * l
/-- PRT.L[l].STATUS -/
def prtLStatus (l : Nat) : Nat := 0x400808 + 0x1000 * l
/-- PRT.L[l].PRBS_ERR -/
def prtLPrbsErr (l : Nat) : Nat := 0x40080C + 0x1000 * l
/-- PRT.G[g].LINK_EVT -/
def prtGLinkEvt (g : Nat) : Nat := 0x600000 + 0x1000 * g
/-- PRT.G[g].PKTBUF_CE -/
def prtGPktbufCe (g : Nat) : Nat := 0x600004 + 0x1000 * g
/-- PRT.G[g].PKTBUF_UE -/
def prtGPktbufUe (g : Nat) : Nat := 0x600008 + 0x1000 * g
/-- PRT.G[g].PKT_KIB -/
def prtGPktKib (g : Nat) : Nat := 0x60000C + 0x1000 * g
/-- PRT.PORT_LANE[p] -/
def prtPortLane (p : Nat) : Nat := 0x700000 + 0x4 * p
/-- STR.SEL -/
def strSel : Nat := 0x800000
/-- STR.CMD -/
def strCmd : Nat := 0x800004
/-- STR.STATUS -/
def strStatus : Nat := 0x800008
/-- STR.PATH_WIN -/
def strPathWin : Nat := 0x80000C
/-- STR.OVF_LOOKUPS -/
def strOvfLookups : Nat := 0x800010
/-- STR.W_STATE -/
def strWState : Nat := 0x800040
/-- STR.W_LAST_PASS -/
def strWLastPass : Nat := 0x800044
/-- STR.W_LAST_A -/
def strWLastA : Nat := 0x800048
/-- STR.W_LAST_B -/
def strWLastB : Nat := 0x80004C
/-- STR.W_PASSED -/
def strWPassed : Nat := 0x800050
/-- STR.W_DISCARDED -/
def strWDiscarded : Nat := 0x800058
/-- STR.W_OUT_OF_ORDER -/
def strWOutOfOrder : Nat := 0x800060
/-- STR.W_ROGUE -/
def strWRogue : Nat := 0x800068
/-- STR.W_LOST -/
def strWLost : Nat := 0x800070
/-- STR.W_RESETS -/
def strWResets : Nat := 0x800078
/-- STR.W_PASS_A -/
def strWPassA : Nat := 0x800080
/-- STR.W_PASS_B -/
def strWPassB : Nat := 0x800088
/-- STR.W_TAGLESS -/
def strWTagless : Nat := 0x800090
/-- STR.W_POLICED -/
def strWPoliced : Nat := 0x800098
/-- STR.W_CONTAIN_DROP -/
def strWContainDrop : Nat := 0x8000A0
/-- STR.RP[p].CTL -/
def strRpCtl (p : Nat) : Nat := 0x820000 + 0x100 * p
/-- STR.RP[p].FORGET -/
def strRpForget (p : Nat) : Nat := 0x820004 + 0x100 * p
/-- STR.RP[p].MAC -/
def strRpMac (p : Nat) : Nat := 0x820008 + 0x100 * p
/-- STR.RP[p].TC_MAP -/
def strRpTcMap (p : Nat) : Nat := 0x820010 + 0x100 * p
/-- STR.RP[p].WRONG_LAN -/
def strRpWrongLan (p : Nat) : Nat := 0x820040 + 0x100 * p
/-- STR.RP[p].UNTAGGED -/
def strRpUntagged (p : Nat) : Nat := 0x820048 + 0x100 * p
/-- STR.RP[p].OWN_DROP -/
def strRpOwnDrop (p : Nat) : Nat := 0x820050 + 0x100 * p
/-- STR.RP[p].FWD -/
def strRpFwd (p : Nat) : Nat := 0x820058 + 0x100 * p
/-- STR.RP[p].FWD_DUP -/
def strRpFwdDup (p : Nat) : Nat := 0x820060 + 0x100 * p
/-- STR.RP[p].NODE_FULL -/
def strRpNodeFull (p : Nat) : Nat := 0x820068 + 0x100 * p
/-- STR.RP[p].SIZE_ERR -/
def strRpSizeErr (p : Nat) : Nat := 0x820070 + 0x100 * p
/-- STR.RP[p].SUP_TX -/
def strRpSupTx (p : Nat) : Nat := 0x820078 + 0x100 * p
/-- STR.METER[m].CIR -/
def strMeterCir (m : Nat) : Nat := 0x900000 + 0x20 * m
/-- STR.METER[m].CBS -/
def strMeterCbs (m : Nat) : Nat := 0x900004 + 0x20 * m
/-- STR.METER[m].EIR -/
def strMeterEir (m : Nat) : Nat := 0x900008 + 0x20 * m
/-- STR.METER[m].EBS -/
def strMeterEbs (m : Nat) : Nat := 0x90000C + 0x20 * m
/-- STR.METER[m].CFG -/
def strMeterCfg (m : Nat) : Nat := 0x900010 + 0x20 * m
/-- SCH.RD_SEL -/
def schRdSel : Nat := 0xC00000
/-- SCH.P[p].CTL -/
def schPCtl (p : Nat) : Nat := 0xC01000 + 0x40 * p
/-- SCH.P[p].STATUS -/
def schPStatus (p : Nat) : Nat := 0xC01004 + 0x40 * p
/-- SCH.P[p].TARGET -/
def schPTarget (p : Nat) : Nat := 0xC01008 + 0x40 * p
/-- SCH.P[p].GUARD_NS -/
def schPGuardNs (p : Nat) : Nat := 0xC0100C + 0x40 * p
/-- SCH.P[p].ACTIVE_ID -/
def schPActiveId (p : Nat) : Nat := 0xC01010 + 0x40 * p
/-- SCH.P[p].FLIGHT -/
def schPFlight (p : Nat) : Nat := 0xC01014 + 0x40 * p
/-- SCH.P[p].LAST_TICK -/
def schPLastTick (p : Nat) : Nat := 0xC01018 + 0x40 * p
/-- SCH.P[p].SWAPS -/
def schPSwaps (p : Nat) : Nat := 0xC01020 + 0x40 * p
/-- SCH.P[p].SWAP_FAIL -/
def schPSwapFail (p : Nat) : Nat := 0xC01024 + 0x40 * p
/-- SCH.P[p].ADMIT_DEFER -/
def schPAdmitDefer (p : Nat) : Nat := 0xC01028 + 0x40 * p
/-- SCH.P[p].GATE_OVERRUN -/
def schPGateOverrun (p : Nat) : Nat := 0xC0102C + 0x40 * p
/-- SCH.P[p].ACT_BLOCKED -/
def schPActBlocked (p : Nat) : Nat := 0xC01030 + 0x40 * p
/-- SCH.G[g].FAIL_PORTS -/
def schGFailPorts (g : Nat) : Nat := 0xC03000 + 0x10 * g
/-- SCH.ACTIVE_WIN -/
def schActiveWin : Nat := 0xC10000
/-- SCH.P[p].SHADOW -/
def schPShadow (p : Nat) : Nat := 0xE00000 + 0x4000 * p
/-- PRZ.IN_CFG -/
def przInCfg : Nat := 0x1000000
/-- PRZ.SYNCH_MAP[v] -/
def przSynchMap (v : Nat) : Nat := 0x1000400 + 0x4 * v
/-- PRZ.IN_SEL -/
def przInSel : Nat := 0x1000800
/-- PRZ.IN_CMD -/
def przInCmd : Nat := 0x1000804
/-- PRZ.IN_ARG -/
def przInArg : Nat := 0x1000808
/-- PRZ.IN_STATUS -/
def przInStatus : Nat := 0x100080C
/-- PRZ.AGE_NS -/
def przAgeNs : Nat := 0x1000810
/-- PRZ.AHEAD_NS -/
def przAheadNs : Nat := 0x1000814
/-- PRZ.W_IN -/
def przWIn : Nat := 0x1000840
/-- PRZ.W_PATH_OFS -/
def przWPathOfs : Nat := 0x1000844
/-- PRZ.W_CONFREV -/
def przWConfrev : Nat := 0x1000848
/-- PRZ.W_LAST_CNT -/
def przWLastCnt : Nat := 0x100084C
/-- PRZ.W_LAST_T -/
def przWLastT : Nat := 0x1000850
/-- PRZ.W_FRAMES -/
def przWFrames : Nat := 0x1000860
/-- PRZ.W_ASDUS -/
def przWAsdus : Nat := 0x1000868
/-- PRZ.W_SAMPLES -/
def przWSamples : Nat := 0x1000870
/-- PRZ.W_OUT_OF_ORDER -/
def przWOutOfOrder : Nat := 0x1000878
/-- PRZ.W_DUP -/
def przWDup : Nat := 0x1000880
/-- PRZ.W_LATE -/
def przWLate : Nat := 0x1000888
/-- PRZ.W_GAP -/
def przWGap : Nat := 0x1000890
/-- PRZ.W_BREAKS -/
def przWBreaks : Nat := 0x1000898
/-- PRZ.W_FORMAT_ERR -/
def przWFormatErr : Nat := 0x10008A0
/-- PRZ.W_RATE_ERR -/
def przWRateErr : Nat := 0x10008A8
/-- PRZ.W_SYNCH_REJECT -/
def przWSynchReject : Nat := 0x10008B0
/-- PRZ.W_NO_TB -/
def przWNoTb : Nat := 0x10008B8
/-- PRZ.W_STALE -/
def przWStale : Nat := 0x10008C0
/-- PRZ.W_AHEAD -/
def przWAhead : Nat := 0x10008C8
/-- PRZ.W_SIMULATED -/
def przWSimulated : Nat := 0x10008D0
/-- PRZ.W_CONFREV_CHG -/
def przWConfrevChg : Nat := 0x10008D8
/-- PRZ.W_SEQ_GAP -/
def przWSeqGap : Nat := 0x10008E0
/-- PRZ.W_REANCHOR -/
def przWReanchor : Nat := 0x10008E8
/-- PRZ.PG_CMD -/
def przPgCmd : Nat := 0x1001000
/-- PRZ.PG_STATUS -/
def przPgCmdStatus : Nat := 0x1001004
/-- PRZ.OUT_PER_TICK -/
def przOutPerTick : Nat := 0x1001008
/-- PRZ.STORE_CE -/
def przStoreCe : Nat := 0x100100C
/-- PRZ.STORE_UE -/
def przStoreUe : Nat := 0x1001010
/-- PRZ.PG[g].STATUS -/
def przPgStatus (g : Nat) : Nat := 0x1002000 + 0x40 * g
/-- PRZ.PG[g].CFG -/
def przPgCfg (g : Nat) : Nat := 0x1002004 + 0x40 * g
/-- PRZ.PG[g].HOLD_NS -/
def przPgHoldNs (g : Nat) : Nat := 0x1002008 + 0x40 * g
/-- PRZ.PG[g].SPT -/
def przPgSpt (g : Nat) : Nat := 0x100200C + 0x40 * g
/-- PRZ.PG[g].DEPTH -/
def przPgDepth (g : Nat) : Nat := 0x1002010 + 0x40 * g
/-- PRZ.PG[g].SLOT_BYTES -/
def przPgSlotBytes (g : Nat) : Nat := 0x1002014 + 0x40 * g
/-- PRZ.PG[g].RING_BASE -/
def przPgRingBase (g : Nat) : Nat := 0x1002018 + 0x40 * g
/-- PRZ.PG[g].LAST_SEALED -/
def przPgLastSealed (g : Nat) : Nat := 0x1002020 + 0x40 * g
/-- PRZ.PG[g].PANES -/
def przPgPanes (g : Nat) : Nat := 0x1002024 + 0x40 * g
/-- PRZ.PG[g].INCOMPLETE -/
def przPgIncomplete (g : Nat) : Nat := 0x1002028 + 0x40 * g
/-- PRZ.PG[g].MISSING -/
def przPgMissing (g : Nat) : Nat := 0x100202C + 0x40 * g
/-- PRZ.PG[g].LATE_INPUT -/
def przPgLateInput (g : Nat) : Nat := 0x1002030 + 0x40 * g
/-- PRZ.PG[g].EXTRAP -/
def przPgExtrap (g : Nat) : Nat := 0x1002034 + 0x40 * g
/-- PRZ.PG[g].RAW_OVF -/
def przPgRawOvf (g : Nat) : Nat := 0x1002038 + 0x40 * g
/-- TXE.CMD -/
def txeCmd : Nat := 0x1400000
/-- TXE.STATUS -/
def txeStatus : Nat := 0x1400004
/-- TXE.LOAD_ADDR -/
def txeLoadAddr : Nat := 0x1400008
/-- TXE.LOAD_LEN -/
def txeLoadLen : Nat := 0x1400010
/-- TXE.GOOSE_UTC -/
def txeGooseUtc : Nat := 0x1400014
/-- TXE.GOOSE_NOOP -/
def txeGooseNoop : Nat := 0x1400018
/-- TXE.CANCEL_IGNORED -/
def txeCancelIgnored : Nat := 0x140001C
/-- TXE.G[g].RA_USED -/
def txeGRaUsed (g : Nat) : Nat := 0x1400100 + 0x4 * g
/-- TXE.GCB[i].CFG -/
def txeGcbCfg (i : Nat) : Nat := 0x1500000 + 0x40 * i
/-- TXE.GCB[i].STATUS -/
def txeGcbStatus (i : Nat) : Nat := 0x1500004 + 0x40 * i
/-- TXE.GCB[i].T1_US -/
def txeGcbT1Us (i : Nat) : Nat := 0x1500008 + 0x40 * i
/-- TXE.GCB[i].T0_MS -/
def txeGcbT0Ms (i : Nat) : Nat := 0x150000C + 0x40 * i
/-- TXE.GCB[i].STNUM -/
def txeGcbStnum (i : Nat) : Nat := 0x1500010 + 0x40 * i
/-- TXE.GCB[i].SQNUM -/
def txeGcbSqnum (i : Nat) : Nat := 0x1500014 + 0x40 * i
/-- TXE.GCB[i].T_HOST -/
def txeGcbTHost (i : Nat) : Nat := 0x1500018 + 0x40 * i
/-- TXE.GCB[i].TPL_A -/
def txeGcbTplA (i : Nat) : Nat := 0x1500020 + 0x40 * i
/-- TXE.GCB[i].TPL_P -/
def txeGcbTplP (i : Nat) : Nat := 0x1500024 + 0x40 * i
/-- TXE.GCB[i].SENT -/
def txeGcbSent (i : Nat) : Nat := 0x1500028 + 0x40 * i
/-- TXE.GCB[i].SKIPPED -/
def txeGcbSkipped (i : Nat) : Nat := 0x150002C + 0x40 * i
/-- TXE.GCB[i].MERGED -/
def txeGcbMerged (i : Nat) : Nat := 0x1500030 + 0x40 * i
/-- TXE.GCB[i].LAST_TICK -/
def txeGcbLastTick (i : Nat) : Nat := 0x1500034 + 0x40 * i
/-- TXE.SVP[s].CFG -/
def txeSvpCfg (s : Nat) : Nat := 0x1600000 + 0x40 * s
/-- TXE.SVP[s].SYNCH -/
def txeSvpSynch (s : Nat) : Nat := 0x1600004 + 0x40 * s
/-- TXE.SVP[s].RING -/
def txeSvpRing (s : Nat) : Nat := 0x1600008 + 0x40 * s
/-- TXE.SVP[s].RING_LOG2 -/
def txeSvpRingLog2 (s : Nat) : Nat := 0x1600010 + 0x40 * s
/-- TXE.SVP[s].STATUS -/
def txeSvpStatus (s : Nat) : Nat := 0x1600014 + 0x40 * s
/-- TXE.SVP[s].SENT -/
def txeSvpSent (s : Nat) : Nat := 0x1600018 + 0x40 * s
/-- TXE.SVP[s].UNDERRUN -/
def txeSvpUnderrun (s : Nat) : Nat := 0x160001C + 0x40 * s
/-- TXE.AQ[q].CFG -/
def txeAqCfg (q : Nat) : Nat := 0x1700000 + 0x20 * q
/-- TXE.AQ[q].BOUND -/
def txeAqBound (q : Nat) : Nat := 0x1700004 + 0x20 * q
/-- TXE.AQ[q].CANCELLED -/
def txeAqCancelled (q : Nat) : Nat := 0x1700008 + 0x20 * q
/-- TXE.AQ[q].VISIBLE -/
def txeAqVisible (q : Nat) : Nat := 0x170000C + 0x20 * q
/-- TXE.AQ[q].ESCAPED -/
def txeAqEscaped (q : Nat) : Nat := 0x1700010 + 0x20 * q
/-- TXE.AQ[q].LATE -/
def txeAqLate (q : Nat) : Nat := 0x1700014 + 0x20 * q
/-- TXE.AQ[q].EARLY -/
def txeAqEarly (q : Nat) : Nat := 0x1700018 + 0x20 * q
/-- QM.CMD -/
def qmCmd : Nat := 0x1800000
/-- QM.STATUS -/
def qmStatus : Nat := 0x1800004
/-- QM.CFG -/
def qmCfg : Nat := 0x1800008
/-- QM.STATE_CNT -/
def qmStateCnt : Nat := 0x180000C
/-- QM.DB_DROP -/
def qmDbDrop : Nat := 0x1800010
/-- QM.FOREIGN_WR -/
def qmForeignWr : Nat := 0x1800014
/-- QM.CACHE_USED -/
def qmCacheUsed : Nat := 0x1800018
/-- QM.Q[q].CFG -/
def qmQCfg (q : Nat) : Nat := 0x1810000 + 0x40 * q
/-- QM.Q[q].INFO -/
def qmQInfo (q : Nat) : Nat := 0x1810004 + 0x40 * q
/-- QM.Q[q].BASE -/
def qmQBase (q : Nat) : Nat := 0x1810008 + 0x40 * q
/-- QM.Q[q].STATUS -/
def qmQStatus (q : Nat) : Nat := 0x1810010 + 0x40 * q
/-- QM.Q[q].HEAD -/
def qmQHead (q : Nat) : Nat := 0x1810014 + 0x40 * q
/-- QM.Q[q].TAIL -/
def qmQTail (q : Nat) : Nat := 0x1810018 + 0x40 * q
/-- QM.Q[q].FETCHED -/
def qmQFetched (q : Nat) : Nat := 0x181001C + 0x40 * q
/-- QM.Q[q].DONE -/
def qmQDone (q : Nat) : Nat := 0x1810020 + 0x40 * q
/-- QM.Q[q].CHECKED -/
def qmQChecked (q : Nat) : Nat := 0x1810024 + 0x40 * q
/-- QM.Q[q].ABORTED -/
def qmQAborted (q : Nat) : Nat := 0x1810028 + 0x40 * q
/-- QM.Q[q].RX_NO_DESC -/
def qmQRxNoDesc (q : Nat) : Nat := 0x181002C + 0x40 * q
/-- QM.Q[q].RX_HELD_DROP -/
def qmQRxHeldDrop (q : Nat) : Nat := 0x1810030 + 0x40 * q
/-- QM.Q[q].INVAL_LATE -/
def qmQInvalLate (q : Nat) : Nat := 0x1810034 + 0x40 * q
/-- QM.Q[q].LAP_ERR -/
def qmQLapErr (q : Nat) : Nat := 0x1810038 + 0x40 * q
/-- QM.CR[r].BASE -/
def qmCrBase (r : Nat) : Nat := 0x1850000 + 0x20 * r
/-- QM.CR[r].INFO -/
def qmCrInfo (r : Nat) : Nat := 0x1850008 + 0x20 * r
/-- QM.CR[r].HEAD -/
def qmCrHead (r : Nat) : Nat := 0x185000C + 0x20 * r
/-- QM.CR[r].TAIL -/
def qmCrTail (r : Nat) : Nat := 0x1850010 + 0x20 * r
/-- QM.CR[r].STATUS -/
def qmCrStatus (r : Nat) : Nat := 0x1850014 + 0x20 * r
/-- QM.CR[r].FULL_STALL -/
def qmCrFullStall (r : Nat) : Nat := 0x1850018 + 0x20 * r
/-- QM.CR[r].WRITTEN -/
def qmCrWritten (r : Nat) : Nat := 0x185001C + 0x20 * r
/-- DMA.BUF_USED -/
def dmaBufUsed : Nat := 0x1C00000
/-- DMA.BURSTS -/
def dmaBursts : Nat := 0x1C00004
/-- DMA.PANE_DROP_LINK[h] -/
def dmaPaneDropLink (h : Nat) : Nat := 0x1C00010 + 0x4 * h
/-- DMA.CH[c].CTL -/
def dmaChCtl (c : Nat) : Nat := 0x1C00100 + 0x100 * c
/-- DMA.CH[c].STATUS -/
def dmaChStatus (c : Nat) : Nat := 0x1C00104 + 0x100 * c
/-- DMA.CH[c].CFG -/
def dmaChCfg (c : Nat) : Nat := 0x1C00108 + 0x100 * c
/-- DMA.CH[c].DB -/
def dmaChDb (c : Nat) : Nat := 0x1C0010C + 0x100 * c
/-- DMA.CH[c].HOP_LIMIT -/
def dmaChHopLimit (c : Nat) : Nat := 0x1C00110 + 0x100 * c
/-- DMA.CH[c].CRING -/
def dmaChCring (c : Nat) : Nat := 0x1C00114 + 0x100 * c
/-- DMA.CH[c].PANE -/
def dmaChPane (c : Nat) : Nat := 0x1C00118 + 0x100 * c
/-- DMA.CH[c].ACTIVE -/
def dmaChActive (c : Nat) : Nat := 0x1C00140 + 0x100 * c
/-- DMA.CH[c].SHADOW -/
def dmaChShadow (c : Nat) : Nat := 0x1C00180 + 0x100 * c
/-- DMA.CH[c].RUNS -/
def dmaChRuns (c : Nat) : Nat := 0x1C001C0 + 0x100 * c
/-- DMA.CH[c].TRIG_MERGED -/
def dmaChTrigMerged (c : Nat) : Nat := 0x1C001C4 + 0x100 * c
/-- DMA.CH[c].TRIG_IGNORED -/
def dmaChTrigIgnored (c : Nat) : Nat := 0x1C001C8 + 0x100 * c
/-- DMA.CH[c].SHADOW_CONFLICT -/
def dmaChShadowConflict (c : Nat) : Nat := 0x1C001CC + 0x100 * c
/-- DMA.CH[c].PANES -/
def dmaChPanes (c : Nat) : Nat := 0x1C001D0 + 0x100 * c
/-- DMA.CH[c].PANE_DROP -/
def dmaChPaneDrop (c : Nat) : Nat := 0x1C001D4 + 0x100 * c
/-- DMA.CH[c].PANE_ABANDON -/
def dmaChPaneAbandon (c : Nat) : Nat := 0x1C001D8 + 0x100 * c
/-- DMA.CH[c].CUR_HOP -/
def dmaChCurHop (c : Nat) : Nat := 0x1C001DC + 0x100 * c
/-- DMA.CH[c].BYTES -/
def dmaChBytes (c : Nat) : Nat := 0x1C001E0 + 0x100 * c
/-- DMA.CH[c].LAST_TICK -/
def dmaChLastTick (c : Nat) : Nat := 0x1C001E8 + 0x100 * c
/-- MEM.SCRUB -/
def memScrub : Nat := 0x2000000
/-- MEM.SCRUB_PASSES -/
def memScrubPasses : Nat := 0x2000004
/-- MEM.UE_PANES -/
def memUePanes : Nat := 0x2000008
/-- MEM.OVF_UE_MISS -/
def memOvfUeMiss : Nat := 0x200000C
/-- MEM.CH[c].STATUS -/
def memChStatus (c : Nat) : Nat := 0x2000100 + 0x20 * c
/-- MEM.CH[c].CE -/
def memChCe (c : Nat) : Nat := 0x2000104 + 0x20 * c
/-- MEM.CH[c].UE -/
def memChUe (c : Nat) : Nat := 0x2000108 + 0x20 * c
/-- MEM.CH[c].POISON -/
def memChPoison (c : Nat) : Nat := 0x200010C + 0x20 * c
/-- RDN.CTL -/
def rdnCtl : Nat := 0x2400000
/-- RDN.STATUS -/
def rdnStatus : Nat := 0x2400004
/-- RDN.GUARD -/
def rdnGuard : Nat := 0x2400008
/-- RDN.SQ_GUARD -/
def rdnSqGuard : Nat := 0x240000C
/-- RDN.HB_TICKS -/
def rdnHbTicks : Nat := 0x2400010
/-- RDN.STALE_TICKS -/
def rdnStaleTicks : Nat := 0x2400014
/-- RDN.COMMITTED -/
def rdnCommitted : Nat := 0x2400018
/-- RDN.PEER_COMMITTED -/
def rdnPeerCommitted : Nat := 0x2400020
/-- RDN.TAKEOVER_TICK -/
def rdnTakeoverTick : Nat := 0x2400028
/-- RDN.PAIR_ID -/
def rdnPairId : Nat := 0x240002C
/-- RDN.HB_MISS_RUN -/
def rdnHbMissRun : Nat := 0x2400030
/-- RDN.EPOCH_TX -/
def rdnEpochTx : Nat := 0x2400040
/-- RDN.EPOCH_COMMIT -/
def rdnEpochCommit : Nat := 0x2400044
/-- RDN.EPOCH_CHECK -/
def rdnEpochCheck : Nat := 0x2400048
/-- RDN.EPOCH_ABANDON -/
def rdnEpochAbandon : Nat := 0x240004C
/-- RDN.EPOCH_COMPAT -/
def rdnEpochCompat : Nat := 0x2400050
/-- RDN.EPOCH_BASE -/
def rdnEpochBase : Nat := 0x2400054
/-- RDN.HB_MISS -/
def rdnHbMiss : Nat := 0x2400058
/-- RDN.OWNED_DROP -/
def rdnOwnedDrop : Nat := 0x240005C
/-- RDN.TO_QFAIL -/
def rdnToQfail : Nat := 0x2400060
/-- RDN.CONTESTS -/
def rdnContests : Nat := 0x2400064
/-- RDN.TAKEOVERS -/
def rdnTakeovers : Nat := 0x2400068
/-- RDN.RELEASES -/
def rdnReleases : Nat := 0x240006C
/-- RDN.MIRROR_FOREIGN -/
def rdnMirrorForeign : Nat := 0x2400070
/-- FCR.CTL -/
def fcrCtl : Nat := 0x2800000
/-- FCR.STATUS -/
def fcrStatus : Nat := 0x2800004
/-- FCR.QUIET -/
def fcrQuiet : Nat := 0x2800008
/-- FCR.RECOV_MAX -/
def fcrRecovMax : Nat := 0x280000C
/-- FCR.RECOV_WIN -/
def fcrRecovWin : Nat := 0x2800010
/-- FCR.RECOV_CNT -/
def fcrRecovCnt : Nat := 0x2800014
/-- FCR.ENTRIES -/
def fcrEntries : Nat := 0x2800018
/-- FCR.ENTRY_TICK -/
def fcrEntryTick : Nat := 0x280001C
/-- FCR.SUMMARY -/
def fcrSummary : Nat := 0x2800020
/-- FCR.LAST_SRC -/
def fcrLastSrc : Nat := 0x2800024
/-- FCR.G[k].STICKY -/
def fcrGSticky (k : Nat) : Nat := 0x2800100 + 0x40 * k
/-- FCR.G[k].LIVE -/
def fcrGLive (k : Nat) : Nat := 0x2800104 + 0x40 * k
/-- FCR.G[k].MASK -/
def fcrGMask (k : Nat) : Nat := 0x2800108 + 0x40 * k
/-- FCR.G[k].MODE -/
def fcrGMode (k : Nat) : Nat := 0x280010C + 0x40 * k
/-- FCR.G[k].CLASS[j] -/
def fcrGClass (k : Nat) (j : Nat) : Nat := 0x2800110 + 0x40 * k + 0x4 * j
/-- FCR.G[k].INJ -/
def fcrGInj (k : Nat) : Nat := 0x2800120 + 0x40 * k
/-- FCR.G[k].INJ_CFG -/
def fcrGInjCfg (k : Nat) : Nat := 0x2800124 + 0x40 * k
/-- FCR.G[k].COINCIDE -/
def fcrGCoincide (k : Nat) : Nat := 0x2800128 + 0x40 * k
/-- FCR.G[k].RAISES -/
def fcrGRaises (k : Nat) : Nat := 0x280012C + 0x40 * k
/-- FCR.EVT_PEND[j] -/
def fcrEvtPend (j : Nat) : Nat := 0x2801000 + 0x4 * j
/-- FCR.EVT_MAP[e] -/
def fcrEvtMap (e : Nat) : Nat := 0x2802000 + 0x4 * e
/-- FCR.MOD[f][v] -/
def fcrMod (f : Nat) (v : Nat) : Nat := 0x2810000 + 0x2000 * f + 0x4 * v
/-- PWR.TOL[g] -/
def pwrTol (g : Nat) : Nat := 0x2C00000 + 0x4 * g
/-- PWR.SEL[g] -/
def pwrSel (g : Nat) : Nat := 0x2C00040 + 0x4 * g
/-- PWR.FLUSH_MOD -/
def pwrFlushMod : Nat := 0x2C00080
/-- PWR.LTR[h] -/
def pwrLtr (h : Nat) : Nat := 0x2C00090 + 0x4 * h
/-- PWR.CLK_STATUS -/
def pwrClkStatus : Nat := 0x2C000A0
/-- PWR.D3 -/
def pwrD3 : Nat := 0x2C000A4
/-- PWR.XING_OVR -/
def pwrXingOvr : Nat := 0x2C000B0
/-- PWR.XING_MERGED[b] -/
def pwrXingMerged (b : Nat) : Nat := 0x2C000C0 + 0x4 * b
/-- MGT.MB[m].DB -/
def mgtMbDb (m : Nat) : Nat := 0x3000000 + 0x10 * m
/-- MGT.MB[m].STATUS -/
def mgtMbStatus (m : Nat) : Nat := 0x3000004 + 0x10 * m
/-- MGT.CTL -/
def mgtCtl : Nat := 0x3000040
/-- MGT.CTL_STATUS -/
def mgtCtlStatus : Nat := 0x3000044
/-- MGT.TEMP_MAX -/
def mgtTempMax : Nat := 0x3000100
/-- MGT.TEMP[i] -/
def mgtTemp (i : Nat) : Nat := 0x3000140 + 0x4 * i
/-- MGT.VOLT[r] -/
def mgtVolt (r : Nat) : Nat := 0x3000180 + 0x4 * r
/-- MGT.CURR -/
def mgtCurr : Nat := 0x30001C0
/-- MGT.CURR_LIMIT -/
def mgtCurrLimit : Nat := 0x30001C4
/-- MGT.FW_VERSION -/
def mgtFwVersion : Nat := 0x3000200
/-- MGT.WDOG -/
def mgtWdog : Nat := 0x3000F00
/-- MGT.MB[m].REQ -/
def mgtMbReq (m : Nat) : Nat := 0x3001000 + 0x2000 * m
/-- MGT.MB[m].RSP -/
def mgtMbRsp (m : Nat) : Nat := 0x3002000 + 0x2000 * m
/-- SEC.BOOT_STATUS -/
def secBootStatus : Nat := 0x3F00000
/-- SEC.CMD -/
def secCmd : Nat := 0x3F00004
/-- SEC.STATUS -/
def secStatus : Nat := 0x3F00008
/-- SEC.ARG -/
def secArg : Nat := 0x3F0000C
/-- SEC.ROLLBACK -/
def secRollback : Nat := 0x3F00010
/-- SEC.KEYS -/
def secKeys : Nat := 0x3F00014
/-- SEC.FW_SEC_VERSION -/
def secFwSecVersion : Nat := 0x3F00018
/-- SEC.CMD_DROP -/
def secCmdDrop : Nat := 0x3F0001C
/-- SEC.FW_DIGEST -/
def secFwDigest : Nat := 0x3F00040
/-- SEC.KEY_STAGE -/
def secKeyStage : Nat := 0x3F00080
/-- SEC.KEY_HASH[s] -/
def secKeyHash (s : Nat) : Nat := 0x3F00100 + 0x40 * s
/-- PRT.P[p].CTL -/
def prtPCtl (p : Nat) : Nat := 0x10000000 + 0x1000 * p
/-- PRT.P[p].STATUS -/
def prtPStatus (p : Nat) : Nat := 0x10000004 + 0x1000 * p
/-- PRT.P[p].MM_CFG -/
def prtPMmCfg (p : Nat) : Nat := 0x10000008 + 0x1000 * p
/-- PRT.P[p].SYS_TC -/
def prtPSysTc (p : Nat) : Nat := 0x10000010 + 0x1000 * p
/-- PRT.P[p].PTP_VLAN -/
def prtPPtpVlan (p : Nat) : Nat := 0x10000014 + 0x1000 * p
/-- PRT.P[p].LINK_TMR -/
def prtPLinkTmr (p : Nat) : Nat := 0x10000018 + 0x1000 * p
/-- PRT.P[p].HOLD_ADV -/
def prtPHoldAdv (p : Nat) : Nat := 0x1000001C + 0x1000 * p
/-- PRT.P[p].RX_LAT_INT -/
def prtPRxLatInt (p : Nat) : Nat := 0x10000020 + 0x1000 * p
/-- PRT.P[p].TX_LAT_INT -/
def prtPTxLatInt (p : Nat) : Nat := 0x10000024 + 0x1000 * p
/-- PRT.P[p].RX_LAT_ADJ -/
def prtPRxLatAdj (p : Nat) : Nat := 0x10000028 + 0x1000 * p
/-- PRT.P[p].TX_LAT_ADJ -/
def prtPTxLatAdj (p : Nat) : Nat := 0x1000002C + 0x1000 * p
/-- PRT.P[p].RX_FRAMES -/
def prtPRxFrames (p : Nat) : Nat := 0x10000100 + 0x1000 * p
/-- PRT.P[p].RX_OCTETS -/
def prtPRxOctets (p : Nat) : Nat := 0x10000108 + 0x1000 * p
/-- PRT.P[p].RX_FCS_ERR -/
def prtPRxFcsErr (p : Nat) : Nat := 0x10000110 + 0x1000 * p
/-- PRT.P[p].RX_RUNT -/
def prtPRxRunt (p : Nat) : Nat := 0x10000118 + 0x1000 * p
/-- PRT.P[p].RX_OVERSIZE -/
def prtPRxOversize (p : Nat) : Nat := 0x10000120 + 0x1000 * p
/-- PRT.P[p].RX_ABORT -/
def prtPRxAbort (p : Nat) : Nat := 0x10000128 + 0x1000 * p
/-- PRT.P[p].RX_PAUSE -/
def prtPRxPause (p : Nat) : Nat := 0x10000130 + 0x1000 * p
/-- PRT.P[p].RX_MACSEC -/
def prtPRxMacsec (p : Nat) : Nat := 0x10000138 + 0x1000 * p
/-- PRT.P[p].RX_BUF_DROP -/
def prtPRxBufDrop (p : Nat) : Nat := 0x10000140 + 0x1000 * p
/-- PRT.P[p].RX_CONTAIN_DROP -/
def prtPRxContainDrop (p : Nat) : Nat := 0x10000148 + 0x1000 * p
/-- PRT.P[p].RX_NOCLASS_DROP -/
def prtPRxNoclassDrop (p : Nat) : Nat := 0x10000150 + 0x1000 * p
/-- PRT.P[p].RX_UE_DROP -/
def prtPRxUeDrop (p : Nat) : Nat := 0x10000158 + 0x1000 * p
/-- PRT.P[p].TX_FRAMES -/
def prtPTxFrames (p : Nat) : Nat := 0x10000160 + 0x1000 * p
/-- PRT.P[p].TX_OCTETS -/
def prtPTxOctets (p : Nat) : Nat := 0x10000168 + 0x1000 * p
/-- PRT.P[p].TX_EXPRESS -/
def prtPTxExpress (p : Nat) : Nat := 0x10000170 + 0x1000 * p
/-- PRT.P[p].TX_PREEMPTABLE -/
def prtPTxPreemptable (p : Nat) : Nat := 0x10000178 + 0x1000 * p
/-- PRT.P[p].TX_LINK_DROP -/
def prtPTxLinkDrop (p : Nat) : Nat := 0x10000180 + 0x1000 * p
/-- PRT.P[p].TX_STOMP -/
def prtPTxStomp (p : Nat) : Nat := 0x10000188 + 0x1000 * p
/-- PRT.P[p].MM_TX_FRAG -/
def prtPMmTxFrag (p : Nat) : Nat := 0x10000190 + 0x1000 * p
/-- PRT.P[p].MM_RX_FRAG -/
def prtPMmRxFrag (p : Nat) : Nat := 0x10000198 + 0x1000 * p
/-- PRT.P[p].MM_RX_ASSY_OK -/
def prtPMmRxAssyOk (p : Nat) : Nat := 0x100001A0 + 0x1000 * p
/-- PRT.P[p].MM_RX_ASSY_ERR -/
def prtPMmRxAssyErr (p : Nat) : Nat := 0x100001A8 + 0x1000 * p
/-- PRT.P[p].MM_RX_SMD_ERR -/
def prtPMmRxSmdErr (p : Nat) : Nat := 0x100001B0 + 0x1000 * p
/-- PRT.P[p].MM_HOLD -/
def prtPMmHold (p : Nat) : Nat := 0x100001B8 + 0x1000 * p
/-- PRT.P[p].FEC_CORR_CW -/
def prtPFecCorrCw (p : Nat) : Nat := 0x100001C0 + 0x1000 * p
/-- PRT.P[p].FEC_UNCORR_CW -/
def prtPFecUncorrCw (p : Nat) : Nat := 0x100001C8 + 0x1000 * p
/-- PRT.P[p].PCS_ERR_BLK -/
def prtPPcsErrBlk (p : Nat) : Nat := 0x100001D0 + 0x1000 * p
/-- PRT.P[p].LINK_DOWN_CNT -/
def prtPLinkDownCnt (p : Nat) : Nat := 0x100001D8 + 0x1000 * p

end R

/-- Registers of TOP. -/
def regsTop0 : List RegDesc := [
  ⟨0x0, [], 1, 0xB01280, 0x0, 0x0, false⟩,
  ⟨0x10, [], 1, 0x0, 0x0, 0x0, false⟩,
  ⟨0x20, [], 1, 0x0, 0x0, 0x0, true⟩,
  ⟨0x24, [], 1, 0x0, 0x0, 0x0, true⟩,
  ⟨0x1000, [(0x4, 256)], 1, 0x0, 0x0, 0x0, false⟩,
  ⟨0x1400, [(0x4, 256)], 1, 0x0, 0xF, 0x0, false⟩]

/-- Registers of PLAN. -/
def regsPlan0 : List RegDesc := [
  ⟨0x100000, [], 1, 0x0, 0x80, 0x0, false⟩,
  ⟨0x100004, [], 1, 0x0, 0x0, 0x0, false⟩,
  ⟨0x100008, [], 2, 0x0, 0xFFFFFFFF, 0x0, false⟩,
  ⟨0x100010, [], 1, 0x0, 0xFFFFFFFF, 0x0, false⟩,
  ⟨0x100014, [], 1, 0x0, 0xFFFFFFFF, 0x0, false⟩,
  ⟨0x100018, [], 1, 0x0, 0x0, 0x0, false⟩,
  ⟨0x100020, [], 2, 0x0, 0x0, 0x0, false⟩,
  ⟨0x100028, [], 1, 0x0, 0x0, 0x0, false⟩,
  ⟨0x10002C, [], 1, 0x0, 0x0, 0x0, true⟩,
  ⟨0x100030, [], 1, 0x0, 0x0, 0x0, false⟩]

/-- Registers of TICK. -/
def regsTick0 : List RegDesc := [
  ⟨0x200000, [], 1, 0x0, 0x0, 0x0, false⟩,
  ⟨0x200004, [], 1, 0x0, 0x0, 0x0, false⟩,
  ⟨0x200008, [], 1, 0x0, 0x0, 0x0, false⟩,
  ⟨0x20000C, [], 1, 0x0, 0x0, 0x0, false⟩,
  ⟨0x200010, [], 2, 0x0, 0x0, 0x0, false⟩,
  ⟨0x200018, [], 2, 0x0, 0x0, 0x0, false⟩,
  ⟨0x200020, [], 4, 0x0, 0x0, 0x0, false⟩,
  ⟨0x200030, [], 1, 0x4, 0xFF, 0x0, false⟩,
  ⟨0x200034, [], 1, 0x0, 0x0, 0x0, true⟩,
  ⟨0x200038, [], 1, 0x0, 0x0, 0x0, false⟩,
  ⟨0x20003C, [], 1, 0x0, 0x0, 0x0, true⟩,
  ⟨0x200040, [], 1, 0x0, 0x0, 0x0, true⟩,
  ⟨0x200044, [], 1, 0x0, 0x0, 0x0, true⟩,
  ⟨0x200048, [], 1, 0x0, 0x0, 0x0, true⟩,
  ⟨0x20004C, [], 1, 0x0, 0x0, 0x0, true⟩,
  ⟨0x200050, [], 1, 0x0, 0x0, 0xF, false⟩,
  ⟨0x200060, [(0x4, 4)], 1, 0x0, 0x0, 0x0, true⟩,
  ⟨0x200070, [], 1, 0x0, 0x0, 0x0, false⟩,
  ⟨0x200074, [], 1, 0x0, 0x0, 0x0, false⟩,
  ⟨0x200078, [], 1, 0x1F4, 0xFFFFFFFF, 0x0, false⟩,
  ⟨0x20007C, [], 1, 0x64, 0xFFFFFFFF, 0x0, false⟩,
  ⟨0x200080, [], 1, 0x0, 0x0, 0x0, false⟩,
  ⟨0x200084, [], 1, 0x0, 0x0, 0x0, false⟩,
  ⟨0x200800, [(0x4, 512)], 1, 0x0, 0x0, 0x0, false⟩,
  ⟨0x210000, [(0x10, 4096)], 4, 0x0, 0xFFFFFFFF, 0x0, false⟩]

/-- Registers of TSU. -/
def regsTsu0 : List RegDesc := [
  ⟨0x300010, [(0x4, 2)], 1, 0x0, 0x0, 0x2, false⟩,
  ⟨0x300018, [], 1, 0x0, 0x0, 0x2, false⟩,
  ⟨0x30001C, [(0x4, 2)], 1, 0x0, 0xFFFFFFFF, 0x0, false⟩,
  ⟨0x300030, [], 1, 0x0, 0x0, 0x0, true⟩,
  ⟨0x300034, [], 1, 0x0, 0x0, 0x0, true⟩,
  ⟨0x300038, [], 1, 0x0, 0x0, 0x0, true⟩,
  ⟨0x301000, [(0x400, 8)], 1, 0x0, 0x300, 0x0, false⟩,
  ⟨0x301004, [(0x400, 8)], 1, 0xFF0001, 0x0, 0x200, false⟩,
  ⟨0x301010, [(0x400, 8)], 4, 0x0, 0x0, 0x0, false⟩,
  ⟨0x301020, [(0x400, 8)], 4, 0x0, 0xFFFFFFFF, 0x0, false⟩,
  ⟨0x301030, [(0x400, 8)], 1, 0x0, 0x0, 0x0, false⟩,
  ⟨0x301034, [(0x400, 8)], 1, 0x0, 0xFFFFFFFF, 0x0, false⟩,
  ⟨0x301038, [(0x400, 8)], 2, 0x0, 0xFFFFFFFF, 0x0, false⟩,
  ⟨0x301040, [(0x400, 8)], 2, 0x0, 0x0, 0x0, false⟩,
  ⟨0x301048, [(0x400, 8)], 2, 0x0, 0x0, 0x0, false⟩,
  ⟨0x301050, [(0x400, 8)], 2, 0x0, 0x0, 0x0, false⟩,
  ⟨0x301058, [(0x400, 8)], 1, 0x0, 0x0, 0x0, false⟩,
  ⟨0x301060, [(0x400, 8)], 1, 0x3E8, 0x0, 0x0, false⟩,
  ⟨0x301064, [(0x400, 8)], 1, 0x64, 0x0, 0x0, false⟩,
  ⟨0x301068, [(0x400, 8)], 1, 0xB333, 0x0, 0x0, false⟩,
  ⟨0x30106C, [(0x400, 8)], 1, 0x4CCD, 0x0, 0x0, false⟩,
  ⟨0x301070, [(0x400, 8)], 1, 0x64, 0x0, 0x0, false⟩,
  ⟨0x301074, [(0x400, 8)], 1, 0x1F4, 0x0, 0x0, false⟩,
  ⟨0x301078, [(0x400, 8)], 1, 0xBB8, 0xFFFFFFFF, 0x0, false⟩,
  ⟨0x301080, [(0x400, 8)], 2, 0x0, 0xFFFFFFFF, 0x0, false⟩,
  ⟨0x301088, [(0x400, 8)], 1, 0x3E8, 0xFFFFFFFF, 0x0, false⟩,
  ⟨0x30108C, [(0x400, 8)], 1, 0x64, 0xFFFFFFFF, 0x0, false⟩,
  ⟨0x301090, [(0x400, 8)], 1, 0xB333, 0xFFFFFF, 0x0, false⟩,
  ⟨0x301094, [(0x400, 8)], 1, 0x4CCD, 0xFFFFFF, 0x0, false⟩,
  ⟨0x301098, [(0x400, 8)], 1, 0x64, 0xFFFFFFFF, 0x0, false⟩,
  ⟨0x30109C, [(0x400, 8)], 1, 0x1F4, 0xFFFFFFFF, 0x0, false⟩,
  ⟨0x3010A0, [(0x400, 8)], 1, 0x0, 0xFFFFF03, 0x0, false⟩,
  ⟨0x3010A4, [(0x400, 8)], 1, 0x320, 0xFFFFFFFF, 0x0, false⟩,
  ⟨0x3010B0, [(0x400, 8)], 1, 0x186A0, 0x8007FFFF, 0x0, false⟩,
  ⟨0x3010B4, [(0x400, 8)], 1, 0x0, 0xFFFFFFFF, 0x0, false⟩,
  ⟨0x3010C0, [(0x400, 8)], 4, 0x0, 0x0, 0x0, false⟩,
  ⟨0x3010D0, [(0x400, 8)], 4, 0x0, 0x0, 0x0, false⟩,
  ⟨0x3010E0, [(0x400, 8)], 1, 0x0, 0x0, 0x0, false⟩,
  ⟨0x3010E8, [(0x400, 8)], 2, 0x0, 0x0, 0x0, false⟩,
  ⟨0x3010F0, [(0x400, 8)], 1, 0x0, 0x0, 0x0, true⟩]

/-- Registers of TSU. -/
def regsTsu1 : List RegDesc := [
  ⟨0x3010F4, [(0x400, 8)], 1, 0x0, 0x0, 0x0, true⟩,
  ⟨0x3010F8, [(0x400, 8)], 1, 0x0, 0x0, 0x0, true⟩,
  ⟨0x3010FC, [(0x400, 8)], 1, 0x0, 0x0, 0x0, true⟩]

/-- Registers of PRT. -/
def regsPrt0 : List RegDesc := [
  ⟨0x400800, [(0x1000, 128)], 1, 0x0, 0x1FF, 0x0, false⟩,
  ⟨0x400804, [(0x1000, 128)], 1, 0x1F00, 0x3F3F3F3F, 0x0, false⟩,
  ⟨0x400808, [(0x1000, 128)], 1, 0x0, 0x0, 0x0, false⟩,
  ⟨0x40080C, [(0x1000, 128)], 1, 0x0, 0x0, 0x0, true⟩,
  ⟨0x600000, [(0x1000, 8)], 1, 0x0, 0x0, 0xFFFF, false⟩,
  ⟨0x600004, [(0x1000, 8)], 1, 0x0, 0x0, 0x0, true⟩,
  ⟨0x600008, [(0x1000, 8)], 1, 0x0, 0x0, 0x0, true⟩,
  ⟨0x60000C, [(0x1000, 8)], 1, 0x0, 0x0, 0x0, false⟩,
  ⟨0x700000, [(0x4, 128)], 1, 0x0, 0x0, 0x0, false⟩,
  ⟨0x10000000, [(0x1000, 128)], 1, 0x0, 0x7, 0x0, false⟩,
  ⟨0x10000004, [(0x1000, 128)], 1, 0x0, 0x0, 0x0, false⟩,
  ⟨0x10000008, [(0x1000, 128)], 1, 0x30A00, 0xFF00, 0x0, false⟩,
  ⟨0x10000010, [(0x1000, 128)], 1, 0x367, 0x777, 0x0, false⟩,
  ⟨0x10000014, [(0x1000, 128)], 1, 0x0, 0xFFFF, 0x0, false⟩,
  ⟨0x10000018, [(0x1000, 128)], 1, 0xA, 0xFFFFFFFF, 0x0, false⟩,
  ⟨0x1000001C, [(0x1000, 128)], 1, 0x0, 0x0, 0x0, false⟩,
  ⟨0x10000020, [(0x1000, 128)], 1, 0x0, 0x0, 0x0, false⟩,
  ⟨0x10000024, [(0x1000, 128)], 1, 0x0, 0x0, 0x0, false⟩,
  ⟨0x10000028, [(0x1000, 128)], 1, 0x0, 0xFFFFFFFF, 0x0, false⟩,
  ⟨0x1000002C, [(0x1000, 128)], 1, 0x0, 0xFFFFFFFF, 0x0, false⟩,
  ⟨0x10000100, [(0x1000, 128)], 2, 0x0, 0x0, 0x0, true⟩,
  ⟨0x10000108, [(0x1000, 128)], 2, 0x0, 0x0, 0x0, true⟩,
  ⟨0x10000110, [(0x1000, 128)], 2, 0x0, 0x0, 0x0, true⟩,
  ⟨0x10000118, [(0x1000, 128)], 2, 0x0, 0x0, 0x0, true⟩,
  ⟨0x10000120, [(0x1000, 128)], 2, 0x0, 0x0, 0x0, true⟩,
  ⟨0x10000128, [(0x1000, 128)], 2, 0x0, 0x0, 0x0, true⟩,
  ⟨0x10000130, [(0x1000, 128)], 2, 0x0, 0x0, 0x0, true⟩,
  ⟨0x10000138, [(0x1000, 128)], 2, 0x0, 0x0, 0x0, true⟩,
  ⟨0x10000140, [(0x1000, 128)], 2, 0x0, 0x0, 0x0, true⟩,
  ⟨0x10000148, [(0x1000, 128)], 2, 0x0, 0x0, 0x0, true⟩,
  ⟨0x10000150, [(0x1000, 128)], 2, 0x0, 0x0, 0x0, true⟩,
  ⟨0x10000158, [(0x1000, 128)], 2, 0x0, 0x0, 0x0, true⟩,
  ⟨0x10000160, [(0x1000, 128)], 2, 0x0, 0x0, 0x0, true⟩,
  ⟨0x10000168, [(0x1000, 128)], 2, 0x0, 0x0, 0x0, true⟩,
  ⟨0x10000170, [(0x1000, 128)], 2, 0x0, 0x0, 0x0, true⟩,
  ⟨0x10000178, [(0x1000, 128)], 2, 0x0, 0x0, 0x0, true⟩,
  ⟨0x10000180, [(0x1000, 128)], 2, 0x0, 0x0, 0x0, true⟩,
  ⟨0x10000188, [(0x1000, 128)], 2, 0x0, 0x0, 0x0, true⟩,
  ⟨0x10000190, [(0x1000, 128)], 2, 0x0, 0x0, 0x0, true⟩,
  ⟨0x10000198, [(0x1000, 128)], 2, 0x0, 0x0, 0x0, true⟩]

/-- Registers of PRT. -/
def regsPrt1 : List RegDesc := [
  ⟨0x100001A0, [(0x1000, 128)], 2, 0x0, 0x0, 0x0, true⟩,
  ⟨0x100001A8, [(0x1000, 128)], 2, 0x0, 0x0, 0x0, true⟩,
  ⟨0x100001B0, [(0x1000, 128)], 2, 0x0, 0x0, 0x0, true⟩,
  ⟨0x100001B8, [(0x1000, 128)], 2, 0x0, 0x0, 0x0, true⟩,
  ⟨0x100001C0, [(0x1000, 128)], 2, 0x0, 0x0, 0x0, true⟩,
  ⟨0x100001C8, [(0x1000, 128)], 2, 0x0, 0x0, 0x0, true⟩,
  ⟨0x100001D0, [(0x1000, 128)], 2, 0x0, 0x0, 0x0, true⟩,
  ⟨0x100001D8, [(0x1000, 128)], 2, 0x0, 0x0, 0x0, true⟩]

/-- Registers of STR. -/
def regsStr0 : List RegDesc := [
  ⟨0x800000, [], 1, 0x0, 0xFFFF, 0x0, false⟩,
  ⟨0x800004, [], 1, 0x0, 0xFFFF0000, 0x0, false⟩,
  ⟨0x800008, [], 1, 0x0, 0x0, 0x0, false⟩,
  ⟨0x80000C, [], 1, 0x30, 0xFFFF, 0x0, false⟩,
  ⟨0x800010, [], 1, 0x0, 0x0, 0x0, true⟩,
  ⟨0x800040, [], 1, 0x0, 0x0, 0x0, false⟩,
  ⟨0x800044, [], 1, 0x0, 0x0, 0x0, false⟩,
  ⟨0x800048, [], 1, 0x0, 0x0, 0x0, false⟩,
  ⟨0x80004C, [], 1, 0x0, 0x0, 0x0, false⟩,
  ⟨0x800050, [], 2, 0x0, 0x0, 0x0, false⟩,
  ⟨0x800058, [], 2, 0x0, 0x0, 0x0, false⟩,
  ⟨0x800060, [], 2, 0x0, 0x0, 0x0, false⟩,
  ⟨0x800068, [], 2, 0x0, 0x0, 0x0, false⟩,
  ⟨0x800070, [], 2, 0x0, 0x0, 0x0, false⟩,
  ⟨0x800078, [], 2, 0x0, 0x0, 0x0, false⟩,
  ⟨0x800080, [], 2, 0x0, 0x0, 0x0, false⟩,
  ⟨0x800088, [], 2, 0x0, 0x0, 0x0, false⟩,
  ⟨0x800090, [], 2, 0x0, 0x0, 0x0, false⟩,
  ⟨0x800098, [], 2, 0x0, 0x0, 0x0, false⟩,
  ⟨0x8000A0, [], 2, 0x0, 0x0, 0x0, false⟩,
  ⟨0x820000, [(0x100, 128)], 1, 0x7D00000, 0xFFFF0001, 0x0, false⟩,
  ⟨0x820004, [(0x100, 128)], 1, 0x190, 0xFFFF, 0x0, false⟩,
  ⟨0x820008, [(0x100, 128)], 2, 0x0, 0xFFFFFFFF, 0x0, false⟩,
  ⟨0x820010, [(0x100, 128)], 1, 0xFAC688, 0xFFFFFF, 0x0, false⟩,
  ⟨0x820040, [(0x100, 128)], 2, 0x0, 0x0, 0x0, true⟩,
  ⟨0x820048, [(0x100, 128)], 2, 0x0, 0x0, 0x0, true⟩,
  ⟨0x820050, [(0x100, 128)], 2, 0x0, 0x0, 0x0, true⟩,
  ⟨0x820058, [(0x100, 128)], 2, 0x0, 0x0, 0x0, true⟩,
  ⟨0x820060, [(0x100, 128)], 2, 0x0, 0x0, 0x0, true⟩,
  ⟨0x820068, [(0x100, 128)], 2, 0x0, 0x0, 0x0, true⟩,
  ⟨0x820070, [(0x100, 128)], 2, 0x0, 0x0, 0x0, true⟩,
  ⟨0x820078, [(0x100, 128)], 2, 0x0, 0x0, 0x0, true⟩,
  ⟨0x900000, [(0x20, 4096)], 1, 0x0, 0xFFFFFFFF, 0x0, false⟩,
  ⟨0x900004, [(0x20, 4096)], 1, 0x0, 0xFFFFFFFF, 0x0, false⟩,
  ⟨0x900008, [(0x20, 4096)], 1, 0x0, 0xFFFFFFFF, 0x0, false⟩,
  ⟨0x90000C, [(0x20, 4096)], 1, 0x0, 0xFFFFFFFF, 0x0, false⟩,
  ⟨0x900010, [(0x20, 4096)], 1, 0x0, 0xF, 0x10, false⟩]

/-- Registers of SCH. -/
def regsSch0 : List RegDesc := [
  ⟨0xC00000, [], 1, 0x0, 0x7F, 0x0, false⟩,
  ⟨0xC01000, [(0x40, 128)], 1, 0x0, 0x0, 0x0, false⟩,
  ⟨0xC01004, [(0x40, 128)], 1, 0x0, 0x0, 0x0, false⟩,
  ⟨0xC01008, [(0x40, 128)], 1, 0x0, 0xFFFFFFFF, 0x0, false⟩,
  ⟨0xC0100C, [(0x40, 128)], 1, 0x0, 0xFFF, 0x0, false⟩,
  ⟨0xC01010, [(0x40, 128)], 1, 0x0, 0x0, 0x0, false⟩,
  ⟨0xC01014, [(0x40, 128)], 1, 0x1, 0x0, 0x0, false⟩,
  ⟨0xC01018, [(0x40, 128)], 1, 0x0, 0x0, 0x0, false⟩,
  ⟨0xC01020, [(0x40, 128)], 1, 0x0, 0x0, 0x0, true⟩,
  ⟨0xC01024, [(0x40, 128)], 1, 0x0, 0x0, 0x0, true⟩,
  ⟨0xC01028, [(0x40, 128)], 1, 0x0, 0x0, 0x0, true⟩,
  ⟨0xC0102C, [(0x40, 128)], 1, 0x0, 0x0, 0x0, true⟩,
  ⟨0xC01030, [(0x40, 128)], 1, 0x0, 0x0, 0x0, true⟩,
  ⟨0xC03000, [(0x10, 8)], 1, 0x0, 0x0, 0xFFFF, false⟩,
  ⟨0xC10000, [], 2054, 0x0, 0x0, 0x0, false⟩,
  ⟨0xE00000, [(0x4000, 128)], 2054, 0x0, 0xFFFFFFFF, 0x0, false⟩]

/-- Registers of PRZ. -/
def regsPrz0 : List RegDesc := [
  ⟨0x1000000, [], 1, 0x88B5, 0x1FFFF, 0x0, false⟩,
  ⟨0x1000400, [(0x4, 256)], 1, 0x0, 0x37, 0x0, false⟩,
  ⟨0x1000800, [], 1, 0x0, 0xFFFF, 0x0, false⟩,
  ⟨0x1000804, [], 1, 0x0, 0xFFFF0000, 0x0, false⟩,
  ⟨0x1000808, [], 1, 0x0, 0xFFFFFFFF, 0x0, false⟩,
  ⟨0x100080C, [], 1, 0x0, 0x0, 0x0, false⟩,
  ⟨0x1000810, [], 1, 0x5F5E100, 0xFFFFFFFF, 0x0, false⟩,
  ⟨0x1000814, [], 1, 0xF4240, 0xFFFFFFFF, 0x0, false⟩,
  ⟨0x1000840, [], 1, 0x0, 0x0, 0x0, false⟩,
  ⟨0x1000844, [], 1, 0x0, 0x0, 0x0, false⟩,
  ⟨0x1000848, [], 1, 0x0, 0x0, 0x0, false⟩,
  ⟨0x100084C, [], 1, 0x0, 0x0, 0x0, false⟩,
  ⟨0x1000850, [], 4, 0x0, 0x0, 0x0, false⟩,
  ⟨0x1000860, [], 2, 0x0, 0x0, 0x0, false⟩,
  ⟨0x1000868, [], 2, 0x0, 0x0, 0x0, false⟩,
  ⟨0x1000870, [], 2, 0x0, 0x0, 0x0, false⟩,
  ⟨0x1000878, [], 2, 0x0, 0x0, 0x0, false⟩,
  ⟨0x1000880, [], 2, 0x0, 0x0, 0x0, false⟩,
  ⟨0x1000888, [], 2, 0x0, 0x0, 0x0, false⟩,
  ⟨0x1000890, [], 2, 0x0, 0x0, 0x0, false⟩,
  ⟨0x1000898, [], 2, 0x0, 0x0, 0x0, false⟩,
  ⟨0x10008A0, [], 2, 0x0, 0x0, 0x0, false⟩,
  ⟨0x10008A8, [], 2, 0x0, 0x0, 0x0, false⟩,
  ⟨0x10008B0, [], 2, 0x0, 0x0, 0x0, false⟩,
  ⟨0x10008B8, [], 2, 0x0, 0x0, 0x0, false⟩,
  ⟨0x10008C0, [], 2, 0x0, 0x0, 0x0, false⟩,
  ⟨0x10008C8, [], 2, 0x0, 0x0, 0x0, false⟩,
  ⟨0x10008D0, [], 2, 0x0, 0x0, 0x0, false⟩,
  ⟨0x10008D8, [], 2, 0x0, 0x0, 0x0, false⟩,
  ⟨0x10008E0, [], 2, 0x0, 0x0, 0x0, false⟩,
  ⟨0x10008E8, [], 2, 0x0, 0x0, 0x0, false⟩,
  ⟨0x1001000, [], 1, 0x0, 0xFF00, 0x0, false⟩,
  ⟨0x1001004, [], 1, 0x0, 0x0, 0x0, false⟩,
  ⟨0x1001008, [], 1, 0x0, 0x0, 0x0, false⟩,
  ⟨0x100100C, [], 1, 0x0, 0x0, 0x0, true⟩,
  ⟨0x1001010, [], 1, 0x0, 0x0, 0x0, true⟩,
  ⟨0x1002000, [(0x40, 256)], 1, 0x0, 0x0, 0x0, false⟩,
  ⟨0x1002004, [(0x40, 256)], 1, 0x0, 0x0, 0x0, false⟩,
  ⟨0x1002008, [(0x40, 256)], 1, 0x0, 0x0, 0x0, false⟩,
  ⟨0x100200C, [(0x40, 256)], 1, 0x0, 0x0, 0x0, false⟩]

/-- Registers of PRZ. -/
def regsPrz1 : List RegDesc := [
  ⟨0x1002010, [(0x40, 256)], 1, 0x0, 0x0, 0x0, false⟩,
  ⟨0x1002014, [(0x40, 256)], 1, 0x0, 0x0, 0x0, false⟩,
  ⟨0x1002018, [(0x40, 256)], 2, 0x0, 0x0, 0x0, false⟩,
  ⟨0x1002020, [(0x40, 256)], 1, 0x0, 0x0, 0x0, false⟩,
  ⟨0x1002024, [(0x40, 256)], 1, 0x0, 0x0, 0x0, true⟩,
  ⟨0x1002028, [(0x40, 256)], 1, 0x0, 0x0, 0x0, true⟩,
  ⟨0x100202C, [(0x40, 256)], 1, 0x0, 0x0, 0x0, true⟩,
  ⟨0x1002030, [(0x40, 256)], 1, 0x0, 0x0, 0x0, true⟩,
  ⟨0x1002034, [(0x40, 256)], 1, 0x0, 0x0, 0x0, true⟩,
  ⟨0x1002038, [(0x40, 256)], 1, 0x0, 0x0, 0x0, true⟩]

/-- Registers of TXE. -/
def regsTxe0 : List RegDesc := [
  ⟨0x1400000, [], 1, 0x0, 0xFFFF000, 0x0, false⟩,
  ⟨0x1400004, [], 1, 0x0, 0x0, 0x0, false⟩,
  ⟨0x1400008, [], 2, 0x0, 0xFFFFFFFF, 0x0, false⟩,
  ⟨0x1400010, [], 1, 0x0, 0xFFFF07FF, 0x0, false⟩,
  ⟨0x1400014, [], 1, 0x0, 0x1FFFF, 0x0, false⟩,
  ⟨0x1400018, [], 1, 0x0, 0x0, 0x0, true⟩,
  ⟨0x140001C, [], 1, 0x0, 0x0, 0x0, true⟩,
  ⟨0x1400100, [(0x4, 8)], 1, 0x0, 0x0, 0x0, false⟩,
  ⟨0x1500000, [(0x40, 4096)], 1, 0x10000, 0x13F0F7F, 0x0, false⟩,
  ⟨0x1500004, [(0x40, 4096)], 1, 0x0, 0x0, 0x0, false⟩,
  ⟨0x1500008, [(0x40, 4096)], 1, 0x3E8, 0xFFFFFF, 0x0, false⟩,
  ⟨0x150000C, [(0x40, 4096)], 1, 0x3E8, 0xFFFF, 0x0, false⟩,
  ⟨0x1500010, [(0x40, 4096)], 1, 0x1, 0xFFFFFFFF, 0x0, false⟩,
  ⟨0x1500014, [(0x40, 4096)], 1, 0x0, 0xFFFFFFFF, 0x0, false⟩,
  ⟨0x1500018, [(0x40, 4096)], 2, 0x0, 0xFFFFFFFF, 0x0, false⟩,
  ⟨0x1500020, [(0x40, 4096)], 1, 0x0, 0x0, 0x0, false⟩,
  ⟨0x1500024, [(0x40, 4096)], 1, 0x0, 0x0, 0x0, false⟩,
  ⟨0x1500028, [(0x40, 4096)], 1, 0x0, 0x0, 0x0, true⟩,
  ⟨0x150002C, [(0x40, 4096)], 1, 0x0, 0x0, 0x0, true⟩,
  ⟨0x1500030, [(0x40, 4096)], 1, 0x0, 0x0, 0x0, true⟩,
  ⟨0x1500034, [(0x40, 4096)], 1, 0x0, 0x0, 0x0, false⟩,
  ⟨0x1600000, [(0x40, 64)], 1, 0x0, 0xFFFF177F, 0x0, false⟩,
  ⟨0x1600004, [(0x40, 64)], 1, 0x2, 0xFFFF, 0x0, false⟩,
  ⟨0x1600008, [(0x40, 64)], 2, 0x0, 0xFFFFFFFF, 0x0, false⟩,
  ⟨0x1600010, [(0x40, 64)], 1, 0x4, 0x1F, 0x0, false⟩,
  ⟨0x1600014, [(0x40, 64)], 1, 0x0, 0x0, 0x0, false⟩,
  ⟨0x1600018, [(0x40, 64)], 1, 0x0, 0x0, 0x0, true⟩,
  ⟨0x160001C, [(0x40, 64)], 1, 0x0, 0x0, 0x0, true⟩,
  ⟨0x1700000, [(0x20, 4096)], 1, 0x2, 0x7FF000F, 0x0, false⟩,
  ⟨0x1700004, [(0x20, 4096)], 1, 0x0, 0x0, 0x0, true⟩,
  ⟨0x1700008, [(0x20, 4096)], 1, 0x0, 0x0, 0x0, true⟩,
  ⟨0x170000C, [(0x20, 4096)], 1, 0x0, 0x0, 0x0, true⟩,
  ⟨0x1700010, [(0x20, 4096)], 1, 0x0, 0x0, 0x0, true⟩,
  ⟨0x1700014, [(0x20, 4096)], 1, 0x0, 0x0, 0x0, true⟩,
  ⟨0x1700018, [(0x20, 4096)], 1, 0x0, 0x0, 0x0, true⟩]

/-- Registers of QM. -/
def regsQm0 : List RegDesc := [
  ⟨0x1800000, [], 1, 0x0, 0xFFFF8000, 0x0, false⟩,
  ⟨0x1800004, [], 1, 0x0, 0x0, 0x0, false⟩,
  ⟨0x1800008, [], 1, 0x0, 0x1, 0x0, false⟩,
  ⟨0x180000C, [], 1, 0x0, 0x0, 0x0, true⟩,
  ⟨0x1800010, [], 1, 0x0, 0x0, 0x0, true⟩,
  ⟨0x1800014, [], 1, 0x0, 0x0, 0x0, true⟩,
  ⟨0x1800018, [], 1, 0x0, 0x0, 0x0, false⟩,
  ⟨0x1810000, [(0x40, 4096)], 1, 0x400001, 0x1FF0001, 0x0, false⟩,
  ⟨0x1810004, [(0x40, 4096)], 1, 0x0, 0x0, 0x0, false⟩,
  ⟨0x1810008, [(0x40, 4096)], 2, 0x0, 0xFFFFFFFF, 0x0, false⟩,
  ⟨0x1810010, [(0x40, 4096)], 1, 0x0, 0x0, 0x0, false⟩,
  ⟨0x1810014, [(0x40, 4096)], 1, 0x0, 0x0, 0x0, false⟩,
  ⟨0x1810018, [(0x40, 4096)], 1, 0x0, 0x0, 0x0, false⟩,
  ⟨0x181001C, [(0x40, 4096)], 1, 0x0, 0x0, 0x0, false⟩,
  ⟨0x1810020, [(0x40, 4096)], 1, 0x0, 0x0, 0x0, true⟩,
  ⟨0x1810024, [(0x40, 4096)], 1, 0x0, 0x0, 0x0, true⟩,
  ⟨0x1810028, [(0x40, 4096)], 1, 0x0, 0x0, 0x0, true⟩,
  ⟨0x181002C, [(0x40, 4096)], 1, 0x0, 0x0, 0x0, true⟩,
  ⟨0x1810030, [(0x40, 4096)], 1, 0x0, 0x0, 0x0, true⟩,
  ⟨0x1810034, [(0x40, 4096)], 1, 0x0, 0x0, 0x0, true⟩,
  ⟨0x1810038, [(0x40, 4096)], 1, 0x0, 0x0, 0x0, true⟩,
  ⟨0x1850000, [(0x20, 1024)], 2, 0x0, 0xFFFFFFFF, 0x0, false⟩,
  ⟨0x1850008, [(0x20, 1024)], 1, 0x0, 0x0, 0x0, false⟩,
  ⟨0x185000C, [(0x20, 1024)], 1, 0x0, 0xFFFF, 0x0, false⟩,
  ⟨0x1850010, [(0x20, 1024)], 1, 0x0, 0x0, 0x0, false⟩,
  ⟨0x1850014, [(0x20, 1024)], 1, 0x0, 0x0, 0x1, false⟩,
  ⟨0x1850018, [(0x20, 1024)], 1, 0x0, 0x0, 0x0, true⟩,
  ⟨0x185001C, [(0x20, 1024)], 1, 0x0, 0x0, 0x0, true⟩]

/-- Registers of DMA. -/
def regsDma0 : List RegDesc := [
  ⟨0x1C00000, [], 1, 0x0, 0x0, 0x0, false⟩,
  ⟨0x1C00004, [], 1, 0x0, 0x0, 0x0, false⟩,
  ⟨0x1C00010, [(0x4, 2)], 1, 0x0, 0x0, 0x0, true⟩,
  ⟨0x1C00100, [(0x100, 256)], 1, 0x0, 0x0, 0x0, false⟩,
  ⟨0x1C00104, [(0x100, 256)], 1, 0x0, 0x0, 0x0, false⟩,
  ⟨0x1C00108, [(0x100, 256)], 1, 0x20000000, 0xFFFF077C, 0x0, false⟩,
  ⟨0x1C0010C, [(0x100, 256)], 1, 0x0, 0x0, 0x0, false⟩,
  ⟨0x1C00110, [(0x100, 256)], 1, 0x400, 0xFFFF, 0x0, false⟩,
  ⟨0x1C00114, [(0x100, 256)], 1, 0x0, 0x3FF, 0x0, false⟩,
  ⟨0x1C00118, [(0x100, 256)], 1, 0x200, 0x1F1F, 0x0, false⟩,
  ⟨0x1C00140, [(0x100, 256)], 16, 0x0, 0x0, 0x0, false⟩,
  ⟨0x1C00180, [(0x100, 256)], 16, 0x0, 0xFFFFFFFF, 0x0, false⟩,
  ⟨0x1C001C0, [(0x100, 256)], 1, 0x0, 0x0, 0x0, true⟩,
  ⟨0x1C001C4, [(0x100, 256)], 1, 0x0, 0x0, 0x0, true⟩,
  ⟨0x1C001C8, [(0x100, 256)], 1, 0x0, 0x0, 0x0, true⟩,
  ⟨0x1C001CC, [(0x100, 256)], 1, 0x0, 0x0, 0x0, true⟩,
  ⟨0x1C001D0, [(0x100, 256)], 1, 0x0, 0x0, 0x0, true⟩,
  ⟨0x1C001D4, [(0x100, 256)], 1, 0x0, 0x0, 0x0, true⟩,
  ⟨0x1C001D8, [(0x100, 256)], 1, 0x0, 0x0, 0x0, true⟩,
  ⟨0x1C001DC, [(0x100, 256)], 1, 0x0, 0x0, 0x0, false⟩,
  ⟨0x1C001E0, [(0x100, 256)], 2, 0x0, 0x0, 0x0, true⟩,
  ⟨0x1C001E8, [(0x100, 256)], 1, 0x0, 0x0, 0x0, false⟩]

/-- Registers of MEM. -/
def regsMem0 : List RegDesc := [
  ⟨0x2000000, [], 1, 0x18, 0xFF, 0x0, false⟩,
  ⟨0x2000004, [], 1, 0x0, 0x0, 0x0, true⟩,
  ⟨0x2000008, [], 1, 0x0, 0x0, 0x0, true⟩,
  ⟨0x200000C, [], 1, 0x0, 0x0, 0x0, true⟩,
  ⟨0x2000100, [(0x20, 16)], 1, 0x0, 0x0, 0x0, false⟩,
  ⟨0x2000104, [(0x20, 16)], 1, 0x0, 0x0, 0x0, true⟩,
  ⟨0x2000108, [(0x20, 16)], 1, 0x0, 0x0, 0x0, true⟩,
  ⟨0x200010C, [(0x20, 16)], 1, 0x0, 0x0, 0x0, true⟩]

/-- Registers of RDN. -/
def regsRdn0 : List RegDesc := [
  ⟨0x2400000, [], 1, 0x300, 0x300, 0x0, false⟩,
  ⟨0x2400004, [], 1, 0x0, 0x0, 0x0, false⟩,
  ⟨0x2400008, [], 1, 0x7D0, 0x0, 0x0, false⟩,
  ⟨0x240000C, [], 1, 0x10, 0x0, 0x0, false⟩,
  ⟨0x2400010, [], 1, 0x8, 0x0, 0x0, false⟩,
  ⟨0x2400014, [], 1, 0x10, 0xFFFF, 0x0, false⟩,
  ⟨0x2400018, [], 2, 0xFFFFFFFF, 0x0, 0x0, false⟩,
  ⟨0x2400020, [], 2, 0xFFFFFFFF, 0x0, 0x0, false⟩,
  ⟨0x2400028, [], 1, 0x0, 0x0, 0x0, false⟩,
  ⟨0x240002C, [], 1, 0x0, 0x0, 0x0, false⟩,
  ⟨0x2400030, [], 1, 0x0, 0x0, 0x0, false⟩,
  ⟨0x2400040, [], 1, 0x0, 0x0, 0x0, true⟩,
  ⟨0x2400044, [], 1, 0x0, 0x0, 0x0, true⟩,
  ⟨0x2400048, [], 1, 0x0, 0x0, 0x0, true⟩,
  ⟨0x240004C, [], 1, 0x0, 0x0, 0x0, true⟩,
  ⟨0x2400050, [], 1, 0x0, 0x0, 0x0, true⟩,
  ⟨0x2400054, [], 1, 0x0, 0x0, 0x0, true⟩,
  ⟨0x2400058, [], 1, 0x0, 0x0, 0x0, true⟩,
  ⟨0x240005C, [], 1, 0x0, 0x0, 0x0, true⟩,
  ⟨0x2400060, [], 1, 0x0, 0x0, 0x0, true⟩,
  ⟨0x2400064, [], 1, 0x0, 0x0, 0x0, true⟩,
  ⟨0x2400068, [], 1, 0x0, 0x0, 0x0, true⟩,
  ⟨0x240006C, [], 1, 0x0, 0x0, 0x0, true⟩,
  ⟨0x2400070, [], 1, 0x0, 0x0, 0x0, true⟩]

/-- Registers of FCR. -/
def regsFcr0 : List RegDesc := [
  ⟨0x2800000, [], 1, 0x0, 0xFFFF0000, 0x0, false⟩,
  ⟨0x2800004, [], 1, 0x0, 0x0, 0x0, false⟩,
  ⟨0x2800008, [], 1, 0x64, 0x0, 0x0, false⟩,
  ⟨0x280000C, [], 1, 0x8, 0x0, 0x0, false⟩,
  ⟨0x2800010, [], 1, 0xBB80, 0x0, 0x0, false⟩,
  ⟨0x2800014, [], 1, 0x0, 0x0, 0x0, false⟩,
  ⟨0x2800018, [], 1, 0x0, 0x0, 0x0, true⟩,
  ⟨0x280001C, [], 1, 0x0, 0x0, 0x0, false⟩,
  ⟨0x2800020, [], 1, 0x0, 0x0, 0x0, false⟩,
  ⟨0x2800024, [], 1, 0x0, 0x0, 0x0, false⟩,
  ⟨0x2800100, [(0x40, 20)], 1, 0x0, 0x0, 0xFFFFFFFF, false⟩,
  ⟨0x2800104, [(0x40, 20)], 1, 0x0, 0x0, 0x0, false⟩,
  ⟨0x2800108, [(0x40, 20)], 1, 0x0, 0x0, 0x0, false⟩,
  ⟨0x280010C, [(0x40, 20)], 1, 0x0, 0x0, 0x0, false⟩,
  ⟨0x2800110, [(0x40, 20), (0x4, 4)], 1, 0x11111111, 0x0, 0x0, false⟩,
  ⟨0x2800120, [(0x40, 20)], 1, 0x0, 0x0, 0x0, false⟩,
  ⟨0x2800124, [(0x40, 20)], 1, 0x0, 0xF, 0x0, false⟩,
  ⟨0x2800128, [(0x40, 20)], 1, 0x0, 0x0, 0xFFFFFFFF, false⟩,
  ⟨0x280012C, [(0x40, 20)], 1, 0x0, 0x0, 0x0, true⟩,
  ⟨0x2801000, [(0x4, 64)], 1, 0x0, 0x0, 0xFFFFFFFF, false⟩,
  ⟨0x2802000, [(0x4, 2048)], 1, 0x0, 0x0, 0x0, false⟩,
  ⟨0x2810000, [(0x2000, 3), (0x4, 2048)], 1, 0x10000, 0xFF03FF, 0x0, false⟩]

/-- Registers of PWR. -/
def regsPwr0 : List RegDesc := [
  ⟨0x2C00000, [(0x4, 16)], 1, 0x0, 0xFFFFFFFF, 0x0, false⟩,
  ⟨0x2C00040, [(0x4, 16)], 1, 0x0, 0x3, 0x0, false⟩,
  ⟨0x2C00080, [], 1, 0x0, 0x0, 0x0, false⟩,
  ⟨0x2C00090, [(0x4, 2)], 1, 0x0, 0x3FFFFFFF, 0x0, false⟩,
  ⟨0x2C000A0, [], 1, 0x0, 0x0, 0x0, false⟩,
  ⟨0x2C000A4, [], 1, 0x0, 0x0, 0x0, false⟩,
  ⟨0x2C000B0, [], 1, 0x0, 0x0, 0x1FFFF, false⟩,
  ⟨0x2C000C0, [(0x4, 17)], 1, 0x0, 0x0, 0x0, true⟩]

/-- Registers of MGT. -/
def regsMgt0 : List RegDesc := [
  ⟨0x3000000, [(0x10, 3)], 1, 0x0, 0x0, 0x0, false⟩,
  ⟨0x3000004, [(0x10, 3)], 1, 0x0, 0x0, 0x2, false⟩,
  ⟨0x3000040, [], 1, 0x0, 0x0, 0x0, false⟩,
  ⟨0x3000044, [], 1, 0x0, 0x0, 0x0, false⟩,
  ⟨0x3000100, [], 1, 0x0, 0x0, 0x0, false⟩,
  ⟨0x3000140, [(0x4, 16)], 1, 0x0, 0x0, 0x0, false⟩,
  ⟨0x3000180, [(0x4, 9)], 1, 0x0, 0x0, 0x0, false⟩,
  ⟨0x30001C0, [], 1, 0x0, 0x0, 0x0, false⟩,
  ⟨0x30001C4, [], 1, 0x1770, 0xFFFF, 0x0, false⟩,
  ⟨0x3000200, [], 2, 0x0, 0x0, 0x0, false⟩,
  ⟨0x3000F00, [], 1, 0x64, 0xFFFF, 0x40000000, false⟩,
  ⟨0x3001000, [(0x2000, 3)], 1024, 0x0, 0xFFFFFFFF, 0x0, false⟩,
  ⟨0x3002000, [(0x2000, 3)], 1024, 0x0, 0x0, 0x0, false⟩]

/-- Registers of SEC. -/
def regsSec0 : List RegDesc := [
  ⟨0x3F00000, [], 1, 0x0, 0x0, 0x0, false⟩,
  ⟨0x3F00004, [], 1, 0x0, 0x0, 0x0, false⟩,
  ⟨0x3F00008, [], 1, 0x0, 0x0, 0x0, false⟩,
  ⟨0x3F0000C, [], 1, 0x0, 0x7F, 0x0, false⟩,
  ⟨0x3F00010, [], 1, 0x0, 0x0, 0x0, false⟩,
  ⟨0x3F00014, [], 1, 0x0, 0x0, 0x0, false⟩,
  ⟨0x3F00018, [], 1, 0x0, 0x0, 0x0, false⟩,
  ⟨0x3F0001C, [], 1, 0x0, 0x0, 0x0, true⟩,
  ⟨0x3F00040, [], 12, 0x0, 0x0, 0x0, false⟩,
  ⟨0x3F00080, [], 12, 0x0, 0xFFFFFFFF, 0x0, false⟩,
  ⟨0x3F00100, [(0x40, 4)], 12, 0x0, 0x0, 0x0, false⟩]

/-- Every register of BAR0. -/
def regTable : List RegDesc := regsTop0 ++
  regsPlan0 ++
  regsTick0 ++
  regsTsu0 ++
  regsTsu1 ++
  regsPrt0 ++
  regsPrt1 ++
  regsStr0 ++
  regsSch0 ++
  regsPrz0 ++
  regsPrz1 ++
  regsTxe0 ++
  regsQm0 ++
  regsDma0 ++
  regsMem0 ++
  regsRdn0 ++
  regsFcr0 ++
  regsPwr0 ++
  regsMgt0 ++
  regsSec0

/-- Where byte offset `r` from the base falls: the word of the element, when it falls on a register. -/
def RegDesc.wordAt (words : Nat) : List (Nat × Nat) → Nat → Option Nat
  | [], r => if r % 4 = 0 ∧ r / 4 < words then some (r / 4) else none
  | (st, n) :: ds, r => if r / st < n then RegDesc.wordAt words ds (r % st) else none

/-- The word of `d` that key `k` names. -/
def RegDesc.hit (d : RegDesc) (k : Nat) : Option Nat :=
  if d.base ≤ k then RegDesc.wordAt d.words d.dims (k - d.base) else none

/-- The register at key `k` and the word of it. -/
def findReg : List RegDesc → Nat → Option (RegDesc × Nat)
  | [], _ => none
  | d :: ds, k => match d.hit k with
    | some w => some (d, w)
    | none => findReg ds k

/-- The implicit gate bank of port `p` before its CRC (R228): one tread at (0, 0), all gates open. -/
def implicitBankBody (p : Nat) : List Byte :=
  [1, BitVec.ofNat 8 p, 1, 0, 1, 0, 0, 0, 0, 0, 0, 0, 0, 0, 0, 0, 0, 0, 0, 0, 0xFF, 0, 0, 0, 0, 0, 0, 0, 0, 0]

/-- The implicit gate bank of port `p` (R228), CRC included. -/
def implicitBank (p : Nat) : List Byte :=
  implicitBankBody p ++ leBytes 2 (crc16 (implicitBankBody p)).toNat

/-- What register `k` holds right after reset: the spec's reset value, 0 where no register stands. -/
def regReset (k : Nat) : Reg :=
  if R.schPShadow 0 ≤ k ∧ k < R.schPShadow 128 then
    BitVec.ofNat 32 (leAt (implicitBank ((k - R.schPShadow 0) / 0x4000)) ((k - R.schPShadow 0) % 0x4000) 4)
  else match findReg regTable k with
    | some (d, _) => BitVec.ofNat 32 d.reset
    | none => 0

end Sys2Proof.Machine
end

