-- ==== Sys2Proof/Machine/State.lean ====
section
/-! DEFINITION. The state of the OT-1280: the register file, the state the spec names beside the registers, block by
block, and the queue of commands that wait. All of it is plain data. -/

namespace Sys2Proof.Machine

/-! ### What leaves the device (the model's own log, newest first) -/

/-- One thing the device put on a wire. The list of them is the model's own record (log entry 4). -/
inductive Emission where
  /-- octets written to host memory at an address of a function, with or without relaxed ordering (R350), as a Deferrable
  Memory Write or posted (R366) -/
  | hostWrite (func : Requester) (addr : Nat) (bytes : List Byte) (relaxed deferrable : Bool)
  /-- a read request of so many octets of host memory at an address of a function (R328, R341) -/
  | hostRead (func : Requester) (addr len : Nat)
  /-- an MSI-X message: function, vector, and the address and data of its table entry -/
  | msix (func : Requester) (vector : Nat) (addr : BitVec 64) (data : Reg)
  /-- the 7 octets of preamble of a frame or fragment on a port, its start delimiter or SMD, and a continuation's fragment
  count (R156, R169) -/
  | start (port smd : Nat) (frag : Option Nat)
  /-- the octets of a frame or fragment that followed, its 4-octet check last (R156, R169, R324) -/
  | octets (port : Nat) (bytes : List Byte)
  /-- remote fault sent to the link partner of a port, begun or ended (R151) -/
  | remoteFault (port : Nat) (on : Bool)
  /-- the transmitter of a lane: electrical idle, or its CFG in force with the taps PRE2, MAIN, PRE1 and POST1, none while
  link training sets them (R144, R149) -/
  | lane (l : Nat) (tx : Option (Reg × Option (List Int)))
  /-- an mPacket of frame preemption that carries no frame: Verify or Respond (R167) -/
  | mPacket (port : Nat) (respond : Bool)
  /-- a serial frame of the Ustor bus on U (0), D0 (1) or D1 (2) -/
  | ustor (port : Nat) (bytes : List Byte)
  /-- a landing edge on D0 (1) or D1 (2) (R92) -/
  | edge (port : Nat)
  /-- a calibration pulse on U (0), D0 (1) or D1 (2) (R95) -/
  | calPulse (port : Nat)
  /-- a pulse of a PPS output: it rises, and falls so many microseconds later (R142) -/
  | ppsEdge (tb : Nat) (us : Nat)
  /-- an LTR message of a link; none for "no requirement" (R496) -/
  | ltr (link : Nat) (ns : Option Nat)
  /-- a PM_PME message of a function (R499) -/
  | pme (func : Requester)
  /-- a message of the management services: binding and octets (R472 to R474) -/
  | mgtMessage (binding : Nat) (bytes : List Byte)
  /-- an answer to a register read: value, or none for Unsupported Request -/
  | readData (func : Requester) (value : Option Reg)
  deriving DecidableEq, Repr

/-! ### Floor plan (02_floor_plan) -/

/-- A section of an image: type, instance, AMENDABLE flag as written, version, body (R40). -/
structure Section where
  typ : Nat
  inst : Nat
  body : List Byte
  deriving DecidableEq, Repr

/-- A verified image: the header fields the device uses later, and its sections in image order (R39). -/
structure Image where
  amend : Bool
  planId : Nat
  revision : Nat
  secVersion : Nat
  keySlot : Nat
  digest : List Byte
  sections : List Section
  deriving DecidableEq, Repr

/-- The floor-plan block beside its registers. The plan state itself stands in PLAN.STATUS. -/
structure PlanSt where
  /-- the active full plan -/
  active : Option Image
  /-- the verified image in the staging area -/
  staged : Option Image
  /-- where a STAGE reads from: none for the staging area in place (R461) -/
  source : Option Requester
  /-- PLAN.LEN as it stood when STAGE was taken (log entry 80) -/
  len : Nat
  /-- the full target tick of a committed image -/
  target : Nat
  /-- the committed amendment has a hall-synchronous swap (R57) -/
  hall : Bool
  /-- the amendment's sections stand in their shadows (AMENDMENT_LOAD) -/
  loaded : Bool
  /-- the save store (R60): shadow words and what they held -/
  saved : List (Nat × Reg)
  /-- type and instance of the first section whose shadow failed its check (R58) -/
  failed : Option (Nat × Nat)
  /-- the new plan of a re-plan being rebuilt, or of a committed re-plan -/
  rebuilding : Option Image
  /-- MODES body in force (R33) -/
  modes : List Byte
  /-- a full plan was committed since PORST_N -/
  everCommitted : Bool
  deriving DecidableEq, Repr

/-! ### Tick (03_tick_landing) -/

/-- A committed swap request: the tick whose swap set it joined, and how it came to it. -/
structure SwapReq where
  kind : SwapKind
  tick : Nat
  late : Bool
  /-- member of the hall-synchronous group (R104) -/
  hall : Bool
  /-- what verification of the shadow found, none before it (R75) -/
  verified : Option Bool
  /-- from a command, which WITHDRAW can release (R234) -/
  byCommand : Bool
  deriving DecidableEq, Repr

/-- A follower's last STATUS frame on a D port (R105). -/
structure Child where
  present : Bool
  target : Nat
  ready : Bool
  pending : Bool
  locked : Nat
  /-- UNLOCKED_BELOW -/
  unlocked : Bool
  /-- ticks since its last STATUS frame -/
  age : Nat
  deriving DecidableEq, Repr

/-- The tick block beside its registers. -/
structure TickSt where
  /-- the tick-source time base -/
  tb : Nat
  /-- landing offset of a follower (R96) -/
  delta : Time
  /-- committed swap requests -/
  reqs : List SwapReq
  /-- internal target of a repeating entry (R83), none: the entry's own TARGET -/
  actNext : Tab (Option Reg)
  /-- entries owned by a hall-synchronous snapshot (R104) -/
  snapEntries : List Nat
  /-- the shadows those entries name -/
  snapKinds : List SwapKind
  /-- target tick of the last snapshot, and whether it was ready and pending -/
  snapTick : Option Nat
  snapReady : Bool
  snapPending : Bool
  /-- GO (true) or ABORT (false) received or resolved, with its tick -/
  verdict : Option (Nat × Bool)
  /-- last missed tick not yet declared (R85) -/
  missedTo : Option Nat
  /-- the last tick whose cut-off was reached or jumped over (R81) -/
  cutTick : Option Nat
  /-- followers on D0 and D1 -/
  child0 : Child
  child1 : Child
  /-- consecutive valid TICK frames with edges -/
  goodRun : Nat
  /-- consecutive TICK frames that failed their CRC, and that failed any check (R97) -/
  badCrc : Nat
  badFrames : Nat
  /-- the instant, in local TIME, by which the first lock is due; none once it came or USTOR_NO_LOCK was raised (R97) -/
  lockBy : Option Time
  /-- round trips measured and their sum in ps (R95) -/
  calCount : Nat
  calSum : Nat
  /-- a calibration pulse is out -/
  calOut : Bool
  /-- RECAL, or the recalibration of 2^20 ticks, is running -/
  recal : Bool
  /-- the running recalibration came from the RECAL command -/
  recalCmd : Bool
  /-- ticks since CALIBRATING or the recalibration began -/
  calTicks : Nat
  /-- HALL_UNLOCKED of the TICK frame of the current tick -/
  parentUnlocked : Bool
  /-- HALL_UNLOCKED of the last TICK frame accepted -/
  frameUnlocked : Bool
  /-- last TICK frame accepted: its tick, depth and STEP -/
  frameTick : Nat
  frameStep : Bool
  /-- the tick of the TICK frame accepted since the last edge -/
  nextEdge : Option Nat
  /-- tick of the last calibration (R95) -/
  calAt : Nat
  /-- the follower has locked once -/
  everLocked : Bool
  /-- a RESYNC runs (R100) -/
  resync : Bool
  /-- landing instants, in tick-source time, of recent ticks and whether the landing found the device hall-unlocked -/
  history : List (Nat × Time × Bool)
  deriving DecidableEq, Repr

/-! ### Time bases (04_time) -/

/-- A foreign timeTransmitter record (R135): port, dataset octets as announced, grandmaster, when it was last heard in local
TIME, and the log2 of its announce interval. -/
structure Foreign where
  port : Nat
  source : List Byte
  dataset : List Byte
  gmId : Nat
  utc : Nat
  heard : Time
  log : Int
  deriving DecidableEq, Repr

/-- One time base beside its registers. -/
structure TbSt where
  /-- the count (R107), in 2^-48 ns -/
  count : Time
  /-- remaining slew (R108), 0 or negative, in 2^-48 ns -/
  slewRem : Time
  /-- the servo's integrator i (R125), units of 2^-10 ppb -/
  integ : Int
  /-- consecutive samples in range, above UNLOCK_NS, and at most STEP_LIMIT while REFUSED (R112) -/
  inRun : Nat
  outRun : Nat
  okRun : Nat
  /-- LOCKING has requested its correction (R115) -/
  asked : Bool
  /-- FREQ at the last samples, newest first, at most 16 (R126) -/
  freqs : List Int
  /-- foreign records, at most 8 (R135) -/
  foreign : List Foreign
  /-- source port identity of the selected timeTransmitter -/
  selected : Option (List Byte)
  /-- a two-step Sync waiting for its Follow_Up: sequence, port, receive time, correction -/
  twoStep : Option (Nat × Nat × Time × Int × Int)
  /-- meanPathDelay in 2^-48 ns (E2E) -/
  pathDelay : Time
  /-- own Delay_Req: sequence and transmit time t3 -/
  delayReq : Option (Nat × Time)
  /-- t1 and t2 of the last Sync, for meanPathDelay -/
  lastSync : Option (Time × Time)
  /-- sequence numbers of own messages -/
  seq : Nat
  /-- REF 3: groups of 10,000 edges since the last valid PPS edge are not taken (R141) -/
  ref10mStop : Bool
  /-- local TIME count at the last sample (R112) -/
  lastSample : Time
  /-- its count at the last valid edge of PPS input 0 (R124) -/
  pps0At : Time
  /-- SH_PHASE applies on the next TIME edge (R121) -/
  phaseDue : Bool
  /-- local TIME count up to which its PPS output is high (R142) -/
  ppsUntil : Time
  deriving DecidableEq, Repr

/-- Peer delay state of one port, for one ordinary clock (R136). -/
structure PeerDelay where
  /-- meanLinkDelay in 2^-48 ns -/
  linkDelay : Time
  /-- neighborRateRatio minus 1, in 2^-41 (the scaled rate of 802.1AS) -/
  rateOfs : Int
  asCapable : Bool
  /-- own Pdelay_Req out: sequence and t1 -/
  req : Option (Nat × Time)
  /-- Pdelay_Resp taken, its Follow_Up awaited: sequence, t2, t4 -/
  resp : Option (Nat × Time × Time)
  /-- t3 and t4 of the last exchange, for the rate ratio -/
  last : Option (Time × Time)
  /-- local TIME count at the last own Delay_Req or Pdelay_Req offered on the port (R133) -/
  sentAt : Option Time
  deriving DecidableEq, Repr

/-- Inputs and outputs of the timing pins (R140 to R142), and what is kept of them. -/
structure PpsSt where
  /-- local TIME count at the last valid edge of PPS input 0 and 1 -/
  last0 : Option Time
  last1 : Option Time
  deriving DecidableEq, Repr

/-! ### Queues (11_queues) -/

/-- How far an entry of a submission queue has come (R321, R344, R354). -/
inductive Stage where
  /-- fetched into the descriptor cache -/
  | cached
  /-- transmit: its frame stands whole in the transmit store -/
  | ready
  /-- A-ring: fetched, checked and held in the run-ahead store (BOUND) -/
  | bound
  /-- launched, not yet fully passed (ON_WIRE) -/
  | onWire
  /-- A-ring: fully passed, completion not yet written (SENT) -/
  | sent
  /-- work: issued to its block -/
  | issued
  /-- outcome fixed, completion held for the mirror (R325) -/
  | held
  /-- the read of the entry or of its frame failed: it completes with HOST_RD_ERR once it is the oldest (R341, R355) -/
  | failed
  deriving DecidableEq, Repr

/-- What became of one copy of a frame (R300). -/
structure CopyEnd where
  launched : Bool
  /-- local TIME count of its launch -/
  first : Time
  cut : Bool
  status : Nat
  tick : Nat
  tread : Nat
  late : Bool
  early : Bool
  preempted : Bool
  deriving DecidableEq, Repr

/-- An entry that was fetched and has no completion yet. -/
structure Entry where
  /-- its ring index, 0 to 65,535 -/
  idx : Nat
  /-- the cached copy -/
  bytes : List Byte
  stage : Stage
  /-- copies of its frame not yet ended -/
  left : Nat
  /-- the copies that ended -/
  copies : List CopyEnd
  /-- status fixed by a cancellation (R323), 0 for none -/
  status : Nat
  /-- A-ring: the tick the binding or its end is reported in, none before any epoch carried it (R325) -/
  carried : Option Nat
  /-- a completion slot is reserved for it (R349) -/
  slot : Bool
  deriving DecidableEq, Repr

/-- A received frame that waits for an entry of its receive queue: octets, arrival tick, trailers (R338). -/
structure RxFrame where
  bytes : List Byte
  tick : Nat
  /-- receive timestamp trailer -/
  stamp : List Byte
  /-- twin trailer -/
  twin : List Byte
  deriving DecidableEq, Repr

/-- A submission queue beside its registers. -/
structure QueueSt where
  entries : List Entry
  /-- indices between HEAD and TAIL that have a completion (R330, R355) -/
  done : List Nat
  /-- FETCH_MAX and RX_TS in force (taken at ENABLE and RESUME) -/
  fetchMax : Nat
  rxTs : Bool
  /-- frames that wait for an entry, oldest first -/
  rxWait : List RxFrame
  /-- entries an ABORT stop still has to report: index and TAG (R354) -/
  toAbort : List (Nat × Nat)
  /-- the stop came from a STOP command, whose RESULT is still to be given -/
  stopCmd : Bool
  /-- the index whose read is in flight, and whether what it brings is discarded (R335) -/
  fetching : Option (Nat × Bool)
  deriving DecidableEq, Repr

/-- The instant a frame's timestamp point passed (R128): the local TIME count and the counts of the eight time bases at
the TIME edge before it, and the 80 ps steps after that edge. -/
structure Capture where
  clock : Time
  counts : List Time
  k : Nat
  /-- the gallery is in host-assisted TSTAMP mode as the first octet passes: the PCS captures nothing, and the frame is handled
  under that mode (R34, R130) -/
  host : Bool
  deriving DecidableEq, Repr

/-! ### Prism (08_prism_inputs, 09_panes) -/

/-- An accepted sample: its mapped time in 2^-32 ns, a value and four quality bits per channel (R243, R254). -/
structure Sample where
  tau : Int
  vals : List Reg
  quals : List Nat
  deriving DecidableEq, Repr

/-- A sequence (R258 to R261, R270): its anchor, its newest sample, and its slots. Slots below `closed` that are not
filled are absent. -/
structure Seq where
  id : Nat
  anchorK : Int
  anchorT : Int
  newest : Nat
  newestT : Int
  closed : Nat
  slots : List (Nat × Sample)
  /-- slots lost to a store error (R294) -/
  lost : List Nat
  deriving DecidableEq, Repr

/-- An input command that waits for the next landing (R265). -/
inductive InCmd where
  | pathOfs (v : Int)
  | reorder (n : Nat)
  | brk
  deriving DecidableEq, Repr

/-- The input state of one stream (R238 to R265). -/
structure StreamIn where
  cur : Option Seq
  prev : Option Seq
  nextId : Nat
  /-- a timing break ended a sequence -/
  broke : Bool
  /-- local TIME count of the last step that broke the stream (R261) -/
  breakAt : Option Time
  /-- smpSynch of the last accepted ASDU -/
  synch : Option Nat
  /-- time base of the last accepted sample -/
  tb : Nat
  /-- ROW and PATH_OFS as set by commands, none: the plan's -/
  row : Option Nat
  pathOfs : Option Int
  confRev : Option Nat
  jwtSeq : Option Nat
  lastCnt : Nat
  lastT : Int
  /-- counters in the order of the window registers from W_FRAMES on -/
  cnt : Tab Nat
  cmds : List InCmd
  deriving DecidableEq, Repr

/-- A decided output instant of a member: value and quality byte per output channel, and the sequence it is bound to
(0: none; none: none because of a timing break). -/
structure OutRec where
  member : Nat
  inst : Nat
  seq : Option Nat
  cells : List (Reg × Nat)
  deriving DecidableEq, Repr

/-- An entry of a raw pane: member, sequence, sample. -/
structure RawRec where
  member : Nat
  seq : Nat
  sample : Sample
  deriving DecidableEq, Repr

/-- An open pane. -/
structure PaneSt where
  tick : Nat
  outs : List OutRec
  raws : List RawRec
  /-- members with a sample beyond MAXS (R293) -/
  full : List Nat
  deriving DecidableEq, Repr

/-- Slots that an output sealed as missing with LATE_EXCL awaited (R283). -/
structure LateWait where
  sh : Nat
  seq : Nat
  slots : List Nat
  deriving DecidableEq, Repr

/-- A pane group beside its registers. -/
structure PgSt where
  /-- the first tick that has a pane under the plan (R280) -/
  first : Nat
  /-- the first tick whose pane is not sealed -/
  nextSeal : Nat
  /-- later ticks whose panes an action sealed (R281) -/
  sealed : List Nat
  /-- local TIME count of the last seal at a seal instant (R281) -/
  sealedAt : Option Time
  /-- the pane of `nextSeal` passed its seal instant with its seal work unfinished (R88): whether it was contained then, and
  whether outputs were not computed in time (R282) -/
  slow : Option (Bool × Bool)
  /-- open panes, rising tick -/
  panes : List PaneSt
  late : List LateWait
  /-- CONTAIN (true) or RELEASE (false) that waits for the next landing (R295) -/
  cmd : Option Bool
  deriving DecidableEq, Repr

/-- The prism beside its registers. -/
structure PrzSt where
  streams : Tab StreamIn
  groups : Tab PgSt
  /-- coefficients lost to a store error: set, phase, tap (R294) -/
  badCoef : List (Nat × Nat × Nat)
  /-- raw samples that a committed re-plan keeps from their panes, as handle, sequence and sample, oldest first (R280) -/
  kept : List (Nat × Nat × Sample)
  deriving DecidableEq, Repr

/-! ### Transmit (07_staircase, 10_transmit) -/

/-- Where a frame comes from (R297). -/
inductive TxSrc where
  | host (qid idx : Nat)
  | gcb (i : Nat)
  | svp (n : Nat)
  | ptp (tb : Nat)
  | heartbeat
  | epoch
  /-- HSR forwarding or pass-through from an ingress port -/
  | forward (port : Nat)
  /-- PRP or HSR supervision of a pair -/
  | supervision (pair : Nat)
  deriving DecidableEq, Repr

/-- A frame ready for its egress port or ports. -/
structure TxFrame where
  /-- order in which frames became ready -/
  id : Nat
  src : TxSrc
  /-- ports it has still to leave on -/
  ports : List Nat
  tc : Nat
  act : Bool
  /-- octets without FCS and without redundancy tag or trailer -/
  bytes : List Byte
  /-- sequence number of its PRP or HSR pair, once taken (R195) -/
  seq : Option Nat
  /-- it goes out with a redundancy tag or trailer of pair `pair` -/
  pair : Option Nat
  /-- stamped on the wire: PTP_1STEP, or an own PTP message of a time base (R303, R317) -/
  stampTb : Option Nat
  /-- its place in the order of readiness is taken: false for a bound frame before its instant (R320) -/
  ripe : Bool
  /-- residence correction (R137): time base (none: local TIME count), and the instant its residence counts from -/
  resid : Option (Option Nat × Time)
  /-- no copy of it was selected before -/
  lead : Bool
  deriving DecidableEq, Repr

/-- A frame on the line, or preempted. -/
structure LineSt where
  frame : TxFrame
  /-- octets of the frame as sent, without FCS -/
  bytes : List Byte
  /-- the frame count of its SMD, none for an ordinary frame (R169) -/
  smd : Option Nat
  /-- continuations sent -/
  frags : Nat
  launched : Bool
  /-- local TIME count when the first preamble octet of the frame or continuation passed -/
  since : Time
  /-- local TIME count of the launch of the frame -/
  first : Time
  /-- octets sent in earlier fragments -/
  sent : Nat
  /-- octets of the frame in all, check included -/
  total : Nat
  /-- octet count at which it is to be preempted (R169, R221) -/
  stopAt : Option Nat
  tick : Nat
  tread : Nat
  early : Bool
  preempted : Bool
  /-- a cancellation terminates it (R324) -/
  stomp : Bool
  /-- what stood on the line when it was terminated was to be a non-final fragment (R324) -/
  cutFrag : Bool
  /-- it was counted in GATE_OVERRUN -/
  overrun : Bool
  deriving DecidableEq, Repr

/-- A port beside its registers (05_ports, 07_staircase). -/
structure PortSt where
  /-- Verify mPackets sent in this UP (R167) -/
  verifies : Nat
  /-- reassembly in progress: frame count, next fragment count, octets, capture (R171) -/
  rxFrag : Option (Nat × Nat × List Byte × Capture)
  /-- a frame is being received, and the capture of its first octet (R34, R154) -/
  rxBegun : Option Capture
  /-- LT_EN as taken at the entry to TRAINING (R149), and the CFG of its lanes taken there -/
  lt : Bool
  laneCfg : List Reg
  /-- the frame count of the next frame sent with an SMD-S (R169) -/
  frameNo : Nat
  line : Option LineSt
  preempted : Option LineSt
  /-- frames counted in ADMIT_DEFER in the tread in force (R223) -/
  deferred : List Nat
  /-- heads of the actuation queue that R12 kept from launching in the tread in force (R227) -/
  blocked : List Nat
  /-- last queue served by class (R217) -/
  served : List (Nat × Nat)
  /-- local TIME count at the last entry to the present link state -/
  since : Time
  /-- local TIME count from which the line is free after the last frame and its gap -/
  freeAt : Time
  deriving DecidableEq, Repr

/-- A template being read from host memory (R307, R315): who asked, where it stands, how long it is, its first block,
and the longest frame its port takes. -/
structure TplLoad where
  req : Requester
  addr : Nat
  len : Nat
  block : Nat
  limit : Nat
  deriving DecidableEq, Repr

/-- A GOOSE control block beside its registers. -/
structure GcbSt where
  /-- the next due instant d_k (R310), in tick-source time -/
  due : Time
  /-- its index k -/
  k : Nat
  /-- t_c of the curve, and the index of the due instant the last selected or waiting frame took (R414) -/
  tc : Time
  lastK : Nat
  /-- order in which its waiting frame became ready -/
  readyId : Nat
  /-- the next frame selected takes SQNUM as it stands (R308) -/
  fresh : Bool
  /-- every interval is T0 (after a change to hardware mode, R314) -/
  flat : Bool
  /-- the 8 octets of t as last written (R312) -/
  t : List Byte
  loading : Option TplLoad
  /-- ENABLE or DISABLE acts at the next landing -/
  enReq : Bool
  disReq : Bool
  deriving DecidableEq, Repr

/-- An SV publisher beside its registers. -/
structure SvpSt where
  template : List Byte
  loading : Option TplLoad
  /-- slots read: frame number F, values (none: the read failed) -/
  slots : List (Nat × Option (List Byte))
  /-- number F of the next frame to become ready -/
  next : Nat
  enReq : Bool
  disReq : Bool
  deriving DecidableEq, Repr

/-- The transmit engine and the staircase beside their registers. -/
structure TxSt where
  /-- active gate control bank by port (R212) -/
  banks : Tab (List Byte)
  ports : Tab PortSt
  /-- frames ready and not yet on a line, in the order they became ready -/
  ready : List TxFrame
  nextId : Nat
  gcbs : Tab GcbSt
  svps : Tab SvpSt
  /-- template store (R307) -/
  store : Tab Byte
  /-- transmit sequence counter of each PRP or HSR pair (R195) -/
  pairSeq : Tab Nat
  deriving DecidableEq, Repr

/-! ### DMA (12_dma) -/

/-- A burst whose data has not all been written: descriptor, offset in its transfer, length, addresses, data once read. -/
structure DmaBurst where
  hop : Nat
  ofs : Nat
  len : Nat
  src : Nat
  dst : Nat
  data : Option (List Byte)
  deriving DecidableEq, Repr

/-- A write that was issued and is not answered (R366): its run and its length. -/
structure DmaWrite where
  run : Nat
  len : Nat
  deriving DecidableEq, Repr

/-- What a run is doing. -/
inductive DmaPhase where
  /-- bursts of the current set or descriptor, or of a pane -/
  | move
  /-- the next descriptor is to be fetched -/
  | fetch
  /-- the current descriptor's writes are to be answered before the next one (BARRIER) -/
  | barrier
  /-- the count has ended; writes are to be answered before the record -/
  | await
  /-- an error or a stop ended the run; issued bursts finish -/
  | drain
  deriving DecidableEq, Repr

/-- A run in progress (R372 to R384). -/
structure DmaRun where
  id : Nat
  /-- the set that runs, as loaded -/
  set : List Byte
  /-- the set or descriptor being moved -/
  cur : List Byte
  hop : Nat
  limit : Nat
  /-- octets of it whose bursts were issued, and whose writes were issued -/
  ofs : Nat
  done : Nat
  bursts : List DmaBurst
  phase : DmaPhase
  status : Nat
  /-- CRC-32C register and ones' complement sum of the octets written so far -/
  crc : BitVec 32
  sum : Nat
  /-- check value still to be written: address and value -/
  chkDue : Option (Nat × Nat)
  chkWritten : Bool
  late : Bool
  swapped : Bool
  /-- pane runs: trigger instant plus one period -/
  deadline : Time
  /-- the pane being delivered, and those still to deliver -/
  pane : Option Nat
  panes : List Nat
  delivered : Nat
  dropped : Nat
  abandoned : Bool
  lastTick : Nat
  /-- the pane being delivered has samples of failed blocks (R396) -/
  patched : Bool
  deriving DecidableEq, Repr

/-- A run that was reported OK while writes of it were unanswered (R376, R379). -/
structure DmaPast where
  run : Nat
  tag : Nat
  info : Nat
  deriving DecidableEq, Repr

/-- A DMA channel beside its registers. -/
structure ChanSt where
  /-- the active set as loaded, none when empty -/
  loaded : Option (List Byte)
  /-- the pending trigger was a late DMA_TRIGGER -/
  pendLate : Bool
  /-- the instant of the trigger that is pending or started the last run (R384) -/
  pendAt : Time
  run : Option DmaRun
  unanswered : List DmaWrite
  past : List DmaPast
  nextRun : Nat
  /-- the first pane not delivered, dropped or abandoned -/
  nextPane : Nat
  /-- a re-plan or a function-level reset stops it: at its next boundary it is OFF at its reset values (R380) -/
  leaving : Bool
  deriving DecidableEq, Repr

/-- The DMA engine: its channels, and the channel of each class (R363) that was served last. -/
structure DmaSt where
  chans : Tab ChanSt
  lastFirst : Nat
  lastOther : Nat
  deriving DecidableEq, Repr

/-! ### Streams (06_streams_twins) -/

/-- A stream handle (R189 to R193, R210). -/
structure HandleSt where
  takeAny : Bool
  recovSeq : Nat
  /-- history: bit k is h[k] -/
  hist : Nat
  /-- bound source of sequence numbers (R187), 0 for none -/
  seqSrc : Nat
  lastPath : Bool
  contained : Bool
  pathDownA : Bool
  pathDownB : Bool
  /-- tick of the last pass since the last reset -/
  lastPass : Option Nat
  /-- low 32 bits shown in W_LAST_PASS -/
  shownPass : Nat
  /-- ticks of the last copies -/
  lastA : Option Nat
  lastB : Option Nat
  passed : Nat
  discarded : Nat
  outOfOrder : Nat
  rogue : Nat
  lost : Nat
  resets : Nat
  passA : Nat
  passB : Nat
  tagless : Nat
  policed : Nat
  containDrop : Nat
  deriving DecidableEq, Repr

/-- A window of 64 sequence numbers (R197). -/
structure Window where
  seq : Nat
  hist : Nat
  deriving DecidableEq, Repr

/-- A node table entry: pair, source MAC, its windows, and when it last saw a frame (R197, R200). -/
structure Node where
  pair : Nat
  mac : Nat
  localWin : Option Window
  /-- forwarded from the lower port, from the higher port -/
  fwdLow : Option Window
  fwdHigh : Option Window
  seen : Time
  deriving DecidableEq, Repr

/-- A flow meter's buckets, in units of an octet over 8 * 10^6 * 2^48, so that one kbit/s fills one unit per time unit
(R183). -/
structure MeterSt where
  committed : Nat
  excess : Nat
  since : Time
  running : Bool
  deriving DecidableEq, Repr

/-- The stream block beside its registers. -/
structure StrSt where
  handles : Tab HandleSt
  nodes : List Node
  meters : Tab MeterSt
  /-- sequence number of the next supervision frame of each pair (R196) -/
  supSeq : Tab Nat
  /-- local TIME count of the last supervision frame of each pair (R196) -/
  supAt : Tab (Option Time)
  /-- tick of the plan's first landing (R193) -/
  firstTick : Nat
  /-- 64-byte blocks of the overflow region, by address over 64, whose keys match no frame until the next re-plan (R395) -/
  lost : List Nat
  deriving DecidableEq, Repr

/-! ### Faults and events (15_faults_events) -/

/-- An MSI-X vector: its pending count, when its first pending event came, and its table and PBA bits (R447 to R449). -/
structure VecSt where
  pending : Nat
  since : Time
  masked : Bool
  pba : Bool
  /-- address and data of its message, from its table entry (R522) -/
  addr : BitVec 64
  data : Reg
  deriving DecidableEq, Repr

/-- The fault collector beside its registers. -/
structure FcrSt where
  /-- landings of the recoveries made (R440, R441) -/
  recoveries : List Nat
  /-- a C4 raise fell in the current tick (R440) -/
  c4Raised : Bool
  /-- units a C2 reaction contains, coded as UNCONTAIN's ARG (R442) -/
  contained : List Nat
  /-- units whose C2 containment ends at the next landing -/
  ending : List Nat
  /-- RELEASE takes effect at the next landing -/
  releasing : Bool
  /-- MSI-X vectors by function and number -/
  vecs : Tab VecSt
  /-- MSI-X disabled or masked whole, by function key -/
  msixOff : List Nat
  /-- moderation registers of virtual functions, by vector key (R450) -/
  vfMod : Tab Reg
  /-- sources detected on the present edge, with the units the detection names (R430) -/
  raisedNow : List (Nat × List Nat)
  /-- sources injected on the present edge, with the class of the reaction taken (R444) -/
  injNow : List (Nat × Nat)
  /-- register and bit of the RW1C bits hardware set on the present edge (R5) -/
  setNow : List (Nat × Nat)
  deriving DecidableEq, Repr

/-! ### DDR4 (13_memory) -/

/-- The patrol scrub of one channel (R393): its next local block, and when its pass began and over how many hours. -/
structure ScrubSt where
  next : Nat
  since : Time
  hours : Nat
  deriving DecidableEq, Repr

/-- The memory block beside its registers and contents. -/
structure MemSt where
  /-- 64-byte blocks, by flat address over 64, that read uncorrectable (R392, R394) -/
  bad : List Nat
  /-- the patrol scrub, by channel (R393) -/
  scrub : Tab ScrubSt
  deriving DecidableEq, Repr

/-! ### Pair interlock and mirror (14_redundancy) -/

/-- One record of the mirror's record stream (R413). -/
structure MirrorRec where
  typ : Nat
  index : Nat
  data : List Byte
  deriving DecidableEq, Repr

/-- The pair block beside its registers. -/
structure RdnSt where
  /-- PAIR_PEER_IN is asserted -/
  peerIn : Bool
  /-- local TIME count when PAIR_PEER_IN last deasserted -/
  freeSince : Time
  /-- PAIR_PEER_IN changed from asserted to deasserted since STANDBY was entered (R404) -/
  peerReleased : Bool
  /-- the start-up cause of R404 stands -/
  startUp : Bool
  /-- local TIME count when the device last asserted PAIR_ACT_OUT to claim -/
  claimAt : Time
  /-- a claim was commanded and waits for the guard time -/
  claimCmd : Bool
  /-- a valid heartbeat arrived in the current tick -/
  hbSeen : Bool
  /-- FLAGS octet of the last valid heartbeat -/
  hbFlags : Byte
  /-- tick whose heartbeat has been sent (R410) -/
  hbTick : Option Nat
  /-- local TIME count until which PAIR_ACT_OUT stays asserted after the grant has ended (R403) -/
  outUntil : Time
  /-- a HANDOVER was commanded: it acts at the next landing (R406) -/
  handoverReq : Bool
  /-- RELEASING: the tick h of the handover landing -/
  handoverAt : Option Nat
  /-- the next landing is a takeover landing (R420) -/
  takeoverDue : Bool
  /-- epoch being received: its tick, and its data frames by FRAME_SEQ -/
  inTick : Option Nat
  inFrames : Tab (List Byte)
  /-- last epoch whose trailer was taken: further copies of its frames are ignored -/
  inDone : Option Nat
  /-- records committed and still to be applied at the next landing (R418) -/
  bank : List MirrorRec
  /-- epoch being sent: its tick, BASE, record stream, FULL, FINAL -/
  sending : Option (Nat × Nat × List Byte × Bool × Bool)
  /-- snapshots kept, newest first: tick and every mirrored item -/
  snaps : List (Nat × List MirrorRec)
  /-- a heartbeat carried FULL_REQ since the last snapshot -/
  fullAsked : Bool
  /-- watchdog: local TIME count at the last kick -/
  wdogSince : Time
  /-- mirrored queue records (QID, state, cause, head, tail) and ended bindings, recorded on a standby (R418) -/
  queueRecs : List (Nat × Nat × Nat × Nat × Nat)
  bindRecs : List (Nat × Nat × Nat × Nat × Nat)
  /-- bindings ended on the active: queue, index, TAG, STATUS, and the epoch that carried the end (R325) -/
  ends : List (Nat × Nat × Nat × Nat × Option Nat)
  deriving DecidableEq, Repr

/-! ### Power and clocks (17_crossings_power) -/

/-- A completion record held while its function is in D3hot (R499): ring, fields, and the entry it completes. -/
structure HeldWrite where
  ring : Nat
  tag : Nat
  status : Nat
  qid : Nat
  amend : Bool
  info : Nat
  idx : Option Nat
  deriving DecidableEq, Repr

/-- Clocks, links and power states beside their registers. -/
structure PwrSt where
  /-- PLLs stopped (0 CORE, 1 PRZ, 2 TIME, 3 MGT) -/
  stopped : List Nat
  /-- link state of PCIe link 0 and 1: 0 down, 1 L0, 2 L1 -/
  link0 : Nat
  link1 : Nat
  /-- PME_En of PF0, PF1, PF7 -/
  pmeEn : List Nat
  /-- power state in force by unit state board entry (R490) -/
  states : Tab Nat
  /-- records held for functions in D3hot, oldest first -/
  held : List HeldWrite
  /-- toggle crossings used (R483): when the last event that was no merge came, and the number of its free value -/
  xings : Tab (Option (Time × Nat))
  /-- free values taken so far: the model's own counter (log entry 72) -/
  draws : Nat
  /-- AON runs on its internal oscillator (R518) -/
  internalOsc : Bool
  /-- a rail is outside its recommended range (R511, R513) -/
  railOut : Bool
  /-- the management cores are in reset (R476) -/
  mgtReset : Bool
  /-- the management reset runs stage 3 again (R476) -/
  mgtReload : Bool
  /-- stage 3 of a management reset accepted no copy: the boot ROM serves FW_LOAD (R459, R476) -/
  mgtRom : Bool
  deriving DecidableEq, Repr

/-- The latch and the held words of one requester (R487, R488). -/
structure WideSt where
  req : Requester
  /-- register of the last low-half or first-word read, and the words latched after it -/
  latchReg : Option Nat
  latched : List Reg
  /-- register of the held low words, and the words held by word number -/
  heldReg : Option Nat
  held : List (Nat × Reg)
  deriving DecidableEq, Repr

/-! ### Boot, fuses and management (16_boot_security_management) -/

/-- The fuse array (R462): both copies of every field programmed twice, and the UDS. -/
structure FuseSt where
  keyHash1 : List (List Byte)
  keyHash2 : List (List Byte)
  revoke1 : BitVec 4
  revoke2 : BitVec 4
  /-- ROLLBACK as thermometers -/
  rollback1 : BitVec 64
  rollback2 : BitVec 64
  uds : List Byte
  /-- the UDS reads without an uncorrectable error -/
  udsOk : Bool
  deviceCert : List Byte
  deriving DecidableEq, Repr

/-- An ECDSA P-384 key pair (R467): the private scalar d, and the octets of the public point. -/
structure KeyPair where
  scalar : Nat
  point : List Byte
  deriving DecidableEq, Repr

/-- Boot and identity beside their registers. -/
structure BootSt where
  /-- the last stage of R455 the boot has passed or, for 6, begun; 0 while PORST_N is low or after a thermal shutdown -/
  stage : Nat
  /-- shut down by TEMP_CRIT until PORST_N (R479) -/
  shutdown : Bool
  /-- the fuse array -/
  fuses : FuseSt
  /-- SPI NOR contents by offset (R457); an octet nothing has written reads 0xFF, as erased flash -/
  nor : Tab Byte
  /-- image being loaded by FW_LOAD (R459) -/
  ram : Tab Byte
  /-- copies not yet tried in this boot, first to try first -/
  toTry : List Nat
  /-- CDI (R466), empty before stage 4 and once it is erased (R460) -/
  cdi : List Byte
  udsLocked : Bool
  /-- the DeviceID and Alias keys (R467), none without identity; the former is erased before the firmware starts (R460) -/
  deviceKey : Option KeyPair
  aliasKey : Option KeyPair
  /-- the Alias certificate that this boot issued (R468) -/
  aliasCert : List Byte
  /-- the firmware image that runs: its bytes -/
  firmware : List Byte
  /-- code of the last FW_VERIFY (R473) -/
  lastVerify : Option Nat
  /-- a SYS_RESET was asked for: the local TIME count at which the warm reset comes (R473) -/
  resetAt : Option Time
  /-- THERMTRIP_N is driven low (R479) -/
  thermtrip : Bool
  deriving DecidableEq, Repr

/-- The management services beside their registers. -/
structure MgtSt where
  /-- entries with a management-view override (R475) -/
  overrides : List Nat
  /-- length announced for a mailbox request in progress, by mailbox (R472) -/
  requests : Tab Nat
  /-- the firmware's log: sequence number and text (R473) -/
  log : List (Nat × List Byte)
  /-- IPv4 address, mask and gateway of the SGMII port (R473) -/
  net : List Byte
  /-- MCTP endpoint ID by binding (R471) -/
  eid : Tab Nat
  /-- SPDM connection state by binding (R471): 0 none, 1 version, 2 capabilities, 3 algorithms -/
  spdm : Tab Nat
  /-- digest of the last amendment applied (R470) -/
  amendDigest : List Byte
  deriving DecidableEq, Repr

/-! ### Stops -/

/-- How the machine could stop with a fault. No rule of the spec stops the device, so no command raises it. -/
inductive Fault where
  /-- raised by no command (safe) -/
  | none
  deriving DecidableEq, Repr

/-- Why a command has no meaning. -/
inductive Refusal where
  /-- raised by the dispatch for a command whose meaning is not written (safe) -/
  | notModelled (mnemonic : String)
  deriving DecidableEq, Repr

/-! ### The machine -/

/-- The state of the device. -/
structure State where
  /-- commands waiting, first in, first out -/
  pending : List Instr
  /-- every BAR0 register by key (see Regs); unlisted ones hold their reset value -/
  regs : Tab Reg
  /-- registers written since the last landing whose rule delays them: key and value still in force (R3) -/
  stale : List (Nat × Reg)
  /-- DDR4 (R386): octets by address -/
  mem : Tab Byte
  plan : PlanSt
  tick : TickSt
  tbs : List TbSt
  /-- peer delays, by time base times 256 plus port -/
  peers : Tab PeerDelay
  pps : PpsSt
  queues : Tab QueueSt
  /-- completion slots reserved, by ring (R349) -/
  slots : Tab Nat
  /-- rings that stalled an entry since the last landing (R349) -/
  stalled : List Nat
  /-- CSR_CMD entries whose command is being issued (1) or still runs (the key of its job), with queue and index (R339) -/
  csrWait : List (Nat × Nat × Nat)
  tx : TxSt
  prz : PrzSt
  dma : DmaSt
  str : StrSt
  ddr : MemSt
  fcr : FcrSt
  rdn : RdnSt
  pwr : PwrSt
  boot : BootSt
  mgt : MgtSt
  wide : List WideSt
  /-- the local TIME count (R106), in 2^-48 ns -/
  clock : Time
  /-- what left the device, newest first (the model's own; log entry 4) -/
  out : List Emission
  deriving DecidableEq, Repr

/-! ### Reset -/

/-- A time base at the release of PORST_N (R110): it runs in FREE from count 0. -/
def TbSt.reset : TbSt := ⟨0, 0, 0, 0, 0, 0, false, [], [], none, none, 0, none, none, 0, false, 0, 0, false, 0⟩

/-- A D port no follower has reported on. -/
def Child.reset : Child := ⟨false, 0, false, false, 0, false, 0⟩

/-- A fuse array nothing was programmed into (log entry 7). -/
def FuseSt.blank : FuseSt :=
  ⟨List.replicate 4 (List.replicate 48 0), List.replicate 4 (List.replicate 48 0), 0, 0, 0, 0, List.replicate 48 0, true, []⟩

/-- The floor-plan block without a plan. -/
def PlanSt.reset : PlanSt := ⟨none, none, none, 0, 0, false, false, [], none, none, [], false⟩

/-- The tick block before a plan. -/
def TickSt.reset : TickSt where
  tb := 0
  delta := 0
  reqs := []
  actNext := []
  snapEntries := []
  snapKinds := []
  snapTick := none
  snapReady := false
  snapPending := false
  verdict := none
  missedTo := none
  cutTick := none
  child0 := Child.reset
  child1 := Child.reset
  goodRun := 0
  badCrc := 0
  badFrames := 0
  lockBy := none
  calCount := 0
  calSum := 0
  calOut := false
  recal := false
  recalCmd := false
  calTicks := 0
  parentUnlocked := false
  frameUnlocked := false
  frameTick := 0
  frameStep := false
  nextEdge := none
  calAt := 0
  everLocked := false
  resync := false
  history := []

/-- The pair block before a plan. -/
def RdnSt.reset : RdnSt where
  peerIn := false
  freeSince := 0
  peerReleased := false
  startUp := false
  claimAt := 0
  claimCmd := false
  hbSeen := false
  hbFlags := 0
  hbTick := none
  outUntil := 0
  handoverReq := false
  handoverAt := none
  takeoverDue := false
  inTick := none
  inFrames := []
  inDone := none
  bank := []
  sending := none
  snaps := []
  fullAsked := false
  wdogSince := 0
  queueRecs := []
  bindRecs := []
  ends := []

/-- Boot and identity at the release of PORST_N, fuses sensed, with blank stores (log entry 7). -/
def BootSt.reset : BootSt where
  stage := 1
  shutdown := false
  fuses := FuseSt.blank
  nor := []
  ram := []
  toTry := []
  cdi := []
  udsLocked := false
  deviceKey := none
  aliasKey := none
  aliasCert := []
  firmware := []
  lastVerify := none
  resetAt := none
  thermtrip := false

/-- The machine right after the release of PORST_N (R110, R455): every register at its reset value, no plan, and the boot
past its first stage. -/
def State.reset : State where
  pending := []
  regs := []
  stale := []
  mem := []
  plan := PlanSt.reset
  tick := TickSt.reset
  tbs := List.replicate 8 TbSt.reset
  peers := []
  pps := ⟨none, none⟩
  queues := []
  slots := []
  stalled := []
  csrWait := []
  tx := ⟨[], [], [], 0, [], [], [], []⟩
  prz := ⟨[], [], [], []⟩
  dma := ⟨[], 255, 255⟩
  str := ⟨[], [], [], [], [], 0, []⟩
  ddr := ⟨[], []⟩
  fcr := ⟨[], false, [], [], false, [], [], [], [], [], []⟩
  rdn := RdnSt.reset
  pwr := ⟨[], 0, 0, [], [], [], [], 0, false, false, false, false, false⟩
  boot := BootSt.reset
  mgt := ⟨[], [], [], [], [], [], []⟩
  wide := []
  clock := 0
  out := []

end Sys2Proof.Machine
end

