-- ==== Sys2Proof/Machine/Ops.lean ====
section
/-! DEFINITION. The named operations on the state that every block uses: registers and their fields, saturating
counters, DDR4, the current tick, free values and what leaves the device. -/

namespace Sys2Proof.Machine

/-! ### Registers -/

/-- The register at key `k`. -/
def State.rd (s : State) (k : Nat) : Reg := Tab.get regReset s.regs k

/-- Write the register at key `k`. -/
def State.wr (s : State) (k : Nat) (v : Reg) : State := { s with regs := Tab.put regReset s.regs k v }

/-- The register at key `k` as a number. -/
def State.rdN (s : State) (k : Nat) : Nat := (s.rd k).toNat

/-- Write a number to the register at key `k`, cut to 32 bits. -/
def State.wrN (s : State) (k : Nat) (v : Nat) : State := s.wr k (BitVec.ofNat 32 v)

/-- Field `[hi:lo]` of the register at key `k`. -/
def State.getF (s : State) (k hi lo : Nat) : Nat := fld (s.rd k) hi lo

/-- Set field `[hi:lo]` of the register at key `k`. -/
def State.setF (s : State) (k hi lo v : Nat) : State := s.wr k (withFld (s.rd k) hi lo v)

/-- Bit `i` of the register at key `k`. -/
def State.bit (s : State) (k i : Nat) : Bool := rbit (s.rd k) i

/-- Set or clear bit `i` of the register at key `k`. -/
def State.setBit (s : State) (k i : Nat) (b : Bool) : State := s.wr k (withBit (s.rd k) i b)

/-- Hardware sets bit `i` of a register of type RW1C: the bit is set after the present edge, whatever software clears on it
(R5). -/
def State.hwSet (s : State) (k i : Nat) : State :=
  let t := s.setBit k i true
  if s.fcr.setNow.contains (k, i) then t else { t with fcr := { t.fcr with setNow := (k, i) :: t.fcr.setNow } }

/-- The bits of the register at key `k` that hardware set on the present edge. -/
def State.setNowOf (s : State) (k : Nat) : Reg :=
  s.fcr.setNow.foldl (fun r e => if e.1 = k then r ||| (1#32 <<< e.2) else r) 0

/-- The 64-bit quantity at key `k`: low half first (R6). -/
def State.rd64 (s : State) (k : Nat) : Nat := s.rdN k + 2 ^ 32 * s.rdN (k + 4)

/-- Write a 64-bit quantity. -/
def State.wr64 (s : State) (k : Nat) (v : Nat) : State := (s.wrN k v).wrN (k + 4) (v / 2 ^ 32)

/-- Write consecutive registers. -/
def State.wrWords (s : State) (k : Nat) : List Reg → State
  | [] => s
  | w :: ws => (s.wr k w).wrWords (k + 4) ws

/-- Read `n` consecutive registers as octets, little-endian (R2). -/
def State.rdBytes (s : State) (k : Nat) : Nat → List Byte
  | 0 => []
  | n + 1 => leBytes 4 (s.rdN k) ++ s.rdBytes (k + 4) n

/-- Count `n` more in a 32-bit counter that saturates. -/
def State.incBy (s : State) (k n : Nat) : State := s.wrN k (satAdd 32 (s.rdN k) n)

/-- Count one in a 32-bit counter that saturates. -/
def State.inc (s : State) (k : Nat) : State := s.incBy k 1

/-- Count `n` more in a 64-bit counter that saturates. -/
def State.inc64By (s : State) (k n : Nat) : State := s.wr64 k (satAdd 64 (s.rd64 k) n)

/-- Count one in a 64-bit counter that saturates. -/
def State.inc64 (s : State) (k : Nat) : State := s.inc64By k 1

/-- Count one in field `[hi:lo]`, which saturates. -/
def State.incF (s : State) (k hi lo : Nat) : State := s.setF k hi lo (satAdd (hi + 1 - lo) (s.getF k hi lo) 1)

/-- A register whose writes take effect at the next landing: the value now in force. -/
def State.inForce (s : State) (k : Nat) : Reg :=
  match s.stale.find? (fun e => e.1 == k) with
  | some e => e.2
  | none => s.rd k

/-- Write a register whose rule delays it to the next landing: the value in force is kept until then. -/
def State.wrLater (s : State) (k : Nat) (v : Reg) : State :=
  let s1 := s.wr k v
  if s.stale.any (fun e => e.1 == k) then s1 else { s1 with stale := (k, s.rd k) :: s1.stale }

/-! ### DDR4 -/

/-- What a DDR4 octet nothing has written reads as (log entry 5). -/
def memInit (_ : Nat) : Byte := 0

/-- One octet of DDR4. -/
def State.memGet (s : State) (a : Nat) : Byte := Tab.get memInit s.mem a

/-- Write one octet of DDR4. -/
def State.memPut (s : State) (a : Nat) (b : Byte) : State := { s with mem := Tab.put memInit s.mem a b }

/-- Write octets of DDR4 from address `a` up. -/
def State.memWrite (s : State) (a : Nat) : List Byte → State
  | [] => s
  | b :: bs => (s.memPut a b).memWrite (a + 1) bs

/-- Read `n` octets of DDR4 from address `a` up. -/
def State.memRead (s : State) (a : Nat) : Nat → List Byte
  | 0 => []
  | n + 1 => s.memGet a :: s.memRead (a + 1) n

/-! ### Tick, free values, what leaves the device -/

/-- The current tick (TICK.NOW, R37). -/
def State.now (s : State) : Nat := s.rd64 R.tickNow

/-- The full tick a stored 32-bit tick field names, nearest to the current tick (R71). -/
def State.fullTick (s : State) (t : Nat) : Nat := ((s.now : Int) + tickDiff t s.now).toNat

/-- Put something on a wire. -/
def State.emit (s : State) (e : Emission) : State := { s with out := e :: s.out }

end Sys2Proof.Machine

namespace Sys2Proof

/-! ### Requesters -/

/-- The function number of FUNC fields (0, 1, 7), virtual functions under their parent. -/
def Requester.func : Requester → Nat
  | .pf0 => 0
  | .pf1 => 1
  | .vf p _ => p.toNat
  | .pf7 _ => 7
  | .mgmt => 7
  | .wq _ => 0

/-- The virtual function number, 0 for a physical function. -/
def Requester.vfNum : Requester → Nat
  | .vf _ n => n
  | _ => 0

/-- The requester a FUNC and VF pair names. -/
def requesterOf (func vf : Nat) : Requester :=
  if vf = 0 then (if func = 0 then .pf0 else if func = 1 then .pf1 else .pf7 false)
  else .vf (func == 1) vf

/-- Function `func`, virtual function `vf` is the one the requester acts for (R48, R358). -/
def Requester.owns (r : Requester) (func vf : Nat) : Bool := r.func == func && r.vfNum == vf

/-- The number of a function's MSI-X tables: PF0, PF1, PF7, then the virtual functions. -/
def Requester.fnKey : Requester → Nat
  | .pf0 => 0
  | .pf1 => 1
  | .pf7 _ => 2
  | .vf p n => 3 + p.toNat * 128 + (n - 1)
  | .mgmt => 2
  | .wq _ => 0

end Sys2Proof

namespace Sys2Proof.Machine

/-- What a meaning answers. -/
abbrev Answer := Host.Outcome State Fault Refusal

/-- The answer of a meaning that always gives a next state. -/
def Answer.state (a : Answer) (s : State) : State :=
  match a with
  | .next x => x
  | _ => s

end Sys2Proof.Machine
end

