-- ==== Sys2Proof/Machine/Operands.lean ====
section
/-! DEFINITION. The operand forms the device reads from the floor plan: the sections' records and fields
(02_floor_plan, after R44), read from the section bodies on demand. -/

namespace Sys2Proof.Machine

/-- The section types of R44 that the device uses. -/
abbrev Sect.portMap : Nat := 0x0001
/-- GALLERY -/
abbrev Sect.gallery : Nat := 0x0002
/-- PRISM -/
abbrev Sect.prism : Nat := 0x0003
/-- COEFF -/
abbrev Sect.coeff : Nat := 0x0004
/-- TICK -/
abbrev Sect.tick : Nat := 0x0005
/-- TIME_BASE -/
abbrev Sect.timeBase : Nat := 0x0006
/-- MODES -/
abbrev Sect.modes : Nat := 0x0007
/-- QUEUES -/
abbrev Sect.queues : Nat := 0x0008
/-- STREAMS -/
abbrev Sect.streams : Nat := 0x0009
/-- PANE_GROUP -/
abbrev Sect.paneGroup : Nat := 0x000A
/-- EVENT_MAP -/
abbrev Sect.eventMap : Nat := 0x000B
/-- FAULT_CLASS -/
abbrev Sect.faultClass : Nat := 0x000C
/-- PAIR -/
abbrev Sect.pair : Nat := 0x000D
/-- WAKE_GROUPS -/
abbrev Sect.wakeGroups : Nat := 0x000E
/-- SCHEDULE -/
abbrev Sect.schedule : Nat := 0x000F
/-- TICK_ACTIONS -/
abbrev Sect.tickActions : Nat := 0x0010
/-- MEM_REGIONS -/
abbrev Sect.memRegions : Nat := 0x0011

/-- The body of section (`typ`, `inst`) of an image. -/
def Image.body? (im : Image) (typ inst : Nat) : Option (List Byte) :=
  (im.sections.find? (fun x => x.typ == typ && x.inst == inst)).map (·.body)

/-- The body of a section, empty when the image has none (every field then reads 0). -/
def Image.body (im : Image) (typ inst : Nat) : List Byte := (im.body? typ inst).getD []

/-- The image has section (`typ`, `inst`). -/
def Image.has (im : Image) (typ inst : Nat) : Bool := (im.body? typ inst).isSome

/-- Records of `n` octets of a body. -/
def records (n : Nat) (count : Nat) (b : List Byte) : List (List Byte) :=
  match count with
  | 0 => []
  | c + 1 => slice b 0 n :: records n c (b.drop n)

/-- All whole records of `n` octets of a body. -/
def allRecords (n : Nat) (b : List Byte) : List (List Byte) := records n (b.length / n) b

/-- An image without sections: what the accessors read while no plan is active. -/
def Image.blank : Image := ⟨false, 0, 0, 0, 0, [], []⟩

/-- The active full plan, an empty image in plan state NONE. -/
def State.im (s : State) : Image := s.plan.active.getD Image.blank

/-- A plan is active. -/
def State.hasPlan (s : State) : Bool := s.plan.active.isSome

/-! ### PORT_MAP (R45) -/

/-- A PORT_MAP record. -/
structure PortRec where
  port : Nat
  firstLane : Nat
  lanes : Nat
  speed : Nat
  fec : Nat
  role : Nat
  partner : Nat
  preempt : Nat
  express : Nat
  wake : Nat
  mtu : Nat
  deriving DecidableEq, Repr

/-- Read a PORT_MAP record. -/
def parsePort (r : List Byte) : PortRec :=
  ⟨leAt r 0 1, leAt r 1 1, leAt r 2 1, leAt r 3 1, leAt r 4 1, leAt r 5 1, leAt r 6 1, leAt r 7 1, leAt r 8 1,
    leAt r 9 1, leAt r 10 2⟩

/-- The record of port `p`. -/
def Image.port (im : Image) (p : Nat) : PortRec := parsePort (slice (im.body Sect.portMap 0) (16 * p) 16)

/-- The record of port `p` in the active plan. -/
def State.portRec (s : State) (p : Nat) : PortRec := s.im.port p

/-- The plan uses port `p`. -/
def State.portUsed (s : State) (p : Nat) : Bool := p < 128 && (s.portRec p).lanes != 0

/-- The gallery of port `p`. -/
def State.portGallery (s : State) (p : Nat) : Nat := (s.portRec p).firstLane / 16

/-- The ports a plan uses, in rising order. -/
def Image.ports (im : Image) : List Nat := (List.range 128).filter (fun p => (im.port p).lanes != 0)

/-- Speed of a SPEED code in Mb/s. -/
def speedMbps (code : Nat) : Nat :=
  match code with
  | 0 => 1000
  | 1 => 10000
  | 2 => 25000
  | 3 => 50000
  | 4 => 100000
  | 5 => 200000
  | _ => 400000

/-! ### GALLERY (R46) -/

/-- A GALLERY record. -/
structure GalRec where
  twin : Nat
  pktKib : Nat
  firstSh : Nat
  shCount : Nat
  histKib : Nat
  deriving DecidableEq, Repr

/-- The record of gallery `g`. -/
def Image.gallery (im : Image) (g : Nat) : GalRec :=
  let r := slice (im.body Sect.gallery 0) (32 * g) 32
  ⟨leAt r 1 1, leAt r 4 4, leAt r 8 4, leAt r 12 4, leAt r 16 4⟩

/-- The gallery a handle is homed in (R46). -/
def Image.homeOf (im : Image) (sh : Nat) : Option Nat :=
  (List.range 8).find? (fun g =>
    let r := im.gallery g
    decide (r.firstSh ≤ sh) && decide (sh < r.firstSh + r.shCount))

/-- Gallery `g` holds a port of the plan. -/
def Image.galHasPort (im : Image) (g : Nat) : Bool := im.ports.any (fun p => (im.port p).firstLane / 16 == g)

/-! ### PRISM and COEFF (R47) -/

/-- SETS of PRISM, set 0 included. -/
def Image.coefSets (im : Image) : Nat := leAt (im.body Sect.prism 0) 8 1

/-- The default reorder window. -/
def Image.reorder (im : Image) : Nat := leAt (im.body Sect.prism 0) 9 1

/-! Coefficient set 0 (R276) is evaluated in fixed point with 160 fraction bits. No coefficient depends on the error of
the evaluation (log entry 12). -/

/-- 1 in fixed point. -/
def fxOne : Int := 2 ^ 160

/-- The square of pi in fixed point. -/
def fxPiSquare : Int :=
  3141592653589793238462643383279502884197169399375105820974944592307816406286 ^ 2 * fxOne / 10 ^ 150

/-- The sum of `n` terms of the series of sin(x) / x from term `k`, which is `t`; `z` is x squared. -/
def sincSeries (z : Int) : Nat → Nat → Int → Int
  | 0, _, _ => 0
  | n + 1, k, t => t + sincSeries z n (k + 1) (-(t * z / (fxOne * ((2 * k + 2) * (2 * k + 3) : Nat))))

/-- sinc(0.9 * t) of R276, with t = `u` / 256. -/
def fxSinc (u : Int) : Int := sincSeries (fxPiSquare * 81 * u ^ 2 / (100 * 2 ^ 16)) 80 0 fxOne

/-- The sum of `n` terms of the series of I0(8 * sqrt(1 - (t / 8)^2)) from term `k`, which is `x`; `w` is 2^22 - (256 * t)^2. -/
def besselSeries (w : Int) : Nat → Nat → Int → Int
  | 0, _, _ => 0
  | n + 1, k, x => x + besselSeries w n (k + 1) (x * w / (2 ^ 18 * (k + 1) ^ 2 : Nat))

/-- I0(8 * sqrt(1 - (t / 8)^2)) of R276, with t = `u` / 256. -/
def fxBessel (u : Int) : Int := besselSeries (2 ^ 22 - u ^ 2) 60 0 fxOne

/-- The 16 values h_j of a phase, up to a factor that g_j does not depend on. -/
def kaiserRow (phase : Nat) : List Int :=
  (List.range 16).map (fun (j : Nat) => let u := 256 * ((j : Int) - 7) - phase; fxSinc u * fxBessel u)

/-- The lowest place of the largest entry of a list. -/
def largestAt (l : List Int) : Nat := l.findIdx (fun x => l.all (fun y => decide (y ≤ x)))

/-- The coefficients of a phase in set 0: rounded, and the largest one takes what the sum lacks to 131,072. -/
def coefRowZero (phase : Nat) : List Int :=
  let h := kaiserRow phase
  let q := h.map (fun x => roundHalfEven (131072 * x) (h.foldl (· + ·) 0).toNat)
  q.modify (largestAt h) (· + (131072 - q.foldl (· + ·) 0))

/-- The coefficient of (`phase`, `tap`) in coefficient set `k` (R47, R276). -/
def Image.coef (im : Image) (k phase tap : Nat) : Int :=
  if k = 0 then (coefRowZero phase).getD tap 0
  else signed 32 (leAt (im.body Sect.coeff k) (4 * (16 * phase + tap)) 4)

/-! ### TICK -/

/-- The TICK section. -/
structure TickRec where
  periodNs : Nat
  periodFrac : Nat
  role : Nat
  lateWin : Nat
  tb : Nat
  devIndex : Nat
  hallId : Nat
  deriving DecidableEq, Repr

/-- The TICK section of an image. -/
def Image.tick (im : Image) : TickRec :=
  let b := im.body Sect.tick 0
  ⟨leAt b 0 4, leAt b 4 4, leAt b 8 1, leAt b 9 1, leAt b 10 1, leAt b 11 1, leAt b 12 2⟩

/-! ### TIME_BASE -/

/-- A TIME_BASE section. -/
structure TbRec where
  domain : Nat
  profile : Nat
  ppsOut : Nat
  ref : Nat
  stepLimit : Nat
  slewMax : Nat
  ports : Nat
  deriving DecidableEq, Repr

/-- The TIME_BASE section of time base `n`. -/
def Image.timeBase (im : Image) (n : Nat) : TbRec :=
  let b := im.body Sect.timeBase n
  ⟨leAt b 0 1, leAt b 1 1, leAt b 2 1, leAt b 3 1, leAt b 4 4, leAt b 8 2, leAt b 16 16⟩

/-- Time base `n` has a section. -/
def Image.hasTb (im : Image) (n : Nat) : Bool := im.has Sect.timeBase n

/-- PORTS of time base `n` names port `p`. -/
def Image.tbPort (im : Image) (n p : Nat) : Bool := (im.timeBase n).ports.testBit p

/-! ### MODES (R32, R33) -/

/-- Bit `n` of the MODES field at octet `o` in a MODES body. -/
def modeBit (b : List Byte) (o n : Nat) : Bool := (slice b (o + n / 8) 1).head!.getLsbD (n % 8)

/-- Gallery `g` is in host-assisted TSTAMP mode. -/
def State.hostTstamp (s : State) (g : Nat) : Bool := modeBit s.plan.modes 0 g
/-- Time base `n` is in host-assisted SERVO mode. -/
def State.hostServo (s : State) (n : Nat) : Bool := modeBit s.plan.modes 1 n
/-- Wake group `g` is in host-assisted PWR mode. -/
def State.hostPwr (s : State) (g : Nat) : Bool := modeBit s.plan.modes 2 g
/-- Fault group `k` is in host-assisted FAULT_REACT mode. -/
def State.hostFault (s : State) (k : Nat) : Bool := s.bit (R.fcrGMode k) 0
/-- Port `p` is in host-assisted GATE_SWAP mode. -/
def State.hostSwap (s : State) (p : Nat) : Bool := modeBit s.plan.modes 8 p
/-- GOOSE control block `i` is in host-assisted GOOSE_RPT mode. -/
def State.hostGoose (s : State) (i : Nat) : Bool := modeBit s.plan.modes 24 i

/-! ### QUEUES (R48) -/

/-- A submission-queue record. -/
structure SqRec where
  qid : Nat
  kind : Nat
  func : Nat
  vf : Nat
  log2 : Nat
  cring : Nat
  port : Nat
  tc : Nat
  act : Bool
  abort : Bool
  deriving DecidableEq, Repr

/-- A completion-ring record. -/
structure CrRec where
  rid : Nat
  func : Nat
  vf : Nat
  log2 : Nat
  deriving DecidableEq, Repr

/-- Read a submission-queue record. -/
def parseSq (r : List Byte) : SqRec :=
  ⟨leAt r 0 2, leAt r 2 1, leAt r 3 1, leAt r 4 1, leAt r 5 1, leAt r 6 2, leAt r 8 1, leAt r 9 1,
    leAt r 10 1 == 1, leAt r 11 1 == 1⟩

/-- Read a completion-ring record. -/
def parseCr (r : List Byte) : CrRec := ⟨leAt r 0 2, leAt r 2 1, leAt r 3 1, leAt r 4 1⟩

/-- The submission-queue records. -/
def Image.sqs (im : Image) : List SqRec :=
  let b := im.body Sect.queues 0
  (records 16 (leAt b 0 2) (b.drop 8)).map parseSq

/-- The completion-ring records. -/
def Image.crs (im : Image) : List CrRec :=
  let b := im.body Sect.queues 0
  (records 8 (leAt b 2 2) (b.drop (8 + 16 * leAt b 0 2))).map parseCr

/-- Virtual functions of PF0 and PF1. -/
def Image.vfCount (im : Image) (ofPf1 : Bool) : Nat := leAt (im.body Sect.queues 0) (4 + ofPf1.toNat) 1

/-- The record of queue `q`. -/
def State.sq? (s : State) (q : Nat) : Option SqRec := s.im.sqs.find? (·.qid == q)

/-- The record of completion ring `r`. -/
def State.cr? (s : State) (r : Nat) : Option CrRec := s.im.crs.find? (·.rid == r)

/-! ### STREAMS -/

/-- A STREAMS record. -/
structure StreamRec where
  sh : Nat
  method : Nat
  dest : Nat
  destIdx : Nat
  recovery : Nat
  channels : Nat
  histLen : Nat
  policer : Nat
  resetNs : Nat
  pathOfs : Int
  inRate : Nat
  key : List Byte
  deriving DecidableEq, Repr

/-- Read a STREAMS record. -/
def parseStream (r : List Byte) : StreamRec :=
  ⟨leAt r 0 2, leAt r 2 1, leAt r 3 1, leAt r 4 2, leAt r 6 1, leAt r 7 1, leAt r 8 2, leAt r 10 2, leAt r 12 4,
    signed 32 (leAt r 16 4), leAt r 20 4, slice r 24 24⟩

/-- The configured stream handles. -/
def Image.streams (im : Image) : List StreamRec := (allRecords 48 (im.body Sect.streams 0)).map parseStream

/-- The record of handle `sh`. -/
def State.stream? (s : State) (sh : Nat) : Option StreamRec := s.im.streams.find? (·.sh == sh)

/-! ### PANE_GROUP -/

/-- A PANE_GROUP section: its head, and its members as handle and channel mask. -/
structure PgRec where
  spt : Nat
  lag : Nat
  raw : Bool
  coefSet : Nat
  link : Nat
  holdNs : Nat
  depth : Nat
  region : Nat
  dmaCh : Nat
  members : List (Nat × Nat)
  deriving DecidableEq, Repr

/-- Read a PANE_GROUP body. -/
def parsePg (b : List Byte) : PgRec :=
  ⟨leAt b 0 4, leAt b 4 1, leAt b 5 1 == 1, leAt b 6 1, leAt b 7 1, leAt b 8 4, leAt b 12 4, leAt b 16 1, leAt b 17 1,
    (records 8 (leAt b 18 2) (b.drop 32)).map (fun r => (leAt r 0 2, leAt r 4 4))⟩

/-- The section of pane group `g`. -/
def Image.pg? (im : Image) (g : Nat) : Option PgRec := (im.body? Sect.paneGroup g).map parsePg

/-- The section of pane group `g` in the active plan. -/
def State.pg? (s : State) (g : Nat) : Option PgRec := s.im.pg? g

/-- The pane groups of an image, in rising order. -/
def Image.pgs (im : Image) : List Nat := (List.range 256).filter (im.has Sect.paneGroup)

/-! ### PAIR -/

/-- The PAIR section. -/
structure PairRec where
  pairId : Nat
  mirrorA : Nat
  mirrorB : Nat
  guardNs : Nat
  sqGuard : Nat
  hbTicks : Nat
  compatId : Nat
  deriving DecidableEq, Repr

/-- The PAIR section of an image. -/
def Image.pair? (im : Image) : Option PairRec :=
  (im.body? Sect.pair 0).map (fun b =>
    ⟨leAt b 0 2, leAt b 2 1, leAt b 3 1, leAt b 4 2, leAt b 6 2, leAt b 8 2, leAt b 12 4⟩)

/-- The active plan has a PAIR section. -/
def State.hasPair (s : State) : Bool := s.im.has Sect.pair 0

/-! ### WAKE_GROUPS -/

/-- TOL_NS and UNITS of wake group `g`. -/
def Image.wakeGroup (im : Image) (g : Nat) : Nat × Nat :=
  let r := slice (im.body Sect.wakeGroups 0) (40 * g) 40
  (leAt r 0 4, leAt r 4 32)

/-- The wake group of unit state board entry `u`. -/
def Image.groupOf (im : Image) (u : Nat) : Option Nat :=
  (List.range 16).find? (fun g => (im.wakeGroup g).2.testBit u)

/-! ### TICK_ACTIONS -/

/-- FIRST and the entries of a TICK_ACTIONS body. -/
def tickActions (b : List Byte) : Nat × List (List Byte) := (leAt b 0 2, records 16 (leAt b 2 2) (b.drop 8))

/-! ### MEM_REGIONS (R49) -/

/-- A MEM_REGIONS record. -/
structure RegionRec where
  region : Nat
  kind : Nat
  chMask : Nat
  base : Nat
  size : Nat
  deriving DecidableEq, Repr

/-- The regions of an image. -/
def Image.regions (im : Image) : List RegionRec :=
  (allRecords 24 (im.body Sect.memRegions 0)).map
    (fun r => ⟨leAt r 0 1, leAt r 1 1, leAt r 2 2, leAt r 8 8, leAt r 16 8⟩)

/-- Region `n` of an image. -/
def Image.region? (im : Image) (n : Nat) : Option RegionRec := im.regions.find? (·.region == n)

/-- The first region of kind `k`. -/
def Image.regionOfKind? (im : Image) (k : Nat) : Option RegionRec := im.regions.find? (·.kind == k)

end Sys2Proof.Machine
end

