-- ==== Sys2Proof/Machine/Ports.lean ====
section
/-! DEFINITION. Ports beside their registers: the link state, preemption, and what stands on a line (R151, R156, R166 to
R169). -/

namespace Sys2Proof.Machine

/-- States of PRT.P[p].STATUS.LINK (R151). -/
abbrev Link.disabled : Nat := 0
/-- TRAINING -/
abbrev Link.training : Nat := 1
/-- ALIGNING -/
abbrev Link.aligning : Nat := 2
/-- UP -/
abbrev Link.up : Nat := 3
/-- FAULT -/
abbrev Link.fault : Nat := 4

/-- LINK of port `p`. -/
def State.link (s : State) (p : Nat) : Nat := s.getF (R.prtPStatus p) 2 0

/-- Time `n` octets take on port `p` (R219: τ is 8 bits over the port speed). -/
def State.octets (s : State) (p n : Nat) : Time :=
  ceilDiv (n * 8000 * ns48) (speedMbps (s.portRec p).speed)

/-- Whole octets that passed port `p` in a duration. -/
def State.octetsIn (s : State) (p : Nat) (d : Time) : Nat := (d * speedMbps (s.portRec p).speed / (8000 * ns48)).toNat

/-- A port nothing happened on. -/
def portInit (_ : Nat) : PortSt := ⟨0, none, none, false, [], 0, none, none, [], [], [], 0, 0⟩

/-- Port `p` beside its registers. -/
def State.port (s : State) (p : Nat) : PortSt := Tab.get portInit s.tx.ports p

/-- Replace port `p`. -/
def State.setPort (s : State) (p : Nat) (x : PortSt) : State :=
  { s with tx := { s.tx with ports := Tab.put portInit s.tx.ports p x } }

/-- addFragSize of port `p` (R166). -/
def State.addFrag (s : State) (p : Nat) : Nat := s.getF (R.prtPMmCfg p) 2 1

/-- Preemption is active on port `p` (R166). -/
def State.preemptActive (s : State) (p : Nat) : Bool :=
  s.bit (R.prtPMmCfg p) 0 && s.link p == Link.up && (!s.bit (R.prtPMmCfg p) 3 || s.getF (R.prtPStatus p) 23 20 == 3)

/-- PREEMPT_ACTIVE follows R166; while preemption is inactive no hold stands (R224). -/
def State.settlePreempt (s : State) (p : Nat) : State :=
  let s1 := s.setBit (R.prtPStatus p) 19 (s.preemptActive p)
  if s.preemptActive p then s1 else s1.setBit (R.schPStatus p) 7 false

/-- Verify status codes (R167). -/
abbrev Verify.disabled : Nat := 0
/-- INITIAL -/
abbrev Verify.initial : Nat := 1
/-- VERIFYING -/
abbrev Verify.verifying : Nat := 2
/-- SUCCEEDED -/
abbrev Verify.succeeded : Nat := 3
/-- FAILED -/
abbrev Verify.failed : Nat := 4
/-- INACTIVE -/
abbrev Verify.inactive : Nat := 5

/-- VERIFY of a port that does not verify now: INACTIVE or DISABLED as MM_CFG says, and while the link is not UP it is INITIAL, or
the FAILED of the last UP (R167). -/
def State.verifyRest (s : State) (p : Nat) : Nat :=
  let cfg := s.rd (R.prtPMmCfg p)
  if !rbit cfg 0 then Verify.inactive else if !rbit cfg 3 then Verify.disabled
  else if s.getF (R.prtPStatus p) 23 20 = Verify.failed then Verify.failed else Verify.initial

/-- Traffic class `tc` is express on port `p` (R168). -/
def State.express (s : State) (p tc : Nat) : Bool := (s.portRec p).express.testBit tc

/-! ### Power states (R490 to R492) -/

/-- The wake group of board entry `u`: a port's from PORT_MAP, any other one's from WAKE_GROUPS. -/
def State.wakeGroupOf (s : State) (u : Nat) : Option Nat :=
  if u < 128 then (if s.portUsed u then some (s.portRec u).wake else none)
  else s.im.groupOf u

/-- The state of board entry `u`. -/
def State.powerState (s : State) (u : Nat) : Nat := Tab.get (fun _ => 0) s.pwr.states u

/-- Board entry `u` takes a state; a DDR4 channel shows its own in MEM.CH[c].STATUS.POWER. -/
def State.setPower (s : State) (u st : Nat) : State :=
  let s1 : State := { s with pwr := { s.pwr with states := Tab.put (fun _ => 0) s.pwr.states u st } }
  if 148 ≤ u ∧ u < 164 then s1.setF (R.memChStatus (u - 148)) 4 3 (st - 1) else s1

/-- Board entries that can leave P0. -/
def powerUnits : List Nat := List.range 136 ++ (List.range 16).map (148 + ·) ++ [228]

/-- PWR.SEL[g].STATE: the deepest state in force among the units of group `g`. -/
def State.settleSel (s : State) (g : Nat) : State :=
  s.setF (R.pwrSel g) 5 4
    (((powerUnits.filter (fun u => s.wakeGroupOf u == some g)).map s.powerState).foldl max 0)

/-- Board entry `u` is in P0 again: a demand on it, or a scheduled act, has ended its power state (R492). -/
def State.wake (s : State) (u : Nat) : State :=
  if s.powerState u = 0 then s
  else
    let s1 := s.setPower u 0
    match s1.wakeGroupOf u with
    | some g => s1.settleSel g
    | none => s1

/-- Work for port `p` wakes it and its gallery. -/
def State.wakePort (s : State) (p : Nat) : State := (s.wake p).wake (128 + s.portGallery p)

/-! ### What stands on a line -/

/-- Octets of the frame on the line that have passed, earlier fragments included. -/
def State.lineSent (s : State) (p : Nat) (l : LineSt) : Nat :=
  min l.total (l.sent + (s.octetsIn p (s.clock - l.since) - 8))

/-- The local TIME count at which the last octet of what is on the line passes: of the frame, or of the fragment with
its mCRC. -/
def State.lineEnd (s : State) (p : Nat) (l : LineSt) : Time :=
  l.since + s.octets p (8 + (match l.stopAt with | some k => k - l.sent + 4 | none => l.total - l.sent))

/-- The first boundary at or after `k` octets at which the frame on the line may be preempted; octets count within the
fragment (log entry 15). -/
def stopFrom (addFrag : Nat) (l : LineSt) (k : Nat) : Option Nat :=
  let j := max (k - l.sent) (60 + 64 * addFrag)
  if l.sent + j + 64 ≤ l.total then some (l.sent + j) else none

/-- The preemptable frame on the line of port `p` is to be preempted at the first permitted boundary (R169). -/
def State.preemptNow (s : State) (p : Nat) : State :=
  let x := s.port p
  match x.line with
  | some l =>
    if l.launched && s.preemptActive p && !s.express p l.frame.tc && !l.stomp then
      match stopFrom (s.addFrag p) l (s.lineSent p l) with
      | some k =>
        let k1 := (match l.stopAt with | some m => min m k | none => k)
        s.setPort p { x with line := some { l with stopAt := some k1 } }
      | none => s
    else s
  | none => s

/-- The gate of the frame on the line of port `p` closed before the frame ended: it is counted once (R222). -/
def State.markOverrun (s : State) (p : Nat) (l : LineSt) : State :=
  (s.setPort p { s.port p with line := some { l with overrun := true } }).inc (R.schPGateOverrun p)

/-- Take a frame of `src` that was selected and has not launched off every line. -/
def State.unline (s : State) (src : TxSrc) : State :=
  forEach s.im.ports (fun p x =>
    match (x.port p).line with
    | some l => if l.frame.src = src ∧ l.launched = false then x.setPort p { x.port p with line := none } else x
    | none => x) s

end Sys2Proof.Machine
end

