-- ==== Sys2Proof/Machine/Flags.lean ====
section
/-! DEFINITION. Fault sources, their reactions and the events (15_faults_events, R428 to R449), and the give-up of
the interlock grant they cause (R405). -/

namespace Sys2Proof.Machine

/-! ### Source numbers (R450) -/

/-- STATE_SPLIT (0:0) -/
abbrev Src.stateSplit : Nat := 0
/-- PLAN_REJECT (0:1) -/
abbrev Src.planReject : Nat := 1
/-- PLAN_AMEND_FAIL (0:2) -/
abbrev Src.planAmendFail : Nat := 2
/-- FCR_LATCH (0:3) -/
abbrev Src.fcrLatch : Nat := 3
/-- SWAP_DISCARD (0:4) -/
abbrev Src.swapDiscard : Nat := 4
/-- TICK_ACT_CHECK (0:5) -/
abbrev Src.tickActCheck : Nat := 5
/-- TICK_ACT_DISCARD (0:6) -/
abbrev Src.tickActDiscard : Nat := 6
/-- TICK_MISSED (0:7) -/
abbrev Src.tickMissed : Nat := 7
/-- TICK_OVERRUN (0:8) -/
abbrev Src.tickOverrun : Nat := 8
/-- USTOR_NO_LOCK (0:9) -/
abbrev Src.ustorNoLock : Nat := 9
/-- USTOR_CFG (0:10) -/
abbrev Src.ustorCfg : Nat := 10
/-- USTOR_LOSS (0:11) -/
abbrev Src.ustorLoss : Nat := 11
/-- USTOR_AHEAD (0:12) -/
abbrev Src.ustorAhead : Nat := 12
/-- HSYNC_ABORT (0:13) -/
abbrev Src.hsyncAbort : Nat := 13
/-- REF10M_FAULT (0:14) -/
abbrev Src.ref10mFault : Nat := 14
/-- PPS_IN_FAULT[i] (0:16 up) -/
abbrev Src.ppsInFault (i : Nat) : Nat := 16 + i
/-- TB_REFUSED[n] (1:0 up) -/
abbrev Src.tbRefused (n : Nat) : Nat := 32 + n
/-- TB_SLEW[n] (1:8 up) -/
abbrev Src.tbSlew (n : Nat) : Nat := 40 + n
/-- TB_HOLDOVER[n] (1:16 up) -/
abbrev Src.tbHoldover (n : Nat) : Nat := 48 + n
/-- TB_MASTER[n] (1:24 up) -/
abbrev Src.tbMaster (n : Nat) : Nat := 56 + n
/-- TB_EPOCH_CHECK[n] (2:0 up) -/
abbrev Src.tbEpochCheck (n : Nat) : Nat := 64 + n
/-- REFCLK_LOSS[g] (2:8 up) -/
abbrev Src.refclkLoss (g : Nat) : Nat := 72 + g
/-- PLL_UNLOCK_CORE (2:16) -/
abbrev Src.pllUnlockCore : Nat := 80
/-- PLL_UNLOCK_PRZ (2:17) -/
abbrev Src.pllUnlockPrz : Nat := 81
/-- PLL_UNLOCK_TIME (2:18) -/
abbrev Src.pllUnlockTime : Nat := 82
/-- PLL_UNLOCK_MGT (2:19) -/
abbrev Src.pllUnlockMgt : Nat := 83
/-- SYSOSC_LOSS (2:20) -/
abbrev Src.sysoscLoss : Nat := 84
/-- LINK_DOWN[g] (3:0 up) -/
abbrev Src.linkDown (g : Nat) : Nat := 96 + g
/-- FEC_UNCORR[g] (3:8 up) -/
abbrev Src.fecUncorr (g : Nat) : Nat := 104 + g
/-- PKTBUF_CE[g] (3:16 up) -/
abbrev Src.pktbufCe (g : Nat) : Nat := 112 + g
/-- PKTBUF_UE[g] (3:24 up) -/
abbrev Src.pktbufUe (g : Nat) : Nat := 120 + g
/-- RX_BUF_OVF[g] (4:0 up) -/
abbrev Src.rxBufOvf (g : Nat) : Nat := 128 + g
/-- MM_VERIFY_FAIL[g] (4:8 up) -/
abbrev Src.mmVerifyFail (g : Nat) : Nat := 136 + g
/-- GATE_BANK_FAIL[g] (4:16 up) -/
abbrev Src.gateBankFail (g : Nat) : Nat := 144 + g
/-- GATE_OVERRUN[g] (4:24 up) -/
abbrev Src.gateOverrun (g : Nat) : Nat := 152 + g
/-- TWIN_ROGUE[g] (5:0 up) -/
abbrev Src.twinRogue (g : Nat) : Nat := 160 + g
/-- TWIN_RESET[g] (5:8 up) -/
abbrev Src.twinReset (g : Nat) : Nat := 168 + g
/-- PATH_LOSS[g] (5:16 up) -/
abbrev Src.pathLoss (g : Nat) : Nat := 176 + g
/-- METER_RED[g] (5:24 up) -/
abbrev Src.meterRed (g : Nat) : Nat := 184 + g
/-- NODE_FULL[g] (6:0 up) -/
abbrev Src.nodeFull (g : Nat) : Nat := 192 + g
/-- PRZ_IN_FORMAT (6:8) -/
abbrev Src.przInFormat : Nat := 200
/-- PRZ_IN_RATE (6:9) -/
abbrev Src.przInRate : Nat := 201
/-- PRZ_IN_SYNCH (6:10) -/
abbrev Src.przInSynch : Nat := 202
/-- PRZ_IN_NOTB (6:11) -/
abbrev Src.przInNotb : Nat := 203
/-- PRZ_IN_STALE (6:12) -/
abbrev Src.przInStale : Nat := 204
/-- PRZ_IN_BREAK (6:13) -/
abbrev Src.przInBreak : Nat := 205
/-- PANE_INCOMPLETE (6:14) -/
abbrev Src.paneIncomplete : Nat := 206
/-- PANE_LATE_INPUT (6:15) -/
abbrev Src.paneLateInput : Nat := 207
/-- PRZ_REANCHOR (6:16) -/
abbrev Src.przReanchor : Nat := 208
/-- PRZ_STORE_CE (6:17) -/
abbrev Src.przStoreCe : Nat := 209
/-- PRZ_STORE_UE (6:18) -/
abbrev Src.przStoreUe : Nat := 210
/-- PANE_DROP (6:19) -/
abbrev Src.paneDrop : Nat := 211
/-- TX_ACT_DENIED (7:0) -/
abbrev Src.txActDenied : Nat := 224
/-- RA_LATE (7:1) -/
abbrev Src.raLate : Nat := 225
/-- TX_CANCEL_VISIBLE (7:2) -/
abbrev Src.txCancelVisible : Nat := 226
/-- TX_ESCAPED (7:3) -/
abbrev Src.txEscaped : Nat := 227
/-- SVP_UNDERRUN (7:4) -/
abbrev Src.svpUnderrun : Nat := 228
/-- QM_LAP (7:5) -/
abbrev Src.qmLap : Nat := 229
/-- QM_CR_LAP (7:6) -/
abbrev Src.qmCrLap : Nat := 230
/-- QM_HOST_RD (7:7) -/
abbrev Src.qmHostRd : Nat := 231
/-- QM_RX_NODESC (7:8) -/
abbrev Src.qmRxNodesc : Nat := 232
/-- DMA_HOST_RD (7:9) -/
abbrev Src.dmaHostRd : Nat := 233
/-- DMA_HOST_WR (7:10) -/
abbrev Src.dmaHostWr : Nat := 234
/-- DMA_WR_LAST (7:11) -/
abbrev Src.dmaWrLast : Nat := 235
/-- DMA_LOOP (7:12) -/
abbrev Src.dmaLoop : Nat := 236
/-- DMA_CHECK (7:13) -/
abbrev Src.dmaCheck : Nat := 237
/-- MEM_TRAIN (8:0) -/
abbrev Src.memTrain : Nat := 256
/-- MEM_CE (8:1) -/
abbrev Src.memCe : Nat := 257
/-- MEM_UE_PANE (8:2) -/
abbrev Src.memUePane : Nat := 258
/-- MEM_UE_CTRL (8:3) -/
abbrev Src.memUeCtrl : Nat := 259
/-- MEM_UE_SCRATCH (8:4) -/
abbrev Src.memUeScratch : Nat := 260
/-- MIRROR_COMPAT (8:5) -/
abbrev Src.mirrorCompat : Nat := 261
/-- MIRROR_CHECK (8:6) -/
abbrev Src.mirrorCheck : Nat := 262
/-- MIRROR_LOSS (8:7) -/
abbrev Src.mirrorLoss : Nat := 263
/-- MIRROR_STALE (8:8) -/
abbrev Src.mirrorStale : Nat := 264
/-- PAIR_CONTEST (8:9) -/
abbrev Src.pairContest : Nat := 265
/-- PAIR_RELEASE (8:10) -/
abbrev Src.pairRelease : Nat := 266
/-- PAIR_TAKEOVER (8:11) -/
abbrev Src.pairTakeover : Nat := 267
/-- MGT_WDOG (8:12) -/
abbrev Src.mgtWdog : Nat := 268
/-- CSR_TIMEOUT[b] (9:0 up) -/
abbrev Src.csrTimeout (b : Nat) : Nat := 288 + b
/-- TEMP_WARN (10:0) -/
abbrev Src.tempWarn : Nat := 320
/-- TEMP_CRIT (10:1) -/
abbrev Src.tempCrit : Nat := 321
/-- VOLT_ALARM[r] (10:2 up) -/
abbrev Src.voltAlarm (r : Nat) : Nat := 322 + r
/-- CURR_ALARM (10:11) -/
abbrev Src.currAlarm : Nat := 331
/-- MGT_FW_FAULT (10:12) -/
abbrev Src.mgtFwFault : Nat := 332
/-- MGT_SRAM_UE (10:13) -/
abbrev Src.mgtSramUe : Nat := 333
/-- FUSE_ERR (10:14) -/
abbrev Src.fuseErr : Nat := 334
/-- PCIE_LINK_DOWN[h] (10:15 up) -/
abbrev Src.pcieLinkDown (h : Nat) : Nat := 335 + h
/-- PCIE_UNCORR[h] (10:17 up) -/
abbrev Src.pcieUncorr (h : Nat) : Nat := 337 + h

/-- `n` lies in one of the closed ranges. -/
def inRanges (l : List (Nat × Nat)) (n : Nat) : Bool := l.any (fun r => decide (r.1 ≤ n) && decide (n ≤ r.2))

/-- The source is assigned; every other one is reserved and never raises (R428). -/
def srcAssigned (src : Nat) : Bool :=
  inRanges [(0, 14), (16, 17), (32, 63), (64, 71), (72, 79), (80, 84), (96, 127), (128, 159), (160, 191), (192, 199), (200, 211), (224, 237), (256, 268), (288, 304), (320, 338)] src

/-- The source is of kind S, a state; else an occurrence (R429). -/
def srcIsState (src : Nat) : Bool :=
  inRanges [(0, 0), (3, 3), (32, 39), (48, 55), (72, 79), (80, 84), (263, 264), (320, 320), (322, 330), (331, 331), (335, 336)] src

/-- S-kind bits of fault group `k`. -/
def stateBits (k : Nat) : Reg :=
  (List.range 32).foldl (fun r b => if srcIsState (32 * k + b) then r ||| (1#32 <<< b) else r) 0

/-! ### Units a C2 reaction contains, as UNCONTAIN's ARG codes them (R442) -/

/-- port `p` -/
abbrev Cu.port (p : Nat) : Nat := p
/-- gallery `g` -/
abbrev Cu.gallery (g : Nat) : Nat := 0x1000 + g
/-- time base `n` -/
abbrev Cu.tb (n : Nat) : Nat := 0x2000 + n
/-- DDR4 channel `c` -/
abbrev Cu.ch (c : Nat) : Nat := 0x3000 + c
/-- pane group `g` -/
abbrev Cu.pg (g : Nat) : Nat := 0x4000 + g
/-- the mirror link -/
abbrev Cu.ml : Nat := 0x5000
/-- host link `h` -/
abbrev Cu.hl (h : Nat) : Nat := 0x6000 + h

/-- Unit `u` is held by a C2 reaction. -/
def State.contained (s : State) (u : Nat) : Bool := s.fcr.contained.contains u

/-- Hold a unit contained (R435). A new containment cancels a pending end of the same unit. -/
def State.contain (s : State) (u : Nat) : State :=
  let f := s.fcr
  { s with fcr := { f with
      contained := if f.contained.contains u then f.contained else u :: f.contained,
      ending := f.ending.filter (· != u) } }

/-! ### Toggle crossings (R483, R484) -/

/-- The crossing of event `e` into FCR -/
abbrev Xing.event (e : Nat) : Nat := e
/-- that of raises of fault source `src` -/
abbrev Xing.source (src : Nat) : Nat := 2048 + src
/-- that of the QM.TAIL doorbells of queue `q` -/
abbrev Xing.tail (q : Nat) : Nat := 4096 + q

/-- The longest acknowledge phase of a crossing in ps: 3 cycles of the receiving domain and 3 of the sending one, 0 where they are
the same (R481, R483; log entry 72). -/
def xingPs (k : Nat) : Nat :=
  if 4096 ≤ k then 5400
  else if 2048 ≤ k then
    let src := k - 2048
    if inRanges [(0, 3), (288, 304)] src then 0
    else if inRanges [(200, 211)] src then 8000
    else if inRanges [(9, 13)] src then 10800
    else if inRanges [(256, 260)] src then 9750
    else if inRanges [(80, 84), (268, 268), (320, 338)] src then 126000
    else 8400
  else if inRanges [(1296, 1316), (1318, 1318)] k then 0
  else if k = 1319 then 8500
  else if 1328 ≤ k then 8000
  else 8400

/-- An event comes to crossing `k` into block `b`: whether it merges with the one in flight, which is counted (R483). -/
def State.cross (s : State) (k b : Nat) : Bool × State :=
  if xingPs k = 0 then (false, s)
  else
    let fresh : State := { s with pwr := { s.pwr with
      xings := Tab.put (fun _ => none) s.pwr.xings k (some (s.clock, s.pwr.draws))
      draws := s.pwr.draws + 1 } }
    match Tab.get (fun _ => none) s.pwr.xings k with
    | some (t, n) =>
      let d := s.clock - t
      if d < ofPs (xingPs k) ∧ (d ≤ 0 ∨ d < ofPs (Config.ackPs n)) then
        (true, (s.hwSet R.pwrXingOvr b).wrN (R.pwrXingMerged b) (min 255 (s.rdN (R.pwrXingMerged b) + 1)))
      else (false, fresh)
    | none => (false, fresh)

/-! ### Events (R445 to R449) -/

/-- The state of a vector no event touched: masked, as PCIe resets it (log entry 6). -/
def vecInit (_ : Nat) : VecSt := ⟨0, 0, true, false, 0, 0⟩

/-- The key of vector `v` of a function. -/
def vecKey (f : Requester) (v : Nat) : Nat := f.fnKey * 2048 + v

/-- A vector's state. -/
def State.vec (s : State) (k : Nat) : VecSt := Tab.get vecInit s.fcr.vecs k

/-- Set a vector's state. -/
def State.setVec (s : State) (k : Nat) (v : VecSt) : State :=
  { s with fcr := { s.fcr with vecs := Tab.put vecInit s.fcr.vecs k v } }

/-- Add one to a vector's pending count (R447); the first pending event starts its timer (R448). -/
def State.bumpVec (s : State) (k : Nat) : State :=
  let v := s.vec k
  s.setVec k { v with pending := v.pending + 1, since := if v.pending = 0 then s.clock else v.since }

/-- The rank of ring `r` among the rings of its virtual function: its local index (R358). -/
def State.ringLocal (s : State) (c : CrRec) : Nat :=
  (s.im.crs.filter (fun x => x.func == c.func && x.vf == c.vf && decide (x.rid < c.rid))).length

/-- The vector event `e` goes to: the map's, or the virtual function's own for a ring it owns (R447). -/
def State.eventVec (s : State) (e : Nat) : Nat :=
  let m := s.rd (R.fcrEvtMap e)
  let mapped := vecKey (requesterOf (fld m 18 16) 0) (fld m 15 0)
  if e < 1024 then
    match s.cr? e with
    | some c => if c.vf = 0 then mapped else vecKey (requesterOf c.func c.vf) (s.ringLocal c)
    | none => mapped
  else mapped

/-- Raise event `e`: one that merges with the raise in flight is that raise (R446, R447, R484). -/
def State.event (s : State) (e : Nat) : State :=
  let o := s.cross (Xing.event e) 13
  if o.1 then o.2
  else
    let s1 := o.2.hwSet (R.fcrEvtPend (e / 32)) (e % 32)
    if rbit (s.rd (R.fcrEvtMap e)) 24 then s1.bumpVec (s.eventVec e) else s1

/-- CR_EVT of ring `r` -/
abbrev Evt.ring (r : Nat) : Nat := r
/-- DMA_EVT of channel `c` -/
abbrev Evt.dma (c : Nat) : Nat := 1024 + c
/-- TICK_EVT `i` -/
abbrev Evt.tick (i : Nat) : Nat := 1280 + i
/-- FAULT_EVT of group `k` -/
abbrev Evt.fault (k : Nat) : Nat := 1296 + k
/-- FSTATE_EVT -/
abbrev Evt.fstate : Nat := 1316
/-- ROLE_EVT -/
abbrev Evt.role : Nat := 1317
/-- PLAN_EVT -/
abbrev Evt.plan : Nat := 1318
/-- MBOX_EVT -/
abbrev Evt.mbox : Nat := 1319
/-- LINK_EVT of gallery `g` -/
abbrev Evt.link (g : Nat) : Nat := 1320 + g
/-- PANE_EVT of pane group `g` -/
abbrev Evt.pane (g : Nat) : Nat := 1328 + g

/-! ### The interlock role (R401, R405) -/

/-- Roles of RDN.STATUS.ROLE (R401). -/
abbrev Role.none : Nat := 0
/-- STANDBY -/
abbrev Role.standby : Nat := 1
/-- CLAIMING -/
abbrev Role.claiming : Nat := 2
/-- ACTIVE -/
abbrev Role.active : Nat := 3
/-- RELEASING -/
abbrev Role.releasing : Nat := 4

/-- The interlock role. -/
def State.role (s : State) : Nat := s.getF R.rdnStatus 2 0

/-- The device holds the grant. -/
def State.granted (s : State) : Bool := s.bit R.rdnStatus 6

/-- Enter a role: ROLE, the grant and PAIR_ACT_OUT follow R401 (the line stays released without a PAIR section, R407). When the grant
ends with the claim, PAIR_ACT_OUT deasserts 8 ns later (R403). A change raises ROLE_EVT. -/
def State.setRole (s : State) (r : Nat) : State :=
  let s1 := s.setF R.rdnStatus 2 0 r
  let s2 := s1.setBit R.rdnStatus 6 (r == Role.active)
  let s3 := s2.setBit R.rdnStatus 18 (s.hasPair && decide (2 ≤ r))
  let s4 := if r = Role.standby ∧ s.role ≠ Role.standby
    then { s3 with rdn := { s3.rdn with peerReleased := false, claimCmd := false } } else s3
  let s5 := if s.granted && s.hasPair && decide (r < 2) then { s4 with rdn := { s4.rdn with outUntil := s.clock + ofNs 8 } } else s4
  if s.role = r then s5 else s5.event Evt.role

/-- PAIR_ACT_OUT is asserted: by the role, or still after the end of the grant (R401, R403), and not while a rail is outside its
range (R511). -/
def State.actOut (s : State) : Bool :=
  (s.bit R.rdnStatus 18 || decide (s.clock < s.rdn.outUntil)) && !s.pwr.railOut

/-! ### Reactions -/

/-- The class in force of a source as written (R433). -/
def State.classOf (s : State) (src : Nat) : Nat :=
  s.getF (R.fcrGClass (src / 32) (src % 32 / 8)) (4 * (src % 8) + 3) (4 * (src % 8))

/-- Class C3 acts as C4 without a PAIR section (R436). -/
def State.liftC3 (s : State) (c : Nat) : Nat := if c = 3 ∧ s.hasPair = false then 4 else c

/-- The reaction in force of a detection of `src`: mask, host-assisted mode and the fixed reactions (R434, R438). -/
def State.reactionOf (s : State) (src : Nat) : Nat :=
  if src = Src.tempCrit then 0
  else
    let c := if s.bit (R.fcrGMask (src / 32)) (src % 32) then 0
      else if s.hostFault (src / 32) then 1 else s.classOf src
    s.liftC3 (if src = Src.memUeCtrl then max 2 c else c)

/-- Count a raise: STICKY and RAISES (R430). -/
def State.noteRaise (s : State) (src : Nat) : State :=
  (s.hwSet (R.fcrGSticky (src / 32)) (src % 32)).inc (R.fcrGRaises (src / 32))

/-- LIVE of a source. -/
def State.isLive (s : State) (src : Nat) : Bool := s.bit (R.fcrGLive (src / 32)) (src % 32)

/-- The device is in the fault state. -/
def State.inFault (s : State) : Bool := s.bit R.fcrStatus 1

/-- Enter the fault state on a C4 raise of `src`, or restart its quiet count (R439). The grant is given up apart. -/
def State.enterFault (s : State) (src : Nat) : State :=
  let s1 := (s.setF R.fcrStatus 23 8 0)
  let s2 := { s1 with fcr := { s1.fcr with c4Raised := true } }
  if s.inFault then s2
  else
    let s3 := ((s2.setBit R.fcrStatus 1 true).wrN R.fcrLastSrc src).wrN R.fcrEntryTick s.now
    let s4 := (s3.inc R.fcrEntries).event Evt.fstate
    if s.hasPair then s4 else if s.role = Role.none then s4 else s4.setRole Role.standby

/-- The reactions of the classes above `lo` up to `hi`, except the give-up of the grant (R434, R435, R439). The units named are contained
whichever detection of the edge came first. -/
def State.reactLow (s : State) (lo hi src : Nat) (units : List Nat) : State :=
  let s1 := if lo < 1 ∧ 1 ≤ hi then s.event (Evt.fault (src / 32)) else s
  let s2 := if 2 ≤ hi then units.foldl State.contain s1 else s1
  if lo < 4 ∧ 4 ≤ hi then s2.enterFault src else s2

/-- The class of a non-silent injection of `src` under R443. -/
def State.injClass (s : State) (src : Nat) : Nat :=
  let k := src / 32
  let c := if s.bit (R.fcrGMask k) (src % 32) then 0
    else if s.hostFault k then 1 else min 4 (s.getF (R.fcrGInjCfg k) 2 0)
  if src = Src.tempCrit then min 1 c else s.liftC3 (if src = Src.memUeCtrl then max 2 c else c)

/-- The stronger reaction of a detection and an injection of `src` on one edge (R444). -/
def State.bothClass (s : State) (src : Nat) : Nat := max (s.reactionOf src) (s.injClass src)

/-- A detection of `src` up to its reaction: the class already reached and the class to reach. Detections of one source on one edge
are one raise (R430, R435); so are a detection and an injection, which set COINCIDE (R444). A raise that merges on its way into FCR is
counted, and its reaction is that of the raise in flight (R483, R484). -/
def State.takeRaise (s : State) (src : Nat) (units : List Nat) : (Nat × Nat) × State :=
  let s1 := s.setBit (R.fcrGLive (src / 32)) (src % 32) true
  let s2 : State := { s1 with fcr := { s1.fcr with raisedNow := (src, units) :: s1.fcr.raisedNow } }
  let c := s.reactionOf src
  match s.fcr.injNow.find? (fun e => e.1 == src) with
  | some e =>
    let both := s.bothClass src
    let s3 : State := { s2 with fcr := { s2.fcr with injNow := (src, both) :: s2.fcr.injNow.filter (fun e => e.1 != src) } }
    ((e.2, both), s3.hwSet (R.fcrGCoincide (src / 32)) (src % 32))
  | none =>
    if s.fcr.raisedNow.any (fun e => e.1 == src) then ((c, c), s2)
    else
      let o := (s2.noteRaise src).cross (Xing.source src) 13
      ((if o.1 then c else 0, c), o.2)

/-- A detection of `src` on the way to the give-up of the grant: the raise with its reaction but for the give-up itself. -/
def State.raiseLow (s : State) (src : Nat) (units : List Nat) : State :=
  let o := s.takeRaise src units
  o.2.reactLow o.1.1 o.1.2 src units

/-- The grant has ended: the gate of every actuation frame under way closes early (R222). -/
def State.cutGates (s : State) : State :=
  forEach s.im.ports (fun p x =>
    match (x.port p).line with
    | some l =>
      if l.launched && !l.overrun && l.frame.act && l.sent == 0 then
        ((x.markOverrun p l).raiseLow (Src.gateOverrun (x.portGallery p)) [Cu.port p]).preemptNow p
      else x
    | none => x) s

/-- Give up the grant or the claim (R405): only an ACTIVE or CLAIMING device with a PAIR section has one to give up. -/
def State.giveUp (s : State) : State :=
  if s.hasPair && (s.role == Role.active || s.role == Role.claiming) then
    let s1 := ((s.setRole Role.standby).setBit R.rdnStatus 4 true).inc R.rdnReleases
    (s1.raiseLow Src.pairRelease []).cutGates
  else s

/-- Apply the reactions of the classes above `lo` up to `hi` (R434): from C3 on the grant or claim is given up (R436, R439). When the
grant ends with it, the gates of actuation frames under way close (R222). -/
def State.react (s : State) (lo hi src : Nat) (units : List Nat) : State :=
  let s1 := s.reactLow lo hi src units
  let s2 := if lo < 3 ∧ 3 ≤ hi then s1.giveUp else s1
  if s.granted && !s2.granted then s2.cutGates else s2

/-- A detection of `src` that names the given C2 units (R430, R434, R435). -/
def State.detect (s : State) (src : Nat) (units : List Nat) : State :=
  let o := s.takeRaise src units
  o.2.react o.1.1 o.1.2 src units

/-- Raise an occurrence source (kind O) that names the given C2 units (R429, R430). -/
def State.raise (s : State) (src : Nat) (units : List Nat) : State := s.detect src units

/-- A state source (kind S): its condition holds or not (R429, R430). -/
def State.condition (s : State) (src : Nat) (units : List Nat) (holds : Bool) : State :=
  if holds then
    if s.isLive src then s.setBit (R.fcrGSticky (src / 32)) (src % 32) true
    else s.detect src units
  else s.setBit (R.fcrGLive (src / 32)) (src % 32) false

/-! ### Status of a commanded block -/

/-- Shared status codes (R359). -/
abbrev Code.ok : Nat := 0x00
/-- ABORTED -/
abbrev Code.aborted : Nat := 0x01
/-- STATE -/
abbrev Code.state : Nat := 0x02
/-- CHECK -/
abbrev Code.check : Nat := 0x03
/-- HOST_RD_ERR -/
abbrev Code.hostRd : Nat := 0x04
/-- HOST_WR_ERR -/
abbrev Code.hostWr : Nat := 0x05
/-- LATE -/
abbrev Code.late : Nat := 0x06
/-- CANCELLED -/
abbrev Code.cancelled : Nat := 0x07
/-- CANCELLED_VISIBLE -/
abbrev Code.cancelledVisible : Nat := 0x08
/-- ESCAPED -/
abbrev Code.escaped : Nat := 0x09
/-- LOOP -/
abbrev Code.loop : Nat := 0x0A
/-- TIMEOUT -/
abbrev Code.timeout : Nat := 0x0B
/-- WR_ERR_LAST -/
abbrev Code.wrErrLast : Nat := 0x0C
/-- NO_RESOURCE -/
abbrev Code.noResource : Nat := 0x0D
/-- ACT_DENIED -/
abbrev Code.actDenied : Nat := 0x0E
/-- FAULT_STATE -/
abbrev Code.faultState : Nat := 0x0F

end Sys2Proof.Machine
end

