-- ==== Sys2Proof/Machine/Clock.lean ====
section
/-! DEFINITION. How time passes: the counts of the time bases edge by edge (R107 to R109) and the landing grid reckoned
in the tick-source count (R66 to R68). -/

namespace Sys2Proof.Machine

/-- What a time base without a record of its own reads as. -/
def tbInit : TbSt := ⟨0, 0, 0, 0, 0, 0, false, [], [], none, none, 0, none, none, 0, false, 0, 0, false, 0⟩

/-- Time base `n` beside its registers. -/
def State.tb (s : State) (n : Nat) : TbSt := s.tbs.getD n tbInit

/-- Replace time base `n`. -/
def State.setTb (s : State) (n : Nat) (t : TbSt) : State := { s with tbs := s.tbs.set n t }

/-- States of TSU.TB[n].STATUS (R111). -/
abbrev TbS.disabled : Nat := 0
/-- FREE -/
abbrev TbS.free : Nat := 1
/-- LOCKING -/
abbrev TbS.locking : Nat := 2
/-- LOCKED -/
abbrev TbS.locked : Nat := 3
/-- HOLDOVER -/
abbrev TbS.holdover : Nat := 4
/-- REFUSED -/
abbrev TbS.refused : Nat := 5

/-- The state of time base `n`. -/
def State.tbState (s : State) (n : Nat) : Nat := s.getF (R.tsuTbStatus n) 2 0

/-- 0.8 ns in units of 2^-48 ns (R108). -/
def inc0 : Int := 225179981368525

/-- FREQ of time base `n`, in 2^-10 ppb. -/
def State.freq (s : State) (n : Nat) : Int := signed 32 (s.rdN (R.tsuTbFreq n))

/-- inc of time base `n` before a slew (R108). -/
def State.tbInc (s : State) (n : Nat) : Int := inc0 + roundHalfEven (inc0 * s.freq n) (1024 * 10 ^ 9)

/-- s of time base `n` before it is limited to the remaining slew (R108). -/
def State.tbSlew (s : State) (n : Nat) : Int := roundHalfEven (inc0 * s.getF (R.tsuTbSlewMax n) 15 0) (10 ^ 6)

/-- Time base `n` after `k` TIME edges (R108). The slew takes s from every edge until nothing of it is left, so k edges
take the smaller of k * s and what was left. -/
def State.advTb (s : State) (k n : Nat) : State :=
  if s.tbState n = TbS.disabled then s
  else
    let t := s.tb n
    let take := min (k * s.tbSlew n) (-t.slewRem)
    let s1 := s.setTb n { t with count := t.count + k * s.tbInc n - take, slewRem := t.slewRem + take }
    if t.slewRem < 0 ∧ t.slewRem + take = 0 then s1.setBit (R.tsuTbStatus n) 8 false else s1

/-- The TIME domain has its clock (R481, R482). -/
def State.timeRuns (s : State) : Bool := !s.pwr.stopped.contains 2

/-- The present edge is over: what was raised and set on it is in the past (R5, R430). -/
def State.newEdge (s : State) : State := { s with fcr := { s.fcr with raisedNow := [], injNow := [], setNow := [] } }

/-- `k` TIME edges: every enabled time base and the local TIME count advance. -/
def State.edges (s : State) (k : Nat) : State :=
  if k = 0 then s
  else if s.timeRuns then
    let s1 := forEach (List.range 8) (fun n x => x.advTb k n) s
    State.newEdge { s1 with clock := s1.clock + k * inc0 }
  else s.newEdge

/-- TIME edges until the count of time base `n` is at or after `t`. -/
def State.edgesTo (s : State) (n : Nat) (t : Time) : Nat :=
  let b := s.tb n
  let d := t - b.count
  if d ≤ 0 then 0
  else if b.slewRem < 0 then
    min (ceilDiv d (s.tbInc n - s.tbSlew n)) (ceilDiv (d - b.slewRem) (s.tbInc n))
  else ceilDiv d (s.tbInc n)

/-- Let time pass until the count of time base `n` is at or after `t`. -/
def State.untilTb (s : State) (n : Nat) (t : Time) : State := s.edges (s.edgesTo n t)

/-- Let time pass until the local TIME count is at or after `t`. -/
def State.untilClock (s : State) (t : Time) : State := s.edges (ceilDiv (t - s.clock) inc0)

/-! ### The landing grid -/

/-- The tick-source time base. -/
def State.src (s : State) : Nat := s.tick.tb

/-- The tick-source count. -/
def State.srcNow (s : State) : Time := (s.tb s.src).count

/-- The tick runs. -/
def State.running (s : State) : Bool := s.bit R.tickStatus 6

/-- The period in units of 2^-48 ns (R66). -/
def State.period (s : State) : Time :=
  ((s.rdN R.tickPeriodNs * 2 ^ 32 + s.rdN R.tickPeriodFrac : Nat) : Int) * 2 ^ 16

/-- L(B) (R67). -/
def State.baseTime (s : State) : Time :=
  timeOfWords 32 (s.rd R.tickBaseTime) (s.rd (R.tickBaseTime + 4)) (s.rd (R.tickBaseTime + 8)) (s.rd (R.tickBaseTime + 12))

/-- B (R67). -/
def State.baseTick (s : State) : Nat := s.rd64 R.tickBaseTick

/-- Set B and L(B). -/
def State.setBase (s : State) (tick : Nat) (t : Time) : State :=
  (s.wr64 R.tickBaseTick tick).wrWords R.tickBaseTime (timeWords 32 t)

/-- L(n) in the tick-source count (R67), with a follower's landing offset (R96). -/
def State.landingAt (s : State) (n : Nat) : Time :=
  s.baseTime + ((n : Int) - s.baseTick) * s.period + s.tick.delta

/-- Set the landing offset, which TICK.HALL_OFFSET shows in ps, rounded toward minus infinity (log entry 85). -/
def State.setDelta (s : State) (d : Time) : State :=
  State.wr { s with tick := { s.tick with delta := d } } R.tickHallOffset (BitVec.ofInt 32 (d * 1000 / 2 ^ 48))

/-- L(TICK.NOW). -/
def State.landingNow (s : State) : Time := s.landingAt s.now

/-- The next tick whose landing takes effect: B for the first one, else the one after TICK.NOW, or the one after the ticks a
step missed (R85). -/
def State.nextTick (s : State) : Nat :=
  if !s.running then (match s.tick.missedTo with
    | some m => max s.baseTick (m + 1)
    | none => s.baseTick)
  else match s.tick.missedTo with
    | some m => max (s.now + 1) (m + 1)
    | none => s.now + 1

/-- The landing grid is set: a source has it from its commit, a follower from its first lock (R67). -/
def State.gridSet (s : State) : Bool := s.getF R.tickStatus 1 0 != 2 || s.tick.everLocked

/-- The cut-off of tick `n` (R73). -/
def State.cutoffAt (s : State) (n : Nat) : Time := s.landingAt n - ofNs 1000

/-- The first tick whose cut-off has not passed (R73). -/
def State.openTick (s : State) : Nat :=
  let n := s.nextTick
  let behind := if s.gridSet then ceilDiv (s.srcNow - s.cutoffAt n) s.period else 0
  max (n + behind) (match s.tick.cutTick with | some c => c + 1 | none => 0)

/-- Let time pass until instant `t` of the tick source. -/
def State.untilSrc (s : State) (t : Time) : State := s.untilTb s.src t

/-- The offset of the present instant in tick TICK.NOW. -/
def State.tickOffset (s : State) : Time := s.srcNow - s.landingNow

/-- PERIOD_NS in force. -/
def State.periodNs (s : State) : Nat := s.rdN R.tickPeriodNs

/-- Milliseconds as a duration. -/
def ofMs (n : Nat) : Time := ofNs (n * 1000000)

/-- Microseconds as a duration. -/
def ofUs (n : Nat) : Time := ofNs (n * 1000)

end Sys2Proof.Machine
end

