-- ==== Sys2Proof/Machine/Rings.lean ====
section
/-! DEFINITION. Rings and the completion of entries: indices, slots, records, the published head, and the stop of a
queue (R327 to R331, R345 to R350, R354, R355), with the RESULT of a block's command (R339, R360). -/

namespace Sys2Proof.Machine

/-! ### Queues -/

/-- A queue nothing was done with. -/
def queueInit (_ : Nat) : QueueSt := ⟨[], [], 0, false, [], [], false, none⟩

/-- Queue `q` beside its registers. -/
def State.queue (s : State) (q : Nat) : QueueSt := Tab.get queueInit s.queues q

/-- Replace queue `q`; QM.CACHE_USED follows the entries it holds (R341). -/
def State.setQueue (s : State) (q : Nat) (x : QueueSt) : State :=
  let old := (s.queue q).entries.length
  let s1 := { s with queues := Tab.put queueInit s.queues q x }
  if x.entries.length = old then s1
  else s1.setF R.qmCacheUsed 15 0 (s.getF R.qmCacheUsed 15 0 + x.entries.length - old)

/-- States of a queue (R351). -/
abbrev QS.off : Nat := 0
/-- RUN -/
abbrev QS.run : Nat := 1
/-- HELD -/
abbrev QS.held : Nat := 2
/-- STOPPING -/
abbrev QS.stopping : Nat := 3
/-- STOPPED -/
abbrev QS.stopped : Nat := 4

/-- Causes of a stop (R355). -/
abbrev Stop.cmd : Nat := 1
/-- LAP -/
abbrev Stop.lap : Nat := 2
/-- HOST_RD -/
abbrev Stop.hostRd : Nat := 3
/-- REPLAN -/
abbrev Stop.replan : Nat := 4
/-- FLR -/
abbrev Stop.flr : Nat := 5

/-- The state of queue `q`. -/
def State.qState (s : State) (q : Nat) : Nat := s.getF (R.qmQStatus q) 2 0

/-- Queue `q` is in the plan. -/
def State.qExists (s : State) (q : Nat) : Bool := (s.sq? q).isSome

/-- KIND of queue `q`. -/
def State.qKind (s : State) (q : Nat) : Nat := s.getF (R.qmQInfo q) 1 0

/-- Size of queue `q` in entries (R328). -/
def State.qSize (s : State) (q : Nat) : Nat := 2 ^ s.getF (R.qmQInfo q) 7 4

/-- Completion ring of queue `q`. -/
def State.qRing (s : State) (q : Nat) : Nat := s.getF (R.qmQInfo q) 17 8

/-- The requester that owns queue `q`. -/
def State.qOwner (s : State) (q : Nat) : Requester :=
  requesterOf (s.getF (R.qmQInfo q) 20 18) (s.getF (R.qmQInfo q) 28 21)

/-- HEAD of queue `q`. -/
def State.qHead (s : State) (q : Nat) : Nat := s.getF (R.qmQHead q) 15 0

/-- TAIL of queue `q`. -/
def State.qTail (s : State) (q : Nat) : Nat := s.getF (R.qmQTail q) 15 0

/-- FETCHED of queue `q`. -/
def State.qFetched (s : State) (q : Nat) : Nat := s.getF (R.qmQFetched q) 15 0

/-- The distance of ring index `a` after ring index `b` (R329). -/
def idxDist (a b : Nat) : Nat := (a + 65536 - b % 65536) % 65536

/-- Entry size of a queue kind (R327). -/
def entrySize (kind : Nat) : Nat := if kind = 2 then 64 else 32

/-- TAG of an entry of a queue kind. -/
def entryTag (kind : Nat) (b : List Byte) : Nat := if kind = 3 then leAt b 2 2 else leAt b 0xA 2

/-- The entry at ring index `i`, when it was fetched and has no completion. -/
def State.entry? (s : State) (q i : Nat) : Option Entry := (s.queue q).entries.find? (·.idx == i)

/-- Replace the entry with the same index. -/
def State.setEntry (s : State) (q : Nat) (e : Entry) : State :=
  let x := s.queue q
  s.setQueue q { x with entries := x.entries.map (fun y => if y.idx == e.idx then e else y) }

/-- Forget entry `i`. -/
def State.dropEntry (s : State) (q i : Nat) : State :=
  let x := s.queue q
  s.setQueue q { x with entries := x.entries.filter (fun y => y.idx != i) }

/-! ### The descriptor cache (R328, R341) -/

/-- The next index to fetch: FETCHED, past what has a completion or stands in the cache; at most `n` are passed. -/
def State.nextFetch (s : State) (q i : Nat) : Nat → Nat
  | 0 => i
  | n + 1 =>
    if i ≠ s.qTail q ∧ ((s.queue q).done.contains i ∨ (s.entry? q i).isSome) then s.nextFetch q ((i + 1) % 65536) n else i

/-- Host address of the entry at ring index `i` of queue `q` (R328). -/
def State.entryAt (s : State) (q i : Nat) : Nat := s.rd64 (R.qmQBase q) + i % s.qSize q * entrySize (s.qKind q)

/-- A read of queue `q` failed, and its stop is to come (R355). -/
def State.readFailed (s : State) (q : Nat) : Bool := (s.queue q).entries.any (fun e => e.stage == Stage.failed)

/-! ### Completion rings -/

/-- Completion ring `r` is ENABLED. -/
def State.crEnabled (s : State) (r : Nat) : Bool := s.bit (R.qmCrInfo r) 16

/-- Size of completion ring `r`. -/
def State.crSize (s : State) (r : Nat) : Nat := 2 ^ s.getF (R.qmCrInfo r) 3 0

/-- TAIL of completion ring `r`. -/
def State.crTail (s : State) (r : Nat) : Nat := s.getF (R.qmCrTail r) 15 0

/-- HEAD of completion ring `r`. -/
def State.crHead (s : State) (r : Nat) : Nat := s.getF (R.qmCrHead r) 15 0

/-- The requester that owns ring `r`. -/
def State.crOwner (s : State) (r : Nat) : Requester :=
  requesterOf (s.getF (R.qmCrInfo r) 6 4) (s.getF (R.qmCrInfo r) 14 7)

/-- Slots reserved on ring `r`. -/
def State.reserved (s : State) (r : Nat) : Nat := Tab.get (fun _ => 0) s.slots r

/-- Set the slots reserved on ring `r`. -/
def State.setReserved (s : State) (r n : Nat) : State := { s with slots := Tab.put (fun _ => 0) s.slots r n }

/-- `n` more slots of ring `r` can be reserved (R349). -/
def State.canReserve (s : State) (r n : Nat) : Bool :=
  s.crEnabled r && decide (s.reserved r + n + idxDist (s.crTail r) (s.crHead r) ≤ s.crSize r)

/-- Reserve `n` slots. -/
def State.reserve (s : State) (r n : Nat) : State := s.setReserved r (s.reserved r + n)

/-- Give back `n` slots. -/
def State.unreserve (s : State) (r n : Nat) : State := s.setReserved r (s.reserved r - n)

/-- An entry waits because no slot can be reserved: FULL_STALL counts once per landing (R349). -/
def State.stall (s : State) (r : Nat) : State :=
  if s.stalled.contains r then s else { s.inc (R.qmCrFullStall r) with stalled := r :: s.stalled }

/-- The 14 octets of a record before its CRC (R345). -/
def recordBody (tag status qid phase info : Nat) (amend : Bool) : List Byte :=
  leBytes 2 tag ++ leBytes 1 status ++ [0] ++
    leBytes 2 (qid % 4096 + phase % 2 * 4096 + amend.toNat * 8192) ++ leBytes 6 info ++ [0, 0]

/-- A completion record (R345). -/
def recordBytes (tag status qid phase info : Nat) (amend : Bool) : List Byte :=
  let b := recordBody tag status qid phase info amend
  b ++ leBytes 2 (crc16 b).toNat

/-- A data write to host memory: it carries relaxed ordering only while QM.CFG.RO_DATA is 1 (R350). -/
def State.dataWrite (s : State) (f : Requester) (a : Nat) (b : List Byte) : State :=
  s.emit (.hostWrite f a b (rbit (s.inForce R.qmCfg) 0) false)

/-- PHASE of the next record of ring `r` (R346). -/
def State.crPhase (s : State) (r : Nat) : Nat := 1 - s.crTail r / s.crSize r % 2

/-- Write the next record of ring `r` and raise its event (R345, R350). -/
def State.putRecord (s : State) (r tag status qid info : Nat) (amend : Bool) : State :=
  let a := s.rd64 (R.qmCrBase r) + s.crTail r % s.crSize r * 16
  let s1 := s.emit (.hostWrite (s.crOwner r) a (recordBytes tag status qid (s.crPhase r) info amend) false false)
  let s2 := (s1.setF (R.qmCrTail r) 15 0 (s.crTail r + 1)).inc (R.qmCrWritten r)
  s2.event (Evt.ring r)

/-! ### Completion of an entry -/

/-- Move HEAD over the indices that have a completion (R330); at most as many as are listed. -/
def State.publishHead (s : State) (q : Nat) : Nat → State
  | 0 => s
  | n + 1 =>
    let x := s.queue q
    let h := s.qHead q
    if x.done.contains h ∧ h ≠ s.qTail q then
      ((s.setQueue q { x with done := x.done.filter (· != h) }).setF (R.qmQHead q) 15 0 (h + 1)).publishHead q n
    else s

/-- The bit of PWR.D3 of a physical function. -/
def Requester.d3Bit (r : Requester) : Nat :=
  match r with
  | .pf0 => 0
  | .pf1 => 1
  | .pf7 _ => 2
  | _ => 31

/-- The function is in D3hot (R499). -/
def State.inD3 (s : State) (r : Requester) : Bool := s.bit R.pwrD3 (Requester.d3Bit r)

/-- The link of a function's messages (R497). -/
def State.linkOf (s : State) (r : Requester) : Nat :=
  match r with
  | .pf0 => 0
  | .pf1 => 1
  | .vf p _ => p.toNat
  | _ => if s.pwr.link0 = 0 then 1 else 0

/-- Set PME_Status of a function and send PM_PME when PME_En is 1 (R499). -/
def State.setPme (s : State) (r : Requester) : State :=
  let b := Requester.d3Bit r
  let s1 := s.setBit R.pwrD3 (8 + b) true
  if s.pwr.pmeEn.contains b then s1.emit (.pme r) else s1

/-- Write a held or due record, give back its slot and publish its entry (R330, R349). A record without an entry is one of
a DMA channel, which raises its event when EVT_EN is 1 (R381). -/
def State.finishRecord (s : State) (h : HeldWrite) : State :=
  let s1 := (s.unreserve h.ring 1).putRecord h.ring h.tag h.status h.qid h.info h.amend
  match h.idx with
  | none => if s.bit (R.dmaChCfg h.qid) 5 then s1.event (Evt.dma h.qid) else s1
  | some i =>
    let s2 := s1.inc (R.qmQDone h.qid)
    let s3 := if h.status = Code.check then s2.inc (R.qmQChecked h.qid) else s2
    let s4 := if h.status = Code.aborted then s3.inc (R.qmQAborted h.qid) else s3
    let x := s4.queue h.qid
    let s5 := s4.setQueue h.qid { x with done := i :: x.done }
    s5.publishHead h.qid (x.done.length + 1)

/-- A record falls due: written, or held while its function is in D3hot (R499). A slot must be reserved for it. -/
def State.record (s : State) (h : HeldWrite) : State :=
  if s.inD3 (s.crOwner h.ring) then
    let s1 := { s with pwr := { s.pwr with held := s.pwr.held ++ [h] } }
    s1.setPme (s.crOwner h.ring)
  else s.finishRecord h

/-! ### Stopping a queue (R354, R355) -/

/-- The entry is past its point of no return. -/
def Entry.past (e : Entry) : Bool :=
  match e.stage with
  | .onWire | .sent | .issued | .held => true
  | _ => false

/-- Write the aborted entries of a stop, oldest first, as far as completion slots allow (R349, R354). -/
def State.drainAborts (s : State) (q : Nat) : List (Nat × Nat) → State
  | [] => let x := s.queue q; s.setQueue q { x with toAbort := [] }
  | (i, tag) :: rest =>
    if s.canReserve (s.qRing q) 1 then
      ((s.reserve (s.qRing q) 1).record ⟨s.qRing q, tag, Code.aborted, q, false, 0, some i⟩).drainAborts q rest
    else (let x := s.queue q; s.setQueue q { x with toAbort := (i, tag) :: rest }).stall (s.qRing q)

/-- The gallery of the egress port of queue `q`. -/
def State.qGallery (s : State) (q : Nat) : Nat :=
  match s.sq? q with
  | some r => s.portGallery r.port
  | none => 0

/-- Free the run-ahead store an A-ring entry holds (R319). -/
def State.freeRunAhead (s : State) (q : Nat) (e : Entry) : State :=
  if s.qKind q = 2 ∧ e.stage ≠ .cached ∧ e.stage ≠ .failed then
    let k := R.txeGRaUsed (s.qGallery q)
    s.wrN k (s.rdN k - leAt e.bytes 8 2)
  else s

/-- Record that the binding of an A-ring entry ended, for the mirror (R325, R354). -/
def State.endBinding (s : State) (q : Nat) (e : Entry) (status : Nat) : State :=
  if s.qKind q = 2 ∧ s.hasPair then
    { s with rdn := { s.rdn with ends := (q, e.idx, entryTag 2 e.bytes, status, none) :: s.rdn.ends } }
  else s

/-- Discard an entry that is not past its point of no return: its frame, its slot, its binding. -/
def State.discardEntry (s : State) (q : Nat) (e : Entry) : State :=
  let s0 := s.unline (.host q e.idx)
  let s1 := { s0 with tx := { s0.tx with ready := s0.tx.ready.filter (fun f => f.src != TxSrc.host q e.idx) } }
  let s2 := if e.slot then s1.unreserve (s.qRing q) 1 else s1
  let s3 := if e.stage = .bound then (s2.freeRunAhead q e).endBinding q e Code.aborted else s2
  s3.dropEntry q e.idx

/-- The indices from `i` on, `n` of them. -/
def idxFrom (i : Nat) : Nat → List Nat
  | 0 => []
  | n + 1 => i % 65536 :: idxFrom (i + 1) n

/-- A stop reaches queue `q` (R354). -/
def State.stopQueue (s : State) (q cause : Nat) : State :=
  if s.qState q = QS.run ∨ s.qState q = QS.held then
    let x := s.queue q
    let s1 := (s.setF (R.qmQStatus q) 2 0 QS.stopping).setF (R.qmQStatus q) 7 4 cause
    let s2 := if cause = Stop.hostRd then s1.raise Src.qmHostRd [] else s1
    let s3 := forEach x.rxWait (fun _ y => (y.inc (R.qmQRxNoDesc q)).raise Src.qmRxNodesc []) s2
    let y := s3.queue q
    let s4 := s3.setQueue q { y with rxWait := [], fetching := y.fetching.map (fun f => (f.1, true)) }
    let s5 := forEach (x.entries.filter (fun e => !e.past)) (fun e z => z.discardEntry q e) s4
    if s.bit (R.qmQInfo q) 2 then
      let kept := x.entries.filter Entry.past
      let all := idxFrom (s.qHead q) (idxDist (s.qTail q) (s.qHead q))
      let left := all.filter (fun i => !x.done.contains i && !kept.any (fun e => e.idx == i))
      let tagged := left.map (fun i => (i, match x.entries.find? (fun e => e.idx == i) with
        | some e => entryTag (s.qKind q) e.bytes
        | none => 0))
      s5.drainAborts q tagged
    else s5
  else s

/-- The read of the oldest entry of queue `q`, or of its frame, failed: it completes with HOST_RD_ERR, and the queue stops; the
record of an entry that was never read carries its ring index (R299, R341, R355, log entry 107). -/
def State.settleFailed (s : State) (q : Nat) : State :=
  match s.entry? q (s.qHead q) with
  | some e =>
    if e.stage ≠ .failed then s
    else if e.slot || s.canReserve (s.qRing q) 1 then
      let s1 := if e.slot then s else s.reserve (s.qRing q) 1
      let r := if e.bytes.isEmpty then (0, e.idx) else (entryTag (s.qKind q) e.bytes, 0)
      ((s1.dropEntry q e.idx).record ⟨s.qRing q, r.1, Code.hostRd, q, false, r.2, some e.idx⟩).stopQueue q Stop.hostRd
    else s.stall (s.qRing q)
  | none => s

/-- Entry `i` of queue `q` completes: its record falls due and the entry leaves the cache; a failed read that stood behind it
completes in turn. -/
def State.complete (s : State) (q i tag status info : Nat) : State :=
  ((s.dropEntry q i).record ⟨s.qRing q, tag, status, q, false, info, some i⟩).settleFailed q

/-! ### The RESULT of a command -/

/-- The RESULT field of a status register. PLAN.STATUS keeps it in [23:16], every other one in [31:24]. -/
def resultField (k : Nat) : Nat := if k = R.planStatus then 16 else 24

/-- The job of a CSR_CMD entry whose command is being issued. -/
abbrev issuing : Nat := 1

/-- The CSR_CMD entries of job `j` complete with the RESULT (R339). -/
def State.answerCmds (s : State) (j code : Nat) : State :=
  let mine := s.csrWait.filter (fun w => w.1 == j)
  let s1 := { s with csrWait := s.csrWait.filter (fun w => w.1 != j) }
  forEach mine (fun w x =>
    match x.entry? w.2.1 w.2.2 with
    | some e => x.complete w.2.1 w.2.2 (entryTag 3 e.bytes) code 0
    | none => x) s1

/-- RESULT is recorded in status register `k`, and a STATE is counted in QM.STATE_CNT (R360). -/
def State.noteResult (s : State) (k code : Nat) : State :=
  let s1 := s.setF k (resultField k + 7) (resultField k) code
  if code = Code.state then s1.inc R.qmStateCnt else s1

/-- A command finishes as it is issued: its RESULT stands in status register `k`, and the work entry that issues it
completes. -/
def State.result (s : State) (k code : Nat) : State := (s.noteResult k code).answerCmds issuing code

/-- The command being issued goes on as job `j`. -/
def State.defer (s : State) (j : Nat) : State :=
  { s with csrWait := s.csrWait.map (fun w => if w.1 = issuing then (j, w.2) else w) }

/-- The command that ran as job `j` finishes. -/
def State.finish (s : State) (j k code : Nat) : State := (s.noteResult k code).answerCmds j code

/-! ### STOPPED (R355) -/

/-- The STOP command of queue `q` finishes; BUSY follows the STOPs of other queues (R352). -/
def State.stopDone (s : State) (q : Nat) : State :=
  let x := s.queue q
  if x.stopCmd then
    let s1 := s.setQueue q { x with stopCmd := false }
    (s1.setBit R.qmStatus 0 (s1.queues.any (fun e => e.2.stopCmd))).finish (R.qmQCfg q) R.qmStatus Code.ok
  else s

/-- A stopping queue reaches STOPPED once nothing of it is under way (R355). The entry that stopped its own queue does not
keep it from it. -/
def State.settleStop (s : State) (q : Nat) : State :=
  let x := s.queue q
  if s.qState q = QS.stopping ∧ (x.entries.all (fun e => s.csrWait.contains (R.qmQCfg q, q, e.idx))) = true ∧ x.toAbort.isEmpty then
    let s1 := (s.setF (R.qmQStatus q) 2 0 QS.stopped).stopDone q
    s1.setF (R.qmQFetched q) 15 0 (s1.qHead q)
  else s

end Sys2Proof.Machine
end

