-- ==== Sys2Proof/Machine/Board.lean ====
section
/-! DEFINITION. The unit state board: the data-path view of every entry, computed from the unit's own state, and the
effective state of the last compare (R21 to R25 and the rules of the units' chapters). -/

namespace Sys2Proof.Machine

/-- State codes of the board (R22). -/
abbrev View.absent : Nat := 0
/-- CONTAINED -/
abbrev View.contained : Nat := 1
/-- HOLD -/
abbrev View.hold : Nat := 2
/-- RUN -/
abbrev View.run : Nat := 3
/-- ACTUATING -/
abbrev View.actuating : Nat := 4

/-- Keys of a range of registers that do not hold their reset value. -/
def State.listed (s : State) (lo hi : Nat) : List Nat :=
  s.regs.filterMap (fun e => if lo ≤ e.1 ∧ e.1 < hi then some e.1 else none)

/-- GOOSE control blocks that are enabled, in rising order. -/
def State.gcbsOn (s : State) : List Nat :=
  ((s.listed (R.txeGcbCfg 0) (R.txeGcbCfg 4096)).filter
    (fun k => (k - R.txeGcbCfg 0) % 0x40 == 4 && s.bit k 0)).map (fun k => (k - R.txeGcbCfg 0) / 0x40)

/-- The ports a frame for port `p` leaves on: both of a PRP or HSR pair, lower first (R195, R201). -/
def State.txPorts (s : State) (p : Nat) : List Nat :=
  let r := s.portRec p
  if 1 ≤ r.role ∧ r.role ≤ 3 then (if p ≤ r.partner then [p, r.partner] else [r.partner, p]) else [p]

/-- The lower-numbered port of the PRP or HSR pair of port `p`. -/
def State.pairOf (s : State) (p : Nat) : Option Nat :=
  let r := s.portRec p
  if 1 ≤ r.role ∧ r.role ≤ 3 then some (min p r.partner) else none

/-- An actuation source is bound to port `p` (R152). -/
def State.actBound (s : State) (p : Nat) : Bool :=
  s.im.sqs.any (fun q => q.act && (q.kind == 0 || q.kind == 2) && (s.txPorts q.port).contains p) ||
  s.gcbsOn.any (fun i => s.bit (R.txeGcbCfg i) 11 && (s.txPorts (s.getF (R.txeGcbCfg i) 6 0)).contains p)

/-- The data-path view of port `p` (R152). -/
def State.viewPort (s : State) (p : Nat) : Nat :=
  if !s.portUsed p then View.absent
  else if s.contained (Cu.port p) || s.contained (Cu.gallery (s.portGallery p)) then View.contained
  else if s.link p ≠ Link.up then View.hold
  else if s.actBound p then View.actuating else View.run

/-- The data-path view of gallery `g` (R24). -/
def State.viewGallery (s : State) (g : Nat) : Nat :=
  if !s.im.galHasPort g then View.absent
  else if s.contained (Cu.gallery g) then View.contained
  else if s.isLive (Src.refclkLoss g) then View.hold else View.run

/-- The data-path view of time base `n` (R114, R435). -/
def State.viewTb (s : State) (n : Nat) : Nat :=
  if s.tbState n = TbS.disabled then View.absent
  else if s.contained (Cu.tb n) then View.contained
  else if s.tbState n = TbS.locked then View.run else View.hold

/-- The data-path view of the pair role (R408). -/
def State.viewRole (s : State) : Nat :=
  if s.role = Role.active then View.actuating else if s.role = Role.none then View.absent else View.hold

/-- The data-path view of the tick (R102): RUN as SOURCE or LOCKED. -/
def State.viewTick (s : State) : Nat :=
  let b := s.getF R.tickStatus 5 3
  if b = 0 ∨ b = 3 then View.run else View.hold

/-- The data-path view of host link `h` (R24). -/
def State.viewLink (s : State) (h : Nat) : Nat :=
  if s.contained (Cu.hl h) then View.contained
  else if s.isLive (Src.pcieLinkDown h) then View.hold else View.run

/-- The data-path view of DDR4 channel `c` (R388, R435). -/
def State.viewChannel (s : State) (c : Nat) : Nat :=
  let st := s.getF (R.memChStatus c) 2 0
  if st = 0 then View.absent
  else if s.contained (Cu.ch c) then View.contained
  else if st = 2 then View.run else View.hold

/-- The data-path view of pane group `g` (R295). -/
def State.viewPg (s : State) (g : Nat) : Nat :=
  if !s.im.has Sect.paneGroup g then View.absent
  else if s.contained (Cu.pg g) || s.bit (R.przPgStatus g) 17 then View.contained else View.run

/-- The data-path view of quad `k`: the safest of its groups that have a section (R23). -/
def State.viewQuad (s : State) (k : Nat) : Nat :=
  let gs := ([4 * k, 4 * k + 1, 4 * k + 2, 4 * k + 3]).filter (s.im.has Sect.paneGroup)
  if gs.isEmpty then View.absent else gs.foldl (fun v g => min v (s.viewPg g)) View.run

/-- The data-path view of the mirror link (R408, R435). -/
def State.viewMirror (s : State) : Nat :=
  if !s.hasPair then View.absent
  else if s.contained Cu.ml then View.contained
  else if s.bit R.rdnStatus 20 then View.run else View.hold

/-- The data-path view of the management processor (R475). -/
def State.viewMgt (s : State) : Nat :=
  if s.pwr.mgtReset || s.bit R.mgtWdog 30 then View.hold else View.run

/-- The data-path view of entry `u` (R21, R52). -/
def State.dpView (s : State) (u : Nat) : Nat :=
  if !s.hasPlan then View.absent
  else if u < 128 then s.viewPort u
  else if u < 136 then s.viewGallery (u - 128)
  else if u < 144 then s.viewTb (u - 136)
  else if u = 144 then s.viewRole
  else if u = 145 then s.viewTick
  else if u < 148 then s.viewLink (u - 146)
  else if u < 164 then s.viewChannel (u - 148)
  else if u < 228 then s.viewQuad (u - 164)
  else if u = 228 then (if s.im.pgs.isEmpty then View.absent else if s.pwr.stopped.contains 1 then View.hold else View.run)
  else if u = 229 then s.viewMirror
  else if u = 230 then s.viewMgt
  else if u = 231 then View.run
  else View.absent

/-- The effective state of entry `u` from the last compare (R25). -/
def State.eff (s : State) (u : Nat) : Nat := s.getF (R.topUsb u) 11 8

/-- The management view of entry `u` as it stands. -/
def State.mgView (s : State) (u : Nat) : Nat := s.getF (R.topUsbMg u) 3 0

/-- Gallery `g` is CONTAINED on the board: its ports behave as contained ones and its handles are contained (R24). -/
def State.galContained (s : State) (g : Nat) : Bool := s.eff (128 + g) == View.contained

/-- Port `p` is contained for traffic: its own effective state, or its gallery's (R24, R153). -/
def State.portContained (s : State) (p : Nat) : Bool :=
  s.eff p == View.contained || s.galContained (s.portGallery p)

/-- Port `p` carries traffic: its effective state is at least RUN and its gallery is not contained (R25). -/
def State.portCarries (s : State) (p : Nat) : Bool := decide (View.run ≤ s.eff p) && !s.portContained p

/-- R12 apart from the gate: the grant, and ACTUATING as the effective state of the port and of the pair role. -/
def State.actAllowed (s : State) (p : Nat) : Bool :=
  s.granted && s.eff p == View.actuating && s.eff 144 == View.actuating && !s.galContained (s.portGallery p)

/-- Compare one entry (R25 to R27). -/
def State.compareEntry (s : State) (u : Nat) : State :=
  let dp := s.dpView u
  let mg := if u < 232 then s.mgView u else 0
  let old := s.rd (R.topUsb u)
  let ticks := if dp = mg then 0 else min 255 (fld old 23 16 + 1)
  s.wrN (R.topUsb u) (dp + mg * 16 + min dp mg * 256 + (if dp = mg then 0 else 4096) + ticks * 65536)

/-- Step 3 of R72: every entry is compared; a disagreement of four compares makes STATE_SPLIT (R26). -/
def State.compareBoard (s : State) : State :=
  let s1 := forEach (List.range 256) (fun u x => x.compareEntry u) s
  s1.condition Src.stateSplit [] ((List.range 256).any (fun u => decide (4 ≤ s1.getF (R.topUsb u) 23 16)))

end Sys2Proof.Machine
end

