-- ==== Sys2Proof/Machine/Gate.lean ====
section
/-! DEFINITION. Who may reach a register: boot stage, stopped clocks, the management plane's write limits and virtual
functions (R16, R358, R456, R482, R489). -/

namespace Sys2Proof.Machine

/-- The block a register key lies in, in the block order of the architecture table (TOP = 0 to SEC = 16). -/
def blockOf (k : Nat) : Nat :=
  if 0x10000000 ≤ k then 4
  else if 0x3F00000 ≤ k then 16
  else if 0x3000000 ≤ k then 15
  else if 0x2C00000 ≤ k then 14
  else if 0x2800000 ≤ k then 13
  else if 0x2400000 ≤ k then 12
  else if 0x2000000 ≤ k then 11
  else if 0x1C00000 ≤ k then 10
  else if 0x1800000 ≤ k then 9
  else if 0x1400000 ≤ k then 8
  else if 0x1000000 ≤ k then 7
  else if 0xC00000 ≤ k then 6
  else if 0x800000 ≤ k then 5
  else if 0x400000 ≤ k then 4
  else if 0x300000 ≤ k then 3
  else if 0x200000 ≤ k then 2
  else if 0x100000 ≤ k then 1
  else 0

/-- The register lies in a domain whose clock is stopped (R482, R489; log entry 21). -/
def State.clockStopped (s : State) (k : Nat) : Bool :=
  let b := blockOf k
  s.pwr.stopped.contains 0 ||
  (s.pwr.stopped.contains 1 && b == 7) ||
  (s.pwr.stopped.contains 2 && (b == 2 || b == 3)) ||
  ((s.pwr.stopped.contains 3 || s.pwr.mgtReset) && decide (R.mgtMbReq 0 ≤ k) && decide (k < R.mgtMbReq 3)) ||
  (b == 4 && decide (0x10000000 ≤ k) && s.isLive (Src.refclkLoss (s.portGallery ((k - 0x10000000) / 0x1000)))) ||
  (b == 4 && decide (k < 0x600000) && s.isLive (Src.refclkLoss ((k - 0x400000) / 0x10000))) ||
  (b == 11 && decide (R.memChStatus 0 ≤ k) && (k - R.memChStatus 0) % 0x20 != 0 &&
    (let st := s.getF (R.memChStatus ((k - R.memChStatus 0) / 0x20)) 2 0; st == 0 || st == 3))

/-- The requester a work queue acts as: the function that owns it. -/
def State.acting (s : State) (r : Requester) : Requester :=
  match r with
  | .wq q => s.qOwner q
  | r => r

/-- The requester is the management plane (R16). -/
def isMgmt (r : Requester) : Bool :=
  match r with
  | .pf7 _ | .mgmt => true
  | _ => false

/-- Blocks the management plane may write (R16). -/
def mgmtMayWrite (b : Nat) : Bool := b == 1 || b == 13 || b == 14 || b == 15 || b == 16

/-- What becomes of an access before the register itself is looked at. -/
inductive Gate where
  /-- the device does not answer, or the requester has no such register -/
  | absent
  /-- the clock of the register is stopped (R489) -/
  | timeout
  /-- a management-plane write outside its limits (R16) -/
  | dropped
  | pass
  deriving DecidableEq, Repr

/-- In RECOVERY the boot ROM serves the PF7 mailbox before stage 6 (R459; log entry 25). -/
def State.romServes (s : State) (r : Requester) (k : Nat) : Bool :=
  s.boot.stage == 5 && s.getF R.secBootStatus 1 0 == 2 && (match r with | .pf7 _ => true | _ => false) && blockOf k == 15

/-- The gate of a write of register `k` by `r`. QM has the exceptions of R16 and checks them itself. -/
def State.gateWrite (s : State) (r : Requester) (k : Nat) : Gate :=
  let a := s.acting r
  if s.boot.stage < 6 ∧ s.romServes a k = false then .absent
  else if s.clockStopped k then .timeout
  else if a.vfNum ≠ 0 then .absent
  else if isMgmt a && !mgmtMayWrite (blockOf k) then .dropped
  else .pass

/-- The gate of a read of register `k` by `r`. -/
def State.gateRead (s : State) (r : Requester) (k : Nat) : Gate :=
  if s.boot.stage < 6 ∧ s.romServes r k = false then .absent
  else if s.clockStopped k then .timeout
  else if (s.acting r).vfNum ≠ 0 then .absent
  else .pass

/-- An access met a stopped clock (R489). -/
def State.csrTimeout (s : State) (k : Nat) : State := s.raise (Src.csrTimeout (blockOf k)) []

/-- Do `f` when the write of register `k` by `r` passes the gate. -/
def State.guarded (s : State) (r : Requester) (k : Nat) (f : State → State) : State :=
  match s.gateWrite r k with
  | .absent => s
  | .timeout => s.csrTimeout k
  | .dropped => s.inc R.topMgtWrDrop
  | .pass => f s

/-! ### Wide registers (R6, R487, R488) -/

/-- The index of the element of an array at `base`, `n` elements of stride `st`, that offset `o` of key `k` falls in. -/
def elemAt (base st n o k : Nat) : Option Nat :=
  if base + o ≤ k ∧ (k - base - o) % st = 0 ∧ (k - base - o) / st < n then some ((k - base - o) / st) else none

/-- The latch and the held words of a requester. -/
def State.wideOf (s : State) (r : Requester) : WideSt :=
  match s.wide.find? (fun w => w.req == r) with
  | some w => w
  | none => ⟨r, none, [], none, []⟩

/-- Set them. -/
def State.setWide (s : State) (w : WideSt) : State :=
  { s with wide := w :: s.wide.filter (fun x => x.req != w.req) }

/-- The held word `w` of register `k0`, 0 when none is held. -/
def WideSt.word (x : WideSt) (k0 w : Nat) : Reg :=
  if x.heldReg = some k0 then (match x.held.find? (fun e => e.1 == w) with | some e => e.2 | none => 0) else 0

/-- Hold word `w` of register `k0`: what was held of another register is discarded. -/
def WideSt.hold (x : WideSt) (k0 w : Nat) (v : Reg) : WideSt :=
  let old := if x.heldReg = some k0 then x.held.filter (fun e => e.1 != w) else []
  { x with heldReg := some k0, held := (w, v) :: old }

/-- Register `k` is one of four words. -/
def isQuad (k : Nat) : Bool := match findReg regTable k with | some (d, _) => d.words == 4 | none => false

/-- The last word of register `k0` was written: its held words are used up, those of another 128-bit register are
discarded, a held low half of another 64-bit register stays (R488). -/
def WideSt.release (x : WideSt) (k0 : Nat) : WideSt :=
  match x.heldReg with
  | some h => if h = k0 ∨ isQuad h then { x with heldReg := none, held := [] } else x
  | none => x

/-- The words held of register `k0` and its last word `v`, as the value the write of the last word applies: a word not held is
taken as 0 (R488). -/
def WideSt.whole (x : WideSt) (k0 w : Nat) (v : Reg) : List Reg := (List.range w).map (x.word k0) ++ [v]

/-! ### Plan states and owners of shadows -/

/-- The plan state (PLAN.STATUS.STATE). -/
def State.planState (s : State) : Nat := s.getF R.planStatus 3 0

/-- Plan states (02_floor_plan). -/
abbrev PS.none : Nat := 0
/-- IDLE -/
abbrev PS.idle : Nat := 1
/-- STAGING -/
abbrev PS.staging : Nat := 2
/-- STAGED_AMEND -/
abbrev PS.stagedAmend : Nat := 3
/-- STAGED_PLAN -/
abbrev PS.stagedPlan : Nat := 4
/-- COMMITTED -/
abbrev PS.committed : Nat := 5
/-- REBUILDING -/
abbrev PS.rebuilding : Nat := 6
/-- COMMITTED_PLAN -/
abbrev PS.committedPlan : Nat := 7

/-- The data plane holds: a re-plan rebuilds (R61), or a RESYNC waits for its landing and the current tick has ended
(R100). -/
def State.holds (s : State) : Bool :=
  s.planState == PS.rebuilding || (s.tick.resync && decide (s.landingNow + s.period ≤ s.srcNow))

/-- The CORE domain has its clock (R482). -/
def State.coreRuns (s : State) : Bool := !s.pwr.stopped.contains 0

/-- The PRZ domain has its clock (R482). -/
def State.przRuns (s : State) : Bool := !s.pwr.stopped.contains 1

/-- A committed amendment owns the shadow of section (`typ`, `inst`) (R59). -/
def State.amendOwns (s : State) (typ inst : Nat) : Bool :=
  s.planState == PS.committed && (match s.plan.staged with | some im => im.has typ inst | none => false)

/-- The mirror owns the mirrored items: the device is the standby of a pair (R419). -/
def State.mirrorOwns (s : State) : Bool := s.hasPair && s.role == Role.standby

end Sys2Proof.Machine
end

