-- ==== Sys2Proof/Machine/Swaps.lean ====
section
/-! DEFINITION. Swap requests (R73 to R76) and the gate control banks: their format and check (R212 to R214). -/

namespace Sys2Proof.Machine

/-! ### Requests -/

/-- The requests on one shadow. -/
def State.reqsOn (s : State) (k : SwapKind) : List SwapReq := s.tick.reqs.filter (fun r => decide (r.kind = k))

/-- A request of a command or action is committed on the shadow, or a hall-synchronous snapshot holds it (R104). -/
def State.requested (s : State) (k : SwapKind) : Bool := !(s.reqsOn k).isEmpty || s.tick.snapKinds.contains k

/-- Enter a request. -/
def State.addReq (s : State) (r : SwapReq) : State := { s with tick := { s.tick with reqs := s.tick.reqs ++ [r] } }

/-- Drop the requests a test picks. -/
def State.dropReqs (s : State) (p : SwapReq → Bool) : State :=
  { s with tick := { s.tick with reqs := s.tick.reqs.filter (fun r => !p r) } }

/-- A next-landing request (R73). -/
def State.requestNext (s : State) (k : SwapKind) : State := s.addReq ⟨k, s.openTick, false, false, none, true⟩

/-- What R73 makes of a request for a target tick: the tick it joins and its late flag, or nothing when discarded. -/
def State.joinTick (s : State) (target : Nat) : Option (Nat × Bool) :=
  let n := s.openTick
  let t := s.fullTick target
  if n ≤ t then some (t, false)
  else if -((s.inForce R.tickLateWin).toNat % 256 : Int) ≤ tickDiff target n then some (n, true)
  else none

/-! ### Bank format (R212, R213) -/

/-- A tread. -/
structure Tread where
  ofs8 : Nat
  tickIx : Nat
  gates : Byte
  hold : Bool
  act : Bool
  deriving DecidableEq, Repr

/-- Read a tread. -/
def parseTread (b : List Byte) : Tread :=
  let st := leAt b 0 4
  ⟨st % 2 ^ 21, st / 2 ^ 21 % 64, BitVec.ofNat 8 (leAt b 4 1), (leAt b 5 1).testBit 0, (leAt b 5 1).testBit 1⟩

/-- FLIGHT_TICKS of a bank. -/
def bankFlight (b : List Byte) : Nat := leAt b 2 1

/-- TREADS of a bank. -/
def bankCount (b : List Byte) : Nat := leAt b 4 2

/-- BANK_ID of a bank. -/
def bankId (b : List Byte) : Nat := leAt b 8 4

/-- Size of a bank of `n` treads. -/
def bankSize (n : Nat) : Nat := 24 + 8 * n

/-- The treads of a bank. -/
def bankTreads (b : List Byte) : List Tread := (records 8 (bankCount b) (b.drop 16)).map parseTread

/-- Reserved bits of a tread are 0. -/
def treadClean (b : List Byte) : Bool := leAt b 0 4 / 2 ^ 27 == 0 && leAt b 5 1 / 4 == 0 && leAt b 6 2 == 0

/-- Treads ascend strictly, and two of one tick stand at least 32 ns apart (R214). -/
def treadsRise : List Tread → Bool
  | a :: b :: t =>
    (decide (a.tickIx < b.tickIx) || (a.tickIx == b.tickIx && decide (a.ofs8 + 4 ≤ b.ofs8))) && treadsRise (b :: t)
  | _ => true

/-- The check of R214 for the shadow of port `p`, the period being `periodNs` where the bank would become active. -/
def checkBank (p periodNs : Nat) (b : List Byte) : Bool :=
  let n := bankCount b
  let t := bankTreads b
  decide (1 ≤ n) && decide (n ≤ 1024) && decide (bankSize n ≤ b.length) &&
  leAt b (bankSize n - 2) 2 == (crc16 (b.take (bankSize n - 2))).toNat &&
  leAt b 0 1 == 1 && leAt b 3 1 == 0 && leAt b 6 2 == 0 && leAt b 12 4 == 0 && leAt b (16 + 8 * n) 6 == 0 &&
  (records 8 n (b.drop 16)).all treadClean &&
  leAt b 1 1 == p && decide (1 ≤ bankFlight b) && decide (bankFlight b ≤ 64) &&
  (match t with | a :: _ => a.tickIx == 0 && a.ofs8 == 0 | [] => false) &&
  t.all (fun x => decide (x.tickIx < bankFlight b) && decide (x.ofs8 * 8 + 32 ≤ periodNs)) &&
  treadsRise t

/-- The shadow bank of port `p` (R229): its words as far as its own length. -/
def State.shadowBank (s : State) (p : Nat) : List Byte :=
  let n := fld (s.rd (R.schPShadow p + 4)) 15 0
  s.rdBytes (R.schPShadow p) ((bankSize (min n 1024)) / 4)

/-- The active bank of port `p`. -/
def State.bank (s : State) (p : Nat) : List Byte := Tab.get implicitBank s.tx.banks p

/-- Put a bank into the active place of port `p`. -/
def State.setBank (s : State) (p : Nat) (b : List Byte) : State :=
  { s with tx := { s.tx with banks := Tab.put implicitBank s.tx.banks p b } }

/-- Write a bank into the shadow of port `p`. -/
def State.setShadow (s : State) (p : Nat) (b : List Byte) : State :=
  s.wrWords (R.schPShadow p) (wordsOf ((b.length + 3) / 4) b)

/-- The gallery of a port and its slot in it. -/
def State.portSlot (s : State) (p : Nat) : Nat × Nat := ((s.portRec p).firstLane / 16, (s.portRec p).firstLane % 16)

/-- Outcomes of a swap (R235). -/
abbrev Swap.ok : Nat := 1
/-- LATE -/
abbrev Swap.late : Nat := 2
/-- CHECK -/
abbrev Swap.check : Nat := 3
/-- DISCARDED -/
abbrev Swap.discarded : Nat := 4
/-- WITHDRAWN -/
abbrev Swap.withdrawn : Nat := 5
/-- ABORTED -/
abbrev Swap.aborted : Nat := 6

/-- LAST_SWAP of port `p`. -/
def State.lastSwap (s : State) (p v : Nat) : State := s.setF (R.schPStatus p) 2 0 v

/-- OWNED of port `p` follows the requests and the amendment that hold its shadow (R59, R231). -/
def State.settleOwned (s : State) (p : Nat) : State :=
  s.setBit (R.schPStatus p) 5 (s.requested (.bank p) || s.amendOwns Sect.schedule p)

/-- A shadow of port `p` failed R214 (R233). -/
def State.bankFailed (s : State) (p : Nat) : State :=
  let gs := s.portSlot p
  (((s.lastSwap p Swap.check).inc (R.schPSwapFail p)).hwSet (R.schGFailPorts gs.1) gs.2).raise
    (Src.gateBankFail gs.1) [Cu.port p]

/-- Exchange the banks of port `p` at the landing of tick `t` (R232). -/
def State.swapBank (s : State) (p t : Nat) (late : Bool) : State :=
  let new := s.shadowBank p
  let old := s.bank p
  let s1 := (s.setBank p new).setShadow p old
  let s2 := ((s1.inc (R.schPSwaps p)).wrN (R.schPLastTick p) t).wrN (R.schPActiveId p) (bankId new)
  (s2.setF (R.schPFlight p) 6 0 (bankFlight new)).lastSwap p (if late then Swap.late else Swap.ok)

end Sys2Proof.Machine
end

