-- ==== Sys2Proof/Machine/Frames.lean ====
section
/-! DEFINITION. Frames as octets: tags, EtherTypes, the redundancy tag and trailer, and how long they take on a line
(R155 to R157, R186, R195, R201, R219). Octets stand without the FCS. -/

namespace Sys2Proof.Machine

/-- Tags the parser recognises (R157): an outer 0x8100 or 0x88A8 and an inner 0x8100. -/
def vlanTags (b : List Byte) : Nat :=
  let t := beAt b 12 2
  if t = 0x8100 ∨ t = 0x88A8 then (if beAt b 16 2 = 0x8100 then 2 else 1) else 0

/-- Offset of the EtherType after the tags. -/
def typeOfs (b : List Byte) : Nat := 12 + 4 * vlanTags b

/-- The EtherType after the tags. -/
def etherType (b : List Byte) : Nat := beAt b (typeOfs b) 2

/-- The TCI of the innermost recognised tag (R177), none for an untagged frame. -/
def innerTci (b : List Byte) : Option Nat :=
  match vlanTags b with
  | 0 => none
  | 1 => some (beAt b 14 2)
  | _ => some (beAt b 18 2)

/-- Destination address. -/
def dmac (b : List Byte) : Nat := beAt b 0 6

/-- Source address. -/
def smac (b : List Byte) : Nat := beAt b 6 6

/-- Length of a frame under R155: FCS included, padded to 64 octets when the device sends it (R156). -/
def wireLen (b : List Byte) : Nat := max 60 b.length + 4

/-- LSDU size of a tagged or trailed frame (log entry 14): octets after the addresses, tags and EtherType. -/
def lsduSize (b : List Byte) : Nat := b.length - 14 - 4 * vlanTags b

/-- Insert an HSR tag after the tags of R157 (R201). -/
def addHsrTag (seq pathId : Nat) (b : List Byte) : List Byte :=
  let o := typeOfs b
  let size := lsduSize b + 6
  b.take o ++ beBytes 2 0x892F ++ beBytes 2 (pathId * 4096 + size % 4096) ++ beBytes 2 seq ++ b.drop o

/-- Append a PRP trailer (R195). -/
def addPrpTrailer (seq lan : Nat) (b : List Byte) : List Byte :=
  let c := b ++ List.replicate (60 - b.length) 0
  c ++ beBytes 2 seq ++ beBytes 2 (lan * 4096 + (lsduSize c + 6) % 4096) ++ beBytes 2 0x88FB

/-- Octets a frame puts on port `p`, with its pair's tag or trailer (R195, R201). A supervision frame of an HSR pair
and forwarded frames are given whole already. -/
def State.onPort (s : State) (p : Nat) (f : TxFrame) : List Byte :=
  match f.pair, f.seq with
  | some _, some n =>
    match (s.portRec p).role with
    | 1 => addPrpTrailer n 0xA f.bytes
    | 2 => addPrpTrailer n 0xB f.bytes
    | 3 => addHsrTag n 0 f.bytes
    | _ => f.bytes
  | _, _ => f.bytes

/-- Octets the pair's tag or trailer will add to a frame. -/
def TxFrame.extra (f : TxFrame) : Nat := if f.pair.isSome then 6 else 0

/-! ### Tagging a frame for the transmit store -/

/-- Put a frame among those ready, with its order (R298). -/
def State.enqueue (s : State) (f : TxFrame) : State :=
  { s with tx := { s.tx with ready := s.tx.ready ++ [{ f with id := s.tx.nextId }], nextId := s.tx.nextId + 1 } }

end Sys2Proof.Machine
end

