-- ==== Sys2Proof/Machine/Goose.lean ====
section
/-! DEFINITION. GOOSE control blocks: the template check, the retransmission curve and the edited fields (R307 to R312). -/

namespace Sys2Proof.Machine

/-! ### Encoded elements -/

/-- One element at the front of `b`: tag, offset of its content, length of its content. Lengths are definite, in short
form or in long form with 1 or 2 octets (R307). -/
def berHead (b : List Byte) : Option (Nat × Nat × Nat) :=
  match b with
  | t :: l :: rest =>
    let n := l.toNat
    if n < 128 then some (t.toNat, 2, n)
    else if n = 0x81 then (match rest with | x :: _ => some (t.toNat, 3, x.toNat) | _ => none)
    else if n = 0x82 then (match rest with | x :: y :: _ => some (t.toNat, 4, 256 * x.toNat + y.toNat) | _ => none)
    else none
  | _ => none

/-- The elements of `b`, each as tag, offset of the content from `o` on, length; none when one runs over the end. -/
def berList : Nat → Nat → List Byte → Option (List (Nat × Nat × Nat))
  | 0, _, _ => none
  | n + 1, o, b =>
    if b.isEmpty then some []
    else match berHead b with
      | none => none
      | some (t, h, l) =>
        if h + l ≤ b.length then (berList n (o + h + l) (b.drop (h + l))).map ((t, o + h, l) :: ·) else none

/-- Every element of `b` is well formed, those inside constructed elements included. -/
def berOk : Nat → List Byte → Bool
  | 0, _ => false
  | n + 1, b =>
    match berList (b.length + 1) 0 b with
    | none => false
    | some es => es.all (fun e => if e.1.testBit 5 then berOk n (slice b e.2.1 e.2.2) else true)

/-! ### Templates (R307) -/

/-- The tags of goosePdu in order, goID apart. -/
def gooseTags (withId : Bool) : List Nat :=
  [0x80, 0x81, 0x82] ++ (if withId then [0x83] else []) ++ [0x84, 0x85, 0x86, 0x87, 0x88, 0x89, 0x8A, 0xAB]

/-- Offset of goosePdu in a frame: after the addresses, at most one tag, the EtherType and the 8 octets of the header. -/
def goosePduOfs (b : List Byte) : Nat := if beAt b 12 2 = 0x8100 then 26 else 22

/-- The elements of the goosePdu of a frame. -/
def gooseElems (b : List Byte) : Option (List (Nat × Nat × Nat)) :=
  let o := goosePduOfs b
  match berHead (b.drop o) with
  | some (0x61, h, l) => if o + h + l ≤ b.length then berList (l + 1) (o + h) (slice b (o + h) l) else none
  | _ => none

/-- Offset of the content of element `tag` of the goosePdu. -/
def gooseField (b : List Byte) (tag : Nat) : Nat :=
  match gooseElems b with
  | some es => (match es.find? (fun e => e.1 == tag) with | some e => e.2.1 | none => 0)
  | none => 0

/-- ERR 0x02 holds off: EtherType, GOOSE Length and the octets after goosePdu. -/
def gooseFramed (b : List Byte) : Bool :=
  let o := goosePduOfs b
  beAt b (o - 10) 2 == 0x88B8 &&
  (match berHead (b.drop o) with
   | some (_, h, l) => beAt b (o - 6) 2 == 8 + h + l && decide (o + h + l ≤ b.length) && allZero (b.drop (o + h + l))
   | none => false)

/-- ERR 0x03 holds off: the elements of goosePdu in their order. -/
def gooseOrdered (b : List Byte) : Bool :=
  match gooseElems b with
  | some es =>
    (es.map (·.1) == gooseTags true || es.map (·.1) == gooseTags false) &&
    es.all (fun e => if e.1 = 0xAB then berOk 32 (slice b e.2.1 e.2.2) else true)
  | none => false

/-- ERR 0x04 holds off: timeAllowedtoLive, stNum and sqNum have 4 content octets, t has 8. -/
def gooseSized (b : List Byte) : Bool :=
  match gooseElems b with
  | some es => es.all (fun e =>
      if e.1 = 0x81 ∨ e.1 = 0x85 ∨ e.1 = 0x86 then e.2.2 == 4 else if e.1 = 0x84 then e.2.2 == 8 else true)
  | none => false

/-- Blocks of 64 octets a template of `len` octets takes. -/
def tplBlocks (len : Nat) : Nat := (len + 63) / 64

/-- Two runs of blocks share one. -/
def runsMeet (a n b m : Nat) : Bool := decide (0 < n) && decide (0 < m) && decide (a < b + m) && decide (b < a + n)

/-- The blocks of a slot register: first and count. -/
def slotBlocks (r : Reg) : Nat × Nat := (fld r 15 0, tplBlocks (fld r 26 16))

/-- GCBs whose slot registers hold something. -/
def State.slotGcbs (s : State) : List Nat :=
  (((s.listed (R.txeGcbCfg 0) (R.txeGcbCfg 4096)).filter
    (fun k => (k - R.txeGcbCfg 0) % 0x40 == 0x20 || (k - R.txeGcbCfg 0) % 0x40 == 0x24)).map
    (fun k => (k - R.txeGcbCfg 0) / 0x40)).eraseDups

/-- ERR 0x05 holds off: the slot lies in the store, apart from this GCB's active slot and every slot of another GCB. -/
def State.slotFree (s : State) (i block len : Nat) : Bool :=
  let n := tplBlocks len
  decide (block + n ≤ 65536) &&
  s.slotGcbs.all (fun j =>
    let a := slotBlocks (s.rd (R.txeGcbTplA j))
    let p := slotBlocks (s.rd (R.txeGcbTplP j))
    !runsMeet block n a.1 a.2 && (j == i || !runsMeet block n p.1 p.2))

/-- The ERR code of a template of GCB `i`, 0 when every rule holds (R307). -/
def State.gooseErr (s : State) (i : Nat) (l : TplLoad) (b : List Byte) : Nat :=
  if ¬ (60 ≤ l.len ∧ l.len ≤ 1518 ∧ l.len ≤ l.limit) then 1
  else if !gooseFramed b then 2
  else if !gooseOrdered b then 3
  else if !gooseSized b then 4
  else if !s.slotFree i l.block l.len then 5
  else 0

/-! ### GCBs beside their registers -/

/-- A GCB nothing was done with. -/
def gcbInit (_ : Nat) : GcbSt := ⟨0, 0, 0, 0, 0, false, false, [], none, false, false⟩

/-- GCB `i` beside its registers. -/
def State.gcb (s : State) (i : Nat) : GcbSt := Tab.get gcbInit s.tx.gcbs i

/-- Replace GCB `i`. -/
def State.setGcb (s : State) (i : Nat) (g : GcbSt) : State :=
  { s with tx := { s.tx with gcbs := Tab.put gcbInit s.tx.gcbs i g } }

/-- The template store's octet `a`. -/
def State.tplGet (s : State) (a : Nat) : Byte := Tab.get (fun _ => 0) s.tx.store a

/-- Write octets of the template store. -/
def State.tplWrite (s : State) (a : Nat) : List Byte → State
  | [] => s
  | b :: bs => State.tplWrite { s with tx := { s.tx with store := Tab.put (fun _ => 0) s.tx.store a b } } (a + 1) bs

/-- The active template of GCB `i`. -/
def State.tplActive (s : State) (i : Nat) : List Byte :=
  let r := s.rd (R.txeGcbTplA i)
  (List.range (fld r 26 16)).map (fun k => s.tplGet (64 * fld r 15 0 + k))

/-- EN of GCB `i`. -/
def State.gcbOn (s : State) (i : Nat) : Bool := s.bit (R.txeGcbStatus i) 0

/-- CFG of GCB `i` in force (R313). -/
def State.gcbCfg (s : State) (i : Nat) : Reg := s.inForce (R.txeGcbCfg i)

/-- The port of GCB `i`. -/
def State.gcbPort (s : State) (i : Nat) : Nat := fld (s.gcbCfg i) 6 0

/-- GCB `i` feeds the actuation queue. -/
def State.gcbAct (s : State) (i : Nat) : Bool := rbit (s.gcbCfg i) 11

/-- GCB `i` runs: enabled, in hardware mode, and an actuation GCB only with the grant and outside the fault state
(R306, R313, R314). -/
def State.gcbRuns (s : State) (i : Nat) : Bool :=
  s.gcbOn i && !s.hostGoose i && (!s.gcbAct i || (s.granted && !s.inFault))

/-! ### The curve (R310) and the edited fields (R312) -/

/-- STEPS as taken: 0 as 1, above 8 as 8. -/
def State.gcbSteps (s : State) (i : Nat) : Nat := min 8 (max 1 (fld (s.gcbCfg i) 19 16))

/-- The interval I_k in ns. -/
def State.gcbInterval (s : State) (i k : Nat) : Nat :=
  let t0 := fld (s.inForce (R.txeGcbT0Ms i)) 15 0 * 1000000
  let t1 := fld (s.inForce (R.txeGcbT1Us i)) 23 0 * 1000
  if (s.gcb i).flat ∨ s.gcbSteps i < k then t0 else min (t1 * 2 ^ (k - 1)) t0

/-- The TimeQuality octet. -/
def State.timeQuality (s : State) : Nat :=
  let st := s.tbState s.src
  (s.bit R.txeGooseUtc 16).toNat * 128 + (if st = TbS.refused then 64 else 0) + (if st = TbS.locked then 24 else 32 + 31)

/-- t of a state change of GCB `i` at the present instant. -/
def State.gooseT (s : State) (i : Nat) : List Byte :=
  if rbit (s.gcbCfg i) 24 then s.rdBytes (R.txeGcbTHost i) 2
  else
    let secs := s.srcNow / oneSec - s.getF R.txeGooseUtc 15 0
    let ns := s.srcNow % oneSec / ns48
    beBytes 4 (unsigned 32 secs) ++ beBytes 3 (ns * 2 ^ 24 / 10 ^ 9).toNat ++ beBytes 1 s.timeQuality

/-- The number after `n`: 2^31 - 1 is followed by 1 (R308, R311). -/
def nextNum (n : Nat) : Nat := if n = 2 ^ 31 - 1 then 1 else n + 1

/-- sqNum of the frame of GCB `i` that is selected next. -/
def State.nextSq (s : State) (i : Nat) : Nat :=
  if (s.gcb i).fresh then s.rdN (R.txeGcbSqnum i) else nextNum (s.rdN (R.txeGcbSqnum i))

/-- timeAllowedtoLive of the waiting frame, in ms rounded up: from the interval after the due instant it took last. -/
def State.gcbTal (s : State) (i : Nat) : Nat :=
  ((fld (s.gcbCfg i) 21 20 + 1) * s.gcbInterval i ((s.gcb i).lastK + 1) + 999999) / 1000000

/-- The octets of the waiting frame of GCB `i` if it is selected now. -/
def State.gcbBytes (s : State) (i : Nat) : List Byte :=
  let b := s.tplActive i
  let b1 := patch b (gooseField b 0x81) (beBytes 4 (s.gcbTal i))
  let b2 := patch b1 (gooseField b 0x84) (s.gcb i).t
  let b3 := patch b2 (gooseField b 0x85) (beBytes 4 (s.rdN (R.txeGcbStnum i)))
  patch b3 (gooseField b 0x86) (beBytes 4 (s.nextSq i))

/-- The waiting frame of GCB `i` as a frame ready for its ports. -/
def State.gcbFrame (s : State) (i : Nat) : TxFrame :=
  ⟨(s.gcb i).readyId, .gcb i, s.txPorts (s.gcbPort i), fld (s.gcbCfg i) 10 8, s.gcbAct i, s.gcbBytes i, none,
    s.pairOf (s.gcbPort i), none, true, none, true⟩

/-- The GCBs that run with a waiting frame for port `p` (R306). -/
def State.gcbsWaiting (s : State) (p : Nat) : List Nat :=
  s.gcbsOn.filter (fun i => s.gcbRuns i && s.bit (R.txeGcbStatus i) 5 && (s.txPorts (s.gcbPort i)).contains p)

/-- A waiting frame appears, or falls into the one that waits (R311). -/
def State.gcbWait (s : State) (i : Nat) : State :=
  if s.bit (R.txeGcbStatus i) 5 then s.inc (R.txeGcbMerged i)
  else
    let s1 := s.setGcb i { s.gcb i with readyId := s.tx.nextId }
    State.setBit { s1 with tx := { s1.tx with nextId := s1.tx.nextId + 1 } } (R.txeGcbStatus i) 5 true

/-- Drop the waiting frame. -/
def State.gcbDrop (s : State) (i : Nat) : State := s.setBit (R.txeGcbStatus i) 5 false

/-- A port of GCB `i` can send: its effective state is at least RUN (R304). -/
def State.gcbCanSend (s : State) (i : Nat) : Bool := (s.txPorts (s.gcbPort i)).any s.portCarries

/-- The due instant of GCB `i` is taken: its frame waits, or is skipped while its ports cannot send (R304, R310). -/
def State.gcbDue (s : State) (i : Nat) : State :=
  let g := s.gcb i
  let g1 := { g with k := g.k + 1, due := g.due + ofNs (s.gcbInterval i (g.k + 1)) }
  if s.gcbCanSend i then (s.setGcb i { g1 with lastK := g.k }).gcbWait i
  else (s.setGcb i g1).inc (R.txeGcbSkipped i)

/-- A state change starts the curve: frame 0 is due at once and replaces a waiting frame (R308, R311). -/
def State.gcbRestart (s : State) (i : Nat) : State :=
  let s1 := s.setGcb i { s.gcb i with due := s.srcNow, tc := s.srcNow, k := 0, lastK := 0, fresh := true, flat := false, t := s.gooseT i }
  (s1.gcbDrop i).gcbDue i

/-- The state change of R308. -/
def State.gcbCommit (s : State) (i : Nat) (late : Bool) : State :=
  let a := s.rd (R.txeGcbTplA i)
  let s1 := (s.wr (R.txeGcbTplA i) (s.rd (R.txeGcbTplP i))).wr (R.txeGcbTplP i) a
  let s2 := (s1.setBit (R.txeGcbStatus i) 3 false).setBit (R.txeGcbStatus i) 4 late
  let s3 := (s2.wrN (R.txeGcbStnum i) (nextNum (s.rdN (R.txeGcbStnum i)))).wrN (R.txeGcbSqnum i) 0
  s3.gcbRestart i

end Sys2Proof.Machine
end

