-- ==== Sys2Proof/Machine/Line.lean ====
section
/-! DEFINITION. Frames on a line: how a copy ends, what its entry then completes with, preemption, and what becomes of
frames that cannot be sent (R154, R169, R222, R300 to R306, R324). -/

namespace Sys2Proof.Machine

/-! ### The outcome of a frame (R300, R301) -/

/-- The later of two statuses in the order OK, CANCELLED, CANCELLED_VISIBLE, ESCAPED. -/
def laterStatus (a b : Nat) : Nat :=
  let rank := fun c => if c = Code.cancelled then 1 else if c = Code.cancelledVisible then 2 else if c = Code.escaped then 3 else 0
  if rank a < rank b then b else a

/-- The copy launched first. -/
def firstCopy : List CopyEnd → Option CopyEnd
  | [] => none
  | c :: t => match firstCopy t with
    | none => some c
    | some d => if d.first < c.first then some d else some c

/-- The information field of a transmit completion. -/
def txInfo (c : CopyEnd) (oneCopy unconfirmed : Bool) : Nat :=
  c.tick % 2 ^ 32 + c.tread % 1024 * 2 ^ 32 + c.late.toNat * 2 ^ 42 + c.early.toNat * 2 ^ 43 + c.preempted.toNat * 2 ^ 44
    + oneCopy.toNat * 2 ^ 45 + unconfirmed.toNat * 2 ^ 46

/-- Status and information field of a frame whose copies all ended. ONE_COPY of a pair's frame whose launched copies were all
cut off tells that one of the two never reached the wire (log entry 101). -/
def txOutcome (cs : List CopyEnd) (unconfirmed : Bool) : Nat × Nat :=
  let whole := cs.filter (fun c => c.launched && !c.cut)
  match whole with
  | [] => (match firstCopy (cs.filter (·.launched)) with
    | some c => (Code.aborted, txInfo c (cs.any (fun d => !d.launched)) unconfirmed)
    | none => ((cs.map (·.status)).foldl max 0, unconfirmed.toNat * 2 ^ 46))
  | _ =>
    let one := decide (whole.length < cs.length)
    let st := (cs.map (·.status)).foldl (fun a c => if c = Code.aborted then a else laterStatus a c) 0
    match firstCopy whole with
    | some c => (st, txInfo c one unconfirmed)
    | none => (st, 0)

/-- Write the completion of entry `e` of a transmit queue or A-ring with its outcome; a status a cancellation fixed
stands. -/
def State.completeTx (s : State) (q : Nat) (e : Entry) (unconfirmed : Bool) : State :=
  let r := txOutcome e.copies unconfirmed
  let st := if e.status ≠ 0 then e.status else r.1
  s.complete q e.idx (entryTag (s.qKind q) e.bytes) st r.2

/-- The mirror heartbeat is lost: HB_MISS_RUN has reached HB_TICKS (R411). -/
def State.mirrorLost (s : State) : Bool := decide (s.getF R.rdnHbTicks 10 0 ≤ s.getF R.rdnHbMissRun 15 0)

/-- The completion of a cancelled entry (R325): held while its binding stands in a mirror epoch and the mirror confirms,
else written. -/
def State.completeCancel (s : State) (q : Nat) (e : Entry) : State :=
  let s1 := s.endBinding q e e.status
  if e.carried.isSome ∧ s.hasPair then
    if s.role = Role.active ∧ s.mirrorLost = false then s1.setEntry q { e with stage := .held } else s1.completeTx q e true
  else s1.completeTx q e false

/-- Every copy of entry `e` ended. -/
def State.frameDone (s : State) (q : Nat) (e : Entry) : State :=
  if s.qKind q = 2 then
    let s1 := s.freeRunAhead q e
    if e.status ≠ 0 then s1.completeCancel q e
    else if e.copies.any (·.launched) then s1.setEntry q { e with stage := .sent }
    else (s1.endBinding q e Code.aborted).completeTx q e false
  else s.completeTx q e false

/-- One copy of a frame ended. -/
def State.endCopy (s : State) (src : TxSrc) (c : CopyEnd) : State :=
  match src with
  | .host q i =>
    (match s.entry? q i with
     | some e =>
       let e1 := { e with left := e.left - 1, copies := e.copies ++ [c] }
       if e1.left = 0 then (s.frameDone q e1).settleStop q else s.setEntry q e1
     | none => s)
  | _ => s

/-- What a copy that never launched leaves. -/
def noCopy (status : Nat) : CopyEnd := ⟨false, 0, false, status, 0, 0, false, false, false⟩

/-- Take a frame off the ports it has still to leave on, none of its copies there being launched. -/
def State.dropFrame (s : State) (f : TxFrame) (ports : List Nat) (status : Nat) : State :=
  let left := f.ports.filter (fun p => !ports.contains p)
  let keep := if left.isEmpty then s.tx.ready.filter (fun g => g.id != f.id || g.src != f.src)
    else s.tx.ready.map (fun g => if g.id = f.id ∧ g.src = f.src then { g with ports := left } else g)
  let s1 := { s with tx := { s.tx with ready := keep } }
  forEach (f.ports.filter ports.contains) (fun _ x => x.endCopy f.src (noCopy status)) s1

/-! ### The end of a frame or fragment -/

/-- What the line leaves of a copy. -/
def LineSt.toCopy (l : LineSt) (cut : Bool) (status : Nat) (late : Bool) : CopyEnd :=
  ⟨l.launched, l.first, cut, status, l.tick, l.tread, late, l.early, l.preempted⟩

/-- A bound frame was launched at or after L(TARGET + 1) (R301). -/
def State.launchedLate (s : State) (l : LineSt) : Bool :=
  match l.frame.src with
  | .host q i =>
    s.qKind q == 2 && (match s.entry? q i with
      | some e => decide (0 < tickDiff l.tick (leAt e.bytes 0xC 4))
      | none => false)
  | _ => false

/-- Count a frame that left whole on port `p`. -/
def State.countSent (s : State) (p : Nat) (l : LineSt) : State :=
  let s1 := (s.inc64 (R.prtPTxFrames p)).inc64By (R.prtPTxOctets p) l.total
  if s.express p l.frame.tc then s1.inc64 (R.prtPTxExpress p) else s1.inc64 (R.prtPTxPreemptable p)

/-! What passes a line, octet by octet (R156, R169, R324). The start delimiters, the fragment counts and the mCRC are those
of IEEE 802.3 Clause 99, which the spec names (log entry 97). -/

/-- The SMD of the first fragment, and of a continuation, of a frame with frame count `n`. -/
def smdStart (n : Nat) : Nat := [0xE6, 0x4C, 0x7F, 0xB3].getD n 0
/-- The SMD of a continuation -/
def smdCont (n : Nat) : Nat := [0x61, 0x52, 0x9E, 0x2A].getD n 0
/-- The fragment count octet of continuation `n`. -/
def fragOctet (n : Nat) : Nat := [0xE6, 0x4C, 0x7F, 0xB3].getD (n % 4) 0

/-- The four octets of an FCS over `b`. -/
def fcsOf (b : List Byte) : List Byte := leBytes 4 (crc32 b).toNat

/-- The four octets of an mCRC over `b`. -/
def mcrcOf (b : List Byte) : List Byte := leBytes 4 (crc32 b ^^^ 0xFFFF0000#32).toNat

/-- The check over `b` inverted: of an FCS, or of an mCRC where `m` says so. -/
def badCheck (m : Bool) (b : List Byte) : List Byte := (if m then mcrcOf b else fcsOf b).map (~~~ ·)

/-- Octets `a` to `b` of the frame on a line, its FCS counted. -/
def LineSt.part (l : LineSt) (a b : Nat) : List Byte := ((l.bytes ++ fcsOf l.bytes).take b).drop a

/-- The preamble and start delimiter of what goes on the line (R156). -/
def State.emitStart (s : State) (p : Nat) (l : LineSt) : State :=
  s.emit (match l.smd with
    | none => .start p 0xD5 none
    | some n => if l.sent = 0 then .start p (smdStart n) none else .start p (smdCont n) (some (fragOctet (l.frags - 1))))

/-- What is on the line of port `p` ends after octet `n` of the frame with an inverted check (R154, R163, R324). -/
def State.emitCut (s : State) (p : Nat) (l : LineSt) (n : Nat) (m : Bool) : State :=
  s.emit (.octets p (l.part l.sent n ++ badCheck m (l.part 0 n)))

/-- What stands on the line of port `p` has passed: a fragment leaves its rest as a continuation, a frame its copy. -/
def State.lineOver (s : State) (p : Nat) : State :=
  let x := s.port p
  match x.line with
  | none => s
  | some l =>
    let free := s.lineEnd p l + s.octets p 12
    match l.stopAt with
    | some k =>
      let rest := { l with sent := k, stopAt := none, preempted := true, frags := l.frags + 1 }
      (((s.setPort p { x with line := none, freeAt := free, preempted := some rest }).inc64 (R.prtPMmTxFrag p)).emit
        (.octets p (l.part l.sent k ++ mcrcOf (l.part 0 k))))
    | none =>
      let s1 := s.setPort p { x with line := none, freeAt := free }
      if l.stomp then
        let s2 := (s1.inc64 (R.prtPTxStomp p)).emitCut p l (l.total - 4) l.cutFrag
        s2.endCopy l.frame.src (l.toCopy false Code.cancelledVisible (s.launchedLate l))
      else ((s1.countSent p l).emit (.octets p (l.part l.sent l.total))).endCopy l.frame.src
        (l.toCopy false Code.ok (s.launchedLate l))

/-- End what is on the line if its last octet has passed by now. -/
def State.settleLine (s : State) (p : Nat) : State :=
  match (s.port p).line with
  | some l => if l.launched ∧ s.lineEnd p l ≤ s.clock then s.lineOver p else s
  | none => s

/-- A copy that waits as `l` is cut off by the link (R154). -/
def State.cutLine (s : State) (p : Nat) (l : Option LineSt) : State :=
  match l with
  | some l => (s.inc64 (R.prtPTxLinkDrop p)).endCopy l.frame.src (l.toCopy true Code.aborted (s.launchedLate l))
  | none => s

/-- A frame that was selected for port `p` and has not launched goes back to its place among those ready. -/
def State.requeue (s : State) (p : Nat) (f : TxFrame) : State :=
  let same := fun (g : TxFrame) => decide (g.id = f.id ∧ g.src = f.src)
  let l := if s.tx.ready.any same then
      s.tx.ready.map (fun g => if same g then { g with ports := p :: g.ports, lead := g.lead || f.lead } else g)
    else { f with ports := [p] } :: s.tx.ready
  { s with tx := { s.tx with ready := l } }

/-- What is selected on port `p` and has not launched is no longer selected. -/
def State.unselect (s : State) (p : Nat) : State :=
  match (s.port p).line with
  | some l => if l.launched then s else (s.setPort p { s.port p with line := none }).requeue p l.frame
  | none => s

/-- The link of port `p` leaves UP: the frame on the line and a continuation that waits are cut off, the former with an
inverted check; a frame selected but not launched goes back to its place. -/
def State.cutPort (s0 : State) (p : Nat) : State :=
  let s := s0.unselect p
  let x := s.port p
  let s1 := s.setPort p { x with line := none, preempted := none, rxFrag := none, rxBegun := none }
  let s2 := match x.line with
    | some l => (s1.emitCut p l (s.lineSent p l) l.stopAt.isSome).cutLine p (some l)
    | none => s1
  s2.cutLine p x.preempted

/-! ### Frames that cannot be sent (R304 to R306) -/

/-- Frames ready for port `p`. -/
def State.readyOn (s : State) (p : Nat) : List TxFrame := s.tx.ready.filter (·.ports.contains p)

/-- A frame is one the host posted. -/
def TxFrame.isHost (f : TxFrame) : Bool := match f.src with | .host _ _ => true | _ => false

/-- The frame's queue is held: it does not become eligible (R353). -/
def State.heldFrame (s : State) (f : TxFrame) : Bool :=
  match f.src with
  | .host q _ => s.qState q == QS.held
  | _ => false

/-- Frames whose ports are all contained: those of the host complete with ABORTED, the others are discarded (R304). An SV
publisher's frame that no port can send counts in UNDERRUN, under HOLD too, and so does a GCB's waiting frame in SKIPPED. -/
def State.flushContained (s : State) (p : Nat) : State :=
  let s1 := forEach (s.readyOn p) (fun f x =>
    match f.src with
    | .svp n =>
      if f.ports.any x.portCarries then x
      else (let y := x.dropFrame f f.ports 0; if f.lead then y.inc (R.txeSvpUnderrun n) else y)
    | _ => if f.ports.all x.portContained then x.dropFrame f f.ports Code.aborted else x) s
  forEach (s1.gcbsWaiting p) (fun i x => if x.gcbCanSend i then x else (x.gcbDrop i).inc (R.txeGcbSkipped i)) s1

/-! ### The actuation queue (R226, R227, R298, R305) -/

/-- The actuation queue of port `p`: ripe frames of host queues and GCBs bound to it. -/
def State.actQueue (s : State) (p : Nat) : List TxFrame :=
  ((s.readyOn p).filter (fun f => f.act && f.ripe && !s.heldFrame f)) ++ ((s.gcbsWaiting p).filter s.gcbAct).map s.gcbFrame

/-- The frame with the lowest order of readiness. -/
def firstReady : List TxFrame → Option TxFrame
  | [] => none
  | f :: t => match firstReady t with
    | none => some f
    | some g => if g.id < f.id then some g else some f

/-- Its head. -/
def State.actHead (s : State) (p : Nat) : Option TxFrame := firstReady (s.actQueue p)

/-- The tread in force on port `p`. -/
def State.treadIn (s : State) (p : Nat) : Tread :=
  (bankTreads (s.bank p)).getD (s.getF (R.schPStatus p) 17 8) ⟨0, 0, 0, false, false⟩

/-- In the fault state the host frames of the actuation queue of port `p` complete with FAULT_STATE as they reach its head, at
most `n` (R306). -/
def State.flushFault (s : State) (p : Nat) : Nat → State
  | 0 => s
  | n + 1 =>
    match s.actHead p with
    | some f => if f.isHost then (s.dropFrame f f.ports Code.faultState).flushFault p n else s
    | none => s

/-- Frames of port `p` that cannot be sent leave (R304, R306). -/
def State.flushPort (s : State) (p : Nat) : State :=
  let s1 := s.flushContained p
  if s1.inFault then s1.flushFault p (s1.readyOn p).length else s1

/-- ACT_BLOCKED: in an ACT tread a frame stands at the head of the actuation queue and R12 does not hold (R227). -/
def State.noteBlocked (s : State) (p : Nat) : State :=
  let x := s.port p
  match s.actHead p with
  | some f =>
    if (s.treadIn p).act && !s.actAllowed p && !x.blocked.contains f.id then
      let s1 := s.setPort p { x with blocked := f.id :: x.blocked }
      if x.blocked.isEmpty then s1.inc (R.schPActBlocked p) else s1
    else s
  | none => s

/-- A copy of the frame left, or is still to leave, on a port other than `p`. -/
def State.otherCopy (s : State) (p : Nat) (f : TxFrame) : Bool :=
  f.ports.any (· != p) ||
  (match f.src with
   | .host q i => (match s.entry? q i with | some e => e.copies.any (·.launched) | none => false)
   | _ => false)

/-- The end of an ACT tread: a head that R12 kept from launching, and still keeps, leaves the queue with ACT_DENIED (R305). Of a
pair's frame only this port's copy leaves; the frame is denied when no other copy was or can be sent. -/
def State.denyHead (s : State) (p : Nat) : State :=
  let s1 := s.noteBlocked p
  match s1.actHead p with
  | some f =>
    if (s1.treadIn p).act && !s1.actAllowed p && (s1.port p).blocked.contains f.id then
      match f.src with
      | .gcb i =>
        if (s1.gcb i).readyId = f.id then (s1.gcbDrop i).raise Src.txActDenied []
        else s1.dropFrame f [p] Code.actDenied
      | _ =>
        let s2 := s1.dropFrame f [p] Code.actDenied
        if s1.otherCopy p f then s2 else s2.raise Src.txActDenied []
    else s1
  | none => s1

end Sys2Proof.Machine
end

