-- ==== Sys2Proof/Machine/Staircase.lean ====
section
/-! DEFINITION. The staircase (07_staircase): where a port stands in its flight, when treads take effect, the close time
of a gate, admission, and the commands on the banks. -/

namespace Sys2Proof.Machine

/-! ### Position and tread (R215, R216) -/

/-- The position of port `p` in its flight in the current tick. -/
def State.position (s : State) (p : Nat) : Nat := s.now % max 1 (bankFlight (s.bank p))

/-- A tread starts at or before offset `o` of the tick at position `pos` of a flight. -/
def Tread.startedBy (t : Tread) (pos : Nat) (o : Time) : Bool :=
  decide (t.tickIx < pos) || (t.tickIx == pos && decide (ofNs (t.ofs8 * 8) ≤ o))

/-- The number of treads from the front that started. -/
def startedTreads (pos : Nat) (o : Time) : List Tread → Nat
  | [] => 0
  | t :: ts => if t.startedBy pos o then startedTreads pos o ts + 1 else 0

/-- The index of the tread R215 gives for the present instant. -/
def State.treadNow (s : State) (p : Nat) : Nat :=
  startedTreads (s.position p) s.tickOffset (bankTreads (s.bank p)) - 1

/-- The index of the tread in force. -/
def State.treadIx (s : State) (p : Nat) : Nat := s.getF (R.schPStatus p) 17 8

/-- The actuation gate of port `p` is open (ACT_OPEN, R12, R226). -/
def State.actOpen (s : State) (p : Nat) : Bool := (s.treadIn p).act && s.actAllowed p

/-- The gate of a frame is open in tread `t`: the actuation gate's flag or the GATES bit of its class (R218). -/
def Tread.opens (t : Tread) (act : Bool) (tc : Nat) : Bool := if act then t.act else t.gates.getLsbD tc

/-- The gate of a frame is open now; the actuation gate needs R12 as well (R226). -/
def State.gateOpen (s : State) (p : Nat) (act : Bool) (tc : Nat) : Bool :=
  (s.treadIn p).opens act tc && (!act || s.actAllowed p)

/-! ### Hold (R224) -/

/-- The merge hold of port `p` is asserted. -/
def State.holding (s : State) (p : Nat) : Bool := s.bit (R.schPStatus p) 7

/-- Assert the merge hold. -/
def State.assertHold (s : State) (p : Nat) : State :=
  if s.preemptActive p && !s.holding p then
    ((s.setBit (R.schPStatus p) 7 true).inc64 (R.prtPMmHold p)).preemptNow p
  else s

/-! ### A gate that closes on a frame (R222) -/

/-- The frame on the line runs past its gate's close: counted once; a preemptable one is preempted where R169 permits. -/
def State.checkOverrun (s : State) (p : Nat) : State :=
  let x := s.port p
  match x.line with
  | some l =>
    let act := l.frame.act && l.sent == 0
    if l.launched && !l.overrun && !s.gateOpen p act l.frame.tc then
      ((s.markOverrun p l).raise (Src.gateOverrun (s.portGallery p)) [Cu.port p]).preemptNow p
    else s
  | none => s

/-! ### Treads take effect (R216) -/

/-- Tread `i` of port `p` takes effect; the tread in force ends. A frame selected in it that has not launched is selected
anew. -/
def State.startTread (s : State) (p i : Nat) : State :=
  let s1 := ((s.settleLine p).unselect p).denyHead p
  let s2 := s1.setPort p { s1.port p with deferred := [], blocked := [] }
  let s3 := s2.setF (R.schPStatus p) 17 8 i
  let s4 := if (s3.treadIn p).hold then s3.assertHold p else s3.setBit (R.schPStatus p) 7 false
  (s4.noteBlocked p).checkOverrun p

/-- Treads of port `p` whose instants in the current tick have come take effect one after the other, at most `n`. -/
def State.catchUp (s : State) (p : Nat) : Nat → State
  | 0 => s
  | n + 1 => if s.treadIx p < s.treadNow p then (s.startTread p (s.treadIx p + 1)).catchUp p n else s

/-- Every tread that is due takes effect, and what has passed the line ends. -/
def State.settlePort (s : State) (p : Nat) : State :=
  (s.catchUp p (s.treadNow p - s.treadIx p)).settleLine p

/-- The bank of port `p` was swapped at the landing of the current tick (R232). -/
def State.justSwapped (s : State) (p : Nat) : Bool :=
  s.rdN (R.schPLastTick p) == s.now % 2 ^ 32 && (s.getF (R.schPStatus p) 2 0 == Swap.ok || s.getF (R.schPStatus p) 2 0 == Swap.late)

/-- At a landing the position is taken anew: the tread in force is the one of R215. It starts there when its instant is the
landing's, when another one was in force, and when its bank is new; what cannot be sent under the effective states of
step 3 leaves (R304, R306). -/
def State.landPort (s : State) (p : Nat) : State :=
  let s1 := s.setF (R.schPFlight p) 21 16 (s.position p)
  let i := s1.treadNow p
  let begins := match (bankTreads (s1.bank p))[i]? with
    | some t => t.tickIx == s1.position p && t.ofs8 == 0
    | none => false
  let s2 := if i ≠ s1.treadIx p || begins || s1.justSwapped p then s1.startTread p i else s1.checkOverrun p
  (s2.unselect p).flushPort p

/-! ### The close time (R220) -/

/-- The treads of port `p` from number `i` on, through one whole flight, each with its instant; tick `n` is the one whose
position the instants are reckoned from. -/
def State.treadsFrom (s : State) (p n i : Nat) : List (Time × Tread) :=
  let ts := bankTreads (s.bank p)
  let pos := n % max 1 (bankFlight (s.bank p))
  let at' := fun (extra : Int) (t : Tread) => s.landingAt n + ((t.tickIx : Int) - pos + extra) * s.period + ofNs (t.ofs8 * 8)
  (ts.drop i).map (fun t => (at' 0 t, t)) ++ (ts.take i).map (fun t => (at' (bankFlight (s.bank p)) t, t))

/-- The treads after the one in force, each with its instant, through one whole flight. After a step over landings they are
those in force from the next landing on (R216). -/
def State.treadsAhead (s : State) (p : Nat) : List (Time × Tread) :=
  match s.tick.missedTo with
  | none => s.treadsFrom p s.now (s.treadIx p + 1)
  | some _ =>
    let n := s.nextTick
    let i := startedTreads (n % max 1 (bankFlight (s.bank p))) 0 (bankTreads (s.bank p)) - 1
    match s.treadsFrom p n i with
    | (_, t) :: rest => (s.landingAt n, t) :: rest
    | [] => []

/-- The lesser of two close times, none being unbounded. -/
def minClose (a b : Option Time) : Option Time :=
  match a, b with
  | some x, some y => some (min x y)
  | some x, none => some x
  | none, y => y

/-- A swap of port `p`'s bank is committed for the next landing. -/
def State.swapDue (s : State) (p : Nat) : Bool :=
  (s.reqsOn (.bank p)).any (fun r => r.tick == s.nextTick) ||
  (s.amendOwns Sect.schedule p && s.plan.target == s.nextTick)

/-- The close time of a gate of port `p` at the present instant. -/
def State.closeTime (s : State) (p : Nat) (act : Bool) (tc : Nat) : Option Time :=
  let shut := (s.treadsAhead p).find? (fun x => !x.2.opens act tc)
  let c := shut.map (·.1)
  let next := s.landingAt s.nextTick
  let c1 := if s.swapDue p then minClose c (some next) else c
  if act && (s.rdn.handoverReq || decide (s.dpView p < View.actuating) || decide (s.mgView p < View.actuating) ||
      decide (s.dpView 144 < View.actuating) || decide (s.mgView 144 < View.actuating)) then minClose c1 (some next)
  else c1

/-! ### Admission (R219, R221) -/

/-- GUARD_NS of port `p` in force, as a duration. -/
def State.guardTime (s : State) (p : Nat) : Time := ofNs (fld (s.inForce (R.schPGuardNs p)) 11 3 * 8)

/-- `n` octets of a frame whose preamble begins `o` from now, with the preamble before and the gap after them, end before close
time `c`. -/
def State.fits (s : State) (p n : Nat) (c : Option Time) (o : Time) : Bool :=
  match c with
  | none => true
  | some c => decide (s.srcNow + o + s.octets p (8 + n + 12) + s.guardTime p ≤ c)

/-- `f` octets still to send in class `tc` are admitted on port `p` at the instant `o` from now. -/
def State.admitted (s : State) (p f : Nat) (act : Bool) (tc : Nat) (o : Time) : Bool :=
  let c := s.closeTime p act tc
  let a := s.addFrag p
  s.fits p f c o ||
  (s.preemptActive p && !s.express p tc && decide (124 + 64 * a ≤ f) && s.fits p (60 + 64 * a + 4) c o)

/-- Octets of the fragment that still end before close time `c`. -/
def State.octetsBefore (s : State) (p : Nat) (c o : Time) : Nat :=
  s.octetsIn p (c - s.srcNow - o - s.guardTime p) - 24

/-- Where a frame with `left` octets to send from `o` from now on, admitted only to a preemption point, is preempted: the last
boundary that R169 and the close time permit (R221). None when it can finish. -/
def State.plannedStop (s : State) (p sent total : Nat) (act : Bool) (tc : Nat) (o : Time) : Option Nat :=
  let c := s.closeTime p act tc
  if s.fits p (total - sent) c o then none
  else match c with
    | none => none
    | some c => some (sent + max (60 + 64 * s.addFrag p) (min (total - sent - 64) (s.octetsBefore p c o)))

/-! ### The instants the commands bring -/

/-- The instant of the next tread of the current tick, if one is left. -/
def State.nextTreadAt (s : State) (p : Nat) : Option Time :=
  match (bankTreads (s.bank p))[s.treadIx p + 1]? with
  | some t => if t.tickIx ≤ s.position p then
      some (s.landingNow + ((t.tickIx : Int) - s.position p) * s.period + ofNs (t.ofs8 * 8)) else none
  | none => none

/-- TREAD_START: the next tread of port `p` takes effect at its instant (R216); a tread of a later tick waits for its
landing. -/
def execTreadStart (p : Nat) (s : State) : Answer :=
  .next (if s.running && s.portUsed p then
    match s.nextTreadAt p with
    | some t => (s.untilSrc t).settlePort p
    | none => s.settlePort p
  else s)

/-- MM_HOLD_ASSERT: the hold of the next HOLD tread is asserted HOLD_ADV before it, no earlier than the start of the tread
before it, while preemption is active (R224). -/
def execMmHoldAssert (p : Nat) (s : State) : Answer :=
  .next (if s.running && s.portUsed p then
    let s1 := s.settlePort p
    match s1.treadsAhead p with
    | (t, d) :: _ =>
      let t0 := t - ofNs (s1.rdN (R.prtPHoldAdv p))
      if d.hold ∧ t0 < s1.landingAt s1.nextTick then ((s1.untilSrc t0).settleLine p).assertHold p else s1
    | [] => s1
  else s)

/-! ### Commands of SCH (R230, R234) -/

/-- A bank command finds its port: in the plan, outside NONE and outside a rebuild, its shadow with the host. -/
def State.bankFree (s : State) (p : Nat) : Bool :=
  s.hasPlan && !(s.planState == PS.rebuilding) && !(s.reqsOn (.bank p)).any (·.byCommand) &&
  !s.amendOwns Sect.schedule p && !s.mirrorOwns

/-- COMMIT_AT (R230): a request for SCH.P[p].TARGET in hardware mode. -/
def execCommitAt (req : Requester) (p : Nat) (s : State) : Answer :=
  .next (s.guarded req (R.schPCtl p) (fun s =>
    let k := R.schPStatus p
    if s.portUsed p && !s.hostSwap p && s.bankFree p then
      match s.joinTick (s.rdN (R.schPTarget p)) with
      | some (t, late) => ((s.addReq ⟨.bank p, t, late, false, none, true⟩).settleOwned p).result k Code.ok
      | none => ((s.lastSwap p Swap.discarded).raise Src.swapDiscard []).result k Code.ok
    else s.result k Code.state))

/-- COMMIT_NEXT (R230): a request for the next landing in host-assisted mode. -/
def execCommitNext (req : Requester) (p : Nat) (s : State) : Answer :=
  .next (s.guarded req (R.schPCtl p) (fun s =>
    let k := R.schPStatus p
    if s.portUsed p && s.hostSwap p && s.bankFree p then
      ((s.requestNext (.bank p)).settleOwned p).result k Code.ok
    else s.result k Code.state))

/-- WITHDRAW (R234): the request a command made is released before its cut-off. -/
def execWithdraw (req : Requester) (p : Nat) (s : State) : Answer :=
  .next (s.guarded req (R.schPCtl p) (fun s =>
    let k := R.schPStatus p
    let mine := fun (r : SwapReq) => decide (r.kind = .bank p) && r.byCommand
    if !s.mirrorOwns && s.tick.reqs.any (fun r => mine r && decide (s.openTick ≤ r.tick)) then
      (((s.dropReqs mine).lastSwap p Swap.withdrawn).settleOwned p).result k Code.ok
    else s.result k Code.state))

/-- A reserved SCH command code completes with STATE (R230). -/
def execSchCmdReserved (req : Requester) (p : Nat) (s : State) : Answer :=
  .next (s.guarded req (R.schPCtl p) (fun s => s.result (R.schPStatus p) Code.state))

/-- RD_SEL_WRITE: the active bank of the named port is copied into the read window (R236). -/
def execRdSelWrite (req : Requester) (v : Reg) (s : State) : Answer :=
  .next (s.guarded req R.schRdSel (fun s =>
    let p := fld v 6 0
    let b := s.bank p
    let b1 := b.take (bankSize (bankCount b))
    (s.wrN R.schRdSel p).wrWords R.schActiveWin (wordsOf 2054 b1)))

end Sys2Proof.Machine
end

