-- ==== Sys2Proof/Machine/Ddr.lean ====
section
/-! DEFINITION. DDR4 as the blocks use it: writes and the 64-byte blocks that read uncorrectable (R389 to R394). -/

namespace Sys2Proof.Machine

/-- The 64-byte blocks that octets `a` to `a + n - 1` touch. -/
def blocksOf (a n : Nat) : List Nat := if n = 0 then [] else (List.range ((a + n - 1) / 64 - a / 64 + 1)).map (a / 64 + ·)

/-- Octets `a` to `a + n - 1` cover block `b` whole. -/
def covers (a n b : Nat) : Bool := decide (a ≤ 64 * b) && decide (64 * b + 64 ≤ a + n)

/-- A write of part of a block that reads uncorrectable (R394): it is answered with an error. -/
def State.badPartial (s : State) (a n : Nat) : Bool :=
  s.ddr.bad.any (fun k => (blocksOf a n).contains k && !covers a n k)

/-- A read of octets `a` to `a + n - 1` meets an uncorrectable block. -/
def State.badRead (s : State) (a n : Nat) : Bool := (blocksOf a n).any s.ddr.bad.contains

/-- Local bytes of one channel that a region of size `size` over `n` channels takes. -/
def chanShare (size n : Nat) : Nat := size / n

/-- The set bits of a channel mask, rising. -/
def maskBits (w m : Nat) : List Nat := (List.range w).filter m.testBit

/-- The channel of a DDR4 address (R389, R390); the staging area lies in channel 0. -/
def State.channelOf (s : State) (a : Nat) : Nat :=
  match s.im.regions.find? (fun r => decide (r.base ≤ a) && decide (a < r.base + r.size)) with
  | some r =>
    let cs := maskBits 16 r.chMask
    cs.getD ((a - r.base) / 4096 % max 1 cs.length) 0
  | none => 0

/-- The region of a DDR4 address. -/
def State.regionAt (s : State) (a : Nat) : Option RegionRec :=
  s.im.regions.find? (fun r => decide (r.base ≤ a) && decide (a < r.base + r.size))

/-- A memory request wakes the channels it goes to (R492). -/
def State.wakeMem (s : State) (a n : Nat) : State :=
  if s.pwr.states.isEmpty then s
  else forEach (((blocksOf a n).map (fun k => s.channelOf (64 * k))).eraseDups) (fun c x => x.wake (148 + c)) s

/-- Write octets to DDR4. A block written whole reads good again; one that reads uncorrectable and is written in part
stays so and counts as poisoned (R394). -/
def State.ddrWrite (s0 : State) (a : Nat) (b : List Byte) : State :=
  let s := s0.wakeMem a b.length
  let hit := s.ddr.bad.filter (fun k => (blocksOf a b.length).contains k && !covers a b.length k)
  let s1 := forEach hit (fun k x => x.inc (R.memChPoison (s.channelOf (64 * k)))) (s.memWrite a b)
  { s1 with ddr := { s1.ddr with bad := s1.ddr.bad.filter (fun k => !covers a b.length k) } }

/-! ### Reads (R392, R395) -/

/-- What the ECC found in one block of a read: the block, and whether it is uncorrectable. -/
abbrev EccFind := Nat × Bool

/-- The source an uncorrectable block raises (R395): by its region, the staging area and control regions as MEM_UE_CTRL. -/
def State.ueSource (s : State) (k : Nat) : Nat :=
  match s.regionAt (64 * k) with
  | some r => if r.kind ≤ 1 then Src.memUePane else if r.kind = 4 then Src.memUeScratch else Src.memUeCtrl
  | none => Src.memUeCtrl

/-- A correctable error on channel `c` is corrected, counted and raised (R392). -/
def State.correctable (s : State) (c : Nat) : State := (s.inc (R.memChCe c)).raise Src.memCe [Cu.ch c]

/-- Octets `a` to `a + n - 1` are read: their channels wake (R492), and what the ECC found is taken: new uncorrectable blocks, and
corrected ones (R392). -/
def State.eccFound (s0 : State) (a n : Nat) (l : List EccFind) : State :=
  let s := s0.wakeMem a n
  forEach (l.filter (fun e => (blocksOf a n).contains e.1)) (fun e x =>
    if e.2 then (if x.ddr.bad.contains e.1 then x else { x with ddr := { x.ddr with bad := e.1 :: x.ddr.bad } })
    else x.correctable (x.channelOf (64 * e.1))) s

/-- The C2 units of an uncorrectable block (R435): the groups whose ring holds it for a pane ring, else its channel. -/
def State.ueUnits (s : State) (k : Nat) : List Nat :=
  if s.ueSource k = Src.memUePane then
    (s.im.pgs.filter (fun g =>
      let b := s.rd64 (R.przPgRingBase g)
      decide (b ≤ 64 * k) && decide (64 * k < b + s.rdN (R.przPgSlotBytes g) * s.rdN (R.przPgDepth g)))).map Cu.pg
  else [Cu.ch (s.channelOf (64 * k))]

/-- Count and raise every uncorrectable block of a read (R395). -/
def State.ueReport (s : State) (a n : Nat) : State :=
  forEach ((blocksOf a n).filter s.ddr.bad.contains) (fun k x =>
    let c := x.channelOf (64 * k)
    (x.inc (R.memChUe c)).raise (x.ueSource k) (x.ueUnits k)) s

/-- A demand read of DDR4: the state after it, and the octets unless a block is uncorrectable. -/
def State.ddrRead (s : State) (a n : Nat) (ecc : List EccFind) : State × Option (List Byte) :=
  let s1 := s.eccFound a n ecc
  if s1.badRead a n then (s1.ueReport a n, none) else (s1, some (s1.memRead a n))

end Sys2Proof.Machine
end

