-- ==== Sys2Proof/Machine/Prism.lean ====
section
/-! DEFINITION. The sample sequences of the prism's streams: rates, slots, breaks and the anchor (R258 to R261, R270). -/

namespace Sys2Proof.Machine

/-! ### Units and rates -/

/-- One nanosecond in the prism's unit, 2^-32 ns. -/
def ns32 : Int := 2 ^ 32

/-- An instant in 2^-48 ns in the prism's unit (finer bits are cut, log entry 16). -/
def to32 (t : Time) : Int := t / (2 ^ 16 : Nat)

/-- The rate of a JWT rate code in Hz, 0 for a reserved code (R252). -/
def jwtRate (code : Nat) : Nat :=
  match code with
  | 0x01 => 96000
  | 0x02 => 200000
  | 0x03 => 240000
  | 0x04 => 400000
  | 0x05 => 480000
  | 0x06 => 600000
  | 0x07 => 960000
  | 0x08 => 1000000
  | 0x09 => 1200000
  | 0x0A => 1920000
  | 0x0B => 2000000
  | 0x0C => 2400000
  | _ => 0

/-- The rate of a stream in Hz. -/
def StreamRec.rate (r : StreamRec) : Nat := if r.dest = 2 then jwtRate r.inRate else r.inRate

/-! ### Streams beside their registers -/

/-- Input state after a clear (R262). -/
def streamInit (_ : Nat) : StreamIn :=
  ⟨none, none, 1, false, none, none, 0, none, none, none, none, 0, 0, [], []⟩

/-- The input state of handle `sh`. -/
def State.sin (s : State) (sh : Nat) : StreamIn := Tab.get streamInit s.prz.streams sh

/-- Replace the input state of handle `sh`. -/
def State.setSin (s : State) (sh : Nat) (x : StreamIn) : State :=
  { s with prz := { s.prz with streams := Tab.put streamInit s.prz.streams sh x } }

/-- Counters of a stream, in the order of the window registers (R264). -/
abbrev In.frames : Nat := 0
/-- ASDUs decoded -/
abbrev In.asdus : Nat := 1
/-- SAMPLES -/
abbrev In.samples : Nat := 2
/-- OUT_OF_ORDER -/
abbrev In.outOfOrder : Nat := 3
/-- DUP -/
abbrev In.dup : Nat := 4
/-- LATE -/
abbrev In.late : Nat := 5
/-- GAP -/
abbrev In.gap : Nat := 6
/-- BREAKS -/
abbrev In.breaks : Nat := 7
/-- FORMAT_ERR -/
abbrev In.formatErr : Nat := 8
/-- RATE_ERR -/
abbrev In.rateErr : Nat := 9
/-- SYNCH_REJECT -/
abbrev In.synchReject : Nat := 10
/-- NO_TB -/
abbrev In.noTb : Nat := 11
/-- STALE -/
abbrev In.stale : Nat := 12
/-- AHEAD -/
abbrev In.ahead : Nat := 13
/-- SIMULATED -/
abbrev In.simulated : Nat := 14
/-- CONFREV_CHG -/
abbrev In.confrevChg : Nat := 15
/-- SEQ_GAP -/
abbrev In.seqGap : Nat := 16
/-- REANCHOR -/
abbrev In.reanchor : Nat := 17

/-- Count `n` more in counter `c` of handle `sh`; counters saturate at 64 bits. -/
def State.cntIn (s : State) (sh c n : Nat) : State :=
  let x := s.sin sh
  s.setSin sh { x with cnt := Tab.put (fun _ => 0) x.cnt c (satAdd 64 (Tab.get (fun _ => 0) x.cnt c) n) }

/-- The source a discard counter raises (R266). -/
def inSource (c : Nat) : Option Nat :=
  if c = In.formatErr then some Src.przInFormat
  else if c = In.rateErr then some Src.przInRate
  else if c = In.synchReject then some Src.przInSynch
  else if c = In.noTb then some Src.przInNotb
  else if c = In.stale ∨ c = In.ahead then some Src.przInStale
  else none

/-- Discard a frame, ASDU or sample: its counter and its source (R263, R266). -/
def State.discardIn (s : State) (sh c : Nat) : State :=
  let s1 := s.cntIn sh c 1
  match inSource c with
  | some src => s1.raise src []
  | none => s1

/-- The stream is an input: its handle exists with DEST 1 or 2 (R238). -/
def State.inputRec? (s : State) (sh : Nat) : Option StreamRec :=
  match s.stream? sh with
  | some r => if r.dest = 1 ∨ r.dest = 2 then some r else none
  | none => none

/-- ROW in force. -/
def State.rowOf (s : State) (sh : Nat) : Nat := (s.sin sh).row.getD s.im.reorder

/-- PATH_OFS in force. -/
def State.pathOfsOf (s : State) (sh : Nat) : Int :=
  (s.sin sh).pathOfs.getD (match s.stream? sh with | some r => r.pathOfs | none => 0)

/-! ### Slots (R272) -/

/-- What a slot of a sequence holds. -/
inductive SlotSt where
  | filled (x : Sample)
  | absent
  | beyond
  | opened
  deriving DecidableEq, Repr

/-- The state of slot `k` of a sequence that has ended or not. -/
def Seq.slot (q : Seq) (ended : Bool) (k : Int) : SlotSt :=
  if k < 0 ∨ (ended ∧ (q.newest : Int) < k) then .beyond
  else match q.slots.find? (fun x => x.1 == k.toNat) with
    | some (_, x) => if q.lost.contains k.toNat then .absent else .filled x
    | none => if ended ∨ k.toNat < q.closed ∨ q.lost.contains k.toNat then .absent else .opened

/-- Close every open slot below `k`: how many there were, and the sequence after. -/
def Seq.close (q : Seq) (k : Nat) : Nat × Seq :=
  let openOnes := ((List.range k).drop q.closed).filter (fun (j : Nat) => q.slot false (j : Int) == .opened)
  (openOnes.length, { q with closed := max q.closed k })

/-- A sequence opened by its first sample. -/
def Seq.start (id : Nat) (x : Sample) : Seq := ⟨id, 0, x.tau, 0, x.tau, 0, [(0, x)], []⟩

end Sys2Proof.Machine
end

