-- ==== Sys2Proof/Machine/Panes.lean ====
section
/-! DEFINITION. Panes (09_panes): the output grid, the filter, opening, writing and sealing a pane. -/

namespace Sys2Proof.Machine

/-! ### Groups beside their registers -/

/-- A pane group without panes. -/
def pgInit (_ : Nat) : PgSt := ⟨0, 0, [], none, none, [], [], none⟩

/-- A pane group whose first pane is that of tick `first`. -/
def pgStart (first : Nat) : PgSt := { pgInit 0 with first := first, nextSeal := first }

/-- The pane of tick `t` is sealed. -/
def PgSt.isSealed (x : PgSt) (t : Nat) : Bool := decide (t < x.nextSeal) || x.sealed.contains t

/-- The seal reaches the panes that an action sealed before their turn. -/
def PgSt.advance (x : PgSt) : Nat → PgSt
  | 0 => x
  | n + 1 =>
    if x.sealed.contains x.nextSeal then
      { x with nextSeal := x.nextSeal + 1, sealed := x.sealed.filter (· != x.nextSeal) }.advance n
    else x

/-- The pane of tick `t` has sealed. -/
def PgSt.noteSeal (x : PgSt) (t : Nat) : PgSt :=
  let y := { x with
    panes := x.panes.filter (fun p => p.tick != t)
    slow := if t = x.nextSeal then none else x.slow }
  if t = x.nextSeal then { y with nextSeal := t + 1 }.advance x.sealed.length
  else { y with sealed := t :: y.sealed }

/-- Pane group `g` beside its registers. -/
def State.group (s : State) (g : Nat) : PgSt := Tab.get pgInit s.prz.groups g

/-- Replace pane group `g`; OPEN_PANES follows. -/
def State.setGroup (s : State) (g : Nat) (x : PgSt) : State :=
  State.setF { s with prz := { s.prz with groups := Tab.put pgInit s.prz.groups g x } } (R.przPgStatus g) 31 24
    (min 255 x.panes.length)

/-- Output channels of a member: the set bits of CH_MASK, rising (R269). -/
def outChans (mask : Nat) : List Nat := maskBits 32 mask

/-- The pane groups that have handle `sh` as a member, each with its record and the member's number. -/
def State.groupsOf (s : State) (sh : Nat) : List (Nat × PgRec × Nat) :=
  s.im.pgs.filterMap (fun g =>
    match s.pg? g with
    | some r => (match r.members.findIdx? (fun m => m.1 == sh) with | some j => some (g, r, j) | none => none)
    | none => none)

/-! ### The grid (R267) -/

/-- L(T) in 2^-32 ns. -/
def State.landing32 (s : State) (t : Nat) : Int := to32 (s.landingAt t)

/-- Grid instant g_i of tick `t` of a group with `spt` samples per tick. -/
def State.gridAt (s : State) (t i spt : Nat) : Int :=
  s.landing32 t + roundHalfEven ((i : Int) * to32 s.period) (max 1 spt)

/-- The tick whose interval holds instant `x` of the tick source: below 0 before L(0). -/
def State.tickOf (s : State) (x : Int) : Int :=
  (s.baseTick : Int) + (x - to32 (s.baseTime + s.tick.delta)) / max 1 (to32 s.period)

/-- Tick `t` was missed or will be declared so: a step passed its landing (R85). -/
def State.isMissed (s : State) (t : Nat) : Bool :=
  match s.tick.missedTo with
  | some m => decide (s.now < t) && decide (t ≤ m)
  | none => decide (t ≤ s.now) && !(s.tick.history.any (fun h => h.1 == t)) && decide (s.baseTick < t)

/-- The landing of tick `t` found the device hall-unlocked (R101). -/
def State.unlockedAt (s : State) (t : Nat) : Bool :=
  match s.tick.history.find? (fun h => h.1 == t) with
  | some h => h.2.2
  | none => s.bit R.tickStatus 7

/-- A committed re-plan stands before tick `t` (R280). -/
def State.beyondReplan (s : State) (t : Nat) : Bool := s.planState == PS.committedPlan && decide (s.plan.target ≤ t)

/-- No output or sample of tick `t` is decided, and no pane opens for it (R280). -/
def State.paneBarred (s : State) (t : Nat) : Bool := !s.gridSet || s.beyondReplan t || s.holds || !s.przRuns

/-! ### The filter (R271 to R279) -/

/-- The position of instant `g` in a sequence, in 1/256 sample (R271). -/
def Seq.position (q : Seq) (rate : Nat) (g : Int) : Int :=
  roundHalfEven ((g - q.anchorT) * rate * 256) (10 ^ 9 * 2 ^ 32) + q.anchorK * 256

/-- The sequence that takes the output at `g`, and whether it ended (R272). -/
def chooseSeq (x : StreamIn) (rate : Nat) (g : Int) : Option (Seq × Bool) :=
  let fits := fun (q : Seq) (ended : Bool) =>
    let m := q.position rate g / 256
    decide (0 ≤ m) && (!ended || decide (m + 1 ≤ q.newest))
  match x.cur, x.prev with
  | some q, p =>
    if fits q false then some (q, false)
    else (match p with | some r => if fits r true then some (r, true) else none | none => none)
  | none, some r => if fits r true then some (r, true) else none
  | none, none => none

/-- A tap with the nearest filled one toward the centre, tap 7 or 8 first in the list (R273). -/
def fillOut : Option Sample → List (Option Sample) → List (Option Sample)
  | _, [] => []
  | near, t :: ts => (match t with | some x => some x | none => near) :: fillOut (match t with | some x => some x | none => near) ts

/-- The 16 taps around slot `m`, as far as they are filled. -/
def Seq.taps (q : Seq) (ended : Bool) (m : Int) : List SlotSt :=
  (List.range 16).map (fun (j : Nat) => q.slot ended (m - 7 + j))

/-- The sample of a slot. -/
def SlotSt.sample? : SlotSt → Option Sample
  | .filled x => some x
  | _ => none

/-- The worst validity, 0b10 counted as invalid (R279). -/
def worstValidity (l : List Nat) : Nat :=
  if l.any (fun v => v = 1 ∨ v = 2) then 1 else if l.any (· = 3) then 3 else 0

/-- One output channel computed from 16 samples (R274). -/
def firOut (coef : Nat → Int) (x : List Sample) (c : Nat) : Reg :=
  let acc := (List.range 16).foldl (fun a j =>
    a + coef j * (match x[j]? with | some v => signed 32 (v.vals.getD c 0).toNat | none => 0)) (0 : Int)
  BitVec.ofInt 32 (max (-(2 ^ 31 : Int)) (min (2 ^ 31 - 1) (roundHalfEven acc (2 ^ 17))))

/-- The quality byte of a computed output channel (R278, R279), HALL_UNLOCKED apart. -/
def firQual (x : List Sample) (c : Nat) (extrap : Bool) : Nat :=
  let qs := x.map (fun v => v.quals.getD c 0)
  worstValidity (qs.map (· % 4)) + (qs.any (·.testBit 2)).toNat * 4 + (qs.any (·.testBit 3)).toNat * 8
    + extrap.toNat * 16

/-- The quality byte of a missing output. -/
def missQual (lateExcl : Bool) : Nat := 1 + 32 + lateExcl.toNat * 64

/-- A missing output instant of a member with `n` output channels. -/
def missOut (member inst n : Nat) (seq : Option Nat) (lateExcl : Bool) : OutRec :=
  ⟨member, inst, seq, List.replicate n (0, missQual lateExcl)⟩

/-- The output of a member at one grid instant as it stands: decided, or none while it is not (R272, R273). -/
def State.output (s : State) (r : PgRec) (j : Nat) (sh mask : Nat) (rate : Nat) (i : Nat) (g : Int) : Option OutRec :=
  let x := s.sin sh
  let chans := outChans mask
  match chooseSeq x rate g with
  | none =>
    if x.cur.isSome then some (missOut j i chans.length (if x.broke then none else some 0) false) else none
  | some (q, ended) =>
    let p := q.position rate g
    let m := p / 256
    let phase := (p % 256).toNat
    let ts := q.taps ended m
    if ts.any (· == .opened) then none
    else
      let got := ts.map SlotSt.sample?
      match got.getD 7 none, got.getD 8 none with
      | some _, some _ =>
        if (List.range 16).any (fun t => s.prz.badCoef.contains (r.coefSet, phase, t)) then
          some (missOut j i chans.length (some q.id) false)
        else
          let left := (fillOut none (got.take 8).reverse).reverse
          let full := (left ++ fillOut none (got.drop 8)).filterMap id
          let extrap := got.any Option.isNone
          some ⟨j, i, some q.id, chans.map (fun c => (firOut (s.im.coef r.coefSet phase) full c, firQual full c extrap))⟩
      | _, _ => some (missOut j i chans.length (some q.id) false)

/-! ### Pane layout (R287 to R293) -/

/-- Round up to a multiple. -/
def roundUp (n m : Nat) : Nat := (n + m - 1) / m * m

/-- Size of a resampled record. -/
def recSize (nch spt : Nat) : Nat := roundUp (8 + 5 * nch * spt) 8

/-- MAXS of a raw record (R293): `periodNs` with its fraction in 2^-32 ns. -/
def maxRaw (period32 : Int) (rate : Nat) : Nat := (period32 * rate / (10 ^ 9 * 2 ^ 32)).toNat + 2

/-- Size of a raw entry. -/
def rawEntry (nch : Nat) : Nat := roundUp (8 + 5 * nch) 8

/-- The rate of a handle of an image. -/
def Image.rateOf (im : Image) (sh : Nat) : Nat :=
  match im.streams.find? (·.sh == sh) with
  | some r => r.rate
  | none => 0

/-- Sizes of a group's records, in member order. -/
def Image.recSizes (im : Image) (period32 : Int) (r : PgRec) : List Nat :=
  r.members.map (fun m =>
    let n := (outChans m.2).length
    if r.raw then 8 + rawEntry n * maxRaw period32 (im.rateOf m.1) else recSize n r.spt)

/-- SLOT_BYTES of a group (R290). -/
def Image.slotBytes (im : Image) (period32 : Int) (r : PgRec) : Nat :=
  roundUp (64 + (im.recSizes period32 r).foldl (· + ·) 0) 64

/-- The DDR4 address of the slot of tick `t`. -/
def State.slotAt (s : State) (g t : Nat) : Nat :=
  s.rd64 (R.przPgRingBase g) + t % max 1 (s.rdN (R.przPgDepth g)) * s.rdN (R.przPgSlotBytes g)

/-- Offset of record `j` in a pane. -/
def State.recOfs (s : State) (r : PgRec) (j : Nat) : Nat :=
  64 + ((s.im.recSizes (to32 s.period) r).take j).foldl (· + ·) 0

/-- Seal a header of 60 octets with its CRC-32C. -/
def withCrc32 (b : List Byte) : List Byte := b ++ leBytes 4 (crc32c b).toNat

/-- The header of an open pane (R291). -/
def openHeader (g t : Nat) (raw : Bool) : List Byte :=
  withCrc32 (leBytes 8 t ++ leBytes 1 g ++ [1] ++ leBytes 2 0x100 ++ [0, 0] ++ leBytes 1 raw.toNat ++
    List.replicate 45 0)

/-- Mark a quality byte with HALL_UNLOCKED. -/
def withUnlocked (u : Bool) (q : Nat) : Nat := q % 128 + u.toNat * 128

/-- Write one decided output to its place. -/
def State.writeOut (s : State) (g t : Nat) (r : PgRec) (o : OutRec) : State :=
  let a := s.slotAt g t + s.recOfs r o.member
  let n := o.cells.length
  let s1 := s.ddrWrite (a + 8 + 4 * n * o.inst) (o.cells.flatMap (fun c => leBytes 4 c.1.toNat))
  s1.ddrWrite (a + 8 + 4 * n * r.spt + n * o.inst)
    (o.cells.map (fun c => BitVec.ofNat 8 (withUnlocked (s.unlockedAt t) c.2)))

/-- Put a raw entry in order of its time. -/
def insertRaw (x : RawRec) : List RawRec → List RawRec
  | [] => [x]
  | y :: ys => if x.sample.tau < y.sample.tau then x :: y :: ys else y :: insertRaw x ys

/-- A raw record: head and entries (R293). -/
def rawRecord (sh mask maxs : Nat) (l0 : Int) (unlocked contained : Bool) (flags : Nat) (es : List RawRec) : List Byte :=
  let cs := outChans mask
  let n := cs.length
  let one := fun (e : RawRec) =>
    let b := leBytes 8 (e.sample.tau - l0).toNat ++ cs.flatMap (fun c => leBytes 4 (e.sample.vals.getD c 0).toNat) ++
      cs.map (fun c => BitVec.ofNat 8 (withUnlocked unlocked (e.sample.quals.getD c 0 % 16 + contained.toNat * 32)))
    b ++ List.replicate (rawEntry n - b.length) 0
  leBytes 2 sh ++ leBytes 1 n ++ leBytes 1 flags ++ leBytes 2 es.length ++ [0, 0] ++ es.flatMap one ++
    List.replicate (rawEntry n * (maxs - es.length)) 0

/-- The raw record of member `j` of an open pane. -/
def State.rawOf (s : State) (r : PgRec) (pn : PaneSt) (j : Nat) (contained : Bool) : List Byte :=
  let m := r.members.getD j (0, 0)
  let es := pn.raws.filter (·.member == j)
  let mixed := decide (1 < (es.map (·.seq)).eraseDups.length)
  rawRecord m.1 m.2 (maxRaw (to32 s.period) (s.im.rateOf m.1)) (s.landing32 pn.tick) (s.unlockedAt pn.tick) contained
    ((pn.full.contains j).toNat + mixed.toNat * 2) es

/-- A resampled record (R289); `outs` holds every output instant in order. -/
def outRecord (sh mask spt : Nat) (unlocked : Bool) (outs : List OutRec) : List Byte :=
  let n := (outChans mask).length
  let quals := outs.flatMap (fun o => o.cells.map (·.2))
  let missing := (quals.filter (·.testBit 5)).length
  -- sequences count from 1; 0 stands for an output that no sequence took, without a timing break
  let mixed := decide (1 < ((outs.map (·.seq)).filter (· != some 0)).eraseDups.length) || outs.any (·.seq.isNone)
  let b := leBytes 2 sh ++ leBytes 1 n ++ leBytes 1 ((decide (0 < missing)).toNat + mixed.toNat * 2) ++
    leBytes 2 (min 65535 missing) ++ [0, 0] ++ outs.flatMap (fun o => o.cells.flatMap (fun c => leBytes 4 c.1.toNat)) ++
    quals.map (fun q => BitVec.ofNat 8 (withUnlocked unlocked q))
  b ++ List.replicate (recSize n spt - b.length) 0

/-! ### Opening (R280, R291) -/

/-- Put a pane among the open ones in order of its tick. -/
def insertPane (x : PaneSt) : List PaneSt → List PaneSt
  | [] => [x]
  | y :: ys => if x.tick < y.tick then x :: y :: ys else y :: insertPane x ys

/-- The pane of tick `t` opens unless it is open or sealed. -/
def State.openPane (s : State) (g t : Nat) : State :=
  let x := s.group g
  if t < x.first ∨ x.isSealed t ∨ x.panes.any (·.tick == t) ∨ s.paneBarred t then s
  else
    let raw := match s.pg? g with | some r => r.raw | none => false
    (s.setGroup g { x with panes := insertPane ⟨t, [], [], []⟩ x.panes }).ddrWrite (s.slotAt g t) (openHeader g t raw)

/-- Change the open pane of tick `t`. -/
def State.updPane (s : State) (g t : Nat) (f : PaneSt → PaneSt) : State :=
  let x := s.group g
  s.setGroup g { x with panes := x.panes.map (fun p => if p.tick = t then f p else p) }

/-- A decided output goes into its pane, which opens for it. -/
def State.putOut (s : State) (g t : Nat) (r : PgRec) (o : OutRec) : State :=
  let s1 := (s.openPane g t).updPane g t (fun p => { p with outs := o :: p.outs })
  s1.writeOut g t r o

/-- The open pane of tick `t`. -/
def State.pane? (s : State) (g t : Nat) : Option PaneSt := (s.group g).panes.find? (fun p => p.tick == t)

/-- Output instant (`j`, `i`) of tick `t` is decided already. -/
def State.isDecided (s : State) (g t j i : Nat) : Bool :=
  match s.pane? g t with
  | some p => p.outs.any (fun o => o.member == j && o.inst == i)
  | none => false

/-- Evaluate the outputs of member `j` of group `g` in tick `t` (R277). -/
def State.evalTick (s : State) (g : Nat) (r : PgRec) (j sh t : Nat) : State :=
  if s.paneBarred t || s.isMissed t || (s.group g).isSealed t then s
  else
    let mask := (r.members.getD j (0, 0)).2
    let rate := s.im.rateOf sh
    forEach (List.range r.spt) (fun i x =>
      if x.isDecided g t j i then x
      else match x.output r j sh mask rate i (x.gridAt t i r.spt) with
        | some o => x.putOut g t r o
        | none => x) s

/-- The newest instant the stream has samples for. -/
def StreamIn.reach (x : StreamIn) : Int :=
  match x.cur, x.prev with
  | some q, _ => q.newestT
  | none, some q => q.newestT
  | none, none => 0

/-- Evaluate every pending output of stream `sh` (R277). -/
def State.evalStream (s : State) (sh : Nat) : State :=
  let hi := (s.tickOf (s.sin sh).reach).toNat + 1
  forEach (s.groupsOf sh) (fun (g, r, j) x =>
    if r.raw then x
    else
      let lo := (x.group g).nextSeal
      forEach ((List.range (hi + 1 - lo)).map (lo + ·)) (fun t y => y.evalTick g r j sh t) x) s

/-! ### Sealing (R281 to R288) -/

/-- How a pane seals. -/
structure SealKind where
  early : Bool
  late : Bool
  replan : Bool
  /-- its seal work missed the deadline of R88 -/
  overdue : Bool
  /-- member and instant of outputs that were decided but not computed in time (R282) -/
  uncomputed : List (Nat × Nat)
  deriving DecidableEq, Repr

/-- A seal at its instant. -/
def sealPlain : SealKind := ⟨false, false, false, false, []⟩

/-- The final output of member `j` at instant `i` of a pane that seals, and the slots it still awaited: what is undecided is
evaluated once more, but for a tick that a re-plan takes away (R277, R280, R286). -/
def State.finalOut (s : State) (r : PgRec) (pn : PaneSt) (void : Bool) (k : SealKind) (j i : Nat) :
    OutRec × Option LateWait :=
  let m := r.members.getD j (0, 0)
  let n := (outChans m.2).length
  let x := s.sin m.1
  if void || k.uncomputed.contains (j, i) then
    let seq := match pn.outs.find? (fun o => o.member == j && o.inst == i) with | some o => o.seq | none => some 0
    (missOut j i n seq false, none)
  else match pn.outs.find? (fun o => o.member == j && o.inst == i) with
    | some o => (o, none)
    | none =>
      let g := s.gridAt pn.tick i r.spt
      let rate := s.im.rateOf m.1
      match (if k.replan && decide (s.plan.target ≤ pn.tick) then none else s.output r j m.1 m.2 rate i g), chooseSeq x rate g with
      | some o, _ => (o, none)
      | none, some (q, ended) =>
        let c := q.position rate g / 256
        let open' := (List.range 16).filterMap (fun (t : Nat) =>
          if q.slot ended (c - 7 + t) = .opened then some (c - 7 + t).toNat else none)
        if k.replan then (missOut j i n (some q.id) false, none)
        else (missOut j i n (some q.id) true, some ⟨m.1, q.id, open'⟩)
      | none, none => (missOut j i n (if x.broke then none else some 0) false, none)

/-- The final header (R287). -/
def State.finalHeader (s : State) (g : Nat) (r : PgRec) (t flags samples missing late extrap : Nat) : List Byte :=
  let l := timeWords 32 (s.landingAt t)
  withCrc32 (leBytes 8 t ++ leBytes 1 g ++ [1] ++ leBytes 2 flags ++ leBytes 2 r.members.length ++ leBytes 1 r.raw.toNat ++
    leBytes 1 (if r.raw then 0 else r.coefSet) ++ leBytes 4 (if r.raw then 0 else r.spt) ++ leBytes 4 samples ++
    leBytes 4 (l.getD 0 0).toNat ++ leBytes 4 (l.getD 1 0).toNat ++ leBytes 4 (l.getD 2 0).toNat ++
    leBytes 2 (l.getD 3 0).toNat ++ [0, 0] ++ leBytes 4 missing ++ leBytes 4 late ++ leBytes 4 extrap ++
    leBytes 4 s.now ++ leBytes 4 (s.tickOffset / ns48).toNat)

/-- The group's quad is below RUN at the last compare (R285). -/
def State.pgContained (s : State) (g : Nat) : Bool := decide (s.eff (164 + g / 4) < View.run)

/-- Pane `pn` of group `g` seals. -/
def State.sealOne (s : State) (g : Nat) (r : PgRec) (pn : PaneSt) (k : SealKind) : State :=
  let t := pn.tick
  let missed := s.isMissed t
  let held := if t = (s.group g).nextSeal then (s.group g).slow else none
  let cont := match held with | some h => h.1 | none => s.pgContained g
  let unl := s.unlockedAt t
  let ms := List.range r.members.length
  let outs := if r.raw then [] else
    ms.map (fun j => (List.range r.spt).map (fun i => s.finalOut r pn (missed || cont) k j i))
  let pn1 := if missed then { pn with raws := [], full := [] } else pn
  let recs := ms.map (fun j =>
    let m := r.members.getD j (0, 0)
    if r.raw then s.rawOf r pn1 j cont else outRecord m.1 m.2 r.spt unl ((outs.getD j []).map (·.1)))
  let quals := (outs.flatMap (fun l => l.flatMap (fun o => o.1.cells.map (·.2))))
  let rawCells := (pn1.raws.map (fun e => (outChans (r.members.getD e.member (0, 0)).2).length)).foldl (· + ·) 0
  let samples := if r.raw then rawCells else quals.length
  let missing := if r.raw then (if cont then rawCells else 0) else (quals.filter (·.testBit 5)).length
  let late := (quals.filter (·.testBit 6)).length
  let extrap := (quals.filter (·.testBit 4)).length
  let lacking := !k.uncomputed.isEmpty
  let short := decide (0 < missing) || k.overdue
  let flags := short.toNat + unl.toNat * 2 + missed.toNat * 4 + k.early.toNat * 8 + k.late.toNat * 16 +
    cont.toNat * 32 + (lacking || held.any (·.2)).toNat * 64 + k.replan.toNat * 128
  let a := s.slotAt g t
  let body := recs.flatten
  let s1 := s.ddrWrite (a + 64) (body ++ List.replicate (s.rdN (R.przPgSlotBytes g) - 64 - body.length) 0)
  let s2 := s1.ddrWrite a (s.finalHeader g r t flags samples missing late extrap)
  let x := s2.group g
  let waits := outs.flatMap (fun l => l.filterMap (·.2))
  let s3 := s2.setGroup g { x.noteSeal t with late := waits ++ x.late }
  let s4 := ((s3.wrN (R.przPgLastSealed g) t).inc (R.przPgPanes g)).incBy (R.przPgMissing g) missing
  let s5 := (s4.incBy (R.przPgExtrap g) extrap).setBit (R.przPgStatus g) 18 short
  let s6 := if short then (s5.inc (R.przPgIncomplete g)).raise Src.paneIncomplete [Cu.pg g] else s5
  let s7 := if lacking then (s6.hwSet R.tickOvrCause 0).raise Src.tickOverrun [] else s6
  let s8 := if k.overdue then (s7.hwSet R.tickOvrCause 1).raise Src.tickOverrun [] else s7
  s8.event (Evt.pane g)

/-- The oldest pane of group `g` seals. -/
def State.sealPane (s : State) (g : Nat) (k : SealKind) : State :=
  match s.pg? g with
  | none => s
  | some r =>
    match (s.group g).panes with
    | [] => s
    | p :: _ => s.sealOne g r p k

/-- The pane of the next tick to be sealed seals at its instant; it opens first when it has not opened. -/
def State.sealNext (s : State) (g : Nat) (k : SealKind) : State :=
  let s1 := (s.openPane g (s.group g).nextSeal).sealPane g k
  s1.setGroup g { s1.group g with sealedAt := some s.clock }

/-- The seal work of the pane of the next tick to be sealed goes on past its seal instant: what it holds stands (R88, R281). -/
def State.sealSlow (s : State) (g : Nat) (uncomputed : List (Nat × Nat)) : State :=
  let t := (s.group g).nextSeal
  let s1 := s.openPane g t
  match s1.pg? g, s1.pane? g t with
  | some r, some pn =>
    let cont := s1.pgContained g
    let k := { sealPlain with uncomputed := uncomputed }
    let outs := if r.raw then [] else
      (List.range r.members.length).flatMap (fun j => (List.range r.spt).map (fun i => s1.finalOut r pn (s1.isMissed t || cont) k j i))
    let s2 := s1.updPane g t (fun p => { p with outs := outs.map (·.1) })
    let x := s2.group g
    let s3 := s2.setGroup g { x with slow := some (cont, !uncomputed.isEmpty), late := outs.filterMap (·.2) ++ x.late, sealedAt := some s.clock }
    if uncomputed.isEmpty then s3 else (s3.hwSet R.tickOvrCause 0).raise Src.tickOverrun []
  | _, _ => s1

/-- The seal instant of tick `t` (R281). -/
def State.sealAt (s : State) (r : PgRec) (t : Nat) : Time := s.landingAt (t + r.lag) + ofNs r.holdNs

/-- The instant at which the pane of the next tick to be sealed seals: its seal instant, or one period later where its seal work
was unfinished then (R88). -/
def State.sealTime (s : State) (g : Nat) (r : PgRec) : Time :=
  let x := s.group g
  s.sealAt r x.nextSeal + (if x.slow.isSome then s.period else 0)

/-- How the pane of the next tick to be sealed seals by its instant. -/
def State.sealKind (s : State) (g : Nat) : SealKind := { sealPlain with overdue := (s.group g).slow.isSome }

/-- Seal what of group `g` is due by now, at most `n` panes (R281, R284). -/
def State.sealDueIn (s : State) (g : Nat) : Nat → State
  | 0 => s
  | n + 1 =>
    match s.pg? g with
    | none => s
    | some r =>
      if s.running && decide (s.sealTime g r ≤ s.srcNow) && !s.paneBarred (s.group g).nextSeal then
        (s.sealNext g (s.sealKind g)).sealDueIn g n
      else s

/-- More panes than group `g` can have to seal now. -/
def State.sealCount (s : State) (g : Nat) (r : PgRec) : Nat :=
  ((s.srcNow - s.sealAt r (s.group g).nextSeal) / max 1 s.period).toNat + 1

/-- Seal every pane whose instant has come, in ascending group number: the edge of a step (R281). -/
def State.sealDue (s : State) : State :=
  forEach s.im.pgs (fun g x =>
    match x.pg? g with
    | some r => x.sealDueIn g (x.sealCount g r)
    | none => x) s

/-- Let time pass until instant `t` of the tick source, unless a landing stands before it. -/
def State.reach (s : State) (t : Time) : Option State :=
  if !s.running then none
  else if t ≤ s.srcNow then some s
  else if t < s.landingAt s.nextTick then some (s.untilSrc t)
  else none

/-- Let time pass until the local TIME count is at or after `t`; a landing that comes before it comes first. -/
def State.reachClock (s : State) (t : Time) : Option State :=
  if t ≤ s.clock then some s
  else
    let s1 := s.untilClock t
    if s.running && decide (s.landingAt s.nextTick ≤ s1.srcNow) then none else some s1

/-- PANE_SEAL: the pane of group `g` that is next seals at its seal instant (R281, R282). `uncomputed` are the outputs
that were decided before the edge and not computed at it; `slow`: the seal work is not done at the edge, and the pane seals at its
deadline, by the next PANE_SEAL or with what passes the deadline (R88, log entry 106). -/
def execPaneSeal (g : Nat) (uncomputed : List (Nat × Nat)) (slow : Bool) (s : State) : Answer :=
  .next (match s.pg? g with
    | none => s
    | some r =>
      if s.paneBarred (s.group g).nextSeal then s
      else match s.reach (s.sealTime g r) with
        | some s1 =>
          if (s1.group g).slow.isSome then s1.sealNext g (s1.sealKind g)
          else if slow then s1.sealSlow g uncomputed
          else s1.sealNext g { sealPlain with uncomputed := uncomputed }
        | none => s)

/-- A PANE_SEAL action (R281): the oldest open pane of the group seals early. On the edge of a seal instant the pane seals once,
without EARLY, and a pane whose seal work goes on is left to it. -/
def State.sealAction (s : State) (g : Nat) (late : Bool) : State :=
  match s.pg? g with
  | none => s
  | some r =>
    let s1 := s.sealDueIn g (s.sealCount g r)
    let x := s1.group g
    if x.sealedAt = some s1.clock then s1
    else match x.panes.find? (fun p => x.slow.isNone || p.tick != x.nextSeal) with
      | some p => s1.sealOne g r p ⟨true, late, false, false, []⟩
      | none => s1

/-! ### Pane-group commands (R295) -/

/-- A pane-group command is entered for the next landing when it is legal. -/
def State.pgCommand (s : State) (g : Nat) (contain : Bool) : State :=
  let held := match (s.group g).cmd with | some b => b | none => s.bit (R.przPgStatus g) 17
  if s.im.has Sect.paneGroup g && held != contain then
    (s.setGroup g { s.group g with cmd := some contain }).result R.przPgCmdStatus Code.ok
  else s.result R.przPgCmdStatus Code.state

/-- The pane group a write of PRZ.PG_CMD names. -/
def State.setPgField (s : State) (g : Nat) : State := s.setF R.przPgCmd 15 8 g

/-- CONTAIN (R295). -/
def execPgContain (req : Requester) (g : Nat) (s : State) : Answer :=
  .next (s.guarded req R.przPgCmd (fun s => (s.setPgField g).pgCommand (g % 256) true))

/-- RELEASE (R295). -/
def execPgRelease (req : Requester) (g : Nat) (s : State) : Answer :=
  .next (s.guarded req R.przPgCmd (fun s => (s.setPgField g).pgCommand (g % 256) false))

/-- A reserved pane-group command completes with STATE (R295). -/
def execPgCmdReserved (req : Requester) (g : Nat) (s : State) : Answer :=
  .next (s.guarded req R.przPgCmd (fun s => (s.setPgField g).result R.przPgCmdStatus Code.state))

/-- Step 2 of a landing: the group's command takes effect. -/
def State.pgLand (s : State) (g : Nat) : State :=
  let x := s.group g
  match x.cmd with
  | some b => (s.setGroup g { x with cmd := none }).setBit (R.przPgStatus g) 17 b
  | none => s

end Sys2Proof.Machine
end

