-- ==== Sys2Proof/Machine/PrismIn.lean ====
section
/-! DEFINITION. Prism inputs (08_prism_inputs): decoding of sampled values and JWT, mapping to time, placing samples,
timing breaks and the input commands. -/

namespace Sys2Proof.Machine

/-! ### Timing breaks (R260, R261) -/

/-- A timing break of handle `sh`: the current sequence ends with its open slots absent, BREAKS counts. -/
def State.breakStream (s : State) (sh : Nat) : State :=
  let x := s.sin sh
  let s1 := match x.cur with
    | some q =>
      let c := q.close (q.newest + 1)
      (s.setSin sh { x with cur := none, prev := some c.2, broke := true }).cntIn sh In.gap c.1
    | none => s
  (((s1.cntIn sh In.breaks 1).raise Src.przInBreak []).evalStream sh)

/-- A step of time base `n` breaks the streams mapped to it, or to another than the tick source (R260). -/
def State.stepBreaks (s : State) (n : Nat) : State :=
  forEach (s.prz.streams.map (·.1)) (fun sh x =>
    let y := x.sin sh
    let hit := if n = x.src then y.tb ≠ n else y.tb = n
    if y.cur.isSome ∧ hit then (x.setSin sh { y with breakAt := some x.clock }).breakStream sh else x) s

/-! ### Placing a sample (R258, R259, R270, R283) -/

/-- `a / b` rounded, a tie going to the larger integer. -/
def roundUpTie (a b : Int) : Int := (2 * a + b) / (2 * b)

/-- Put an accepted sample into the raw panes of its groups (R292, R293): one of a tick before the group's first pane goes into
none. -/
def State.putRawAt (s : State) (sh : Nat) (seq : Nat) (v : Sample) (t : Nat) : State :=
  forEach ((s.groupsOf sh).filter (fun x => x.2.1.raw)) (fun (g, r, j) (x : State) =>
    let y := x.group g
    if t < y.first then x
    else if y.isSealed t || (y.slow.isSome && t == y.nextSeal) then
      (x.inc (R.przPgLateInput g)).raise Src.paneLateInput [Cu.pg g]
    else if x.paneBarred t || x.isMissed t then x
    else
      let x1 := x.openPane g t
      let full : Bool := match x1.pane? g t with
        | some p => decide (maxRaw (to32 x.period) (x.im.rateOf sh) ≤ (p.raws.filter (fun e => e.member == j)).length)
        | none => true
      if full then (x1.updPane g t (fun p => { p with full := if p.full.contains j then p.full else j :: p.full })).inc
        (R.przPgRawOvf g)
      else
        let x2 := x1.updPane g t (fun p => { p with raws := insertRaw ⟨j, seq, v⟩ p.raws })
        match x2.pane? g t with
        | some p => x2.ddrWrite (x2.slotAt g t + x2.recOfs r j) (x2.rawOf r p j false)
        | none => x2) s

/-- Put an accepted sample into its raw panes, or keep it while a committed re-plan stands before its tick (R280, R292). -/
def State.putRaw (s : State) (sh : Nat) (seq : Nat) (v : Sample) : State :=
  let t := s.tickOf v.tau
  if t < 0 then s
  else if s.beyondReplan t.toNat then { s with prz := { s.prz with kept := s.prz.kept ++ [(sh, seq, v)] } }
  else s.putRawAt sh seq v t.toNat

/-- A re-plan is aborted: what it kept from the panes is written and decided (R280). -/
def State.panesFree (s : State) : State :=
  let s1 : State := { s with prz := { s.prz with kept := [] } }
  let s2 := forEach s.prz.kept (fun e x => x.putRaw e.1 e.2.1 e.2.2) s1
  forEach (s2.prz.streams.map (·.1)) (fun sh x => x.evalStream sh) s2

/-- A slot is filled that sealed outputs awaited: once per group (R283). -/
def State.lateInput (s : State) (sh seq k : Nat) : State :=
  forEach (s.groupsOf sh) (fun (g, _, _) x =>
    let y := x.group g
    let hit := fun (w : LateWait) => w.sh == sh && w.seq == seq && w.slots.contains k
    if y.late.any hit then
      let x1 := x.setGroup g { y with late := y.late.map (fun w =>
        if hit w then { w with slots := w.slots.filter (· != k) } else w) }
      (x1.inc (R.przPgLateInput g)).raise Src.paneLateInput [Cu.pg g]
    else x) s

/-- Everything that follows from an accepted sample, which wakes the prism (R492). -/
def State.accepted (s : State) (sh : Nat) (q : Seq) (k : Nat) (v : Sample) : State :=
  (((((s.wake 228).cntIn sh In.samples 1).lateInput sh q.id k).putRaw sh q.id v).evalStream sh)

/-- The sample opens a new sequence as its index 0 (R258). -/
def State.openSeq (s : State) (sh : Nat) (v : Sample) : State :=
  let x := s.sin sh
  let q := Seq.start x.nextId v
  (s.setSin sh { x with cur := some q, nextId := x.nextId + 1, lastT := v.tau }).accepted sh q 0 v

/-- The anchor moves to a sample more than an eighth of a sample period off its nominal time (R270). -/
def Seq.offAnchor (q : Seq) (rate : Nat) (k : Int) (tau : Int) : Bool :=
  decide (10 ^ 9 * 2 ^ 32 < (8 * (rate : Int) * (tau - q.anchorT) - 8 * (k - q.anchorK) * (10 ^ 9 * 2 ^ 32)).natAbs)

/-- Fill slot `k` of the current sequence. -/
def State.fillSlot (s : State) (sh : Nat) (q : Seq) (rate : Nat) (k : Nat) (v : Sample) : State :=
  let x := s.sin sh
  let moved := q.offAnchor rate k v.tau
  let q1 := { q with slots := (k, v) :: q.slots }
  let q2 := if moved then { q1 with anchorK := k, anchorT := v.tau } else q1
  let newer := decide (q.newest < k)
  let q3 := if newer then { q2 with newest := k, newestT := v.tau } else q2
  let c := if newer then q3.close (k - s.rowOf sh) else (0, q3)
  let s1 := s.setSin sh { x with cur := some c.2, lastT := if newer then v.tau else x.lastT }
  let s2 := if newer then s1.cntIn sh In.gap c.1 else s1.cntIn sh In.outOfOrder 1
  let s3 := if moved then (s2.cntIn sh In.reanchor 1).raise Src.przReanchor [] else s2
  s3.accepted sh c.2 k v

/-- A sample captured at local time `cap` joins its stream; `dev` tells whether R258 tests its deviation. -/
def State.placeSample (s : State) (sh rate : Nat) (dev : Bool) (cap : Time) (v : Sample) : State :=
  let x := s.sin sh
  let early := match x.breakAt with | some t => decide (cap < t) | none => false
  if early then s.discardIn sh In.late
  else match x.cur with
    | none => s.openSeq sh v
    | some q =>
      let num := (v.tau - q.newestT) * rate
      let den : Int := 10 ^ 9 * 2 ^ 32
      let d := roundUpTie num den
      let k := (q.newest : Int) + d
      if dev && decide (den < (4 * num - 4 * d * den).natAbs) then (s.breakStream sh).openSeq sh v
      else if k < 0 then s.discardIn sh In.late
      else if q.newest < k then s.fillSlot sh q rate k.toNat v
      else if k < (q.newest : Int) - s.rowOf sh then s.discardIn sh In.late
      else match q.slot false k with
        | .filled _ => s.discardIn sh In.dup
        | .opened => s.fillSlot sh q rate k.toNat v
        | _ => s.discardIn sh (if q.slots.any (fun e => e.1 == k.toNat) then In.dup else In.late)

/-! ### Receive time (R128, R165, R248) -/

/-- `n` steps of 80 ps as a duration. -/
def ofPs80 (n : Nat) : Time := (n * 8 * 2 ^ 48 : Nat) / 100

/-- A latency register of the device's own: unsigned, in 2^-16 ns, as a duration. -/
def fixedLatency (r : Reg) : Time := (r.toNat : Int) * (2 ^ 32 : Nat)

/-- A latency register of the host's: signed, in 2^-16 ns, as a duration. -/
def latency (r : Reg) : Time := signed 32 r.toNat * (2 ^ 32 : Nat)

/-- The capture of this instant on port `p`, `k` steps of 80 ps after the TIME edge. -/
def State.capture (s : State) (p k : Nat) : Capture :=
  ⟨s.clock, (List.range 8).map (fun n => (s.tb n).count), k % 10, s.hostTstamp (s.portGallery p)⟩

/-- The capture the prism decoder takes of a frame: the PCS's, or in host-assisted TSTAMP mode that of the edge on which its first
octet reaches the decoder (R248). -/
def State.decoderCapture (s : State) (c : Capture) : Capture :=
  if c.host then ⟨s.clock, (List.range 8).map (fun n => (s.tb n).count), 0, true⟩ else c

/-- The receive timestamp of a capture on port `p` in time base `n` (R128, R165). -/
def State.rxStamp (s : State) (p : Nat) (c : Capture) (n : Nat) : Time :=
  c.counts.getD n 0 + ofPs80 c.k - fixedLatency (Config.rxLatInt p) - latency (s.rd (R.prtPRxLatAdj p))

/-- rx of a frame for the prism in time base `n`, from the decoder's capture (R248). -/
def State.rxTime (s : State) (p : Nat) (c : Capture) (n : Nat) : Int :=
  to32 (if c.host then c.counts.getD n 0 else s.rxStamp p c n)

/-- δ (R250). -/
def State.deltaOf (s : State) (c : Capture) (n : Nat) : Int :=
  if n = s.src then 0 else roundHalfEven (c.counts.getD s.src 0 - c.counts.getD n 0) (2 ^ 16)

/-! ### Sampled values (R240 to R246) -/

/-- One ASDU as decoded. -/
structure Asdu where
  svId : List Byte
  smpCnt : Nat
  confRev : Nat
  synch : Nat
  smpRate : Option Nat
  data : List Byte
  smpMod : Option Nat
  deriving DecidableEq, Repr

/-- Tags are strictly rising. -/
def tagsRise : List (Nat × Nat × Nat) → Bool
  | a :: b :: t => decide (a.1 < b.1) && tagsRise (b :: t)
  | _ => true

/-- The length of the content of an ASDU element is allowed (R241). -/
def asduLen (channels tag len : Nat) : Bool :=
  match tag with
  | 0x80 => decide (1 ≤ len) && decide (len ≤ 65)
  | 0x81 => true
  | 0x82 => len == 2
  | 0x83 => len == 4
  | 0x84 => len == 8
  | 0x85 => len == 1
  | 0x86 => len == 2
  | 0x87 => len == 8 * channels
  | 0x88 => len == 2
  | 0x89 => len == 8
  | _ => false

/-- A context-specific element with tag number 10 to 30 (R242). -/
def asduSkip (tag : Nat) : Bool := decide (0x80 ≤ tag) && decide (tag < 0xC0) && decide (10 ≤ tag % 32) && decide (tag % 32 ≤ 30)

/-- Decode the content of one ASDU. -/
def parseAsdu (channels : Nat) (b : List Byte) : Option Asdu :=
  match berList (b.length + 1) 0 b with
  | none => none
  | some all =>
    let es := all.filter (fun e => !asduSkip e.1)
    let get := fun (t : Nat) => (es.find? (fun e => e.1 == t)).map (fun e => slice b e.2.1 e.2.2)
    if es.all (fun e => asduLen channels e.1 e.2.2) && tagsRise es then
      match get 0x80, get 0x82, get 0x83, get 0x85, get 0x87 with
      | some id, some cnt, some rev, some syn, some dat =>
        some ⟨id, beNat cnt, beNat rev, beNat syn, (get 0x86).map beNat, dat, (get 0x88).map beNat⟩
      | _, _, _, _, _ => none
    else none

/-- Every ASDU of a list of elements; none when one breaks the format. -/
def parseAsdus (channels : Nat) (b : List Byte) : List (Nat × Nat × Nat) → Option (List Asdu)
  | [] => some []
  | e :: es =>
    if e.1 = 0x30 then
      match parseAsdu channels (slice b e.2.1 e.2.2), parseAsdus channels b es with
      | some a, some l => some (a :: l)
      | _, _ => none
    else none

/-- The content of savPdu: noASDU, an optional security element and seqASDU (R241). -/
def parseSavPdu (channels : Nat) (b : List Byte) : Option (List Asdu) :=
  match berList (b.length + 1) 0 b with
  | none => none
  | some es =>
    let body := fun (n q : Nat × Nat × Nat) =>
      if n.1 = 0x80 ∧ n.2.2 = 1 ∧ q.1 = 0xA2 then
        let count := beAt b n.2.1 1
        let c := slice b q.2.1 q.2.2
        match berList (c.length + 1) 0 c with
        | some as =>
          if 1 ≤ count ∧ count ≤ 8 ∧ as.length = count then
            match parseAsdus channels c as with
            | some (a :: l) => if l.all (fun x => x.svId == a.svId) then some (a :: l) else none
            | _ => none
          else none
        | none => none
      else none
    match es with
    | [n, q] => body n q
    | [n, x, q] => if x.1 = 0x81 then body n q else none
    | _ => none

/-- Decode a sampled-value frame from the octets after its EtherType: Simulate, and its ASDUs (R240 to R242). -/
def parseSv (channels : Nat) (b : List Byte) : Option (Bool × List Asdu) :=
  match berHead (b.drop 8) with
  | some (0x60, h, l) =>
    if 8 + h + l ≤ b.length ∧ 8 + h + l ≤ beAt b 2 2 ∧ beAt b 2 2 ≤ b.length then
      (parseSavPdu channels (slice b (8 + h) l)).map (fun as => ((beAt b 4 2).testBit 15, as))
    else none
  | _ => none

/-- The samples of an ASDU (R243). -/
def asduSample (tau : Int) (channels : Nat) (test : Bool) (d : List Byte) : Sample :=
  let q := fun (c : Nat) => beAt d (8 * c + 4) 4
  ⟨tau, (List.range channels).map (fun c => BitVec.ofNat 32 (beAt d (8 * c) 4)),
    (List.range channels).map (fun c =>
      q c % 4 + (test || (q c).testBit 11).toNat * 4 + ((q c).testBit 13).toNat * 8)⟩

/-- The time of `smpCnt` under MAP, in 2^-32 ns of the time base (R246). -/
def mapTime (rate : Nat) (rx : Int) (cnt : Nat) : Int :=
  let j := if rate ≤ 65536 then 1 else 2
  let p : Int := (10 ^ 9 / j : Nat) * ns32
  let t0 := rx - rx % p + roundHalfEven ((cnt : Int) * 10 ^ 9 * 2 ^ 32) (max 1 rate)
  let far := fun (t : Int) => (t - rx).natAbs
  let a := if far t0 < far (t0 - p) then t0 else t0 - p
  if far (t0 + p) < far a then t0 + p else a

/-- W of R244. -/
def wrapCount (rate : Nat) : Nat := if rate ≤ 65536 then rate else rate / 2

/-- The limit registers in force, in 2^-32 ns (R249). -/
def State.ageLimit (s : State) : Int := (min 250000000 (s.inForce R.przAgeNs).toNat : Nat) * ns32
/-- AHEAD_NS. -/
def State.aheadLimit (s : State) : Int := (min 10000000 (s.inForce R.przAheadNs).toNat : Nat) * ns32

/-- An ASDU with its time is taken: what the stream records of it, a break on a new smpSynch, its sample (R243, R260). -/
def State.takeAsdu (s : State) (sh : Nat) (r : StreamRec) (c : Capture) (a : Asdu) (tb : Nat) (arrival test : Bool)
    (tau : Int) : State :=
  let x := s.sin sh
  let s1 := match x.confRev with
    | some v => if v = a.confRev then s else s.cntIn sh In.confrevChg 1
    | none => s
  let differs := match x.synch with | some v => v != a.synch | none => false
  let s2 := if differs then s1.breakStream sh else s1
  let s3 := s2.setSin sh { s2.sin sh with confRev := some a.confRev, synch := some a.synch, lastCnt := a.smpCnt, tb := tb }
  s3.placeSample sh r.rate (!arrival) c.clock (asduSample tau r.channels test a.data)

/-- One ASDU of a frame: position `i` of `n` (R243 to R250, R263). -/
def State.doAsdu (s : State) (sh : Nat) (r : StreamRec) (p : Nat) (c : Capture) (sim : Bool) (n i : Nat) (a : Asdu) : State :=
  let s := s.cntIn sh In.asdus 1
  let accept := rbit (s.inForce R.przInCfg) 16
  let entry := s.inForce (R.przSynchMap (a.synch % 256))
  let action := fld entry 5 4
  let ofs := s.pathOfsOf sh * ns32
  if wrapCount r.rate ≤ a.smpCnt then s.discardIn sh In.formatErr
  else if sim && !accept then s.discardIn sh In.simulated
  else if a.smpMod = some 1 ∧ r.inRate ≤ 65535 ∧ a.smpRate ≠ some r.inRate then s.discardIn sh In.rateErr
  else if action = 0 ∨ action = 3 then s.discardIn sh In.synchReject
  else if action = 2 then
    let rx := s.rxTime p c s.src
    let t := rx - roundHalfEven (((n - 1 - i : Nat) : Int) * 10 ^ 9 * 2 ^ 32) (max 1 r.rate)
    s.takeAsdu sh r c a s.src true sim (t - ofs)
  else
    let tb := fld entry 2 0
    if s.tbState tb = TbS.disabled then s.discardIn sh In.noTb
    else
      let rx := s.rxTime p c tb
      let t := mapTime r.rate rx a.smpCnt
      if t - ofs < rx - s.ageLimit then s.discardIn sh In.stale
      else if rx + s.aheadLimit < t - ofs then s.discardIn sh In.ahead
      else s.takeAsdu sh r c a tb false sim (t + s.deltaOf c tb - ofs)

/-- The ASDUs of a frame in order. -/
def State.doAsdus (s : State) (sh : Nat) (r : StreamRec) (p : Nat) (c : Capture) (sim : Bool) (n i : Nat) :
    List Asdu → State
  | [] => s
  | a :: l => (s.doAsdu sh r p c sim n i a).doAsdus sh r p c sim n (i + 1) l

/-- A sampled-value frame of handle `sh`. -/
def State.svFrame (s : State) (sh : Nat) (r : StreamRec) (p : Nat) (c : Capture) (etype : Nat) (b : List Byte) : State :=
  if etype ≠ 0x88BA then s.discardIn sh In.formatErr
  else match parseSv r.channels b with
    | none => s.discardIn sh In.formatErr
    | some (sim, as) => (s.cntIn sh In.frames 1).doAsdus sh r p c sim as.length 0 as

/-! ### JWT (R251 to R257) -/

/-- The format of a JWT frame is sound (R256). -/
def jwtSound (channels : Nat) (b : List Byte) : Bool :=
  let s := beAt b 3 1 / 16
  decide (24 ≤ b.length) && beAt b 0 1 / 16 == 1 && !(beAt b 0 1).testBit 3 && decide (1 ≤ s) && decide (s ≤ 3) &&
  beAt b 22 2 == 0 && decide (beAt b 18 4 < 10 ^ 9) && decide (1 ≤ beAt b 10 2) && beAt b 3 1 % 16 + 1 == channels &&
  decide (24 + beAt b 10 2 * channels * (s + 1) + 2 * channels ≤ b.length)

/-- Sample `i` of a JWT frame. -/
def jwtSample (channels : Nat) (b : List Byte) (tau : Int) (i : Nat) : Sample :=
  let sz := beAt b 3 1 / 16 + 1
  let flags := beAt b 0 1 % 16
  let qofs := 24 + beAt b 10 2 * channels * sz
  ⟨tau,
    (List.range channels).map (fun c => BitVec.ofInt 32 (signed (8 * sz) (beAt b (24 + sz * (channels * i + c)) sz))),
    (List.range channels).map (fun c =>
      let w := beAt b (qofs + 2 * c) 2
      let v := if flags.testBit 1 ∧ w % 4 = 0 then 3 else w % 4
      v + (flags.testBit 0 || w.testBit 2).toNat * 4 + (w.testBit 3).toNat * 8)⟩

/-- The lowest-numbered enabled time base of a domain. -/
def State.tbOfDomain (s : State) (d : Nat) : Option Nat :=
  (List.range 8).find? (fun n => s.im.hasTb n && s.tbState n != TbS.disabled && (s.im.timeBase n).domain == d)

/-- A JWT frame of handle `sh`. -/
def State.jwtFrame (s : State) (sh : Nat) (r : StreamRec) (p : Nat) (c : Capture) (etype : Nat) (b : List Byte) : State :=
  if etype ≠ fld (s.inForce R.przInCfg) 15 0 ∨ jwtSound r.channels b = false then s.discardIn sh In.formatErr
  else if beAt b 2 1 ≠ r.inRate ∨ r.rate = 0 then s.discardIn sh In.rateErr
  else match s.tbOfDomain (beAt b 1 1) with
    | none => s.discardIn sh In.noTb
    | some tb =>
      let x := s.sin sh
      let seq := beAt b 8 2
      let s1 := s.cntIn sh In.frames 1
      let s2 := match x.jwtSeq with
        | some v => if (seq + 65536 - v) % 65536 = 1 then s1 else s1.cntIn sh In.seqGap 1
        | none => s1
      let s3 := s2.setSin sh { s2.sin sh with jwtSeq := some seq, lastCnt := seq }
      let n := beAt b 10 2
      let rx := s.rxTime p c tb
      let ofs := s.pathOfsOf sh * ns32
      let at' := fun (i : Nat) => ((beAt b 12 6 * 10 ^ 9 + beAt b 18 4 : Nat) : Int) * ns32 +
        roundHalfEven ((i : Int) * 10 ^ 9 * 2 ^ 32) (max 1 r.rate)
      if at' 0 - ofs < rx - s.ageLimit then s3.discardIn sh In.stale
      else if rx + s.aheadLimit < at' (n - 1) - ofs then s3.discardIn sh In.ahead
      else
        let s4 := if (beAt b 0 1).testBit 2 then s3.breakStream sh else s3
        let d := s.deltaOf c tb
        let s5 := s4.setSin sh { s4.sin sh with tb := tb }
        forEach (List.range n) (fun i y => y.placeSample sh r.rate true c.clock (jwtSample r.channels b (at' i + d - ofs) i)) s5

/-- A frame the twin eliminator passes to a prism destination (R239). -/
def State.prismFrame (s : State) (sh p : Nat) (c : Capture) (etype : Nat) (b : List Byte) : State :=
  match s.inputRec? sh with
  | some r =>
    let d := s.decoderCapture c
    if r.dest = 1 then s.svFrame sh r p d etype b else s.jwtFrame sh r p d etype b
  | none => s

/-! ### Store errors (R294) -/

/-- The prism store's ECC finds an error. -/
def State.storeError (s : State) (e : StoreErr) : State :=
  match e with
  | .corrected => (s.inc R.przStoreCe).raise Src.przStoreCe []
  | .slot sh k =>
    let x := s.sin sh
    let s1 := s.setSin sh { x with cur := x.cur.map (fun q => { q with lost := k :: q.lost }) }
    ((s1.inc R.przStoreUe).raise Src.przStoreUe []).evalStream sh
  | .coef set phase tap =>
    let s1 := { s with prz := { s.prz with badCoef := (set, phase, tap) :: s.prz.badCoef } }
    (s1.inc R.przStoreUe).raise Src.przStoreUe []

/-! ### Input commands (R262 to R265) -/

/-- IN_CMD names handle `sh`. -/
def State.setInField (s : State) (sh : Nat) : State := s.setF R.przInCmd 31 16 sh

/-- Enter an input command for the next landing. -/
def State.inCommand (s : State) (sh : Nat) (c : InCmd) : State :=
  let x := s.sin sh
  (s.setSin sh { x with cmds := x.cmds ++ [c] }).result R.przInStatus Code.ok

/-- SET_PATH_OFS (R250, R265). -/
def execSetPathOfs (req : Requester) (sh : Nat) (s : State) : Answer :=
  .next (s.guarded req R.przInCmd (fun s0 =>
    let s := s0.setInField sh
    let v := signed 32 (s.rdN R.przInArg)
    if (s.inputRec? sh).isNone then s.result R.przInStatus Code.state
    else if v < -10000000 ∨ 10000000 < v then s.result R.przInStatus Code.check
    else s.inCommand sh (.pathOfs v)))

/-- SET_REORDER (R265). -/
def execSetReorder (req : Requester) (sh : Nat) (s : State) : Answer :=
  .next (s.guarded req R.przInCmd (fun s0 =>
    let s := s0.setInField sh
    if (s.inputRec? sh).isNone then s.result R.przInStatus Code.state
    else s.inCommand sh (.reorder (min 8 (s.getF R.przInArg 3 0)))))

/-- BREAK (R265). -/
def execPrzBreak (req : Requester) (sh : Nat) (s : State) : Answer :=
  .next (s.guarded req R.przInCmd (fun s0 =>
    let s := s0.setInField sh
    if (s.inputRec? sh).isNone then s.result R.przInStatus Code.state else s.inCommand sh .brk))

/-- A reserved input command completes with STATE (R265). -/
def execPrzInCmdReserved (req : Requester) (sh : Nat) (s : State) : Answer :=
  .next (s.guarded req R.przInCmd (fun s => (s.setInField sh).result R.przInStatus Code.state))

/-- An input command takes effect at its landing (R265). -/
def State.applyIn (s : State) (sh : Nat) (c : InCmd) : State :=
  match c with
  | .pathOfs v => (s.setSin sh { s.sin sh with pathOfs := some v }).breakStream sh
  | .reorder n =>
    let x := s.sin sh
    (match x.cur with
     | some q =>
       let r := q.close (q.newest - n)
       ((s.setSin sh { x with row := some n, cur := some r.2 }).cntIn sh In.gap r.1).evalStream sh
     | none => s.setSin sh { x with row := some n })
  | .brk => s.breakStream sh

/-- The input commands of every stream take effect, and streams whose SYNCH_MAP entry changed break (R260). -/
def State.inLand (s : State) : State :=
  let s1 := forEach (s.prz.streams.map (·.1)) (fun sh x =>
    let y := x.sin sh
    forEach y.cmds (fun c z => z.applyIn sh c) (x.setSin sh { y with cmds := [] })) s
  let changed := s1.stale.filter (fun e =>
    decide (R.przSynchMap 0 ≤ e.1) && decide (e.1 < R.przSynchMap 256) && e.2 != s1.rd e.1)
  forEach (s1.prz.streams.map (·.1)) (fun sh x =>
    match (x.sin sh).synch with
    | some v => if (x.sin sh).cur.isSome ∧ changed.any (fun e => e.1 == R.przSynchMap v) then x.breakStream sh else x
    | none => x) s1

/-- IN_SEL_WRITE: the input record of the handle is copied into the window, and its counters cleared when CLEAR is 1
(R264). -/
def execInSelWrite (req : Requester) (v : Reg) (s : State) : Answer :=
  .next (s.guarded req R.przInSel (fun s =>
    let sh := fld v 15 0
    let x := s.sin sh
    let r := s.inputRec? sh
    let cls := match r with | some r => r.dest | none => 0
    let w := (if cls = 1 then x.synch.getD 0 else 0) * 2 ^ 24 + (if r.isSome then s.rowOf sh else 0) * 2 ^ 20 +
      x.tb * 2 ^ 12 + x.cur.isSome.toNat * 2 ^ 11 + cls * 2 ^ 9 + r.isSome.toNat * 2 ^ 8
    let s1 := (s.wrN R.przInSel sh).wrN R.przWIn w
    let s2 := (s1.wrN R.przWPathOfs (unsigned 32 (if r.isSome then s.pathOfsOf sh else 0))).wrN R.przWConfrev (x.confRev.getD 0)
    let s3 := (s2.wrN R.przWLastCnt x.lastCnt).wrWords R.przWLastT (timeWords 16 (x.lastT * (2 ^ 16 : Nat)))
    let s4 := forEach (List.range 18) (fun i y => y.wr64 (R.przWFrames + 8 * i) (Tab.get (fun _ => 0) x.cnt i)) s3
    if rbit v 16 then s4.setSin sh { s4.sin sh with cnt := [] } else s4))

/-- Input state is cleared (R262). -/
def State.clearInputs (s : State) : State := { s with prz := { s.prz with streams := [], kept := [] } }

end Sys2Proof.Machine
end

