-- ==== Sys2Proof/Machine/Servo.lean ====
section
/-! DEFINITION. Corrections, states and the servo of the time bases (R109 to R127), and what a step does to the blocks
that follow a count. -/

namespace Sys2Proof.Machine

/-! ### Parameters -/

/-- The bound of FREQ (R109). -/
def freqBound : Nat := 1024000000

/-- A time base is enabled. -/
def State.tbOn (s : State) (n : Nat) : Bool := s.tbState n != TbS.disabled

/-- Time base `n` is the tick source. -/
def State.isSrc (s : State) (n : Nat) : Bool := s.hasPlan && n == s.src

/-- STEP_LIMIT in 2^-16 ns. -/
def State.stepLimit (s : State) (n : Nat) : Nat := s.rdN (R.tsuTbStepLimit n) * 2 ^ 16

/-- A phase in 2^-16 ns as a duration. -/
def ofQ16 (c : Int) : Time := c * (2 ^ 32 : Nat)

/-- A duration as a phase in 2^-16 ns. -/
def toQ16 (t : Time) : Int := t / (2 ^ 32 : Nat)

/-- A count with its seconds modulo 2^48 (R107). -/
def wrapTime (t : Time) : Time := t % (oneSec * (2 ^ 48 : Nat))

/-- Set FREQ, saturated. -/
def State.setFreq (s : State) (n : Nat) (f : Int) : State := s.wrN (R.tsuTbFreq n) (unsigned 32 (saturate freqBound f))

/-- Set the state of time base `n`; TB_HOLDOVER is LIVE while it is HOLDOVER (R143), TB_REFUSED while it is REFUSED (R116,
R429). Entering LOCKING starts its runs anew, and entering LOCKED the frequencies of R126. -/
def State.setTbState (s : State) (n st : Nat) : State :=
  let s1 := s.setF (R.tsuTbStatus n) 2 0 st
  let s2 := if st = TbS.locking ∧ s.tbState n ≠ TbS.locking
      then s1.setTb n { s1.tb n with inRun := 0, outRun := 0, okRun := 0, asked := false }
    else if st = TbS.locked ∧ s.tbState n ≠ TbS.locked then s1.setTb n { s1.tb n with freqs := [] } else s1
  (s2.condition (Src.tbHoldover n) [Cu.tb n] (st == TbS.holdover)).condition (Src.tbRefused n) [Cu.tb n] (st == TbS.refused)

/-! ### Steps (R85, R96, R117, R119) -/

/-- The last tick whose landing lies at or before the present tick-source time. -/
def State.lastPassed (s : State) : Nat :=
  ((s.baseTick : Int) + (s.srcNow - s.baseTime - s.tick.delta) / max 1 s.period).toNat

/-- The last tick whose cut-off lies at or before the present tick-source time. -/
def State.lastCut (s : State) : Nat :=
  ((s.baseTick : Int) + (s.srcNow + ofNs 1000 - s.baseTime - s.tick.delta) / max 1 s.period).toNat

/-- The count of the tick source jumped: `s` was the state before. Landings it passes are missed, cut-offs it jumps over
are not reached, panes whose seal instant it jumps over seal, and the treads are those of the stepped time (R85, R81,
R281, R216). -/
def State.sourceStepped (s t : State) : State :=
  if t.running || t.gridSet then
    let m := t.lastPassed
    let t1 := if s.srcNow < s.landingAt m ∧ t.landingAt m ≤ t.srcNow ∧ (t.running → t.now < m) then
        { t with tick := { t.tick with missedTo := some m } }
      else t
    let c := t.lastCut
    let t2 := if s.srcNow < s.cutoffAt c ∧ t.cutoffAt c ≤ t.srcNow then { t1 with tick := { t1.tick with cutTick := some c } }
      else t1
    let t3 := t2.sealDue
    forEach t3.im.ports (fun p x => if x.treadIx p = x.treadNow p then x else x.startTread p (x.treadNow p)) t3
  else t

/-- The count of time base `n` is loaded with `v` on one edge (R117, R122). A follower's landings do not move (R96). -/
def State.loadCount (s : State) (n : Nat) (v : Time) : State :=
  let d := v - (s.tb n).count
  let s1 := s.setTb n { s.tb n with count := wrapTime v }
  let s2 := if s.isSrc n then
      (if s.getF R.tickStatus 1 0 = 2 ∧ s.running then s1.setDelta (s1.tick.delta + d)
       else s.sourceStepped s1)
    else s1
  s2.stepBreaks n

/-- Step time base `n` by `c`. -/
def State.stepTb (s : State) (n : Nat) (c : Time) : State :=
  (s.loadCount n ((s.tb n).count + c)).inc (R.tsuTbSteps n)

/-- SLEW_REM of time base `n`, with SLEWING. -/
def State.setSlew (s : State) (n : Nat) (r : Time) : State :=
  (s.setTb n { s.tb n with slewRem := r }).setBit (R.tsuTbStatus n) 8 (r != 0)

/-- An accepted correction of `c` in 2^-16 ns applies (R117, R118). One of 0 on a time base that is not the tick source makes
no step and does not count in STEPS (log entry 87). -/
def State.applyCorr (s : State) (n : Nat) (c : Int) : State :=
  let d := ofQ16 c
  if s.isSrc n then
    let r := (s.tb n).slewRem
    if d + r ≤ 0 then
      let s1 := s.setSlew n (d + r)
      if r = 0 ∧ d < 0 then s1.raise (Src.tbSlew n) [Cu.tb n] else s1
    else (s.setSlew n 0).stepTb n (d + r)
  else if c = 0 then s else s.stepTb n d

/-- Refuse a correction (R116). -/
def State.refuseCorr (s : State) (n : Nat) (c : Int) : State :=
  let s1 := ((s.setTbState n TbS.refused).wr64 (R.tsuTbRefusedOfs n) (unsigned 64 c)).hwSet (R.tsuTbStatus n) 9
  (s1.setTb n { s1.tb n with okRun := 0 }).inc (R.tsuTbRefusals n)

/-- A correction under the threshold applies, one above it is refused (R116). -/
def State.tryCorr (s : State) (n : Nat) (c : Int) : State :=
  if s.stepLimit n < c.natAbs then s.refuseCorr n c else s.applyCorr n c

/-- Time base `n` leaves REFUSED: the held correction is cleared and the state is LOCKING, or HOST_STATE in host-assisted
mode (R120, R121). -/
def State.leaveRefused (s : State) (n : Nat) : State :=
  let s1 := s.wr64 (R.tsuTbRefusedOfs n) 0
  if s.hostServo n then s1.setTbState n (s.getF (R.tsuTbCtl n) 9 8 + 1) else s1.setTbState n TbS.locking

/-! ### Reference samples (R112, R124 to R126) -/

/-- The mean of FREQ over the last samples, rounded half to even (R126). -/
def meanFreq (l : List Int) : Int := if l.isEmpty then 0 else roundHalfEven (l.foldl (· + ·) 0) l.length

/-- Enter HOLDOVER from LOCKED on the mean frequency (R126): of the samples LOCKED has had where they are fewer than 16, and
FREQ as it stands where it has had none (log entry 91). -/
def State.enterHoldover (s : State) (n : Nat) : State :=
  let f := if (s.tb n).freqs.isEmpty then s.freq n else meanFreq (s.tb n).freqs
  let s1 := (s.setFreq n f).setTb n { s.tb n with integ := saturate freqBound f }
  s1.setTbState n TbS.holdover

/-- The PI output of a sample with offset `o` (2^-16 ns) and interval `num / den` seconds (R125). -/
def State.servoPi (s : State) (n : Nat) (o : Int) (num den : Nat) : State :=
  let gain := fun (k : Nat) => roundHalfEven ((k : Int) * o * 1024 * den) (2 ^ 32 * max 1 num)
  let p := gain (s.getF (R.tsuTbKp n) 23 0)
  let i := saturate freqBound ((s.tb n).integ + gain (s.getF (R.tsuTbKi n) 23 0))
  let f := saturate freqBound (i - p)
  let s1 := (s.setTb n { s.tb n with integ := i }).setFreq n f
  if s.tbState n = TbS.locked then s1.setTb n { s1.tb n with freqs := (f :: (s1.tb n).freqs).take 16 } else s1

/-- A sample handled in LOCKING (R112, R115, R125). -/
def State.sampleLocking (s : State) (n : Nat) (o : Int) (num den : Nat) : State :=
  let t := s.tb n
  let inside := decide (o.natAbs ≤ s.rdN (R.tsuTbLockNs n) * 2 ^ 16)
  let ask := !inside && !t.asked
  let s1 := if ask then s.setTb n { t with asked := true } else s
  if ask && decide (s.stepLimit n < o.natAbs) then s1.refuseCorr n (-o)
  else
    let s2 := if ask then s1.applyCorr n (-o) else s1
    let s3 := s2.servoPi n o num den
    let run := if inside then t.inRun + 1 else 0
    let s4 := s3.setTb n { s3.tb n with inRun := run }
    if 8 ≤ run then (s4.setTb n { s4.tb n with outRun := 0 }).setTbState n TbS.locked else s4

/-- A sample handled in LOCKED. -/
def State.sampleLocked (s : State) (n : Nat) (o : Int) (num den : Nat) : State :=
  if s.stepLimit n < o.natAbs then s.refuseCorr n (-o)
  else
    let s1 := s.servoPi n o num den
    let run := if s.rdN (R.tsuTbUnlockNs n) * 2 ^ 16 < o.natAbs then (s.tb n).outRun + 1 else 0
    if 4 ≤ run then s1.setTbState n TbS.locking else s1.setTb n { s1.tb n with outRun := run }

/-- A sample in REFUSED. -/
def State.sampleRefused (s : State) (n : Nat) (o : Int) : State :=
  let s1 := s.wr64 (R.tsuTbRefusedOfs n) (unsigned 64 (-o))
  let run := if o.natAbs ≤ s.stepLimit n then (s.tb n).okRun + 1 else 0
  if 4 ≤ run then s1.setTbState n TbS.locking else s1.setTb n { s1.tb n with okRun := run }

/-- A reference sample with offset `o` in 2^-16 ns and interval `num / den` seconds (R112, R116, R124 to R127). -/
def State.sample (s : State) (n : Nat) (o : Int) (num den : Nat) : State :=
  let s0 := (s.wr64 (R.tsuTbOffset n) (unsigned 64 o)).inc (R.tsuTbSamples n)
  let s1 := s0.setTb n { s0.tb n with lastSample := s.clock }
  if !s.tbOn n then s
  else if s.hostServo n then s1
  else
    let o1 := o + toQ16 (s.tb n).slewRem
    let st := s.tbState n
    if st = TbS.free then (s1.setTbState n TbS.locking).sampleLocking n o1 num den
    else if st = TbS.holdover then
      (if s.stepLimit n < o1.natAbs then s1.refuseCorr n (-o1)
       else (s1.setTbState n TbS.locking).sampleLocking n o1 num den)
    else if st = TbS.locking then s1.sampleLocking n o1 num den
    else if st = TbS.locked then s1.sampleLocked n o1 num den
    else s1.sampleRefused n o1

/-- The reference of time base `n` is lost (R112): by LOSS_MS without a sample. -/
def State.loseReference (s : State) (n : Nat) : State :=
  if s.hostServo n then s
  else
    let st := s.tbState n
    if st = TbS.locking then s.setTbState n TbS.free
    else if st = TbS.locked then s.enterHoldover n
    else if st = TbS.refused then (s.wr64 (R.tsuTbRefusedOfs n) 0).setTbState n TbS.holdover
    else s

/-! ### Shadow epochs (R121) and modes (R113) -/

/-- The shadow epoch of time base `n` passes its check. -/
def State.epochOk (s : State) (n : Nat) : Bool :=
  decide (1 ≤ s.rdN (R.tsuTbShLockNs n)) && decide (s.rdN (R.tsuTbShLockNs n) < s.rdN (R.tsuTbShUnlockNs n)) &&
  decide (s.rdN (R.tsuTbShUnlockNs n) ≤ s.rdN (R.tsuTbShStepLimit n)) && decide (1 ≤ s.rdN (R.tsuTbShSlewMax n)) &&
  decide (s.rdN (R.tsuTbShSlewMax n) ≤ 1000)

/-- Shadow and active register of each parameter of an epoch. -/
def epochPairs (n : Nat) : List (Nat × Nat) :=
  [(R.tsuTbShStepLimit n, R.tsuTbStepLimit n), (R.tsuTbShSlewMax n, R.tsuTbSlewMax n), (R.tsuTbShKp n, R.tsuTbKp n),
   (R.tsuTbShKi n, R.tsuTbKi n), (R.tsuTbShLockNs n, R.tsuTbLockNs n), (R.tsuTbShUnlockNs n, R.tsuTbUnlockNs n)]

/-- The shadow epoch becomes active at a landing: its phase, unless 0, applies on the TIME edge after it. -/
def State.applyEpoch (s : State) (n : Nat) : State :=
  let s1 := forEach (epochPairs n) (fun e x => x.wr e.2 (x.rd e.1)) s
  let s2 := if s.tbState n = TbS.refused then s1.leaveRefused n else s1
  if s.rd64 (R.tsuTbShPhase n) = 0 then s2 else s2.setTb n { s2.tb n with phaseDue := true }

/-- SH_PHASE of time base `n` applies as an accepted correction and is cleared (R121). -/
def State.applyPhase (s : State) (n : Nat) : State :=
  let c := signed 64 (s.rd64 (R.tsuTbShPhase n))
  let s1 := (s.setTb n { s.tb n with phaseDue := false }).wr64 (R.tsuTbShPhase n) 0
  if s.tbOn n then s1.applyCorr n c else s1

/-- The epoch request of time base `n` at its landing: swapped, or failed. -/
def State.swapEpoch (s : State) (n : Nat) (ok : Bool) : State :=
  if !s.tbOn n then s
  else if ok then s.applyEpoch n
  else s.raise (Src.tbEpochCheck n) [Cu.tb n]

/-- The SERVO mode of time base `n` changes at a landing (R35, R113). -/
def State.servoMode (s : State) (n : Nat) (host : Bool) : State :=
  let s1 := s.setBit (R.tsuTbStatus n) 7 host
  if !s.tbOn n then s1
  else if host then
    ((s1.wr64 (R.tsuTbRefusedOfs n) 0).setTbState n (s.getF (R.tsuTbCtl n) 9 8 + 1))
  else
    let s2 := (s1.wr64 (R.tsuTbRefusedOfs n) 0).setTbState n TbS.locking
    s2.setTb n { s2.tb n with integ := s.freq n, inRun := 0, asked := false }

/-- HOST_STATE gives the state in host-assisted mode, REFUSED apart (R113). -/
def State.hostState (s : State) (n : Nat) : State :=
  if s.tbOn n && s.hostServo n && s.tbState n != TbS.refused then s.setTbState n (s.getF (R.tsuTbCtl n) 9 8 + 1) else s

/-! ### Loading from a plan (R110, R133) -/

/-- PTP_CFG of a profile (R133): delay, interval 0, announceReceiptTimeout 3, majorSdoId. PROFILE 0 of a time base without PTP,
which R133 has no row for, loads what profiles 2 and 3 load (log entry 88). -/
def ptpCfgOf (profile : Nat) : Nat := (if profile = 1 then 0 else 1) + 3 * 2 ^ 16 + (if profile = 4 then 2 ^ 24 else 0)

/-- Load the parameters of a TIME_BASE section into the shadow epoch, PTP_CFG and PPS_OUT. The shadow registers the section does
not give (SH_PHASE, SH_KP, SH_KI, SH_LOCK_NS, SH_UNLOCK_NS) keep what stands in them (log entry 92). -/
def State.loadTbParams (s : State) (im : Image) (n : Nat) : State :=
  let t := im.timeBase n
  let s1 := (s.wrN (R.tsuTbShStepLimit n) t.stepLimit).wrN (R.tsuTbShSlewMax n) t.slewMax
  (s1.wrN (R.tsuTbPtpCfg n) (ptpCfgOf t.profile)).setBit (R.tsuTbPpsOut n) 31 (t.ppsOut == 1)

/-- Time base `n` stops: DISABLED and reading 0. -/
def State.disableTb (s : State) (n : Nat) : State :=
  let s1 := (s.setTb n tbInit).setTbState n TbS.disabled
  ((s1.setFreq n 0).setBit (R.tsuTbStatus n) 8 false).setF (R.tsuTbStatus n) 23 16 0xFF

end Sys2Proof.Machine
end

