-- ==== Sys2Proof/Machine/Ptp.lean ====
section
/-! DEFINITION. PTP (R128 to R139): finding a message in a frame, the ordinary clock's messages, and the transmit side's
stamps and residence corrections. The message formats are those of IEEE 1588-2019, which the spec names (log entry 18). -/

namespace Sys2Proof.Machine

/-! ### Messages in frames -/

/-- A PTP message found in a frame: the offset of its header, and that of the UDP checksum when it travels in UDP/IPv4. -/
structure PtpAt where
  ofs : Nat
  udp : Option Nat
  deriving DecidableEq, Repr

/-- Offset of the EtherType after the tags of R157 and an HSR tag. -/
def innerOfs (b : List Byte) : Nat := if etherType b = 0x892F then typeOfs b + 6 else typeOfs b

/-- The PTP message of a frame in IEEE 802.3 or in UDP/IPv4 to one of the given ports (R129, R137). -/
def ptpAt (ports : List Nat) (b : List Byte) : Option PtpAt :=
  let o := innerOfs b
  if beAt b o 2 = 0x88F7 then (if o + 2 + 34 ≤ b.length then some ⟨o + 2, none⟩ else none)
  else if beAt b o 2 = 0x0800 then
    let ip := o + 2
    let udp := ip + 4 * (beAt b ip 1 % 16)
    if beAt b (ip + 9) 1 = 17 ∧ ports.contains (beAt b (udp + 2) 2) ∧ udp + 8 + 34 ≤ b.length
    then some ⟨udp + 8, some (udp + 6)⟩ else none
  else none

/-- The PTP message of a frame. -/
def ptpOf (b : List Byte) : Option PtpAt := ptpAt [319, 320] b

/-- The frame carries PTP in UDP/IPv6 (R139). -/
def isPtpV6 (b : List Byte) : Bool :=
  let o := innerOfs b
  beAt b o 2 == 0x86DD && beAt b (o + 8) 1 == 17 && (beAt b (o + 44) 2 == 319 || beAt b (o + 44) 2 == 320)

/-- Message types. -/
abbrev Msg.sync : Nat := 0x0
/-- Delay_Req -/
abbrev Msg.delayReq : Nat := 0x1
/-- Pdelay_Req -/
abbrev Msg.pdelayReq : Nat := 0x2
/-- Pdelay_Resp -/
abbrev Msg.pdelayResp : Nat := 0x3
/-- Follow_Up -/
abbrev Msg.followUp : Nat := 0x8
/-- Delay_Resp -/
abbrev Msg.delayResp : Nat := 0x9
/-- Pdelay_Resp_Follow_Up -/
abbrev Msg.pdelayFollow : Nat := 0xA
/-- Announce -/
abbrev Msg.announce : Nat := 0xB

/-- messageType of the message at `m`. -/
def msgType (b : List Byte) (m : PtpAt) : Nat := beAt b m.ofs 1 % 16
/-- majorSdoId. -/
def msgSdo (b : List Byte) (m : PtpAt) : Nat := beAt b m.ofs 1 / 16
/-- domainNumber. -/
def msgDomain (b : List Byte) (m : PtpAt) : Nat := beAt b (m.ofs + 4) 1
/-- unicastFlag. -/
def msgUnicast (b : List Byte) (m : PtpAt) : Bool := (beAt b (m.ofs + 6) 1).testBit 2
/-- twoStepFlag. -/
def msgTwoStep (b : List Byte) (m : PtpAt) : Bool := (beAt b (m.ofs + 6) 1).testBit 1
/-- correctionField, signed, in 2^-16 ns. -/
def msgCorr (b : List Byte) (m : PtpAt) : Int := signed 64 (beAt b (m.ofs + 8) 8)
/-- sourcePortIdentity. -/
def msgSource (b : List Byte) (m : PtpAt) : List Byte := slice b (m.ofs + 20) 10
/-- sequenceId. -/
def msgSeq (b : List Byte) (m : PtpAt) : Nat := beAt b (m.ofs + 30) 2
/-- logMessageInterval. -/
def msgLog (b : List Byte) (m : PtpAt) : Int := signed 8 (beAt b (m.ofs + 33) 1)
/-- A timestamp of 6 octets of seconds and 4 of nanoseconds at offset `o` of the message. -/
def msgTime (b : List Byte) (m : PtpAt) (o : Nat) : Time :=
  (beAt b (m.ofs + o) 6 : Int) * oneSec + ofNs (beAt b (m.ofs + o + 6) 4)

/-- A timestamp in 10 octets. -/
def timeOctets (t : Time) : List Byte :=
  beBytes 6 (t / oneSec).toNat ++ beBytes 4 (t % oneSec / ns48).toNat

/-! ### The time base a message belongs to (R134) -/

/-- PTP_CFG in force. -/
def State.ptpCfg (s : State) (n : Nat) : Reg := s.inForce (R.tsuTbPtpCfg n)

/-- The enabled time bases on port `p` with a domain, rising. -/
def State.domainTbs (s : State) (p d : Nat) : List Nat :=
  (List.range 8).filter (fun n => s.im.hasTb n && s.tbOn n && s.im.tbPort n p && (s.im.timeBase n).domain == d)

/-- The time base a message on port `p` belongs to. -/
def State.ptpOwner (s : State) (p : Nat) (b : List Byte) (m : PtpAt) : Option Nat :=
  (s.domainTbs p (msgDomain b m)).find? (fun n => fld (s.ptpCfg n) 27 24 == msgSdo b m)

/-- The time base whose SDO_MISMATCH counts the message: its domain matches and no majorSdoId does. -/
def State.ptpMismatch (s : State) (p : Nat) (b : List Byte) (m : PtpAt) : Option Nat :=
  if (s.ptpOwner p b m).isSome then none else (s.domainTbs p (msgDomain b m)).head?

/-- DELAY of time base `n` is P2P. -/
def State.isP2p (s : State) (n : Nat) : Bool := rbit (s.ptpCfg n) 0

/-- Time base `n` follows IEEE 802.1AS. -/
def State.isGptp (s : State) (n : Nat) : Bool := (s.im.timeBase n).profile == 4

/-! ### Peers -/

/-- A port whose peer delay was never measured. -/
def peerInit (_ : Nat) : PeerDelay := ⟨0, 0, false, none, none, none, none⟩

/-- Peer delay of port `p` as the ordinary clock of time base `n` measures it. -/
def State.peer (s : State) (n p : Nat) : PeerDelay := Tab.get peerInit s.peers (256 * n + p)

/-- Replace the peer delay of port `p` in time base `n`. -/
def State.setPeer (s : State) (n p : Nat) (x : PeerDelay) : State :=
  { s with peers := Tab.put peerInit s.peers (256 * n + p) x }

/-- MEAN_DELAY follows the path delay, or the link delay of STATUS.PORT. -/
def State.settleDelay (s : State) (n : Nat) : State :=
  let d := if s.isP2p n then (s.peer n (s.getF (R.tsuTbStatus n) 23 16)).linkDelay else (s.tb n).pathDelay
  s.wrN (R.tsuTbMeanDelay n) (unsigned 32 (d / ns48))

/-! ### Sync and Follow_Up (R124) -/

/-- 2 to the power `l` as a fraction. -/
def pow2Frac (l : Int) : Nat × Nat := if 0 ≤ l then (2 ^ l.toNat, 1) else (1, 2 ^ (-l).toNat)

/-- A reference sample from t1 and the corrections of a Sync received at t2 on port `p`. -/
def State.syncSample (s : State) (n p : Nat) (t1 t2 : Time) (corr : Int) (log : Int) : State :=
  let delay := if s.isP2p n then (s.peer n p).linkDelay else (s.tb n).pathDelay
  let s1 := s.setTb n { s.tb n with lastSync := some (t1 + ofQ16 corr, t2), twoStep := none }
  let f := pow2Frac log
  s1.sample n (toQ16 (t2 - t1 - delay) - corr) f.1 f.2

/-- Time base `n` takes samples from port `p` of a frame with capture `c`: hardware TSTAMP, REF 0, and asCapable in profile 4
(R130, R136). -/
def State.takesSync (s : State) (n p : Nat) (c : Capture) : Bool :=
  !c.host && (s.im.timeBase n).ref == 0 && (!s.isGptp n || (s.peer n p).asCapable)

/-- A Sync or Follow_Up for time base `n`. -/
def State.onSync (s : State) (n p : Nat) (c : Capture) (b : List Byte) (m : PtpAt) : State :=
  let t := s.tb n
  if !s.takesSync n p c || t.selected != some (msgSource b m) || s.getF (R.tsuTbStatus n) 23 16 != p then s
  else if msgType b m = Msg.sync then
    let t2 := s.rxStamp p c n
    if msgTwoStep b m then s.setTb n { t with twoStep := some (msgSeq b m, p, t2, msgCorr b m, msgLog b m) }
    else s.syncSample n p (msgTime b m 34) t2 (msgCorr b m) (msgLog b m)
  else match t.twoStep with
    | some (seq, q, t2, corr, log) =>
      if seq = msgSeq b m ∧ q = p then s.syncSample n p (msgTime b m 34) t2 (corr + msgCorr b m) log else s
    | none => s

/-! ### Announce (R135) -/

/-- Order of two numbers' lists, first difference deciding. -/
def lexLess : List Nat → List Nat → Bool
  | a :: as, b :: bs => if a = b then lexLess as bs else decide (a < b)
  | [], _ :: _ => true
  | _, [] => false

/-- What the comparison looks at: priority1, clock quality, priority2, identity, stepsRemoved, source, port. -/
def Foreign.key (f : Foreign) : List Nat :=
  [beAt f.dataset 0 1, beAt f.dataset 1 4, beAt f.dataset 5 1, beAt f.dataset 6 8, beAt f.dataset 14 2, beNat f.source, f.port]

/-- Record `f` is better than `g`: by the priority vector of IEEE 802.1AS for `gptp`, else by the dataset comparison of
IEEE 1588, which looks past priorities and clock quality where both name one grandmaster. -/
def Foreign.better (gptp : Bool) (f g : Foreign) : Bool :=
  if !gptp && f.gmId == g.gmId then lexLess (f.key.drop 4) (g.key.drop 4) else lexLess f.key g.key

/-- The best record. -/
def bestForeign (gptp : Bool) : List Foreign → Option Foreign
  | [] => none
  | f :: t => match bestForeign gptp t with
    | none => some f
    | some g => if g.better gptp f then some g else some f

/-- Enter a record, replacing the one of the same source and port; at most 8 are kept, and a ninth clock is not entered
(log entry 89). -/
def putForeign (f : Foreign) (l : List Foreign) : List Foreign :=
  let rest := l.filter (fun g => g.source != f.source || g.port != f.port)
  if rest.length < 8 then rest ++ [f] else rest

/-- The selected timeTransmitter follows the records. -/
def State.selectMaster (s : State) (n : Nat) : State :=
  let t := s.tb n
  match bestForeign (s.isGptp n) t.foreign with
  | none => s
  | some f =>
    let s1 := (s.wr64 (R.tsuTbGmId n) f.gmId).wrN (R.tsuTbUtcOfs n) f.utc
    if t.selected = some f.source ∧ s.getF (R.tsuTbStatus n) 23 16 = f.port then s1
    else
      let s2 := (s1.setTb n { t with selected := some f.source, twoStep := none }).setF (R.tsuTbStatus n) 23 16 f.port
      (s2.settleDelay n).raise (Src.tbMaster n) [Cu.tb n]

/-- An Announce for time base `n`. -/
def State.onAnnounce (s : State) (n p : Nat) (b : List Byte) (m : PtpAt) : State :=
  let fl := beAt b (m.ofs + 7) 1
  let utc := beAt b (m.ofs + 44) 2 + (fl.testBit 2).toNat * 2 ^ 16 + (fl.testBit 0).toNat * 2 ^ 17 +
    (fl.testBit 1).toNat * 2 ^ 18
  let f : Foreign := ⟨p, msgSource b m, slice b (m.ofs + 47) 16, beAt b (m.ofs + 53) 8, utc, s.clock, msgLog b m⟩
  (s.setTb n { s.tb n with foreign := putForeign f (s.tb n).foreign }).selectMaster n

/-! ### Own messages (R131, R136, R157, R317) -/

/-- The identity of port `p` of the device's clock. -/
def ownIdentity (p : Nat) : List Byte := beBytes 8 Config.clockId ++ beBytes 2 (p + 1)

/-- A PTP header: type, sdo, length, domain, two-step flag, correction, sequence, interval. -/
def ptpHeader (typ sdo len dom : Nat) (two : Bool) (corr : Int) (p seq : Nat) (log : Int) : List Byte :=
  beBytes 1 (sdo * 16 + typ) ++ beBytes 1 2 ++ beBytes 2 len ++ beBytes 1 dom ++ [0] ++ beBytes 1 (two.toNat * 2) ++ [0] ++
    beBytes 8 (unsigned 64 corr) ++ [0, 0, 0, 0] ++ ownIdentity p ++ beBytes 2 seq ++ [0] ++ beBytes 1 (unsigned 8 log)

/-- The one 0x8100 tag of own messages when PTP_VLAN.EN is 1 (R157). -/
def State.ptpTag (s : State) (p : Nat) : List Byte :=
  let v := s.rd (R.prtPPtpVlan p)
  if rbit v 15 then beBytes 2 0x8100 ++ beBytes 2 (fld v 14 12 * 2 ^ 13 + fld v 11 0) else []

/-- A message as an IEEE 802.3 frame of port `p`. -/
def State.ptpFrame (s : State) (p : Nat) (peer : Bool) (msg : List Byte) : List Byte :=
  beBytes 6 (if peer then 0x0180C200000E else 0x011B19000000) ++ beBytes 6 (Config.portMac p) ++ s.ptpTag p ++
    beBytes 2 0x88F7 ++ msg

/-- The ones' complement sum of 16-bit words of an IPv4 header. -/
def ipSum : List Byte → Nat
  | a :: b :: t => 256 * a.toNat + b.toNat + ipSum t
  | [a] => 256 * a.toNat
  | [] => 0

/-- The checksum of an IPv4 header whose checksum field is 0. -/
def ipCheck (b : List Byte) : Nat :=
  let x := ipSum b
  let y := x % 65536 + x / 65536
  65535 - (y % 65536 + y / 65536)

/-- An event message over UDP/IPv4 to the PTP primary or the peer delay address (IEEE 1588 Annex C). -/
def State.ptpUdpFrame (s : State) (p : Nat) (peer : Bool) (msg : List Byte) : List Byte :=
  let head := fun (ck : Nat) => beBytes 2 0x4500 ++ beBytes 2 (28 + msg.length) ++ beBytes 4 0 ++ beBytes 2 0x0111 ++
    beBytes 2 ck ++ beBytes 4 Config.ptpIp ++ beBytes 4 (if peer then 0xE000006B else 0xE0000181)
  beBytes 6 (if peer then 0x01005E00006B else 0x01005E000181) ++ beBytes 6 (Config.portMac p) ++ s.ptpTag p ++ beBytes 2 0x0800 ++ head (ipCheck (head 0)) ++
    beBytes 2 319 ++ beBytes 2 319 ++ beBytes 2 (8 + msg.length) ++ [0, 0] ++ msg

/-- An event message in the transport of a clock: UDP/IPv4 or IEEE 802.3 (R132). -/
def State.ptpWrap (s : State) (p : Nat) (udp peer : Bool) (msg : List Byte) : List Byte :=
  if udp then s.ptpUdpFrame p peer msg else s.ptpFrame p peer msg

/-- PTP_TC of port `p` in force (R168). -/
def State.ptpTc (s : State) (p : Nat) : Nat := fld (s.inForce (R.prtPSysTc p)) 2 0

/-- Offer an own PTP message of time base `n` on port `p`: `stamp` when it takes its transmit instant, `t2` when it
carries a turnaround time. -/
def State.offerPtp (s : State) (n p : Nat) (bytes : List Byte) (stamp : Bool) (t2 : Option Time) : State :=
  if s.portCarries p then
    s.enqueue ⟨0, .ptp n, [p], s.ptpTc p, false, bytes, none, none, if stamp then some n else none, true,
      t2.map (fun t => (some n, t)), true⟩
  else s

/-- A Pdelay_Req for time base `n` on port `p` is answered (R136): one-step with the turnaround in correctionField, or in
profile 4 with its receipt time, the Follow_Up being built at launch. -/
def State.onPdelayReq (s : State) (n p : Nat) (c : Capture) (b : List Byte) (m : PtpAt) : State :=
  if c.host then s
  else
    let t2 := s.rxStamp p c n
    let g := s.isGptp n
    let head := ptpHeader Msg.pdelayResp (fld (s.ptpCfg n) 27 24) 54 (s.im.timeBase n).domain g
      (if g then 0 else msgCorr b m) p (msgSeq b m) 127
    let body := (if g then timeOctets t2 else List.replicate 10 0) ++ msgSource b m
    s.offerPtp n p (s.ptpWrap p m.udp.isSome true (head ++ body)) g (if g then none else some t2)

/-- The ratio of the neighbor's rate to the device's, minus 1, in 2^-41 (IEEE 802.1AS), from two exchanges. -/
def rateOf (last : Option (Time × Time)) (t3 t4 : Time) (old : Int) : Int :=
  match last with
  | some (u3, u4) => if t4 - u4 = 0 then old else ((t3 - u3) - (t4 - u4)) * 2 ^ 41 / (t4 - u4)
  | none => old

/-- A peer delay exchange is complete (R136). -/
def State.finishPdelay (s : State) (n p : Nat) (t1 t4 turn : Time) (t3 : Option Time) : State :=
  let x := s.peer n p
  let r := match t3 with | some t => rateOf x.last t t4 x.rateOfs | none => x.rateOfs
  let rt := t4 - t1
  let d := ((if s.isGptp n then rt + rt * r / 2 ^ 41 else rt) - turn) / 2
  let last := match t3 with | some t => some (t, t4) | none => x.last
  let cap := decide (d ≤ ofNs (s.rdN (R.tsuTbPropThresh n)))
  (s.setPeer n p ⟨d, r, cap, none, none, last, x.sentAt⟩).settleDelay n

/-- A Pdelay_Resp or its Follow_Up for time base `n` on port `p`; a gallery in host-assisted TSTAMP mode has no capture of it
(R130). -/
def State.onPdelayResp (s : State) (n p : Nat) (c : Capture) (b : List Byte) (m : PtpAt) : State :=
  let x := s.peer n p
  if slice b (m.ofs + 44) 10 ≠ ownIdentity p ∨ c.host then s
  else match x.req with
    | none => s
    | some (seq, t1) =>
      if seq ≠ msgSeq b m then s
      else if msgType b m = Msg.pdelayResp then
        let t4 := s.rxStamp p c n
        if msgTwoStep b m then s.setPeer n p { x with resp := some (seq, msgTime b m 34 - ofQ16 (msgCorr b m), t4) }
        else s.finishPdelay n p t1 t4 (ofQ16 (msgCorr b m)) none
      else match x.resp with
        | some (q, t2, t4) =>
          if q = seq then
            let t3 := msgTime b m 34 + ofQ16 (msgCorr b m)
            s.finishPdelay n p t1 t4 (t3 - t2) (some t3)
          else s
        | none => s

/-- A Delay_Resp for time base `n` (R133): meanPathDelay from the last Sync and the own Delay_Req. -/
def State.onDelayResp (s : State) (n p : Nat) (b : List Byte) (m : PtpAt) : State :=
  let t := s.tb n
  match t.delayReq, t.lastSync with
  | some (seq, t3), some (t1, t2) =>
    if s.isP2p n || (s.im.timeBase n).profile != 1 || seq != msgSeq b m || slice b (m.ofs + 44) 10 != ownIdentity p then s
    else
      let t4 := msgTime b m 34 - ofQ16 (msgCorr b m)
      (s.setTb n { t with pathDelay := ((t2 - t1) + (t4 - t3)) / 2, delayReq := none }).settleDelay n
  | _, _ => s

/-- What the ordinary clock does with a message that belongs to time base `n`, and whether the frame still goes to
classification (R132). A message of a time base that runs no ordinary clock, a unicast message, and UDP outside profile 1 are not
processed (log entry 95). -/
def State.onPtp (s : State) (n p : Nat) (c : Capture) (b : List Byte) (m : PtpAt) : State × Bool :=
  let ty := msgType b m
  if (s.im.timeBase n).ref != 0 || msgUnicast b m || (m.udp.isSome && (s.im.timeBase n).profile != 1) then (s, true)
  else if ty = Msg.sync ∨ ty = Msg.followUp then (s.onSync n p c b m, false)
  else if ty = Msg.announce then (s.onAnnounce n p b m, decide (m.ofs + 64 < b.length))
  else if ty = Msg.pdelayReq then (s.onPdelayReq n p c b m, false)
  else if ty = Msg.pdelayResp ∨ ty = Msg.pdelayFollow then (s.onPdelayResp n p c b m, false)
  else if ty = Msg.delayResp then (s.onDelayResp n p b m, false)
  else (s, true)

/-! ### The transmit side (R131, R137, R138, R165, R303) -/

/-- The transmit instant on port `p` in time base `n`, `k` steps of 80 ps after the TIME edge (R128, R165). -/
def State.txStamp (s : State) (p k n : Nat) : Time :=
  (s.tb n).count + ofPs80 (k % 10) + fixedLatency (Config.txLatInt p) + latency (s.rd (R.prtPTxLatAdj p))

/-- The transmit instant in the local TIME count. -/
def State.txLocal (s : State) (p k : Nat) : Time :=
  s.clock + ofPs80 (k % 10) + fixedLatency (Config.txLatInt p) + latency (s.rd (R.prtPTxLatAdj p))

/-- Clear the UDP checksum. -/
def clearUdp (m : PtpAt) (b : List Byte) : List Byte :=
  match m.udp with
  | some o => patch b o [0, 0]
  | none => b

/-- Add a residence time to correctionField (R138). -/
def addCorr (m : PtpAt) (r : Time) (b : List Byte) : List Byte :=
  let v := msgCorr b m + roundHalfEven r (2 ^ 32)
  let w := if 2 ^ 63 - 1 < v then 2 ^ 63 - 1 else v
  clearUdp m (patch b (m.ofs + 8) (beBytes 8 (unsigned 64 w)))

/-- A Sync, Delay_Req or Pdelay_Req takes its transmit instant `t` in originTimestamp (R303). -/
def stampOrigin (m : PtpAt) (t : Time) (b : List Byte) : List Byte :=
  clearUdp m (patch b (m.ofs + 34) (timeOctets t))

/-- The message is one that PTP_1STEP stamps. -/
def isStamped (b : List Byte) (m : PtpAt) : Bool :=
  msgType b m == Msg.sync || msgType b m == Msg.delayReq || msgType b m == Msg.pdelayReq

/-- The octets of a frame as they pass port `p`: stamped and corrected, with what its launch records (R131, R136, R137). A
gallery in host-assisted TSTAMP mode captures nothing, so its ports send every frame as it stands (R130, log entry 94). -/
def State.launchPtp (s : State) (p k : Nat) (f : TxFrame) (b : List Byte) : State × List Byte :=
  let own := match f.src with | .ptp _ => true | _ => false
  match if s.hostTstamp (s.portGallery p) then none else ptpOf b with
  | none => (s, b)
  | some m =>
    let b1 := match f.resid with
      | some (some n, t) => addCorr m (s.txStamp p k n - t) b
      | some (none, t) => addCorr m (s.txLocal p k - t) b
      | none => b
    let s1 := match f.resid with
      | some (n, _) => if own then s else (if n.isSome then s.inc R.tsuTcCorr else (s.inc R.tsuTcCorr).inc R.tsuTcNodom)
      | none => s
    match f.stampTb with
    | none => (s1, b1)
    | some n =>
      let t := s1.txStamp p k n
      if isStamped b1 m then
        let s2 := if !own then s1
          else if msgType b1 m = Msg.delayReq then
            s1.setTb n { s1.tb n with delayReq := some (msgSeq b1 m, (t / ns48) * ns48) }
          else (let x := s1.peer n p
             s1.setPeer n p { x with
               req := some (msgSeq b1 m, (t / ns48) * ns48)
               resp := none
               asCapable := x.asCapable && x.req.isNone })
        (s2, stampOrigin m t b1)
      else if own && msgType b1 m == Msg.pdelayResp then
        let head := ptpHeader Msg.pdelayFollow (msgSdo b1 m) 54 (msgDomain b1 m) false 0 p (msgSeq b1 m) 127
        (s1.offerPtp n p (s1.ptpFrame p true (head ++ timeOctets t ++ slice b1 (m.ofs + 44) 10)) false none, b1)
      else (s1, b1)

/-- The residence correction a forwarded frame will take (R137, R139): counted from its ingress on port `p`. -/
def State.residence (s : State) (p : Nat) (c : Capture) (b : List Byte) : State × Option (Option Nat × Time) :=
  if isPtpV6 b then (s.inc R.tsuTcV6, none)
  else match if c.host then none else ptpAt [319] b with
    | none => (s, none)
    | some m =>
      if msgType b m = Msg.sync ∨ msgType b m = Msg.delayReq then
        match s.ptpOwner p b m with
        | some n =>
          let link := if msgType b m = Msg.sync ∧ s.isP2p n then (s.peer n p).linkDelay else 0
          (s, some (some n, s.rxStamp p c n - link))
        | none =>
          (s, some (none, c.clock + ofPs80 c.k - fixedLatency (Config.rxLatInt p) - latency (s.rd (R.prtPRxLatAdj p))))
      else (s, none)

/-- The ordinary clock of time base `n` sends requests on port `p`: Pdelay_Req on every port of PORTS, or in profile 1 with E2E delay
Delay_Req on its timeTransmitter's port (R132, R133). -/
def State.sendsPtp (s : State) (n p : Nat) : Bool :=
  let t := s.im.timeBase n
  s.im.hasTb n && s.tbOn n && t.ref == 0 && s.im.tbPort n p &&
  (s.isP2p n || (s.getF (R.tsuTbStatus n) 23 16 == p && t.profile == 1))

/-- The interval between own requests: 2 to the power PTP_CFG gives, in seconds (R133). -/
def State.ptpInterval (s : State) (n : Nat) : Time :=
  let l := signed 8 (fld (s.ptpCfg n) 15 8)
  if 0 ≤ l then oneSec * (2 ^ l.toNat : Nat) else oneSec / (2 ^ (-l).toNat : Nat)

/-- The next own request of time base `n` on port `p` is offered. -/
def State.ptpRequest (s : State) (n p : Nat) : State :=
  let t := s.im.timeBase n
  let cfg := s.ptpCfg n
  let seq := (s.tb n).seq
  let s1 := (s.setTb n { s.tb n with seq := (seq + 1) % 65536 }).setPeer n p { s.peer n p with sentAt := some s.clock }
  let log := signed 8 (fld cfg 15 8)
  let udp := rbit cfg 1 && t.profile == 1
  if s.isP2p n then
    let head := ptpHeader Msg.pdelayReq (fld cfg 27 24) 54 t.domain false 0 p seq log
    s1.offerPtp n p (s.ptpWrap p udp true (head ++ List.replicate 20 0)) true none
  else
    let msg := ptpHeader Msg.delayReq (fld cfg 27 24) 44 t.domain false 0 p seq 127 ++ List.replicate 10 0
    s1.offerPtp n p (s.ptpWrap p udp false msg) true none

/-- PTP_MESSAGE_SEND: the ordinary clock of time base `n` offers its next Delay_Req or Pdelay_Req on port `p`, one interval after the
one before, the first at once (R132, R133, R317; log entry 113). -/
def execPtpMessageSend (n p : Nat) (s : State) : Answer :=
  .next (
    if !s.sendsPtp n p then s
    else match (s.peer n p).sentAt with
      | none => s.ptpRequest n p
      | some t => (match s.reachClock (t + s.ptpInterval n) with
        | some s1 => s1.ptpRequest n p
        | none => s))

end Sys2Proof.Machine
end

