-- ==== Sys2Proof/Machine/Transmit.lean ====
section
/-! DEFINITION. The transmit engine on a line (10_transmit): selection (R217, R298), launch and end (R300), and the
binding of run-ahead entries (R319 to R321). -/

namespace Sys2Proof.Machine

/-! ### Run-ahead entries (R318 to R320) -/

/-- TARGET of an Aporam descriptor. -/
def aqTarget (b : List Byte) : Nat := leAt b 0xC 4
/-- OFS8 of an Aporam descriptor. -/
def aqOfs8 (b : List Byte) : Nat := leAt b 0x10 4 % 2 ^ 21
/-- WINDOW of an Aporam descriptor. -/
def aqWindow (b : List Byte) : Nat := leAt b 0x14 1

/-- The bound instant b of an entry (R319). -/
def State.boundAt (s : State) (b : List Byte) : Time := s.landingAt (s.fullTick (aqTarget b)) + ofNs (aqOfs8 b * 8)

/-- EARLY_NS of A-ring `q` in force. -/
def State.aqEarly (s : State) (q : Nat) : Time := ofNs (min 2000 (fld (s.inForce (R.txeAqCfg q)) 26 16))

/-- D of A-ring `q` in force. -/
def State.aqDepth (s : State) (q : Nat) : Nat := min 8 (max 1 (fld (s.inForce (R.txeAqCfg q)) 3 0))

/-- The window of an entry has expired at the current tick (R321). -/
def State.aqExpired (s : State) (b : List Byte) : Bool := decide (aqWindow b < tickDiff s.now (aqTarget b))

/-- A bound frame of an A-ring is eligible now: from b on, or from b - EARLY_NS on where R320 allows it. -/
def State.aqEligible (s : State) (p : Nat) (f : TxFrame) (q i : Nat) : Bool :=
  match s.entry? q i with
  | none => true
  | some e =>
    let b := s.boundAt e.bytes
    !s.aqExpired e.bytes && (decide (b ≤ s.srcNow) ||
      (decide (b - s.aqEarly q ≤ s.srcNow) && !f.act && !s.express p f.tc && s.gateOpen p false f.tc))

/-- The frame may be taken now: its queue is not held and a bound frame has reached its instant. -/
def State.mayStart (s : State) (p : Nat) (f : TxFrame) : Bool :=
  !s.heldFrame f && (match f.src with | .host q i => s.qKind q != 2 || s.aqEligible p f q i | _ => true)

/-- An earlier frame of the same queue is bound and has not reached its instant (R320). -/
def State.waitsBehind (s : State) (p : Nat) (f : TxFrame) : Bool :=
  match f.src with
  | .host q _ => ((s.readyOn p).takeWhile (fun g => g.id != f.id || g.src != f.src)).any (fun g =>
      !g.ripe && (match g.src with | .host r _ => r == q | _ => false))
  | _ => false

/-- Bound frames that reached their instant take their place in the order of readiness, behind those of their queue. -/
def State.ripen (s : State) (p : Nat) : State :=
  forEach (s.readyOn p) (fun f x =>
    if !f.ripe && x.mayStart p f && !x.waitsBehind p f then
      let n := x.tx.nextId
      let l := x.tx.ready.map (fun g => if g.id = f.id ∧ g.src = f.src then { g with id := n, ripe := true } else g)
      { x with tx := { x.tx with nextId := n + 1, ready := l } }
    else x) s

/-! ### Selection (R217, R298) -/

/-- The place of a source within one class, and its place among its like (R298). Forwarded, pass-through and supervision
frames, which R298 does not place, come before host queues (log entry 22). -/
def srcRank : TxSrc → Nat × Nat
  | .heartbeat => (1, 0)
  | .ptp n => (2, n)
  | .gcb i => (3, i)
  | .svp n => (4, n)
  | .epoch => (5, 0)
  | .forward p => (6, p)
  | .supervision k => (6, 128 + k)
  | .host q _ => (7, q)

/-- The first frame of every source. -/
def headsOf : List (Nat × Nat) → List TxFrame → List TxFrame
  | _, [] => []
  | seen, f :: t => if seen.contains (srcRank f.src) then headsOf seen t else f :: headsOf (srcRank f.src :: seen) t

/-- The heads of the queues of port `p`, the actuation queue first. -/
def State.heads (s : State) (p : Nat) : List TxFrame :=
  let others := (s.readyOn p).filter (fun f => !f.act) ++
    ((s.gcbsWaiting p).filter (fun i => !s.gcbAct i)).map s.gcbFrame
  (match s.actHead p with | some f => [f] | none => []) ++ headsOf [] others

/-- Octets of a frame on the line, FCS included. -/
def TxFrame.len (f : TxFrame) : Nat := max 60 (f.bytes.length + f.extra) + 4

/-- Its gate is open. -/
def State.isGated (s : State) (p : Nat) (f : TxFrame) : Bool := s.mayStart p f && s.gateOpen p f.act f.tc

/-- It is eligible: its gate is open and it is admitted (R217). -/
def State.eligible (s : State) (p : Nat) (f : TxFrame) : Bool := s.isGated p f && s.admitted p f.len f.act f.tc 0

/-- Count the heads that are not admitted with their gates open, once per tread (R223). -/
def State.countDefer (s : State) (p : Nat) : State :=
  forEach (s.heads p) (fun f x =>
    let y := x.port p
    if x.isGated p f && !x.admitted p f.len f.act f.tc 0 && !y.deferred.contains f.id then
      (x.setPort p { y with deferred := f.id :: y.deferred }).inc (R.schPAdmitDefer p)
    else x) s

/-- The order of a candidate: express first, then the higher class, the actuation queue, the order of R298 and round
robin among host queues; the least comes first. -/
def State.order (s : State) (p : Nat) (f : TxFrame) : List Nat :=
  let r := srcRank f.src
  let last := ((s.port p).served.find? (fun e => e.1 == f.tc)).map (·.2)
  let sub := if r.1 = 7 then (match last with | some l => (r.2 + 4096 - (l + 1) % 4096) % 4096 | none => r.2) else r.2
  [(!s.express p f.tc).toNat, 7 - f.tc, (if f.act then 0 else r.1), sub]

/-- The candidate that comes first. -/
def State.bestOf (s : State) (p : Nat) : List TxFrame → Option TxFrame
  | [] => none
  | f :: t => match s.bestOf p t with
    | none => some f
    | some g => if lexLess (s.order p g) (s.order p f) then some g else some f

/-- The class of a preempted frame's continuation may start: its gate is open, it is admitted, no hold is asserted. -/
def State.mayContinue (s : State) (p : Nat) (l : LineSt) : Bool :=
  let left := if l.stomp then 64 else l.total - l.sent
  !s.holding p && s.gateOpen p false l.frame.tc && s.admitted p left false l.frame.tc 0

/-- Sequence number of the pair of a frame at its first selection (R195). -/
def State.takeSeq (s : State) (f : TxFrame) : State × TxFrame :=
  match f.pair, f.seq with
  | some k, none =>
    let n := Tab.get (fun _ => 0) s.tx.pairSeq k
    ({ s with tx := { s.tx with pairSeq := Tab.put (fun _ => 0) s.tx.pairSeq k ((n + 1) % 65536) } }, { f with seq := some n })
  | _, _ => (s, f)

/-- Put the chosen frame on the line of port `p`, which wakes for it (R492); its other copy stays ready, unless its port cannot send (R304). -/
def State.startFrame (s0 : State) (p : Nat) (f : TxFrame) : State :=
  let s := s0.wakePort p
  let t := s.takeSeq f
  let f1 := { t.2 with ports := [p] }
  let rest := { t.2 with lead := false }
  let others := f.ports.filter (· != p)
  let able := others.filter t.1.portCarries
  let waiting : Option Nat := match f.src with
    | .gcb i => if s.bit (R.txeGcbStatus i) 5 && (s.gcb i).readyId == f.id then some i else none
    | _ => none
  let s1 : State := match waiting with
    | some i =>
      let g := (t.1.wrN (R.txeGcbSqnum i) (s.nextSq i)).gcbDrop i
      let g1 := g.setGcb i { g.gcb i with fresh := false }
      if able.isEmpty then g1 else g1.enqueue { rest with ports := able }
    | none =>
      let g : State := t.1.dropFrame f (others.filter (fun q => !able.contains q)) 0
      let gone := g.tx.ready.filter (fun (h : TxFrame) => h.id != f.id || h.src != f.src)
      let kept := g.tx.ready.map (fun (h : TxFrame) => if h.id = f.id ∧ h.src = f.src then { rest with ports := able } else h)
      { g with tx := { g.tx with ready := if able.isEmpty then gone else kept } }
  let x := s1.port p
  let raw := s1.onPort p f1
  let bytes := raw ++ List.replicate (60 - raw.length) 0
  let served := match f.src with
    | .host q _ => (f.tc, q) :: x.served.filter (fun e => e.1 != f.tc)
    | _ => x.served
  s1.setPort p { x with
    line := some ⟨f1, bytes, none, 0, false, s1.clock, s1.clock, 0, bytes.length + 4, none, s1.now, s1.treadIx p, false, false,
      false, false, false⟩,
    served := served }

/-- The preempted frame's continuation goes on the line; that of a terminated frame is a final fragment of 60 octets and an
inverted check (R324). -/
def State.startRest (s0 : State) (p : Nat) (l : LineSt) : State :=
  let s := s0.wakePort p
  let x := s.port p
  let total := if l.stomp then l.sent + 64 else l.total
  let stop := if l.stomp then none else s.plannedStop p l.sent total false l.frame.tc 0
  let l1 := { l with since := s.clock, total := total, stopAt := stop, overrun := false }
  (s.setPort p { x with preempted := none, line := some l1 }).emitStart p l1

/-- TX_SELECT: the line of port `p` being free, the next frame is selected (R217); an express frame that is eligible while
a preemptable one is in flight preempts it (R169). -/
def execTxSelect (p : Nat) (s : State) : Answer :=
  .next (
    if !s.portUsed p || s.holds || !s.coreRuns then s
    else
      let w := if (s.port p).line.isNone then s.untilClock (s.port p).freeAt else s
      let s1 := (((w.settlePort p).ripen p).noteBlocked p).flushPort p
      if !s1.portCarries p then s1
      else
        let s2 := s1.countDefer p
        let x := s2.port p
        let ok := (s2.heads p).filter (s2.eligible p)
        let fast := s2.bestOf p (ok.filter (fun f => s2.express p f.tc))
        match x.line with
        | some _ => if fast.isSome then s2.preemptNow p else s2
        | none =>
          (match fast, x.preempted with
           | some f, _ => s2.startFrame p f
           | none, some l => if s2.mayContinue p l then s2.startRest p l else s2
           | none, none =>
             (match s2.bestOf p ok with
              | some f => if s2.holding p then s2 else s2.startFrame p f
              | none => s2)))

/-! ### Launch and end (R300) -/

/-- What a launch records of its source. -/
def State.noteLaunch (s : State) (l : LineSt) : State :=
  match l.frame.src with
  | .host q i =>
    (match s.entry? q i with
     | some e => (s.setEntry q { e with stage := .onWire })
     | none => s)
  | .gcb i => if l.frame.lead then (s.inc (R.txeGcbSent i)).wrN (R.txeGcbLastTick i) s.now else s
  | .svp n => if l.frame.lead then s.inc (R.txeSvpSent n) else s
  | _ => s

/-- The frame on the line is launched before its bound instant (R301). -/
def State.isEarly (s : State) (f : TxFrame) : Bool :=
  match f.src with
  | .host q i => s.qKind q == 2 && (match s.entry? q i with
      | some e => decide (s.srcNow < s.boundAt e.bytes)
      | none => false)
  | _ => false

/-- The selected frame may launch `o` from now (R12, R153, R217, R219, R224 to R226, R353): what it was selected under still
holds, and it was selected no more than 8 ns before (log entry 99). -/
def State.mayLaunch (s : State) (p : Nat) (l : LineSt) (o : Time) : Bool :=
  !s.holds && s.portCarries p && (s.express p l.frame.tc || !s.holding p) && s.isGated p l.frame &&
  s.admitted p l.total l.frame.act l.frame.tc o && decide (s.clock + o ≤ l.since + ofNs 8)

/-- The gallery whose packet buffer holds a frame for port `p`: a forwarded frame stands in that of its ingress port. -/
def State.bufGallery (s : State) (p : Nat) (f : TxFrame) : Nat :=
  match f.src with
  | .forward q => s.portGallery q
  | _ => s.portGallery p

/-- The packet buffer's ECC corrects an error in a frame on its way out (R163). -/
def State.bufCe (s : State) (g : Nat) : State := (s.inc (R.prtGPktbufCe g)).raise (Src.pktbufCe g) [Cu.gallery g]

/-- It finds an uncorrectable one. -/
def State.bufUe (s : State) (g : Nat) : State := (s.inc (R.prtGPktbufUe g)).raise (Src.pktbufUe g) [Cu.gallery g]

/-- The selected frame reads uncorrectable before its first octet leaves: it is discarded, and counts in RX_UE_DROP of the port
it came in on (R163). A frame of the host completes with ABORTED (log entry 102). -/
def State.discardUe (s : State) (p : Nat) (l : LineSt) : State :=
  let s1 := (s.setPort p { s.port p with line := none }).bufUe (s.bufGallery p l.frame)
  let s2 := match l.frame.src with
    | .forward q => s1.inc64 (R.prtPRxUeDrop q)
    | _ => s1
  s2.endCopy l.frame.src (noCopy Code.aborted)

/-- The selected frame is launched on port `p`, `k` steps of 80 ps after the TIME edge: its launch tick and tread are fixed
(R300), it is stamped on the wire (R131, R137, R303), and where it is to be preempted is known (R221). -/
def State.launch (s : State) (p k : Nat) (l : LineSt) : State :=
  let o := ofPs80 (k % 10)
  let early := s.isEarly l.frame
  let split := s.preemptActive p && !s.express p l.frame.tc
  let r := s.launchPtp p k l.frame l.bytes
  let x := r.1.port p
  let l1 := { l with
    launched := true
    since := s.clock + o
    first := s.clock + o
    tick := s.now
    tread := s.treadIx p
    bytes := r.2
    early := early
    smd := if split then some x.frameNo else none
    stopAt := if split then s.plannedStop p 0 l.total l.frame.act l.frame.tc o else none }
  let s1 := r.1.setPort p { x with line := some l1, frameNo := if split then (x.frameNo + 1) % 4 else x.frameNo }
  let s2 := (s1.noteLaunch l1).emitStart p l1
  match l.frame.src with
  | .host q _ => if early && l.frame.lead then s2.inc (R.txeAqEarly q) else s2
  | _ => s2

/-- TX_LAUNCH: the first preamble octet of the selected frame passes the PCS, `k` steps of 80 ps after the TIME edge (R300). A
frame that may no longer start is selected anew. `ue`: what the packet buffer's ECC found in it, a corrected error or an
uncorrectable one (R163). -/
def execTxLaunch (p k : Nat) (ue : Option Bool) (s : State) : Answer :=
  .next (
    let s1 := s.settlePort p
    match (s1.port p).line with
    | some l =>
      if l.launched || !s.coreRuns then s1
      else if !s1.mayLaunch p l (ofPs80 (k % 10)) then s1.unselect p
      else match ue with
        | some true => s1.discardUe p l
        | some false => (s1.bufCe (s1.bufGallery p l.frame)).launch p k l
        | none => s1.launch p k l
    | none => s1)

/-- The packet buffer's ECC finds an uncorrectable error in the frame on the line of port `p`: it is terminated with an
invalid FCS, or an invalid mCRC for a fragment (R163). -/
def State.stompUe (s : State) (p : Nat) (l : LineSt) : State :=
  let s1 := s.bufUe (s.bufGallery p l.frame)
  let free := s.lineEnd p l + s.octets p 12
  let n := match l.stopAt with | some k => k | none => l.total - 4
  let s2 := ((s1.setPort p { s1.port p with line := none, freeAt := free }).inc64 (R.prtPTxStomp p)).emitCut p l n
    (l.stopAt.isSome || l.cutFrag)
  s2.endCopy l.frame.src (l.toCopy true Code.aborted (s.launchedLate l))

/-- TX_END: the last octet of what stands on the line of port `p` passes the PCS (R300); `ue` tells what the packet buffer's ECC
found on the way, a corrected error or an uncorrectable one. -/
def execTxEnd (p : Nat) (ue : Option Bool) (s : State) : Answer :=
  .next (
    let s1 := s.settlePort p
    match (s1.port p).line with
    | some l =>
      if l.launched then
        let s2 := s1.untilClock (s1.lineEnd p l)
        match ue with
        | some true => s2.stompUe p l
        | some false => (s2.bufCe (s2.bufGallery p l.frame)).lineOver p
        | none => s2.lineOver p
      else s1
    | none => s1)

/-! ### Frames from host memory (R299, R318, R319, R336) -/

/-- The last two octets of an entry are the CRC-16 of what stands before them. -/
def entryCrc (b : List Byte) : Bool := leAt b (b.length - 2) 2 == (crc16 (b.take (b.length - 2))).toNat

/-- A transmit descriptor passes R299 and R336 on port `p`. -/
def State.txOk (s : State) (p : Nat) (b : List Byte) : Bool :=
  entryCrc b && leAt b 0xC 1 / 2 == 0 && allZero (slice b 0xD 17) &&
  decide (60 ≤ leAt b 8 2) && decide (leAt b 8 2 + 4 ≤ (s.portRec p).mtu)

/-- An Aporam descriptor passes R318 on port `p`. -/
def State.aqOk (s : State) (p : Nat) (b : List Byte) : Bool :=
  entryCrc b && decide (leAt b 0x15 1 ≤ 1) && leAt b 0x10 4 / 2 ^ 21 == 0 && leAt b 0x16 1 / 2 == 0 &&
  allZero (slice b 0x17 39) && decide (60 ≤ leAt b 8 2) && decide (leAt b 8 2 + 4 ≤ (s.portRec p).mtu) &&
  decide (aqOfs8 b * 8 < s.periodNs)

/-- The frame of a host entry, ready for its ports. -/
def State.hostFrame (s : State) (q : SqRec) (i : Nat) (bytes : List Byte) (oneStep ripe : Bool) : TxFrame :=
  let stamp := if oneStep then
      (match ptpAt [319] bytes with
       | some m => if isStamped bytes m then some ((s.ptpOwner q.port bytes m).getD s.src) else none
       | none => none)
    else none
  ⟨0, .host q.qid i, s.txPorts q.port, q.tc, q.act, bytes, none, s.pairOf q.port, stamp, ripe, none, true⟩

/-- The oldest entry of queue `q` that has not reached its point of use. -/
def State.oldestCached (s : State) (q : Nat) : Option Entry := (s.queue q).entries.find? (fun e => e.stage == Stage.cached)

/-- The read of an entry's frame failed: it completes with HOST_RD_ERR, in its turn, and its queue stops (R299, R355). -/
def State.failRead (s : State) (q : Nat) (e : Entry) : State :=
  ((s.setEntry q { e with stage := .failed, slot := true }).settleFailed q).settleStop q

/-- The frame of an entry is read from BUF in the space of the queue's function. -/
def State.readFrame (s : State) (q : Nat) (b : List Byte) : State := s.emit (.hostRead (s.qOwner q) (leAt b 0 8) (leAt b 8 2))

/-- The frame of transmit entry `e` has been read (R299). -/
def State.txUse (s : State) (q : SqRec) (e : Entry) (frame : Option (List Byte)) : State :=
  let s1 := s.reserve (s.qRing q.qid) 1
  if !s.txOk q.port e.bytes then s1.complete q.qid e.idx (entryTag 0 e.bytes) Code.check 0
  else match frame with
    | none => (s1.readFrame q.qid e.bytes).failRead q.qid e
    | some b =>
      let f := s.hostFrame q e.idx (slice b 0 (leAt e.bytes 8 2)) ((leAt e.bytes 0xC 1).testBit 0) true
      ((s1.readFrame q.qid e.bytes).setEntry q.qid { e with stage := .ready, left := f.ports.length, slot := true }).enqueue f

/-- The oldest fetched entry of A-ring `q` is past its window: it completes with LATE, its frame unread (R319). -/
def State.aqLateEntry (s : State) (q : Nat) (e : Entry) : State :=
  if s.canReserve (s.qRing q) 1 then
    ((s.reserve (s.qRing q) 1).inc (R.txeAqLate q)).complete q e.idx (entryTag 2 e.bytes) Code.late 0
  else s.stall (s.qRing q)

/-- Late entries at the front of what A-ring `q` has fetched complete, in queue order. -/
def State.aqLateFront (s : State) (q : Nat) : State :=
  let fr := ((s.queue q).entries.filter (fun e => e.stage == Stage.cached)).takeWhile (fun e => s.aqExpired e.bytes)
  forEach fr (fun e x => x.aqLateEntry q e) s

/-- The frame of A-ring entry `e` has been read: it is checked and bound (R319). -/
def State.aqUse (s : State) (q : SqRec) (e : Entry) (frame : Option (List Byte)) : State :=
  let b := e.bytes
  let len := leAt b 8 2
  let used := R.txeGRaUsed (s.portGallery q.port)
  if s.aqExpired b then s.aqLateEntry q.qid e
  else if (s.aqDepth q.qid : Int) < tickDiff (aqTarget b) s.now then s
  else
    let s1 := s.reserve (s.qRing q.qid) 1
    if !s.aqOk q.port b then s1.complete q.qid e.idx (entryTag 2 b) Code.check 0
    else if leAt b 0x15 1 = 1 then s1.complete q.qid e.idx (entryTag 2 b) Code.cancelled 0
    else if 2 ^ 20 < s.rdN used + len then s
    else match frame with
      | none => (s1.readFrame q.qid b).failRead q.qid e
      | some fr =>
        let f := s.hostFrame q e.idx (slice fr 0 len) ((leAt b 0x16 1).testBit 0) false
        let s2 := ((s1.readFrame q.qid b).inc (R.txeAqBound q.qid)).wrN used (s.rdN used + len)
        (s2.setEntry q.qid { e with stage := .bound, left := f.ports.length, slot := true }).enqueue f

/-- TX_FETCH_DONE: the read of the oldest cached entry's frame ends, with its octets or failed (R299, R319). -/
def execTxFetchDone (q : Nat) (frame : Option (List Byte)) (s : State) : Answer :=
  .next (match s.sq? q, s.oldestCached q with
    | some r, some e =>
      if !(r.kind == 0 || r.kind == 2) || !(s.qState q == QS.run || s.qState q == QS.held) || s.inD3 (s.qOwner q) ||
          s.readFailed q then s
      else if s.canReserve (s.qRing q) 1 then (if r.kind = 0 then s.txUse r e frame else s.aqUse r e frame)
      else s.stall (s.qRing q)
    | _, _ => s)

/-- Entry `e` of A-ring `q`, bound, is past its window: it completes with LATE, unsent (R321). -/
def State.aqExpire (s : State) (q : Nat) (e : Entry) : State :=
  let s1 := { s with tx := { s.tx with ready := s.tx.ready.filter (fun f => f.src != TxSrc.host q e.idx) } }
  let s2 := ((s1.freeRunAhead q e).endBinding q e Code.late).inc (R.txeAqLate q)
  (s2.complete q e.idx (entryTag 2 e.bytes) Code.late 0).raise Src.raLate []

/-- RA_WINDOW_EXPIRY: a bound entry not launched by L(TARGET + 1 + WINDOW) completes with LATE (R321). One that stands
selected on a line, its launch still to come, is taken off it. -/
def execRaWindowExpiry (q i : Nat) (s : State) : Answer :=
  .next (match s.entry? q i with
    | some e =>
      if e.stage = .bound ∧ s.qKind q = 2 ∧ s.aqExpired e.bytes then
        (((s.unline (.host q i)).aqExpire q e).settleStop q)
      else s
    | none => s)

/-- The copies of entry `i` of A-ring `q` that are on a wire or preempted, as if they left whole. -/
def State.liveCopies (s : State) (q i : Nat) : List CopyEnd :=
  s.im.ports.flatMap (fun p =>
    let y := s.port p
    let mine := fun (l : Option LineSt) => match l with
      | some l => if l.launched ∧ l.frame.src = TxSrc.host q i then [l.toCopy false Code.ok (s.launchedLate l)] else []
      | none => []
    mine y.line ++ mine y.preempted)

/-- A copy of entry `i` of A-ring `q` has still to launch. -/
def State.copyWaits (s : State) (q i : Nat) : Bool :=
  s.tx.ready.any (fun f => f.src == TxSrc.host q i) ||
  s.im.ports.any (fun p => match (s.port p).line with
    | some l => !l.launched && l.frame.src == TxSrc.host q i
    | none => false)

/-- The window of a launched entry has ended: the copy of a pair that has not launched does not go out any more (R321). -/
def State.aqDropRest (s : State) (q : Nat) : State :=
  forEach ((s.queue q).entries.filter (fun e => e.stage == Stage.onWire && s.aqExpired e.bytes)) (fun e x =>
    forEach (x.tx.ready.filter (fun f => f.src == TxSrc.host q e.idx)) (fun f y => y.dropFrame f f.ports 0) x) s

/-- A launched entry of A-ring `q` completes at the landing that follows its launch tick (R321), its frame fully passed or not;
an entry with a copy that may still launch waits for it (log entry 100). -/
def State.aqLand (s0 : State) (q : Nat) : State :=
  let s := s0.aqDropRest q
  let ripe := (s.queue q).entries.filter (fun e =>
    (e.stage == Stage.sent || (e.stage == Stage.onWire && e.status == 0)) && !s.copyWaits q e.idx &&
    (match firstCopy ((e.copies ++ s.liveCopies q e.idx).filter (·.launched)) with
     | some c => decide (c.tick < s.now)
     | none => true))
  (forEach ripe (fun e x =>
    let e1 := { e with copies := e.copies ++ x.liveCopies q e.idx }
    let y := if e.stage = .onWire then x.freeRunAhead q e else x
    (y.endBinding q e (txOutcome e1.copies false).1).completeTx q e1 false) s).settleStop q

/-! ### Cancellation (R322 to R325) -/

/-- The other status counters of an A-ring. -/
def State.countCancel (s : State) (q st : Nat) : State :=
  if st = Code.cancelled then s.inc (R.txeAqCancelled q)
  else if st = Code.cancelledVisible then s.inc (R.txeAqVisible q)
  else (s.inc (R.txeAqEscaped q)).raise Src.txEscaped []

/-- Terminate the copies of an entry that are on a wire, each raising TX_CANCEL_VISIBLE, and take unlaunched ones off their
lines (R324). -/
def State.terminate (s : State) (q i : Nat) : State :=
  forEach s.im.ports (fun p x =>
    let y := x.port p
    let mine := fun (l : LineSt) => decide (l.frame.src = TxSrc.host q i)
    let x1 := match y.preempted with
      | some l => if mine l then
          (x.setPort p { y with preempted := some { l with stomp := true, stopAt := none, cutFrag := false } }).raise
            Src.txCancelVisible [] else x
      | none => x
    match (x1.port p).line with
    | some l =>
      if !mine l then x1
      else if l.launched then
        let sent := x1.lineSent p l
        let n := max l.sent (match l.stopAt with | some k => min k sent | none => sent)
        (x1.setPort p { x1.port p with
          line := some { l with stomp := true, stopAt := none, cutFrag := l.stopAt.isSome, total := n + 4 } }).raise
            Src.txCancelVisible []
      else (x1.setPort p { x1.port p with line := none }).endCopy (.host q i) (noCopy Code.cancelled)
    | none => x1) s

/-- What a cancellation makes of an entry whose frame was launched (R323, R300). -/
def State.cancelStatus (s : State) (q i : Nat) (e : Entry) : Nat :=
  let onLine := s.im.ports.any (fun p =>
    let y := s.port p
    (match y.line with | some l => l.launched && decide (l.frame.src = TxSrc.host q i) | none => false) ||
    (match y.preempted with | some l => decide (l.frame.src = TxSrc.host q i) | none => false))
  if e.copies.any (fun c => c.launched && !c.cut) then Code.escaped
  else if onLine then Code.cancelledVisible else Code.cancelled

/-- Write the completions whose outcome is fixed and which wait for a slot only. -/
def State.flushOutcomes (s : State) (q : Nat) : State :=
  forEach ((s.queue q).entries.filter (fun e => e.stage == Stage.held && !e.slot)) (fun e x =>
    if x.canReserve (x.qRing q) 1 then
      (x.reserve (x.qRing q) 1).complete q e.idx (entryTag 2 e.bytes) e.status 0
    else x.stall (x.qRing q)) s

/-- Cancel entry `i` of A-ring `q`; `tag` is the TAG of an entry that was not fetched (log entry 23). Progress on the wire on this
edge counts first. -/
def State.cancelEntry (s0 : State) (q i tag : Nat) : State :=
  let s := forEach s0.im.ports (fun p x => x.settleLine p) s0
  if s.qKind q ≠ 2 ∨ !s.qExists q then s.inc R.txeCancelIgnored
  else match s.entry? q i with
    | some e =>
      if e.status ≠ 0 then s.inc R.txeCancelIgnored
      else match e.stage with
        | .cached | .failed =>
          let s1 := s.countCancel q Code.cancelled
          (if e.slot then (s1.complete q i (entryTag 2 e.bytes) Code.cancelled 0).settleStop q
           else (s1.setEntry q { e with stage := .held, status := Code.cancelled }).flushOutcomes q)
        | .bound | .ready =>
          let s1 := s.countCancel q Code.cancelled
          let s2 := { s1 with tx := { s1.tx with ready := s1.tx.ready.filter (fun f => f.src != TxSrc.host q i) } }
          let s3 := s2.unline (.host q i)
          ((s3.freeRunAhead q e).completeCancel q { e with status := Code.cancelled }).settleStop q
        | .onWire =>
          let st := s.cancelStatus q i e
          let s1 := (s.countCancel q st).setEntry q { e with status := st }
          let s2 := s1.terminate q i
          let rest := s2.tx.ready.filter (fun f => f.src == TxSrc.host q i)
          forEach rest (fun f x => x.dropFrame f f.ports Code.cancelled) s2
        | .sent =>
          ((s.countCancel q Code.escaped).completeCancel q { e with status := Code.escaped }).settleStop q
        | _ => s.inc R.txeCancelIgnored
    | none =>
      let d := idxDist i (s.qHead q)
      let posted := decide (d < idxDist (s.qTail q) (s.qHead q)) && !(s.queue q).done.contains i
      if posted then
        let x := s.queue q
        let e : Entry := ⟨i, patch (List.replicate 64 0) 0xA (leBytes 2 tag), .held, 0, [], Code.cancelled, none, false⟩
        ((s.countCancel q Code.cancelled).setQueue q { x with entries := x.entries ++ [e] }).flushOutcomes q
      else s.inc R.txeCancelIgnored

end Sys2Proof.Machine
end

