-- ==== Sys2Proof/Machine/Publish.lean ====
section
/-! DEFINITION. The commands of TXE.CMD: GOOSE control blocks and SV publishers, their templates and their frames
(R307 to R316). -/

namespace Sys2Proof.Machine

/-! ### The command register -/

/-- UNIT and INDEX of a write of TXE.CMD. -/
def State.setTxeFields (s : State) (unit index : Nat) : State :=
  (s.setF R.txeCmd 15 12 unit).setF R.txeCmd 27 16 index

/-- A command of TXE finishes. -/
def State.txeResult (s : State) (code : Nat) : State := s.result R.txeStatus code

/-- A load, which ran as job `j`, finishes. -/
def State.txeFinish (s : State) (j code : Nat) : State := s.finish j R.txeStatus code

/-- A template is being read for some unit. -/
def State.txeLoading (s : State) : Bool :=
  s.tx.gcbs.any (fun e => e.2.loading.isSome) || s.tx.svps.any (fun e => e.2.loading.isSome)

/-- BUSY follows the loads under way. -/
def State.settleTxeBusy (s : State) : State := s.setBit R.txeStatus 0 s.txeLoading

/-- The longest template the port of a unit takes: MTU - 4, the smaller one of a pair; 1,518 for a port with LANES 0. -/
def State.tplLimit (s : State) (p : Nat) : Nat :=
  if (s.portRec p).lanes = 0 then 1518
  else ((s.txPorts p).map (fun q => (s.portRec q).mtu - 4)).foldl min 1518

/-- The load a command starts: TXE.LOAD_ADDR and LOAD_LEN in the issuing function's address space. -/
def State.newLoad (s : State) (req : Requester) (p : Nat) : TplLoad :=
  ⟨s.acting req, s.rd64 R.txeLoadAddr, s.getF R.txeLoadLen 10 0, s.getF R.txeLoadLen 31 16, s.tplLimit p⟩

/-! ### GOOSE control blocks -/

/-- GCB `i` is a mirrored item the mirror owns (R412, R419). -/
def State.gcbMirrored (s : State) (i : Nat) : Bool := s.mirrorOwns && s.bit (R.txeGcbCfg i) 11

/-- LOAD_PENDING (R307, R313): the pending slot is not ready while its template is read. -/
def execLoadPending (req : Requester) (index : Nat) (s : State) : Answer :=
  .next (s.guarded req R.txeCmd (fun s0 =>
    let i := index % 4096
    let s := s0.setTxeFields 0 index
    if (s.gcb i).loading.isSome || s.gcbMirrored i then s.txeResult Code.state
    else
      (((s.setBit (R.txeGcbStatus i) 3 false).setGcb i { s.gcb i with loading := some (s.newLoad req (s.gcbPort i)) }).settleTxeBusy).defer
        (R.txeGcbCfg i)))

/-- The template of GCB `i` has been read, or not (R307). A rejected template leaves the slot registers as they were. -/
def State.gcbLoaded (s : State) (i : Nat) (l : TplLoad) (bytes : Option (List Byte)) : State :=
  let s1 := (s.setGcb i { s.gcb i with loading := none }).settleTxeBusy
  match bytes with
  | none => (s1.setF R.txeStatus 23 16 6).txeFinish (R.txeGcbCfg i) Code.hostRd
  | some b0 =>
    let b := slice b0 0 l.len
    let err := s1.gooseErr i l b
    let s2 := s1.setF R.txeStatus 23 16 err
    if err ≠ 0 then s2.txeFinish (R.txeGcbCfg i) Code.check
    else
      let s3 := (s2.tplWrite (64 * l.block) b).wrN (R.txeGcbTplP i) (l.block + l.len * 65536)
      (s3.setBit (R.txeGcbStatus i) 3 true).txeFinish (R.txeGcbCfg i) Code.ok

/-- GCB `i` commits on the edge on which its waiting frame was selected for some ports: the commit comes first, and the frame
selected there is frame 0 of the new state (R309). -/
def State.gcbCommitFirst (s : State) (i : Nat) (late : Bool) : State :=
  let taken := s.im.ports.filter (fun p => match (s.port p).line with
    | some l => !l.launched && l.since == s.clock && l.frame.src == TxSrc.gcb i && l.frame.act == s.gcbAct i
    | none => false)
  if taken.isEmpty then s.gcbCommit i late
  else
    let s1 := s.unline (.gcb i)
    let s2 := { s1 with tx := { s1.tx with ready := s1.tx.ready.filter (fun f => f.src != TxSrc.gcb i) } }
    forEach taken (fun p x =>
      if (x.gcbsWaiting p).contains i then x.startFrame p (x.gcbFrame i)
      else match (x.readyOn p).find? (fun f => f.src == TxSrc.gcb i) with
        | some f => x.startFrame p f
        | none => x) (s2.gcbCommit i late)

/-- A GOOSE_STATE action on GCB `i` (R308). A GCB of the actuation queue that does not run changes no state (R306). -/
def State.gooseState (s : State) (i : Nat) (late : Bool) : State :=
  if s.gcbRuns i && s.bit (R.txeGcbStatus i) 3 then s.gcbCommitFirst i late
  else s.inc R.txeGooseNoop

/-- COMMIT (R308, R313). -/
def execGcbCommit (req : Requester) (index : Nat) (s : State) : Answer :=
  .next (s.guarded req R.txeCmd (fun s0 =>
    let i := index % 4096
    let s := s0.setTxeFields 0 index
    if s.gcbRuns i && s.bit (R.txeGcbStatus i) 3 && !s.gcbMirrored i then (s.gcbCommitFirst i false).txeResult Code.ok
    else s.txeResult Code.state))

/-- ENABLE of a GCB (R313): entered for the next landing. -/
def execGcbEnable (req : Requester) (index : Nat) (s : State) : Answer :=
  .next (s.guarded req R.txeCmd (fun s0 =>
    let i := index % 4096
    let s := s0.setTxeFields 0 index
    if s.gcbOn i || !s.bit (R.txeGcbStatus i) 3 || s.gcbMirrored i then s.txeResult Code.state
    else if (s.portRec (s.getF (R.txeGcbCfg i) 6 0)).lanes = 0 then s.txeResult Code.check
    else (s.setGcb i { s.gcb i with enReq := true }).txeResult Code.ok))

/-- DISABLE of a GCB (R313): entered for the next landing. -/
def execGcbDisable (req : Requester) (index : Nat) (s : State) : Answer :=
  .next (s.guarded req R.txeCmd (fun s0 =>
    let i := index % 4096
    let s := s0.setTxeFields 0 index
    if s.gcbOn i && !s.gcbMirrored i then (s.setGcb i { s.gcb i with disReq := true }).txeResult Code.ok else s.txeResult Code.state))

/-- A reserved TXE command or unit completes with STATE (R313, R315). -/
def execTxeCmdReserved (req : Requester) (unit index : Nat) (s : State) : Answer :=
  .next (s.guarded req R.txeCmd (fun s => (s.setTxeFields unit index).txeResult Code.state))

/-- The curve of GCB `i` starts; nothing is sent while the GCB does not run. -/
def State.gcbStart (s : State) (i : Nat) : State :=
  let s1 := s.setGcb i { s.gcb i with due := s.srcNow, tc := s.srcNow, k := 0, lastK := 0, fresh := true, flat := false, t := s.gooseT i }
  let s2 := s1.gcbDrop i
  if s2.gcbRuns i then s2.gcbDue i else s2

/-- ENABLE and DISABLE of GCB `i` act at a landing (R313). -/
def State.gcbLand (s : State) (i : Nat) : State :=
  let g := s.gcb i
  let s1 := s.setGcb i { g with enReq := false, disReq := false }
  let s2 := if g.disReq then (s1.setBit (R.txeGcbStatus i) 0 false).gcbDrop i else s1
  if g.enReq && !s2.gcbOn i then
    let a := s2.rd (R.txeGcbTplA i)
    let s3 := (s2.wr (R.txeGcbTplA i) (s2.rd (R.txeGcbTplP i))).wr (R.txeGcbTplP i) a
    let s4 := (s3.setBit (R.txeGcbStatus i) 3 false).setBit (R.txeGcbStatus i) 0 true
    (s4.wrN (R.txeGcbSqnum i) 0).gcbStart i
  else s2

/-- The GOOSE_RPT mode of GCB `i` changes at a landing (R314). -/
def State.gcbMode (s : State) (i : Nat) (host : Bool) : State :=
  let s1 := s.setBit (R.txeGcbStatus i) 2 host
  if host then s1.gcbDrop i
  else if s1.gcbOn i then
    let s2 := s1.wrN (R.txeGcbSqnum i) (nextNum (s.rdN (R.txeGcbSqnum i)))
    let s3 := s2.setGcb i { s2.gcb i with due := s.srcNow, tc := s.srcNow, k := 0, lastK := 0, fresh := true, flat := true }
    if s3.gcbRuns i then s3.gcbDue i else s3
  else s1

/-- Every GCB is disabled, and one that was to be enabled stays so (R313). -/
def State.gcbsOff (s : State) : State :=
  let s1 := forEach s.gcbsOn (fun i x => (x.setBit (R.txeGcbStatus i) 0 false).gcbDrop i) s
  forEach (s1.tx.gcbs.map (·.1)) (fun i x => x.setGcb i { x.gcb i with enReq := false, disReq := false }) s1

/-- GCB_FRAME_DUE: the next due instant of GCB `i` comes (R310, R311). -/
def execGcbFrameDue (i : Nat) (s : State) : Answer :=
  .next (if s.gcbRuns i then
    match s.reach (s.gcb i).due with
    | some s1 => s1.gcbDue i
    | none => s
  else s)

/-- Due instants a step of the tick source jumped over are due at once (R310), at most `n`. -/
def State.gcbCatchUp (s : State) (i : Nat) : Nat → State
  | 0 => s
  | n + 1 => if s.gcbRuns i && decide ((s.gcb i).due ≤ s.srcNow) then (s.gcbDue i).gcbCatchUp i n else s

/-- Every GCB takes the due instants the tick source has passed. -/
def State.gcbsCatchUp (s : State) : State :=
  forEach s.gcbsOn (fun i x =>
    let span := (x.srcNow - (x.gcb i).due) / max 1 (ofNs (min (x.gcbInterval i 1) (x.gcbInterval i 9)))
    x.gcbCatchUp i (span.toNat + 1)) s

/-! ### SV publishers (R315, R316) -/

/-- A publisher nothing was done with. -/
def svpInit (_ : Nat) : SvpSt := ⟨[], none, [], 0, false, false⟩

/-- Publisher `n` beside its registers. -/
def State.svp (s : State) (n : Nat) : SvpSt := Tab.get svpInit s.tx.svps n

/-- Replace publisher `n`. -/
def State.setSvp (s : State) (n : Nat) (x : SvpSt) : State :=
  { s with tx := { s.tx with svps := Tab.put svpInit s.tx.svps n x } }

/-- CFG of publisher `n` in force. -/
def State.svpCfg (s : State) (n : Nat) : Reg := s.inForce (R.txeSvpCfg n)

/-- EN of publisher `n`. -/
def State.svpOn (s : State) (n : Nat) : Bool := s.bit (R.txeSvpStatus n) 0

/-- The ASDUs of a sampled-value frame: offset and length of the content of each. -/
def svAsdus (b : List Byte) : List (Nat × Nat) :=
  let o := typeOfs b + 10
  match berHead (b.drop o) with
  | some (0x60, h, l) =>
    (match berList (l + 1) (o + h) (slice b (o + h) l) with
     | some es =>
       (match es.find? (fun e => e.1 == 0xA2) with
        | some (_, q, m) =>
          (match berList (m + 1) q (slice b q m) with
           | some as => as.map (fun e => e.2)
           | none => [])
        | none => [])
     | none => [])
  | _ => []

/-- Offset and length of the content of element `tag` of an ASDU. -/
def svElem (b : List Byte) (a : Nat × Nat) (tag : Nat) : Option (Nat × Nat) :=
  match berList (a.2 + 1) a.1 (slice b a.1 a.2) with
  | some es => (es.find? (fun e => e.1 == tag)).map (·.2)
  | none => none

/-- The channels of a template: octets of seqData over 8. -/
def svChannels (b : List Byte) : Nat :=
  match svAsdus b with
  | a :: _ => (match svElem b a 0x87 with | some e => e.2 / 8 | none => 0)
  | [] => 0

/-- The template keeps the elements of R315 for `spt` samples per tick. -/
def svTemplateOk (spt : Nat) (b : List Byte) : Bool :=
  let ch := svChannels b
  let o := typeOfs b
  let as := svAsdus b
  let secure := match berHead (b.drop (o + 10)) with
    | some (_, h, l) => (match berList (l + 1) 0 (slice b (o + 10 + h) l) with
      | some es => decide (es.length ≠ 2)
      | none => true)
    | none => true
  etherType b == 0x88BA && (parseSv ch (b.drop (o + 2))).isSome && decide (1 ≤ ch) && decide (ch ≤ 32) && !secure &&
  as.all (fun a => (svElem b a 0x84).isNone && (svElem b a 0x89).isNone) && spt % max 1 as.length == 0

/-- The ERR code of a publisher template, 0 when it keeps every rule (R315). -/
def State.svErr (s : State) (n : Nat) (l : TplLoad) (b : List Byte) : Nat :=
  if ¬ (60 ≤ l.len ∧ l.len ≤ 1518 ∧ l.len ≤ l.limit) then 1
  else if !svTemplateOk (fld (s.svpCfg n) 31 16) b then 3
  else if !s.slotFree 4096 l.block l.len then 5
  else 0

/-- LOAD of a publisher (R315): legal while it is disabled. -/
def execSvpLoad (req : Requester) (index : Nat) (s : State) : Answer :=
  .next (s.guarded req R.txeCmd (fun s0 =>
    let n := index
    let s := s0.setTxeFields 1 index
    if 64 ≤ n ∨ s.svpOn n ∨ (s.svp n).loading.isSome then s.txeResult Code.state
    else
      (((s.setBit (R.txeSvpStatus n) 1 false).setSvp n
        { s.svp n with loading := some (s.newLoad req (fld (s.svpCfg n) 6 0)) }).settleTxeBusy).defer (R.txeSvpCfg n)))

/-- The template of publisher `n` has been read, or not. -/
def State.svpLoaded (s : State) (n : Nat) (l : TplLoad) (bytes : Option (List Byte)) : State :=
  let s1 := (s.setSvp n { s.svp n with loading := none }).settleTxeBusy
  match bytes with
  | none => (s1.setF R.txeStatus 23 16 6).txeFinish (R.txeSvpCfg n) Code.hostRd
  | some b0 =>
    let b := slice b0 0 l.len
    let err := s1.svErr n l b
    let s2 := s1.setF R.txeStatus 23 16 err
    if err ≠ 0 then s2.txeFinish (R.txeSvpCfg n) Code.check
    else ((s2.setSvp n { s2.svp n with template := b }).setBit (R.txeSvpStatus n) 1 true).txeFinish (R.txeSvpCfg n) Code.ok

/-- The read a load `l` asks for, while its function is not in D3hot (R499), and what follows from it. -/
def State.loadRead (s : State) (l : Option TplLoad) (f : TplLoad → State → State) : State :=
  match l with
  | some l => if s.inD3 l.req then s else f l (s.emit (.hostRead l.req l.addr l.len))
  | none => s

/-- TEMPLATE_LOAD_DONE: the read of a template ends, with its octets or failed (R307, R315). -/
def execTemplateLoadDone (unit index : Nat) (bytes : Option (List Byte)) (s : State) : Answer :=
  .next (
    if unit = 0 then s.loadRead (s.gcb (index % 4096)).loading (fun l x => x.gcbLoaded (index % 4096) l bytes)
    else if index < 64 then s.loadRead (s.svp index).loading (fun l x => x.svpLoaded index l bytes)
    else s)

/-- ENABLE of a publisher (R315): entered for the next landing. -/
def execSvpEnable (req : Requester) (index : Nat) (s : State) : Answer :=
  .next (s.guarded req R.txeCmd (fun s0 =>
    let s := s0.setTxeFields 1 index
    if 64 ≤ index ∨ s.svpOn index ∨ !s.bit (R.txeSvpStatus index) 1 then s.txeResult Code.state
    else (s.setSvp index { s.svp index with enReq := true }).txeResult Code.ok))

/-- DISABLE of a publisher (R315): entered for the next landing. -/
def execSvpDisable (req : Requester) (index : Nat) (s : State) : Answer :=
  .next (s.guarded req R.txeCmd (fun s0 =>
    let s := s0.setTxeFields 1 index
    if 64 ≤ index ∨ !s.svpOn index then s.txeResult Code.state
    else (s.setSvp index { s.svp index with disReq := true }).txeResult Code.ok))

/-- ASDUs of the template of publisher `n`. -/
def State.svpAsdus (s : State) (n : Nat) : Nat := max 1 (svAsdus (s.svp n).template).length

/-- Frames of publisher `n` in one tick. -/
def State.svpPerTick (s : State) (n : Nat) : Nat := fld (s.svpCfg n) 31 16 / s.svpAsdus n

/-- ENABLE and DISABLE of publisher `n` act at a landing. -/
def State.svpLand (s : State) (n : Nat) : State :=
  let x := s.svp n
  let s1 := s.setSvp n { x with enReq := false, disReq := false }
  let s2 := if x.disReq then s1.setBit (R.txeSvpStatus n) 0 false else s1
  if x.enReq then
    (s2.setBit (R.txeSvpStatus n) 0 true).setSvp n { s2.svp n with slots := [], next := s.now * s.svpPerTick n }
  else s2

/-- The function whose value ring publisher `n` reads. -/
def State.svpFunc (s : State) (n : Nat) : Requester := requesterOf (fld (s.svpCfg n) 12 12) 0

/-- Octets of one slot of the value ring: the values of a frame (R316). -/
def State.svpSlot (s : State) (n : Nat) : Nat := s.svpAsdus n * svChannels (s.svp n).template * 8

/-- Host address of the slot of frame number `f` (R316): the ring has 2^RING_LOG2 slots, 4 to 20 (log entry 114). -/
def State.svpSlotAt (s : State) (n f : Nat) : Nat :=
  s.rd64 (R.txeSvpRing n) + f % 2 ^ min 20 (max 4 (s.getF (R.txeSvpRingLog2 n) 4 0)) * s.svpSlot n

/-- SVP_SLOT_READ: the value slot of frame number `f` has been read, or the read failed (R316): from L(n-1) on the slots
of tick n. -/
def execSvpSlotRead (n f : Nat) (values : Option (List Byte)) (s : State) : Answer :=
  .next (
    let x := s.svp n
    let t := f / max 1 (s.svpPerTick n)
    if n < 64 && s.svpOn n && decide (x.next ≤ f) && decide (t ≤ s.now + 1) && !s.inD3 (s.svpFunc n) then
      (s.emit (.hostRead (s.svpFunc n) (s.svpSlotAt n f) (s.svpSlot n))).setSvp n { x with slots := x.slots.filter (fun e => e.1 != f) ++ [(f, values)] }
    else s)

/-- R of publisher `n` in Hz, rounded. -/
def State.svpRate (s : State) (n : Nat) : Nat :=
  (roundHalfEven ((fld (s.svpCfg n) 31 16 : Int) * 10 ^ 9 * 2 ^ 32) (to32 s.period).toNat).toNat

/-- smpCnt of grid instant `g` (R316). -/
def State.svpCount (s : State) (n : Nat) (g : Int) : Nat :=
  let r := s.svpRate n
  let p : Int := (10 ^ 9 / (if r ≤ 65536 then 1 else 2) : Nat) * ns32
  (roundHalfEven (g % p * r) (10 ^ 9 * 2 ^ 32) % max 1 (wrapCount r)).toNat

/-- Write the fields of ASDU number `j` at offset span `a` of a frame (R316). -/
def svFill (cnt synch : Nat) (vals : List Byte) (a : Nat × Nat) (b : List Byte) : List Byte :=
  let put := fun (tag : Nat) (v : List Byte) (c : List Byte) =>
    match svElem c a tag with | some e => patch c e.1 (slice v 0 e.2) | none => c
  put 0x87 vals (put 0x85 (beBytes 1 synch) (put 0x82 (beBytes 2 cnt) b))

/-- The octets of frame `j` of tick `t` of publisher `n` with the values of its slot. -/
def State.svpBytes (s : State) (n t j : Nat) (vals : List Byte) : List Byte :=
  let b := (s.svp n).template
  let as := svAsdus b
  let ch := svChannels b
  let spt := fld (s.svpCfg n) 31 16
  let sy := s.rd (R.txeSvpSynch n)
  let synch := if s.tbState s.src = TbS.locked then fld sy 7 0 else fld sy 15 8
  forEach ((List.range as.length).zip as) (fun (e : Nat × (Nat × Nat)) (c : List Byte) =>
    svFill (s.svpCount n (s.gridAt t (j * as.length + e.1) spt)) synch (slice vals (8 * ch * e.1) (8 * ch)) e.2 c) b

/-- SVP_FRAME_READY: the last grid instant of the next frame of publisher `n` comes (R316, R304). -/
def execSvpFrameReady (n : Nat) (s : State) : Answer :=
  .next (
    let per := s.svpPerTick n
    let x := s.svp n
    let f := max x.next (s.now * per)
    let j := f - s.now * per
    if n < 64 && s.svpOn n && s.running && decide (j < per) then
      let g := s.gridAt s.now (j * s.svpAsdus n + s.svpAsdus n - 1) (fld (s.svpCfg n) 31 16)
      match s.reach (g * (2 ^ 16 : Nat)) with
      | none => s
      | some s1 =>
        let got := (x.slots.find? (fun e => e.1 == f)).bind (·.2)
        let s2 := s1.setSvp n { x with next := f + 1, slots := x.slots.filter (fun e => decide (f < e.1)) }
        let p := fld (s.svpCfg n) 6 0
        if !(s.txPorts p).any s.portCarries then s2.inc (R.txeSvpUnderrun n)
        else match got with
          | some v => s2.enqueue ⟨0, .svp n, s.txPorts p, fld (s.svpCfg n) 10 8, false, s2.svpBytes n s.now j v, none,
              s.pairOf p, none, true, none, true⟩
          | none => (s2.inc (R.txeSvpUnderrun n)).raise Src.svpUnderrun []
    else s)

end Sys2Proof.Machine
end

