-- ==== Sys2Proof/Machine/Queues.lean ====
section
/-! DEFINITION. Queues (11_queues): doorbells, the descriptor cache, the commands of QM.CMD, and the delivery of received
frames. Work entries stand in Work. -/

namespace Sys2Proof.Machine

/-! ### The descriptor cache (R341) -/

/-- Put an entry into its place in queue order. -/
def insertEntry (head : Nat) (e : Entry) : List Entry → List Entry
  | [] => [e]
  | x :: xs => if idxDist e.idx head < idxDist x.idx head then e :: x :: xs else x :: insertEntry head e xs

/-- Queue `q` may fetch: it is RUN or HELD, and the cache and FETCH_MAX leave room. -/
def State.mayFetch (s : State) (q : Nat) : Bool :=
  (s.qState q == QS.run || s.qState q == QS.held) && decide ((s.queue q).entries.length < (s.queue q).fetchMax) &&
  decide (s.getF R.qmCacheUsed 15 0 < 32768) && !s.inD3 (s.qOwner q) && !s.readFailed q

/-- The read of the next entry of queue `q` is issued, when none is in flight and the queue may fetch: one aligned read of the whole
entry (R328, R341). -/
def State.issueFetch (s : State) (q : Nat) : State :=
  let i := s.nextFetch q (s.qFetched q) 65536
  if (s.queue q).fetching.isSome || !s.qExists q || !s.mayFetch q || i == s.qTail q then s
  else (s.setQueue q { s.queue q with fetching := some (i, false) }).emit
    (.hostRead (s.qOwner q) (s.entryAt q i) (entrySize (s.qKind q)))

/-! ### Doorbells (R332 to R335) -/

/-- The device answers BAR2 (R456), and its CORE clock runs (R482). -/
def State.barOpen (s : State) : Bool := decide (6 ≤ s.boot.stage) && !s.pwr.stopped.contains 0

/-- Take a doorbell of queue `q` through requester `r`: one through any function but the owner, or of a queue that is not
in the plan, is dropped and counted (R333). -/
def State.doorbell (s : State) (r : Requester) (q : Nat) (f : State → State) : State :=
  if !s.barOpen then s
  else match s.sq? q with
    | some x => if r.owns x.func x.vf then f s else s.inc R.qmDbDrop
    | none => s.inc R.qmDbDrop

/-- Queue `q` is a mirrored item the mirror owns (R412, R419). -/
def State.qMirrored (s : State) (q : Nat) : Bool := s.mirrorOwns && (s.qKind q == 0 || s.qKind q == 2)

/-- A TAIL, CANCEL or INVAL doorbell; that of a mirrored queue is dropped on a standby (R419). -/
def State.postDoorbell (s : State) (r : Requester) (q : Nat) (f : State → State) : State :=
  s.doorbell r q (fun s => if s.qMirrored q then s.inc R.rdnOwnedDrop else f s)

/-- Waiting outcomes of queue `q` are written as far as slots allow: aborted entries and cancellations. -/
def State.drainQueue (s : State) (q : Nat) : State :=
  let s1 := (s.flushOutcomes q).settleFailed q
  (s1.drainAborts q (s1.queue q).toAbort).settleStop q

/-- The submission queues that name completion ring `r`. -/
def State.queuesOf (s : State) (r : Nat) : List Nat := ((s.im.sqs.filter (fun x => x.cring == r)).map (·.qid))

/-- A report of the head of completion ring `r` (R331). -/
def State.reportHead (s : State) (r v : Nat) : State :=
  if s.crSize r < idxDist (s.crTail r) v then (s.hwSet (R.qmCrStatus r) 0).raise Src.qmCrLap []
  else forEach (s.queuesOf r) (fun q x => x.drainQueue q) (s.setF (R.qmCrHead r) 15 0 v)

/-- QM.TAIL (R334): its notification crosses into CORE, and TAIL as a whole value beside it (R483 to R485). -/
def execTail (req : Requester) (q : Nat) (v : Reg) (s : State) : Answer :=
  .next (s.postDoorbell req q (fun s0 =>
    let s := (s0.cross (Xing.tail q) 9).2
    let t := fld v 15 0
    if idxDist t (s.qHead q) ≤ s.qSize q then (s.setF (R.qmQTail q) 15 0 t).issueFetch q
    else (((s.inc (R.qmQLapErr q)).raise Src.qmLap []).stopQueue q Stop.lap).settleStop q))

/-- QM.CANCEL (R322, R323); `tag` is the TAG of the entry in host memory, read for an entry that was not fetched. -/
def execCancel (req : Requester) (q : Nat) (v : Reg) (tag : Nat) (s : State) : Answer :=
  .next (s.postDoorbell req q (fun s => s.cancelEntry q (fld v 15 0) tag))

/-- One index of a QM.INVAL that lies between HEAD and TAIL and has no completion (R343). -/
def State.invalOne (s : State) (q i tag : Nat) : State :=
  if s.qKind q = 2 then s.cancelEntry q i tag
  else match s.entry? q i with
    | some e =>
      if e.stage = .cached then
        let s1 := s.dropEntry q i
        if idxDist i (s.qHead q) < idxDist (s.qFetched q) (s.qHead q) then s1.setF (R.qmQFetched q) 15 0 i else s1
      else s.inc (R.qmQInvalLate q)
    | none => s

/-- QM.INVAL (R343); `tags` are the TAGs of the covered entries in host memory, first to last. -/
def execInval (req : Requester) (q : Nat) (v : Reg) (tags : List Nat) (s : State) : Answer :=
  .next (s.postDoorbell req q (fun s =>
    let c := fld v 31 16
    let n := if c = 0 ∨ s.qSize q < c then s.qSize q else c
    let live := ((idxFrom (fld v 15 0) n).zip (tags ++ List.replicate n 0)).filter (fun e =>
      decide (idxDist e.1 (s.qHead q) < idxDist (s.qTail q) (s.qHead q)) && !(s.queue q).done.contains e.1)
    let x := s.queue q
    let s1 := s.setQueue q { x with fetching := x.fetching.map (fun f => (f.1, f.2 || live.any (fun e => e.1 == f.1))) }
    (forEach live (fun e x => x.invalOne q e.1 e.2) s1).issueFetch q))

/-- QM.CR_HEAD (R331): the head of the completion ring the queue names. -/
def execCrHead (req : Requester) (q : Nat) (v : Reg) (s : State) : Answer :=
  .next (s.doorbell req q (fun s => s.reportHead (s.qRing q) (fld v 15 0)))

/-! ### Access to QM (R16, R358) -/

/-- A requester acts on what the function and virtual function own: the owning physical function, the parent of the
owning virtual function, or that virtual function. -/
def State.qmMay (s : State) (r : Requester) (func vf : Nat) : Bool :=
  let a := s.acting r
  if a.vfNum = 0 then a.func == func else a.owns func vf

/-- The owner of queue or ring `i` in the plan. -/
def State.qmOwner (s : State) (ring : Bool) (i : Nat) : Option (Nat × Nat) :=
  if ring then (s.cr? i).map (fun c => (c.func, c.vf)) else (s.sq? i).map (fun q => (q.func, q.vf))

/-- Insert a number into a rising list. -/
def insertNat (n : Nat) : List Nat → List Nat
  | [] => [n]
  | x :: xs => if n ≤ x then n :: x :: xs else x :: insertNat n xs

/-- The queue or ring that an index of a virtual function's alias names (R358). -/
def State.qmIndex (s : State) (r : Requester) (ring : Bool) (i : Nat) : Nat :=
  let a := s.acting r
  if a.vfNum = 0 then i
  else
    let mine := if ring then (s.im.crs.filter (fun c => a.owns c.func c.vf)).map (·.rid)
      else (s.im.sqs.filter (fun q => a.owns q.func q.vf)).map (·.qid)
    (mine.foldr insertNat []).getD i 65536

/-- An access that is not subject to R16's limits passes boot stage and clock. -/
def State.qmReach (s : State) (k : Nat) (f : State → State) : State :=
  if s.boot.stage < 6 then s else if s.clockStopped k then s.csrTimeout k else f s

/-- A write of a register of queue or ring `i` (R358): by its owner's physical function, or the virtual function itself. -/
def State.qmWrite (s : State) (r : Requester) (k : Nat) (ring : Bool) (i : Nat) (f : State → State) : State :=
  s.qmReach k (fun s =>
    match s.qmOwner ring i with
    | some o => if s.qmMay r o.1 o.2 then f s else if isMgmt (s.acting r) then s.inc R.topMgtWrDrop else s.inc R.qmForeignWr
    | none => if isMgmt (s.acting r) then s.inc R.topMgtWrDrop else s.inc R.qmForeignWr)

/-- A command of QM.CMD: its fields, the right to issue it (R358), and its effect. -/
def State.qmCommand (s : State) (r : Requester) (ring : Bool) (index : Nat) (f : Nat → State → State) : State :=
  s.qmReach R.qmCmd (fun s0 =>
    let s := (s0.setBit R.qmCmd 15 ring).setF R.qmCmd 31 16 index
    let i := s.qmIndex r ring index
    match s.qmOwner ring i with
    | some o =>
      if !s.qmMay r o.1 o.2 then (s.inc R.qmForeignWr).result R.qmStatus Code.state
      else if !ring && s.qMirrored i then s.result R.qmStatus Code.state else f i s
    | none => s.result R.qmStatus Code.state)

/-! ### Commands (R352 to R355) -/

/-- BASE is valid under R328. -/
def baseOk (base bytes : Nat) : Bool := base % min 4096 bytes == 0

/-- BASE of queue `q` is valid. -/
def State.qBaseOk (s : State) (q : Nat) : Bool :=
  baseOk (s.rd64 (R.qmQBase q)) (s.qSize q * entrySize (s.qKind q))

/-- FETCH_MAX and RX_TS are taken (ENABLE, RESUME). -/
def State.takeCfg (s : State) (q : Nat) : State :=
  let c := s.rd (R.qmQCfg q)
  s.setQueue q { s.queue q with fetchMax := min 256 (max 1 (fld c 24 16)), rxTs := rbit c 0 }

/-- Set the state of queue `q`. -/
def State.setQState (s : State) (q st : Nat) : State := s.setF (R.qmQStatus q) 2 0 st

/-- ENABLE (R352). -/
def execQmEnable (req : Requester) (ring : Bool) (index : Nat) (s : State) : Answer :=
  .next (s.qmCommand req ring index (fun i s =>
    let k := R.qmStatus
    if ring then
      (if !s.crEnabled i && baseOk (s.rd64 (R.qmCrBase i)) (s.crSize i * 16) then
        (s.setBit (R.qmCrInfo i) 16 true).result k Code.ok
      else s.result k Code.state)
    else if s.qState i = QS.off ∧ s.qBaseOk i ∧ s.crEnabled (s.qRing i) then
      (((s.takeCfg i).setQState i QS.run).issueFetch i).result k Code.ok
    else s.result k Code.state))

/-- A hold reaches queue `q` (R353). -/
def State.holdQueue (s : State) (q : Nat) : State := if s.qState q = QS.run then s.setQState q QS.held else s

/-- A release reaches queue `q` (R353). -/
def State.releaseQueue (s : State) (q : Nat) : State := if s.qState q = QS.held then s.setQState q QS.run else s

/-- HOLD (R353). -/
def execQmHold (req : Requester) (ring : Bool) (index : Nat) (s : State) : Answer :=
  .next (s.qmCommand req ring index (fun i s =>
    if !ring && s.qState i == QS.run then (s.holdQueue i).result R.qmStatus Code.ok else s.result R.qmStatus Code.state))

/-- RELEASE (R352, R353). -/
def execQmRelease (req : Requester) (ring : Bool) (index : Nat) (s : State) : Answer :=
  .next (s.qmCommand req ring index (fun i s =>
    if !ring && s.qState i == QS.held then (s.releaseQueue i).result R.qmStatus Code.ok else s.result R.qmStatus Code.state))

/-- STOP (R354): RESULT follows when STOPPED is reached. -/
def execQmStop (req : Requester) (ring : Bool) (index : Nat) (s : State) : Answer :=
  .next (s.qmCommand req ring index (fun i s =>
    if !ring && (s.qState i == QS.run || s.qState i == QS.held) then
      let s1 := ((s.setQueue i { s.queue i with stopCmd := true }).setBit R.qmStatus 0 true).defer (R.qmQCfg i)
      (s1.stopQueue i Stop.cmd).settleStop i
    else s.result R.qmStatus Code.state))

/-- RESUME (R355). -/
def execResume (req : Requester) (ring : Bool) (index : Nat) (s : State) : Answer :=
  .next (s.qmCommand req ring index (fun i s =>
    if !ring && s.qState i == QS.stopped then
      ((((s.takeCfg i).setF (R.qmQFetched i) 15 0 (s.qHead i)).setQState i QS.run).issueFetch i).result R.qmStatus Code.ok
    else s.result R.qmStatus Code.state))

/-- DISABLE (R352). -/
def execQmDisable (req : Requester) (ring : Bool) (index : Nat) (s : State) : Answer :=
  .next (s.qmCommand req ring index (fun i s =>
    let k := R.qmStatus
    if ring then
      (if s.crEnabled i && (s.queuesOf i).all (fun q => s.qState q == QS.off) then
        (s.setBit (R.qmCrInfo i) 16 false).result k Code.ok
      else s.result k Code.state)
    else if s.qState i = QS.stopped then (s.setQState i QS.off).result k Code.ok
    else s.result k Code.state))

/-- HEAD and TAIL of queue `q` return to 0. -/
def State.clearIdx (s : State) (q : Nat) : State :=
  let s1 := s.setQueue q { s.queue q with entries := [], done := [], toAbort := [] }
  ((s1.setF (R.qmQHead q) 15 0 0).setF (R.qmQTail q) 15 0 0).setF (R.qmQFetched q) 15 0 0

/-- RESET_IDX (R352). -/
def execResetIdx (req : Requester) (ring : Bool) (index : Nat) (s : State) : Answer :=
  .next (s.qmCommand req ring index (fun i s =>
    let k := R.qmStatus
    if ring then
      (if s.crEnabled i then s.result k Code.state
       else ((s.setF (R.qmCrHead i) 15 0 0).setF (R.qmCrTail i) 15 0 0).result k Code.ok)
    else if s.qState i = QS.off then (s.clearIdx i).result k Code.ok
    else s.result k Code.state))

/-- A reserved QM command code completes with STATE (R352). -/
def execQmCmdReserved (req : Requester) (ring : Bool) (index : Nat) (s : State) : Answer :=
  .next (s.qmCommand req ring index (fun _ s => s.result R.qmStatus Code.state))

/-- QUEUE_STOPPED: what a stopping queue still has to write is written, and it reaches STOPPED (R355). -/
def execQueueStopped (q : Nat) (s : State) : Answer := .next (if s.qExists q then s.drainQueue q else s)

/-- CR_HEAD_WRITE: a write of QM.CR[r].HEAD (R331, R358). -/
def execCrHeadWrite (req : Requester) (r : Nat) (v : Reg) (s : State) : Answer :=
  .next (
    let i := s.qmIndex req true r
    s.qmWrite req (R.qmCrHead i) true i (fun s => s.reportHead i (fld v 15 0)))

/-! ### Fetched entries (R335, R341) -/

/-- The octets of entry `i` of queue `q` arrive, or its read failed. An A-ring entry beyond the run-ahead depth, or without room in
the run-ahead store, is not fetched yet (R319). -/
def State.fetched (s : State) (q i : Nat) (data : Option (List Byte)) : State :=
  let x := s.queue q
  let put := fun (e : Entry) =>
    (s.setQueue q { x with entries := insertEntry (s.qHead q) e x.entries }).setF (R.qmQFetched q) 15 0 (i + 1)
  match data with
  | none => ((put ⟨i, [], .failed, 0, [], 0, none, false⟩).settleFailed q).settleStop q
  | some d =>
    let b := slice d 0 (entrySize (s.qKind q))
    if s.qKind q = 2 ∧ ((s.aqDepth q : Int) < tickDiff (aqTarget b) s.now ∨
        2 ^ 20 < s.rdN (R.txeGRaUsed (s.qGallery q)) + leAt b 8 2) then s
    else
      let s1 := put ⟨i, b, .cached, 0, [], 0, none, false⟩
      (if s.qKind q = 2 then s1.aqLateFront q else s1).issueFetch q

/-- DESC_FETCH_DONE: the read of the next entry of queue `q` ends, with its octets or failed (R341). What comes for an index that
a QM.INVAL, a cancellation or a stop has reached since is discarded, and the entry is fetched again where it is still wanted
(R335). A read that room in the cache allowed since is issued first. -/
def execDescFetchDone (q : Nat) (data : Option (List Byte)) (s : State) : Answer :=
  .next (
    let s0 := s.issueFetch q
    match (s0.queue q).fetching with
    | none => s0
    | some (i, stale) =>
      let s1 := s0.setQueue q { s0.queue q with fetching := none }
      if stale || (s1.queue q).done.contains i || (s1.entry? q i).isSome || !s1.mayFetch q then s1.issueFetch q
      else s1.fetched q i data)

/-! ### Received frames (R338) -/

/-- Posted entries of receive queue `q` that no frame has been given. -/
def State.rxAvail (s : State) (q : Nat) : Nat := idxDist (s.qTail q) (s.qHead q) - (s.queue q).done.length

/-- A frame for receive queue `q` finds it empty, stopped or off. -/
def State.rxNoDesc (s : State) (q : Nat) : State := (s.inc (R.qmQRxNoDesc q)).raise Src.qmRxNodesc []

/-- A frame arrives for receive queue `q` (R338, R353, R499): it waits for its entry, or is discarded. -/
def State.offerRx (s : State) (q : Nat) (f : RxFrame) : State :=
  if s.qState q = QS.held ∨ s.inD3 (s.qOwner q) then s.inc (R.qmQRxHeldDrop q)
  else if s.qState q ≠ QS.run ∨ s.rxAvail q ≤ (s.queue q).rxWait.length then s.rxNoDesc q
  else s.setQueue q { s.queue q with rxWait := (s.queue q).rxWait ++ [f] }

/-- A receive descriptor passes R337. -/
def rxOk (b : List Byte) : Bool :=
  let n := leAt b 8 2
  entryCrc b && allZero (slice b 0xC 18) && leAt b 0 8 % 8 == 0 && n % 8 == 0 && decide (96 ≤ n) && decide (n ≤ 16384)

/-- Frames that wait while no entry is left for them, the latest, are discarded. -/
def State.rxStarve (s : State) (q : Nat) : State :=
  let w := (s.queue q).rxWait
  let n := s.rxAvail q
  forEach (w.drop n) (fun _ x => x.rxNoDesc q) (s.setQueue q { s.queue q with rxWait := w.take n })

/-- The entry a frame is given next: the oldest that is posted, once it stands in the cache (R338). -/
def State.rxNext (s : State) (q : Nat) : Option Entry :=
  match s.oldestCached q with
  | some e => if e.idx = s.qHead q then some e else none
  | none => none

/-- INFO of a receive completion (R347). -/
def rxInfo (len : Nat) (ts : Bool) (tick : Nat) : Nat := len % 2 ^ 14 + ts.toNat * 2 ^ 14 + tick % 2 ^ 32 * 2 ^ 16

/-- RX_FRAME_DELIVER: the oldest frame that waits for queue `q` is given its next entry (R338). -/
def execRxFrameDeliver (q : Nat) (s : State) : Answer :=
  .next (match s.rxNext q, (s.queue q).rxWait with
    | some e, f :: rest =>
      if s.qKind q ≠ 1 ∨ s.qState q ≠ QS.run ∨ s.inD3 (s.qOwner q) then s
      else if !s.canReserve (s.qRing q) 1 then s.stall (s.qRing q)
      else
        let s1 := s.reserve (s.qRing q) 1
        let tag := entryTag 1 e.bytes
        let ts := (s.queue q).rxTs && !f.stamp.isEmpty
        let tail := (if ts then f.stamp else []) ++ f.twin
        let trl := (f.bytes.length + 7) / 8 * 8
        if !rxOk e.bytes then (s1.complete q e.idx tag Code.check 0).rxStarve q
        else
          let s2 := s1.setQueue q { s1.queue q with rxWait := rest }
          if leAt e.bytes 8 2 < trl + tail.length then
            s2.complete q e.idx tag Code.noResource (rxInfo f.bytes.length false f.tick)
          else
            let a := leAt e.bytes 0 8
            let s3 := (s2.dataWrite (s.qOwner q) a f.bytes).dataWrite (s.qOwner q) (a + trl) tail
            s3.complete q e.idx tag Code.ok (rxInfo f.bytes.length ts f.tick)
    | _, _ => s)

end Sys2Proof.Machine
end

