-- ==== Sys2Proof/Machine/Dma.lean ====
section
/-! DEFINITION. The DMA engine (12_dma): sets and descriptors, triggers, runs, errors, and the delivery of panes. -/

namespace Sys2Proof.Machine

/-! ### Channels -/

/-- A channel nothing was done with. -/
def chanInit (_ : Nat) : ChanSt := ⟨none, false, 0, none, [], [], 0, 0, false⟩

/-- Channel `c` beside its registers. -/
def State.chan (s : State) (c : Nat) : ChanSt := Tab.get chanInit s.dma.chans c

/-- Replace channel `c`. -/
def State.setChan (s : State) (c : Nat) (x : ChanSt) : State :=
  { s with dma := { s.dma with chans := Tab.put chanInit s.dma.chans c x } }

/-- States of a channel (R370). -/
abbrev Ch.off : Nat := 0
/-- IDLE -/
abbrev Ch.idle : Nat := 1
/-- RUN -/
abbrev Ch.run : Nat := 2
/-- STOPPING -/
abbrev Ch.stopping : Nat := 3
/-- STOPPED -/
abbrev Ch.stopped : Nat := 4

/-- Triggers (R372). -/
abbrev Trig.doorbell : Nat := 0
/-- TICK -/
abbrev Trig.tick : Nat := 1
/-- CHAIN -/
abbrev Trig.chain : Nat := 2
/-- CONTINUOUS -/
abbrev Trig.continuous : Nat := 3

/-- The state of channel `c`. -/
def State.chState (s : State) (c : Nat) : Nat := s.getF (R.dmaChStatus c) 2 0

/-- Set the state of channel `c`. -/
def State.setCh (s : State) (c st : Nat) : State := s.setF (R.dmaChStatus c) 2 0 st

/-- The shadow of channel `c` is armed. -/
def State.armed (s : State) (c : Nat) : Bool := s.bit (R.dmaChStatus c) 8

/-- A trigger is pending. -/
def State.trigPend (s : State) (c : Nat) : Bool := s.bit (R.dmaChStatus c) 9

/-- SWAP_AT is LANDING. -/
def State.swapAtLanding (s : State) (c : Nat) : Bool := s.bit (R.dmaChCfg c) 4

/-- The channel is in pane mode. -/
def State.isPaneCh (s : State) (c : Nat) : Bool := s.getF (R.dmaChCfg c) 1 0 == 1

/-- The pane group of a pane channel. -/
def State.chGroup (s : State) (c : Nat) : Option (Nat × PgRec) :=
  s.im.pgs.findSome? (fun g => match s.pg? g with | some r => if r.dmaCh = c then some (g, r) else none | none => none)

/-- The channel's function. -/
def State.chFunc (s : State) (c : Nat) : Requester := requesterOf (s.getF (R.dmaChCfg c) 10 8) 0

/-- The channel's completion ring. -/
def State.chRing (s : State) (c : Nat) : Nat := s.getF (R.dmaChCring c) 9 0

/-- Host writes of the channel are answered (R366). -/
def State.wrRsp (s : State) (c : Nat) : Bool := s.bit (R.dmaChCfg c) 6

/-- The 64 octets of the shadow set; CRC bytes read 0. -/
def State.shadowSet (s : State) (c : Nat) : List Byte := slice (s.rdBytes (R.dmaChShadow c) 16) 0 62 ++ [0, 0]

/-- Write the registers that show a set. -/
def State.showSet (s : State) (k : Nat) (b : List Byte) : State := s.wrWords k (wordsOf 16 (slice b 0 64))

/-! ### Fields of a set or descriptor (R367) -/

/-- COUNT -/
def dCount (b : List Byte) : Nat := leAt b 0x18 4
/-- LAST -/
def dLast (b : List Byte) : Bool := (leAt b 0x1C 2).testBit 0
/-- BARRIER -/
def dBarrier (b : List Byte) : Bool := (leAt b 0x1C 2).testBit 1
/-- SRC_DDR -/
def dSrcDdr (b : List Byte) : Bool := (leAt b 0x1C 2).testBit 2
/-- DST_DDR -/
def dDstDdr (b : List Byte) : Bool := (leAt b 0x1C 2).testBit 3
/-- CHK -/
def dChk (b : List Byte) : Nat := leAt b 0x1C 2 / 16 % 4
/-- NEXT -/
def dNext (b : List Byte) : Nat := leAt b 0x10 8

/-- Where octet `i` of a transfer from `a` stands, `w` being the log2 of a circular buffer's size or 0 (R368). -/
def circAt (a w i : Nat) : Nat := if w = 0 then a + i else a - a % 2 ^ w + (a % 2 ^ w + i) % 2 ^ w

/-- The octets a transfer touches: first and how many. -/
def spanOf (a w n : Nat) : Nat × Nat :=
  if w = 0 ∨ a % 2 ^ w + n ≤ 2 ^ w then (a, n) else (a - a % 2 ^ w, 2 ^ w)

/-- Octets `a` to `a + n - 1` lie in one region of an allowed kind. -/
def State.inRegion (s : State) (kinds : List Nat) (sp : Nat × Nat) : Bool :=
  s.im.regions.any (fun r => kinds.contains r.kind && decide (r.base ≤ sp.1) && decide (sp.1 + sp.2 ≤ r.base + r.size))

/-- The check of R369; a descriptor also has its CRC, TAG 0 and a COUNT. A transfer of no octets lies in any region. -/
def State.setOk (s : State) (desc : Bool) (b : List Byte) : Bool :=
  let sw := leAt b 0x28 1
  let dw := leAt b 0x29 1
  let wrapOk := fun (w : Nat) => w == 0 || (decide (12 ≤ w) && decide (w ≤ 32))
  allZero (slice b 0x2A 20) && leAt b 0x1C 2 / 64 == 0 && decide (dChk b ≠ 3) && wrapOk sw && wrapOk dw &&
  (dLast b || dNext b % 64 == 0) && (dChk b == 0 || leAt b 0x20 8 % 4 == 0) &&
  (!dSrcDdr b || dCount b == 0 || s.inRegion [0, 1, 4] (spanOf (leAt b 0 8) sw (dCount b))) &&
  (!dDstDdr b || dCount b == 0 || s.inRegion [4] (spanOf (leAt b 8 8) dw (dCount b))) &&
  (!desc || (entryCrc b && leAt b 0x1E 2 == 0 && decide (1 ≤ dCount b)))

/-- STRIDE_LOG2 of a pane channel. -/
def State.stride (s : State) (c : Nat) : Nat := s.getF (R.dmaChPane c) 4 0

/-- The check of a set: R369, and R382 in pane mode. -/
def State.chSetOk (s : State) (c : Nat) (b : List Byte) : Bool :=
  s.setOk false b &&
  (!s.isPaneCh c ||
    (match s.chGroup c with
     | some (g, _) =>
       let dw := leAt b 0x29 1
       leAt b 0 8 == 0 && dNext b == 0 && dCount b == 0 && leAt b 0x20 8 == 0 && leAt b 0x28 1 == 0 && leAt b 0x1C 2 == 0 &&
       decide (6 ≤ s.stride c) && decide (s.stride c ≤ dw) && leAt b 8 8 % 2 ^ dw == 0 &&
       decide (s.rdN (R.przPgSlotBytes g) ≤ 2 ^ s.stride c)
     | none => false))

/-- A set is empty: nothing loaded, or COUNT 0 with LAST 1 (R369). -/
def setEmpty (b : Option (List Byte)) : Bool :=
  match b with
  | none => true
  | some b => dCount b == 0 && dLast b

/-! ### Swaps (R373) -/

/-- Shadow and active set are exchanged; the shadow is no longer armed. -/
def State.swapSets (s : State) (c : Nat) : State :=
  let old := (s.chan c).loaded.getD []
  let new := s.shadowSet c
  let s1 := (s.setChan c { s.chan c with loaded := some new }).showSet (R.dmaChShadow c) old
  let s2 := if (s.chan c).run.isNone then s1.showSet (R.dmaChActive c) new else s1
  s2.setBit (R.dmaChStatus c) 8 false

/-! ### Starting a run (R372, R383) -/

/-- A pane is dropped (R383). -/
def State.dropPane (s : State) (c : Nat) : State :=
  let h := s.getF (R.dmaChCfg c) 8 8
  let u := match s.chGroup c with | some (g, _) => [Cu.pg g] | none => []
  ((s.inc (R.dmaChPaneDrop c)).inc (R.dmaPaneDropLink h)).raise Src.paneDrop u

/-- Drop `n` panes. -/
def State.dropPanes (s : State) (c n : Nat) : State := forEach (List.replicate n ()) (fun _ x => x.dropPane c) s

/-- A run that begins with a set. -/
def newRun (id : Nat) (b : List Byte) (limit : Nat) (late : Bool) (deadline : Time) : DmaRun :=
  ⟨id, b, b, 0, limit, 0, 0, [], .move, 0, 0xFFFFFFFF#32, 0, none, false, late, false, deadline, none, [], 0, 0, false, 0,
    false⟩

/-- The panes a run takes: sealed since the last one taken, at most BACKLOG of them, and how many are dropped (R383). -/
def State.takePanes (s : State) (c : Nat) : Nat × List Nat :=
  match s.chGroup c with
  | none => (0, [])
  | some (g, _) =>
    let lo := max (s.chan c).nextPane (s.group g).first
    let n := (s.group g).nextSeal - lo
    let b := min 16 (max 1 (s.getF (R.dmaChPane c) 12 8))
    (n - b, ((List.range (min n b)).map (fun k => lo + (n - b) + k)))

/-- The read of the next descriptor of a chain: 64 aligned octets (R374). It waits while its function is in D3hot (R499). -/
def State.fetchDesc (s : State) (c : Nat) (b : List Byte) : State :=
  if s.inD3 (s.chFunc c) then s else s.emit (.hostRead (s.chFunc c) (dNext b) 64)

/-- A trigger that finds no set to run is ignored and counted (R372). -/
def State.ignoreTrigger (s : State) (c : Nat) : State :=
  (((s.setBit (R.dmaChStatus c) 9 false).setChan c { s.chan c with pendLate := false }).inc (R.dmaChTrigIgnored c))

/-- Start a run of the active set when a completion slot can be reserved for it; else the trigger stays pending (R349). Its
deadline counts from the instant of its trigger (R384). -/
def State.tryStart (s : State) (c : Nat) : State :=
  let x := s.chan c
  match x.loaded with
  | none => s.ignoreTrigger c
  | some b =>
    if setEmpty (some b) then s.ignoreTrigger c
    else if !s.canReserve (s.chRing c) 1 then s.stall (s.chRing c)
    else
      let s1 := ((s.reserve (s.chRing c) 1).setCh c Ch.run).setBit (R.dmaChStatus c) 9 false
      let s2 := ((s1.inc (R.dmaChRuns c)).wrN (R.dmaChCurHop c) 0).showSet (R.dmaChActive c) b
      let r := newRun x.nextRun b (max 1 (s.getF (R.dmaChHopLimit c) 15 0)) x.pendLate (x.pendAt + s.period)
      let p := if s.isPaneCh c then s.takePanes c else (0, [])
      let r1 := { r with panes := p.2, dropped := p.1, phase := if !s.isPaneCh c ∧ dCount b = 0 then .fetch else .move }
      let y := { s2.chan c with
        run := some r1, pendLate := false, nextRun := x.nextRun + 1,
        nextPane := match p.2 with | t :: _ => t | [] => x.nextPane }
      let s3 := (s2.setChan c y).dropPanes c p.1
      if r1.phase = .fetch then s3.fetchDesc c b else s3

/-- A trigger of kind `kind` reaches channel `c` (R372). -/
def State.trigger (s : State) (c kind : Nat) (late : Bool) : State :=
  let st := s.chState c
  let x := s.chan c
  if s.getF (R.dmaChCfg c) 3 2 ≠ kind ∨ (st ≠ Ch.idle ∧ st ≠ Ch.run) ∨ setEmpty x.loaded then s.inc (R.dmaChTrigIgnored c)
  else if s.trigPend c then (s.setChan c { x with pendLate := x.pendLate || late }).inc (R.dmaChTrigMerged c)
  else
    let s1 := (s.setBit (R.dmaChStatus c) 9 true).setChan c { x with pendLate := late, pendAt := s.srcNow }
    if st = Ch.idle then s1.tryStart c else s1

/-- Channel `c` enters IDLE: a pending trigger starts the next run, and under CONTINUOUS the entry is a trigger. -/
def State.enterIdle (s : State) (c : Nat) : State :=
  let s1 := s.setCh c Ch.idle
  if s1.trigPend c then s1.tryStart c
  else if s1.getF (R.dmaChCfg c) 3 2 = Trig.continuous ∧ !setEmpty (s1.chan c).loaded then s1.trigger c Trig.continuous false
  else s1

/-! ### The end of a run (R376, R378, R379, R381) -/

/-- INFO of a run's record (R381). -/
def dmaInfo (pane : Bool) (r : DmaRun) : Nat :=
  if pane then r.lastTick % 2 ^ 32 + min 15 r.delivered * 2 ^ 32 + min 15 r.dropped * 2 ^ 36 + r.late.toNat * 2 ^ 40 +
    r.abandoned.toNat * 2 ^ 41
  else r.hop % 65536 + r.chkWritten.toNat * 2 ^ 16 + r.late.toNat * 2 ^ 17 + r.swapped.toNat * 2 ^ 18

/-- The source a run's end with `code` raises (R385). -/
def dmaSource (code : Nat) : Option Nat :=
  if code = Code.hostRd then some Src.dmaHostRd
  else if code = Code.check then some Src.dmaCheck
  else if code = Code.hostWr then some Src.dmaHostWr
  else if code = Code.wrErrLast then some Src.dmaWrLast
  else if code = Code.loop then some Src.dmaLoop
  else none

/-- A record of channel `c` falls due: LAST_CPL, and the source of its status. -/
def State.chRecord (s : State) (c tag code info : Nat) (amend : Bool) : State :=
  let s1 := (s.record ⟨s.chRing c, tag, code, c, amend, info, none⟩).setF (R.dmaChStatus c) 23 16 code
  match dmaSource code with
  | some src => s1.raise src []
  | none => s1

/-- An OK record of channel `c` triggers the channels chained to it (R372). -/
def State.chainFrom (s : State) (c : Nat) : State :=
  forEach (List.range 256) (fun d x =>
    if x.getF (R.dmaChCfg d) 3 2 = Trig.chain ∧ x.getF (R.dmaChCfg d) 23 16 = c then x.trigger d Trig.chain false else x) s

/-- Bursts of a channel that are in flight. -/
def ChanSt.inFlight (x : ChanSt) : Nat :=
  x.unanswered.length + (match x.run with | some r => r.bursts.length | none => 0)

/-- A pane channel takes pane mode and its function (R382). -/
def State.paneMode (s : State) (c link : Nat) : State := (s.setF (R.dmaChCfg c) 1 0 1).setF (R.dmaChCfg c) 10 8 link

/-- Every register of channel `c` returns to its reset value, its sets and bursts are gone, and it is OFF. -/
def State.wipeAll (s : State) (c : Nat) : State :=
  let lo := R.dmaChCtl c
  let x := s.chan c
  let n := x.inFlight
  let held := if x.leaving then 0 else (match x.run with | some _ => 1 | none => 0) + x.past.length
  let used := (match x.run with | some r => (r.bursts.map (·.len)).foldl (· + ·) 0 | none => 0) +
    (x.unanswered.map (·.len)).foldl (· + ·) 0
  let s1 := (s.wrN R.dmaBufUsed (s.rdN R.dmaBufUsed - used)).setF R.dmaBursts 9 0 (s.getF R.dmaBursts 9 0 - n)
  let s2 := (s1.unreserve (s.chRing c) held).dropReqs (fun r => decide (r.kind = .dmaSet c))
  (forEach (s2.listed lo (lo + 0x100)) (fun k y => y.wr k (regReset k)) s2).setChan c (chanInit c)

/-- A channel that a re-plan or a function-level reset stops is OFF at its reset values; after a function-level reset a pane
channel keeps pane mode and its function (R380). -/
def State.wipeCh (s : State) (c : Nat) : State :=
  if s.isPaneCh c && s.planState != PS.rebuilding then (s.wipeAll c).paneMode c (s.getF (R.dmaChCfg c) 10 8) else s.wipeAll c

/-- The run of channel `c` ends with `code` and its record; a channel that is leaving is OFF without one. `two`: a second slot is
kept for an amending record. -/
def State.finishRun (s : State) (c : Nat) (r : DmaRun) (code : Nat) (two : Bool) : State :=
  if (s.chan c).leaving then s.wipeCh c
  else
  let info := dmaInfo (s.isPaneCh c) r
  let tag := leAt r.set 0x1E 2
  let x := s.chan c
  let past := if two then x.past ++ [⟨r.id, tag, info⟩] else x.past
  let s1 := (s.setChan c { x with run := none, past := past }).chRecord c tag code info false
  let s2 := if s.chState c = Ch.stopping ∨ code ≠ Code.ok then s1.setCh c Ch.stopped else s1.enterIdle c
  if code = Code.ok then s2.chainFrom c else s2

/-- Writes of the run that are not answered. -/
def ChanSt.open (x : ChanSt) (r : DmaRun) : Bool := x.unanswered.any (fun w => w.run == r.id)

/-- Replace the run of channel `c`. -/
def State.setRun (s : State) (c : Nat) (r : DmaRun) : State := s.setChan c { s.chan c with run := some r }

/-- The buffer a finished burst held is free (R362). -/
def State.freeBurst (s : State) (len : Nat) : State :=
  (s.wrN R.dmaBufUsed (s.rdN R.dmaBufUsed - len)).setF R.dmaBursts 9 0 (s.getF R.dmaBursts 9 0 - 1)

/-- A data write of channel `c` to host memory: posted, or deferrable under WR_RSP (R366). Only a copy channel's carries relaxed
ordering, under QM.CFG.RO_DATA (R350, R364). -/
def State.dmaWrite (s : State) (c a : Nat) (b : List Byte) : State :=
  s.emit (.hostWrite (s.chFunc c) a b (!s.isPaneCh c && rbit (s.inForce R.qmCfg) 0) (s.wrRsp c))

/-- Write the check value of the current descriptor (R377), never with relaxed ordering (R364). -/
def State.writeChk (s : State) (c : Nat) (r : DmaRun) : State :=
  match r.chkDue with
  | none => s
  | some (a, v) =>
    let s1 := s.emit (.hostWrite (s.chFunc c) a (leBytes 4 v) false (s.wrRsp c))
    let y := s1.chan c
    let y1 := if s.wrRsp c then { y with unanswered := y.unanswered ++ [⟨r.id, 0⟩] } else y
    s1.setChan c { y1 with run := some { r with chkDue := none, chkWritten := true } }

/-- Everything before the record of a run whose count has ended (R376). -/
def State.tryAwait (s : State) (c : Nat) : State :=
  match (s.chan c).run with
  | some r =>
    if r.phase ≠ .await ∨ (s.chan c).open r then s
    else
      let s1 := if r.status = 0 then s.writeChk c r else s
      (match (s1.chan c).run with
       | some r1 => if (s1.chan c).open r1 then s1 else s1.finishRun c r1 r1.status false
       | none => s1)
  | none => s

/-- A run that an error or a stop ended finishes once its bursts have (R378). -/
def State.tryDrain (s : State) (c : Nat) : State :=
  match (s.chan c).run with
  | some r => if r.phase = .drain ∧ r.bursts.isEmpty ∧ !(s.chan c).open r then s.finishRun c r r.status false else s
  | none => s

/-- The last data write of the run has been issued: the end of its count (R373, R376). `err`: that write was answered with
an error on this edge (R379). -/
def State.endCount (s : State) (c : Nat) (r : DmaRun) (err : Bool) : State :=
  let swap := s.armed c && !s.swapAtLanding c && s.chState c == Ch.run
  let s1 := s.setRun c { r with swapped := swap }
  let s2 := if swap then s1.swapSets c else s1
  let s3 := if dBarrier r.cur then s2 else (match (s2.chan c).run with | some q => s2.writeChk c q | none => s2)
  match (s3.chan c).run with
  | none => s3
  | some q =>
    let left := (s3.chan c).open q
    if (s3.chan c).leaving then (s3.setRun c { q with phase := .drain, status := Code.aborted }).tryDrain c
    else if err then (s3.setRun c { q with phase := .await, status := Code.wrErrLast, chkDue := none }).tryAwait c
    else if dBarrier r.cur || (left && !s3.canReserve (s3.chRing c) 1) then (s3.setRun c { q with phase := .await }).tryAwait c
    else (if left then s3.reserve (s3.chRing c) 1 else s3).finishRun c q Code.ok left

/-- The next step after a descriptor or set that does not end the count (R374, R378). -/
def State.nextDesc (s : State) (c : Nat) (r : DmaRun) : State :=
  if s.chState c = Ch.stopping then (s.setRun c { r with phase := .drain, status := Code.aborted })
  else if 1 ≤ r.hop ∧ r.limit ≤ r.hop then (s.setRun c { r with phase := .drain, status := Code.loop })
  else (s.setRun c { r with phase := .fetch }).fetchDesc c r.cur

/-- After a descriptor or set with BARRIER that does not end the count: its check value is written, and the next one begins,
once every earlier write of the run is answered, that of the check value included (R376, R377). -/
def State.passBarrier (s : State) (c : Nat) (r : DmaRun) : State :=
  if (s.chan c).open r then s.setRun c { r with phase := .barrier }
  else
    let s1 := (s.setRun c r).writeChk c r
    match (s1.chan c).run with
    | some q => if (s1.chan c).open q then s1.setRun c { q with phase := .barrier } else s1.nextDesc c q
    | none => s1

/-- An error ends the run of channel `c` (R378): one that stopped already for an error keeps its status. -/
def State.failRun (s : State) (c : Nat) (r : DmaRun) (code : Nat) : State :=
  let s1 := s.setRun c (if r.phase = .drain ∧ r.status ≠ Code.aborted then r else { r with phase := .drain, status := code, pane := none, panes := [] })
  (s1.setCh c Ch.stopping).tryDrain c

/-- The check value of the current descriptor: address and value (R377). -/
def DmaRun.check (r : DmaRun) : Option (Nat × Nat) :=
  let y := r.sum % 65536 + r.sum / 65536 % 65536 + r.sum / 2 ^ 32
  let z := y % 65536 + y / 65536
  match dChk r.cur with
  | 1 => some (leAt r.cur 0x20 8, (r.crc ^^^ 0xFFFFFFFF#32).toNat)
  | 2 => some (leAt r.cur 0x20 8, 65535 - (z % 65536 + z / 65536))
  | _ => none

/-- The current set or descriptor has issued its last write. -/
def State.descDone (s : State) (c : Nat) (r : DmaRun) : State :=
  let r1 := { r with chkDue := r.check, chkWritten := false }
  if dLast r.cur then s.endCount c { r1 with status := 0 } (r.status == Code.wrErrLast)
  else if dBarrier r.cur then s.passBarrier c r1
  else
    let s1 := (s.setRun c r1).writeChk c r1
    (match (s1.chan c).run with | some q => s1.nextDesc c q | none => s1)

/-! ### Writing bursts (R364, R366) -/

/-- Add octets, standing from offset `o` on, to a ones' complement sum of 16-bit words. -/
def sumFrom (o n : Nat) : List Byte → Nat
  | [] => n
  | b :: t => sumFrom (o + 1) (n + if o % 2 = 0 then 256 * b.toNat else b.toNat) t

/-- Show live addresses and remaining count in the active registers. -/
def State.showLive (s : State) (c : Nat) (r : DmaRun) : State :=
  let k := R.dmaChActive c
  let src := circAt (leAt r.cur 0 8) (leAt r.cur 0x28 1) r.done
  let dst := circAt (leAt r.cur 8 8) (leAt r.cur 0x29 1) r.done
  ((s.showSet k r.cur).wrWords k (wordsOf 4 (leBytes 8 src ++ leBytes 8 dst))).wrN (k + 0x18) (dCount r.cur - r.done)

/-- The writes of burst `b` with its data are issued. -/
def State.writeBurst (s : State) (c : Nat) (r : DmaRun) (b : DmaBurst) (d : List Byte) : State × Bool :=
  let r1 := { r with
    done := r.done + b.len,
    bursts := r.bursts.drop 1,
    crc := d.foldl crc32cByte r.crc,
    sum := sumFrom b.ofs r.sum d }
  let toDdr := !s.isPaneCh c && dDstDdr r.cur
  let bad := toDdr && s.badPartial b.dst b.len
  let s1 := if toDdr then s.ddrWrite b.dst d else s.dmaWrite c b.dst d
  let s2 := (s1.inc64By (R.dmaChBytes c) b.len).setRun c r1
  let s3 := if s.isPaneCh c then s2 else s2.showLive c r1
  if !toDdr && s.wrRsp c then
    (s3.setChan c { s3.chan c with unanswered := (s3.chan c).unanswered ++ [⟨r.id, b.len⟩] }, bad)
  else (s3.freeBurst b.len, bad)

/-- Bursts at the front whose data has arrived are written, in transfer order. -/
def State.flushBursts (s : State) (c : Nat) : Nat → State
  | 0 => s
  | n + 1 =>
    match (s.chan c).run with
    | none => s
    | some r =>
      match r.bursts with
      | [] => s
      | b :: _ =>
        match b.data with
        | none => s
        | some d =>
          let w := s.writeBurst c r b d
          let s1 := if w.2 then
              (match (w.1.chan c).run with
               | some q =>
                 if q.phase = .move ∧ q.done = dCount q.cur ∧ dLast q.cur then w.1.setRun c { q with status := Code.wrErrLast }
                 else w.1.failRun c q Code.hostWr
               | none => w.1)
            else w.1
          s1.flushBursts c n

/-- What stands after the bursts were written: the end of a descriptor, or of a run that drains. -/
def State.settleRun (s : State) (c : Nat) : State :=
  match (s.chan c).run with
  | none => s
  | some r =>
    if r.phase = .drain then s.tryDrain c
    else if r.phase = .move ∧ !s.isPaneCh c ∧ r.bursts.isEmpty ∧ r.done = dCount r.cur then
      (s.descDone c r).tryDrain c
    else s

end Sys2Proof.Machine
end

