-- ==== Sys2Proof/Machine/DmaCmd.lean ====
section
/-! DEFINITION. The commands and events of the DMA channels, pane delivery, and function-level resets
(R357, R371 to R384, R396). -/

namespace Sys2Proof.Machine

/-! ### Commands (R371) -/

/-- ENABLE may succeed: FUNC is a function, CRING an enabled ring of it that no submission queue names. -/
def State.chRingOk (s : State) (c : Nat) : Bool :=
  let f := s.getF (R.dmaChCfg c) 10 8
  let r := s.chRing c
  (f == 0 || f == 1 || f == 7) && s.crEnabled r &&
  (match s.cr? r with | some x => x.func == f && x.vf == 0 | none => false) && (s.queuesOf r).isEmpty

/-- A command of channel `c` reaches it. -/
def State.dmaCommand (s : State) (req : Requester) (c : Nat) (f : State → State) : State :=
  s.guarded req (R.dmaChCtl c) (fun s => if c < 256 then f s else s)

/-- Both sets become empty, the shadow unarmed. -/
def State.emptySets (s : State) (c : Nat) : State :=
  let s1 := (s.dropReqs (fun r => decide (r.kind = .dmaSet c))).setChan c { s.chan c with loaded := none }
  ((s1.showSet (R.dmaChActive c) []).showSet (R.dmaChShadow c) []).setBit (R.dmaChStatus c) 8 false

/-- ENABLE (R371). It would empty a shadow that a swap request owns: then it completes with STATE (R74). -/
def execDmaEnable (req : Requester) (c : Nat) (s : State) : Answer :=
  .next (s.dmaCommand req c (fun s =>
    let k := R.dmaChStatus c
    if s.chState c ≠ Ch.off ∨ s.requested (.dmaSet c) then s.result k Code.state
    else if !s.chRingOk c then s.result k Code.check
    else
      let next := match s.chGroup c with | some (g, _) => (s.group g).nextSeal | none => 0
      let s1 := s.emptySets c
      ((s1.setChan c { s1.chan c with nextPane := next }).setCh c Ch.idle).result k Code.ok))

/-- COMMIT (R371, R373): the shadow is armed; at SWAP_AT COUNT it swaps at once while the channel is IDLE, at LANDING it is
a next-landing request. At COUNT the swap would change a shadow that a request owns: then it completes with STATE (R74). -/
def execDmaCommit (req : Requester) (c : Nat) (s : State) : Answer :=
  .next (s.dmaCommand req c (fun s =>
    let k := R.dmaChStatus c
    if (s.chState c ≠ Ch.idle ∧ s.chState c ≠ Ch.run) ∨ s.armed c ∨ (s.requested (.dmaSet c) ∧ s.swapAtLanding c = false) then
      s.result k Code.state
    else if !s.chSetOk c (s.shadowSet c) then s.result k Code.check
    else
      let s1 := s.setBit k 8 true
      (if s.swapAtLanding c then s1.requestNext (.dmaSet c)
       else if s.chState c = Ch.idle then s1.swapSets c else s1).result k Code.ok))

/-- Channel `c` stops at the next boundary of its run, which is now when only a fetch is under way (R378). -/
def State.stopRun (s0 : State) (c : Nat) : State :=
  let s := s0.setCh c Ch.stopping
  match (s.chan c).run with
  | some r => if r.phase = .fetch then (s.setRun c { r with phase := .drain, status := Code.aborted }).tryDrain c else s
  | none => s

/-- STOP (R371, R378). -/
def execDmaStop (req : Requester) (c : Nat) (s : State) : Answer :=
  .next (s.dmaCommand req c (fun s =>
    let k := R.dmaChStatus c
    if s.chState c = Ch.idle then (s.setCh c Ch.stopped).result k Code.ok
    else if s.chState c = Ch.run then (s.result k Code.ok).stopRun c
    else s.result k Code.state))

/-- CLEAR (R371). -/
def execDmaClear (req : Requester) (c : Nat) (s : State) : Answer :=
  .next (s.dmaCommand req c (fun s =>
    let k := R.dmaChStatus c
    if s.chState c ≠ Ch.stopped then s.result k Code.state
    else
      let s1 := (s.setBit k 9 false).setChan c { s.chan c with pendLate := false }
      ((s1.showSet (R.dmaChActive c) ((s.chan c).loaded.getD [])).result k Code.ok).enterIdle c))

/-- DISABLE (R371). It would empty a shadow that a swap request owns: then it completes with STATE (R74). -/
def execDmaDisable (req : Requester) (c : Nat) (s : State) : Answer :=
  .next (s.dmaCommand req c (fun s =>
    let k := R.dmaChStatus c
    if (s.chState c ≠ Ch.idle ∧ s.chState c ≠ Ch.stopped) ∨ s.requested (.dmaSet c) then s.result k Code.state
    else (((s.emptySets c).setBit k 9 false).setCh c Ch.off).result k Code.ok))

/-- A reserved DMA command code completes with STATE (R371). -/
def execDmaCmdReserved (req : Requester) (c : Nat) (s : State) : Answer :=
  .next (s.dmaCommand req c (fun s => s.result (R.dmaChStatus c) Code.state))

/-- Pane `t` is no longer waiting. -/
def State.panePast (s : State) (c t : Nat) : State := s.setChan c { s.chan c with nextPane := max (s.chan c).nextPane (t + 1) }

/-- A pane run whose deadline has come: the pane being delivered is abandoned, the ones not started are dropped (R384). -/
def State.missDeadline (s : State) (c : Nat) (r : DmaRun) : State :=
  let s1 := (s.hwSet R.tickOvrCause 3).raise Src.tickOverrun []
  let cur := r.pane.isSome
  let s2 := if cur then (s1.inc (R.dmaChPaneAbandon c)).dropPane c else s1
  let s3 := forEach r.bursts (fun b x => x.freeBurst b.len) (s2.dropPanes c r.panes.length)
  let last := match r.panes.getLast? with | some t => some t | none => r.pane
  let s4 := match last with | some t => s3.panePast c t | none => s3
  s4.finishRun c { r with bursts := [], pane := none, panes := [], abandoned := cur, dropped := r.dropped + cur.toNat +
    r.panes.length } Code.ok false

/-- The deadline of a run is applied before a trigger on the same edge (R384). -/
def State.triggerAfter (s : State) (c kind : Nat) (late : Bool) : State :=
  match (s.chan c).run with
  | none => s.trigger c kind late
  | some r =>
    if s.isPaneCh c ∧ r.phase = .move ∧ r.deadline ≤ s.srcNow then (s.missDeadline c r).trigger c kind late
    else s.trigger c kind late

/-- DMA_DOORBELL: a write of DMA.CH[c].DB (R372). -/
def execDmaDoorbell (req : Requester) (c : Nat) (s : State) : Answer :=
  .next (s.guarded req (R.dmaChDb c) (fun s => if c < 256 then s.triggerAfter c Trig.doorbell false else s))

/-! ### Panes as delivered (R384, R396) -/

/-- Octets `a` to `a + n - 1` of a pane lie in an uncorrectable block. -/
def State.lostAt (s : State) (a n : Nat) : Bool := s.badRead a n

/-- The quality of a sample delivered as missing: 0x21, or 0xA1 with HALL_UNLOCKED. -/
def lostQual (unlocked : Bool) : Nat := 0x21 + unlocked.toNat * 128

/-- A resampled record at address `a` as delivered, and whether anything of it was replaced (R396). -/
def State.fixOut (s : State) (a sh nch spt : Nat) (unl : Bool) (b : List Byte) : List Byte × Bool :=
  let n := nch * spt
  let q : Byte := BitVec.ofNat 8 (lostQual unl)
  if s.lostAt a 8 then
    let body := leBytes 2 sh ++ leBytes 1 nch ++ [1] ++ leBytes 2 (min 65535 n) ++ [0, 0] ++ List.replicate (4 * n) 0 ++
      List.replicate n q
    (body ++ List.replicate (b.length - body.length) 0, true)
  else
    let lost := (List.range n).filter (fun i => s.lostAt (a + 8 + 4 * i) 4 || s.lostAt (a + 8 + 4 * n + i) 1)
    if lost.isEmpty then (b, false)
    else
      let c := forEach lost (fun i (d : List Byte) => patch (patch d (8 + 4 * i) [0, 0, 0, 0]) (8 + 4 * n + i) [q]) b
      (patch c 3 [BitVec.ofNat 8 (leAt b 3 1 / 2 * 2 + 1)], true)

/-- A raw record at address `a` as delivered (R396). -/
def State.fixRaw (s : State) (a sh nch : Nat) (b : List Byte) : List Byte × Bool :=
  if s.lostAt a 8 then
    let head := leBytes 2 sh ++ leBytes 1 nch ++ [0, 0, 0, 0, 0]
    (head ++ List.replicate (b.length - 8) 0, true)
  else
    let e := rawEntry nch
    let lost := (List.range ((b.length - 8) / max 1 e)).filter (fun i => s.lostAt (a + 8 + e * i) e)
    if lost.isEmpty then (b, false)
    else
      let c := forEach lost (fun i (d : List Byte) => patch d (8 + e * i) (List.replicate e 0)) b
      (patch c 3 [BitVec.ofNat 8 (leAt b 3 1 / 2 * 2 + 1)], true)

/-- The records of the pane of tick `t` as delivered, and whether anything was replaced. -/
def State.paneRecords (s : State) (g t : Nat) (r : PgRec) : List Byte × Bool :=
  let base := s.slotAt g t
  let unl := (leAt (s.memRead base 64) 10 2).testBit 1
  let sizes := s.im.recSizes (to32 s.period) r
  forEach (List.range r.members.length) (fun j (acc : List Byte × Bool) =>
    let a := base + s.recOfs r j
    let b := s.memRead a (sizes.getD j 0)
    let m := r.members.getD j (0, 0)
    let n := (outChans m.2).length
    let x := if r.raw then s.fixRaw a m.1 n b else s.fixOut a m.1 n r.spt unl b
    (acc.1 ++ x.1, acc.2 || x.2)) ([], false)

/-- Octets of the records of a group's pane. -/
def State.paneLen (s : State) (r : PgRec) : Nat := (s.im.recSizes (to32 s.period) r).foldl (· + ·) 0

/-- The slot of the pane of tick `t` has been reused (R291). -/
def State.slotReused (s : State) (g t : Nat) : Bool :=
  let d := s.rdN (R.przPgDepth g)
  decide (t + d < (s.group g).nextSeal) || (s.group g).panes.any (fun p => decide (t + d ≤ p.tick))

/-- Host address of the pane of tick `t` (R382). -/
def State.paneDst (s : State) (c : Nat) (r : DmaRun) (t : Nat) : Nat :=
  leAt r.set 8 8 + t % 2 ^ (leAt r.set 0x29 1 - s.stride c) * 2 ^ s.stride c

/-- Take the next pane of a run, dropping those whose slots are gone; with none left the run ends (R383, R378). -/
def State.nextPaneOf (s : State) (c g : Nat) : Nat → State
  | 0 => s
  | n + 1 =>
    match (s.chan c).run with
    | none => s
    | some r =>
      match r.panes with
      | [] => s.finishRun c r Code.ok false
      | t :: rest =>
        if s.chState c = Ch.stopping then s.finishRun c r Code.aborted false
        else if s.slotReused g t || s.badRead (s.slotAt g t) 64 then
          let s1 := (if s.slotReused g t then s else s.ueReport (s.slotAt g t) 64).dropPane c
          ((s1.setRun c { r with panes := rest, dropped := r.dropped + 1 }).panePast c t).nextPaneOf c g n
        else s.setRun c { r with panes := rest, pane := some t, ofs := 0, patched := false }

/-! ### Bursts (R362, R363) -/

/-- Put a burst in flight. A host source is read in whole 64-octet blocks (R365). -/
def State.addBurst (s : State) (c : Nat) (r : DmaRun) (b : DmaBurst) : State :=
  let s1 := (s.wrN R.dmaBufUsed (s.rdN R.dmaBufUsed + b.len)).setF R.dmaBursts 9 0 (s.getF R.dmaBursts 9 0 + 1)
  let s2 := s1.setRun c { r with ofs := b.ofs + b.len, bursts := r.bursts ++ [b] }
  if s.isPaneCh c || dSrcDdr r.cur then s2
  else s2.emit (.hostRead (s.chFunc c) (b.src / 64 * 64) ((b.src % 64 + b.len + 63) / 64 * 64))

/-- Channel `c` holds fewer bursts in flight than its BURST_MAX (R363). -/
def State.burstLeft (s : State) (c : Nat) : Bool := decide ((s.chan c).inFlight < max 1 (s.getF (R.dmaChCfg c) 31 24))

/-- The engine may put a burst of `n` octets of channel `c` in flight (R362, R363). -/
def State.burstRoom (s : State) (c n : Nat) : Bool :=
  decide (s.rdN R.dmaBufUsed + n ≤ 4 * 2 ^ 20) && decide (s.getF R.dmaBursts 9 0 < 512) && s.burstLeft c

/-- The next burst of a copy run: it ends at the 4,096-octet boundaries of both sides, where a circular buffer also wraps
(R362, R368). -/
def State.copyBurst (s : State) (c : Nat) (r : DmaRun) : Option DmaBurst :=
  let src := circAt (leAt r.cur 0 8) (leAt r.cur 0x28 1) r.ofs
  let dst := circAt (leAt r.cur 8 8) (leAt r.cur 0x29 1) r.ofs
  let n := min (dCount r.cur - r.ofs) (min (4096 - src % 4096) (4096 - dst % 4096))
  let host := !dSrcDdr r.cur || !dDstDdr r.cur
  if r.phase ≠ .move ∨ n = 0 ∨ (host && s.inD3 (s.chFunc c)) then none
  else some ⟨r.hop, r.ofs, n, src, dst, none⟩

/-- The next burst of a pane run: the OPEN header, the records, and last the final header, once every other write was issued
and, under WR_RSP, answered (R384). -/
def State.paneBurst (s : State) (c g : Nat) (p : PgRec) (r : DmaRun) (t : Nat) : Option DmaBurst :=
  let base := s.slotAt g t
  let dst := s.paneDst c r t
  let total := 64 + s.paneLen p
  if r.phase ≠ .move ∨ s.inD3 (s.chFunc c) then none
  else if r.ofs = 0 then some ⟨0, 0, 64, base, dst, some (openHeader g t p.raw)⟩
  else if r.ofs < total then
    some ⟨0, r.ofs, min (total - r.ofs) (min (4096 - (base + r.ofs) % 4096) (4096 - (dst + r.ofs) % 4096)), base + r.ofs,
      dst + r.ofs, none⟩
  else if r.ofs = total ∧ r.bursts.isEmpty ∧ !(s.chan c).open r then some ⟨1, total, 64, base, dst, none⟩
  else none

/-- The next burst of the run of channel `c`. -/
def State.nextBurst (s : State) (c : Nat) (r : DmaRun) : Option DmaBurst :=
  match (if s.isPaneCh c then s.chGroup c else none), r.pane with
  | some (g, p), some t => s.paneBurst c g p r t
  | some _, none => none
  | none, _ => s.copyBurst c r

/-- Channel `c` has a burst to issue, or a pane to begin, and room of its own for it. -/
def State.wantsBurst (s : State) (c : Nat) : Bool :=
  match (s.chan c).run with
  | none => false
  | some r =>
    s.burstLeft c && ((s.nextBurst c r).isSome ||
      (s.isPaneCh c && r.pane.isNone && !r.panes.isEmpty && r.phase == .move && !s.inD3 (s.chFunc c)))

/-- Pane channels and copy channels with TRIG = TICK: the first class of bursts (R363). -/
def State.firstClass (s : State) (c : Nat) : Bool := s.isPaneCh c || s.getF (R.dmaChCfg c) 3 2 == Trig.tick

/-- The turn of channel `c` has come: no channel of the first class waits when it is of the other, and none of its own class
stands before it in the round from the one served last (R363). -/
def State.burstTurn (s : State) (c : Nat) : Bool :=
  let cls := s.firstClass c
  let last := if cls then s.dma.lastFirst else s.dma.lastOther
  let place := fun (d : Nat) => (d + 255 - last) % 256
  ((s.dma.chans.map (·.1)).filter s.wantsBurst).all (fun d =>
    if s.firstClass d = cls then decide (place c ≤ place d) else cls)

/-- Channel `c` was served. -/
def State.served (s : State) (c : Nat) : State :=
  { s with dma := if s.firstClass c then { s.dma with lastFirst := c } else { s.dma with lastOther := c } }

/-- Issue the next burst of channel `c` when it is its turn and there is room. The OPEN header needs no read. -/
def State.issueBurst (s : State) (c : Nat) : State :=
  match (s.chan c).run with
  | none => s
  | some r =>
    match s.nextBurst c r with
    | none => s
    | some b => if s.burstRoom c b.len && s.burstTurn c then ((s.addBurst c r b).served c).flushBursts c 1 else s

/-- DMA_BURST_ISSUE: channel `c` issues its next burst once buffer and burst room allow (R362) and its turn has come (R363); a
run that found no completion slot starts here, and a pane run with nothing left to deliver ends. -/
def execDmaBurstIssue (c : Nat) (s0 : State) : Answer :=
  .next (
    let s := if s0.chState c = Ch.idle ∧ s0.trigPend c then s0.tryStart c else s0
    match (s.chan c).run with
    | none => s
    | some r =>
      match s.chGroup c with
      | some (g, _) =>
        if s.isPaneCh c ∧ r.pane.isNone ∧ r.phase = .move then (s.nextPaneOf c g (r.panes.length + 1)).issueBurst c
        else s.issueBurst c
      | none => s.issueBurst c)

/-- Octets `o` to `o + n - 1` of a pane's delivery: its records as delivered, or its final header. -/
def State.paneData (s : State) (g t : Nat) (p : PgRec) (b : DmaBurst) : List Byte × Bool :=
  if b.hop = 1 then (s.memRead (s.slotAt g t) 64, false)
  else
    let x := s.paneRecords g t p
    (slice x.1 (b.ofs - 64) b.len, x.2 && s.badRead b.src b.len)

/-- The data of burst number `n` of a pane run arrives from DDR4 (R384, R396). -/
def State.paneRead (s0 : State) (c g : Nat) (p : PgRec) (n : Nat) (b : DmaBurst) (t : Nat) (ecc : List EccFind) : State :=
  let s := (s0.eccFound b.src b.len ecc).ueReport b.src b.len
  match (s.chan c).run with
  | none => s
  | some r =>
    if b.hop = 1 && s.badRead b.src 64 then
      ((((s.freeBurst b.len).setRun c { r with bursts := [], pane := none, ofs := 0, dropped := r.dropped + 1 }).panePast c t).dropPane c)
    else
      let d := s.paneData g t p b
      let bs := r.bursts.mapIdx (fun i x => if i = n then { x with data := some d.1 } else x)
      let s1 := (s.setRun c { r with bursts := bs, patched := r.patched || d.2 }).flushBursts c bs.length
      if b.hop = 1 then
        match (s1.chan c).run with
        | some q =>
          let s2 := ((s1.inc (R.dmaChPanes c)).wrN (R.dmaChLastTick c) t).panePast c t
          let s3 := if q.patched then s2.inc R.memUePanes else s2
          s3.setRun c { q with pane := none, ofs := 0, done := 0, delivered := q.delivered + 1, lastTick := t }
        | none => s1
      else s1

/-- DMA_READ_DONE: the data of burst number `n` of channel `c` arrives, oldest first, or its read fails (R365, R378). Host
data comes with the command; DDR4 data is what memory holds, with what its ECC found, in the read of a partial write too
(R394). -/
def execDmaReadDone (c n : Nat) (data : Option (List Byte)) (ecc : List EccFind) (s : State) : Answer :=
  .next (match (s.chan c).run with
    | none => s
    | some r =>
      match r.bursts[n]? with
      | none => s
      | some b =>
        if b.data.isSome then s
        else match (if s.isPaneCh c then s.chGroup c else none), r.pane with
          | some (g, p), some t => s.paneRead c g p n b t ecc
          | _, _ =>
            let part := ecc.filter (fun e => !covers b.dst b.len e.1)
            let s := if dDstDdr r.cur then s.eccFound b.dst b.len part else s
            let x := if dSrcDdr r.cur then s.ddrRead b.src b.len ecc else (s, data.map (fun d => slice d 0 b.len))
            (match x.2 with
             | some d =>
               let bs := r.bursts.mapIdx (fun i y => if i = n then { y with data := some d } else y)
               ((x.1.setRun c { r with bursts := bs }).flushBursts c bs.length).settleRun c
             | none =>
               let s1 := x.1.freeBurst b.len
               ((s1.failRun c { r with bursts := r.bursts.eraseIdx n } Code.hostRd).flushBursts c r.bursts.length).settleRun c))

/-- DMA_DESC_FETCH_DONE: the next descriptor of the chain is read, or its read fails; it is checked at its point of use
(R374, R378). -/
def execDmaDescFetchDone (c : Nat) (data : Option (List Byte)) (s : State) : Answer :=
  .next (match (s.chan c).run with
    | none => s
    | some r =>
      if r.phase ≠ .fetch ∨ s.inD3 (s.chFunc c) then s
      else
        let r1 := { r with hop := r.hop + 1 }
        match data with
        | none => s.failRun c r1 Code.hostRd
        | some d =>
          let b := slice d 0 64
          if !s.setOk true b then s.failRun c r1 Code.check
          else
            let r2 := { r1 with cur := b, ofs := 0, done := 0, crc := 0xFFFFFFFF#32, sum := 0, phase := .move, chkWritten := false }
            ((s.wrN (R.dmaChCurHop c) r1.hop).setRun c r2).showLive c r2)

/-- A write of run `id` was answered with an error after that run was reported (R379): it is amended once. -/
def State.amendRun (s : State) (c : Nat) (p : DmaPast) : State :=
  let x := s.chan c
  let s1 := (s.setChan c { x with past := x.past.filter (fun q => q.run != p.run) }).chRecord c p.tag Code.wrErrLast p.info true
  if s.chState c = Ch.idle then s1.setCh c Ch.stopped
  else if s.chState c = Ch.run then s1.stopRun c else s1

/-- Second slots whose runs have no unanswered write are given back. -/
def State.freePast (s : State) (c : Nat) : State :=
  let x := s.chan c
  let idle := x.past.filter (fun p => !x.unanswered.any (fun w => w.run == p.run))
  (s.setChan c { x with past := x.past.filter (fun p => x.unanswered.any (fun w => w.run == p.run)) }).unreserve (s.chRing c)
    idle.length

/-- DMA_WRITE_RESPONSE: the `n`-th unanswered write of channel `c` is answered, with an error or without (R366, R379). -/
def execDmaWriteResponse (c n : Nat) (err : Bool) (s : State) : Answer :=
  .next (
    let x := s.chan c
    match x.unanswered[n]? with
    | none => s
    | some w =>
      let s1 := s.setChan c { x with unanswered := x.unanswered.eraseIdx n }
      let s2 := if w.len = 0 then s1 else s1.freeBurst w.len
      let s3 :=
        if !err then s2
        else match x.past.find? (fun p => p.run == w.run) with
          | some p => s2.amendRun c p
          | none =>
            (match (s2.chan c).run with
             | some r =>
               if r.id ≠ w.run then s2
               else if r.phase = .await then s2.setRun c { r with status := Code.wrErrLast, chkDue := none }
               else s2.failRun c r Code.hostWr
             | none => s2)
      let s4 := (s3.freePast c).tryAwait c
      match (s4.chan c).run with
      | some r =>
        if r.phase = .barrier then (s4.passBarrier c r).tryDrain c else s4.tryDrain c
      | none => s4)

/-- DMA_RUN_DEADLINE: a pane run reaches its deadline (R384). -/
def execDmaRunDeadline (c : Nat) (s0 : State) : Answer :=
  .next (match (s0.chan c).run with
    | none => s0
    | some r =>
      if !s0.isPaneCh c ∨ r.phase ≠ .move then s0
      else match s0.reach r.deadline with
        | none => s0
        | some s => s.missDeadline c r)

/-! ### Swaps at a landing, re-plans and resets (R373, R380, R357) -/

/-- The request for the set of channel `c` at its landing: swapped, or failed. -/
def State.swapDma (s : State) (c : Nat) (ok : Bool) : State :=
  if ok && s.chState c != Ch.off then s.swapSets c
  else (s.setBit (R.dmaChStatus c) 8 false).raise Src.dmaCheck []

/-- Channel `c` stops without a completion: at once without a run, else at its next descriptor or set boundary, once what it
issued has finished (R61, R378, R380). Its slots and pending triggers are given up now. -/
def State.retireCh (s : State) (c : Nat) : State :=
  let x := s.chan c
  match x.run with
  | none => s.wipeCh c
  | some r =>
    let s1 := ((s.unreserve (s.chRing c) (1 + x.past.length)).dropReqs (fun q => decide (q.kind = .dmaSet c))).setBit
      (R.dmaChStatus c) 9 false
    let r1 := if r.phase = .move then r else { r with phase := .drain, status := Code.aborted }
    ((s1.setChan c { x with leaving := true, past := [], run := some r1 }).setCh c Ch.stopping).tryDrain c

/-- The channels that hold anything. -/
def State.usedChs (s : State) : List Nat :=
  (List.range 256).filter (fun c => s.dma.chans.any (fun e => e.1 == c) ||
    s.regs.any (fun e => decide (R.dmaChCtl c ≤ e.1) && decide (e.1 < R.dmaChCtl c + 0x100)))

/-- L(TARGET) of a re-plan stops every channel (R61, R380). -/
def State.retireDma (s : State) : State := forEach s.usedChs (fun c x => x.retireCh c) s

/-- Every channel is OFF with every register at its reset value (R380). -/
def State.resetDma (s : State) : State := forEach s.usedChs (fun c x => x.wipeAll c) s

/-- A function-level reset reaches queue `q` (R357). -/
def State.flrQueue (s : State) (q : Nat) : State :=
  let x := s.queue q
  let w := forEach x.rxWait (fun _ y => y.rxNoDesc q) s
  let s0 := forEach (x.entries.filter (fun e => e.stage == Stage.onWire)) (fun e z => z.freeRunAhead q e) w
  let s1 := forEach (x.entries.filter (fun e => !e.past)) (fun e z => z.discardEntry q e) s0
  let gone := s1.pwr.held.filter (fun h => h.idx.isSome && h.qid == q)
  let s2 : State := { s1 with pwr := { s1.pwr with held := s1.pwr.held.filter (fun h => h.idx.isNone || h.qid != q) } }
  let freed := gone.length + (x.entries.filter (fun e => e.past && e.slot)).length
  let s3 := (s2.unreserve (s.qRing q) freed).setQueue q (queueInit q)
  let s4 := if x.stopCmd then
      (s3.setBit R.qmStatus 0 (s3.queues.any (fun e => e.2.stopCmd))).answerCmds (R.qmQCfg q) Code.aborted
    else s3
  ((((s4.setQState q QS.off).setF (R.qmQStatus q) 7 4 Stop.flr).clearIdx q).wr64 (R.qmQBase q) 0)

/-- A function-level reset of function `func`, or of one virtual function (R357, R380). -/
def State.flr (s : State) (func vf : Nat) : State :=
  let hit := fun (f v : Nat) => f == func && (vf == 0 || v == vf)
  let qs := (s.im.sqs.filter (fun q => hit q.func q.vf)).map (·.qid)
  let rs := (s.im.crs.filter (fun r => hit r.func r.vf)).map (·.rid)
  let s1 := forEach qs (fun q x => x.flrQueue q) s
  let s2 := forEach rs (fun r x =>
    let y := ((((x.setBit (R.qmCrInfo r) 16 false).setF (R.qmCrHead r) 15 0 0).setF (R.qmCrTail r) 15 0 0).wr64 (R.qmCrBase r) 0)
    y.setReserved r 0) s1
  if vf ≠ 0 then s2
  else
    let cs := (List.range 256).filter (fun c => s.chState c != Ch.off && s.getF (R.dmaChCfg c) 10 8 == func)
    forEach cs (fun c x => x.retireCh c) s2

end Sys2Proof.Machine
end

