-- ==== Sys2Proof/Machine/Actions.lean ====
section
/-! DEFINITION. The tick action table (R77 to R84): arming, the check at the point of use, firing, and the swap-type
actions at a cut-off; and what a step of the tick source does to actions and GOOSE curves (R80, R310). -/

namespace Sys2Proof.Machine

/-! ### Entries (R77) -/

/-- The 16 octets of entry `i`. -/
def State.actBytes (s : State) (i : Nat) : List Byte := s.rdBytes (R.tickAct i) 4

/-- TARGET of an entry. -/
def actTarget (b : List Byte) : Nat := leAt b 0 4
/-- OFFSET_NS of an entry. -/
def actOfs (b : List Byte) : Nat := leAt b 4 3
/-- ACTION of an entry. -/
def actCode (b : List Byte) : Nat := leAt b 7 1
/-- HALL of an entry. -/
def actHall (b : List Byte) : Bool := (leAt b 8 1).testBit 0
/-- REPEAT of an entry. -/
def actRepeat (b : List Byte) : Nat := leAt b 9 1
/-- ARG of an entry. -/
def actArg (b : List Byte) : Nat := leAt b 0xA 4

/-- States of an entry (R84). -/
abbrev ActS.idle : Nat := 0
/-- ARMED -/
abbrev ActS.armed : Nat := 1
/-- FIRED -/
abbrev ActS.fired : Nat := 2
/-- FIRED_LATE -/
abbrev ActS.firedLate : Nat := 3
/-- DISCARDED -/
abbrev ActS.discarded : Nat := 4
/-- CHECK -/
abbrev ActS.check : Nat := 5

/-- The state of entry `i` (TICK.ACT_ST). -/
def State.actSt (s : State) (i : Nat) : Nat := s.getF (R.tickActSt (i / 8)) (4 * (i % 8) + 3) (4 * (i % 8))

/-- Set the state of entry `i`. -/
def State.setActSt (s : State) (i v : Nat) : State := s.setF (R.tickActSt (i / 8)) (4 * (i % 8) + 3) (4 * (i % 8)) v

/-- The action is swap-type: BANK_SWAP and EPOCH_COMMIT. -/
def isSwapAct (code : Nat) : Bool := code == 1 || code == 6

/-- ARG names a unit of the floor plan. -/
def State.argOk (s : State) (code arg : Nat) : Bool :=
  match code with
  | 0 => true
  | 1 => if arg / 2 ^ 28 = 0 then s.portUsed (arg % 256) else arg / 2 ^ 28 == 1
  | 2 => s.im.has Sect.paneGroup (arg % 256)
  | 3 => true
  | 4 => true
  | 5 => true
  | 6 => s.im.hasTb (arg % 8)
  | 7 => s.qExists (arg % 4096)
  | 8 => s.qExists (arg % 4096)
  | _ => false

/-- The check of R79. -/
def State.actOk (s : State) (b : List Byte) : Bool :=
  let c := actCode b
  entryCrc b && decide (c ≤ 8) && decide (actOfs b < s.periodNs) && (!isSwapAct c || actOfs b == 0) &&
  (!actHall b || isSwapAct c) && s.argOk c (actArg b)

/-- A failed entry (R79). -/
def State.actFailed (s : State) (i : Nat) : State :=
  ((s.setActSt i ActS.check).inc R.tickActCheck).raise Src.tickActCheck []

/-- The internal target of entry `i` (R83). -/
def State.actNext (s : State) (i : Nat) : Nat :=
  match Tab.get (fun _ => (none : Option Reg)) s.tick.actNext i with
  | some t => t.toNat
  | none => actTarget (s.actBytes i)

/-- Set the internal target of entry `i`. -/
def State.setActNext (s : State) (i : Nat) (t : Option Reg) : State :=
  { s with tick := { s.tick with actNext := Tab.put (fun _ => (none : Option Reg)) s.tick.actNext i t } }

/-- Entries that are armed, in ascending index. -/
def State.armedActs (s : State) : List Nat :=
  (s.listed (R.tickActSt 0) (R.tickActSt 512)).flatMap (fun k =>
    (List.range 8).filterMap (fun j =>
      if s.getF k (4 * j + 3) (4 * j) = ActS.armed then some (8 * ((k - R.tickActSt 0) / 4) + j) else none))

/-! ### Firing (R77, R82, R83) -/

/-- The effect of an action on its unit. -/
def State.doAction (s : State) (code arg : Nat) (late : Bool) : State :=
  match code with
  | 2 => s.sealAction (arg % 256) late
  | 3 => s.triggerAfter (arg % 256) Trig.tick late
  | 4 => s.event (Evt.tick (arg % 16))
  | 5 => s.gooseState (arg % 4096) late
  | 7 => s.holdQueue (arg % 4096)
  | 8 => s.releaseQueue (arg % 4096)
  | _ => s

/-- Occurrences of a repeating entry that are overdue at difference `d` of its target, but for the latest of them: how many
are skipped, and the difference of the one evaluated (R83). Occurrences up to difference `b` are overdue: -1, or 0 where the
instant of the tick's own occurrence has passed too. -/
def overdue (b d : Int) (rep : Nat) : Nat × Int :=
  if rep = 0 ∨ b ≤ d then (0, d) else ((b - d).toNat / rep, d + (b - d).toNat / rep * rep)

/-- The occurrence of entry `i` at target `t` fired or was discarded: a repeating entry moves on, once-only it is done. -/
def State.actDone (s : State) (i t rep st : Nat) : State :=
  if rep = 0 then s.setActSt i st else s.setActNext i (some (BitVec.ofNat 32 (t + rep)))

/-- Discard an occurrence (R82). -/
def State.actDiscard (s : State) (i t rep : Nat) : State :=
  ((s.actDone i t rep ActS.discarded).inc R.tickActDiscard).raise Src.tickActDiscard []

/-- Entry `i` fires for target `t` (R82). -/
def State.actFire (s : State) (i t : Nat) (late : Bool) : State :=
  let b := s.actBytes i
  if !s.actOk b then s.actFailed i
  else
    let s1 := s.actDone i t (actRepeat b) (if late then ActS.firedLate else ActS.fired)
    (if late then s1.inc R.tickActLate else s1).doAction (actCode b) (actArg b) late

/-- Skip `n` occurrences. -/
def State.actSkip (s : State) (n : Nat) : State := s.incBy R.tickActSkip n

/-- Instant `t` of the tick source has passed: an earlier TIME edge was at or after it (R84). -/
def State.passed (s : State) (t : Time) : Bool :=
  let slew := if (s.tb s.src).slewRem < 0 then s.tbSlew s.src else 0
  decide (t + (s.tbInc s.src - slew) ≤ s.srcNow)

/-- Evaluate one occurrence of entry `i`, armed and not swap-type, at the present instant (R80, R83). -/
def State.actEvalOne (s : State) (i : Nat) : State :=
  let b := s.actBytes i
  let rep := actRepeat b
  let t0 := s.actNext i
  let d0 := tickDiff t0 s.now
  if s.actSt i ≠ ActS.armed ∨ isSwapAct (actCode b) ∨ !s.running ∨ s.holds ∨ 0 < d0 then s
  else
    let at' := s.landingNow + ofNs (actOfs b)
    let o := overdue (if s.passed at' then 0 else -1) d0 rep
    let d := o.2
    let t := (t0 + o.1 * rep) % 2 ^ 32
    let s1 := if o.1 = 0 then s else (s.actSkip o.1).setActNext i (some (BitVec.ofNat 32 t))
    if d = 0 then (if s.srcNow < at' then s1 else s1.actFire i t (s.passed at'))
    else if -((s.inForce R.tickLateWin).toNat % 256 : Int) ≤ d then s1.actFire i t true
    else s1.actDiscard i t rep

/-- Evaluate entry `i`: after an overdue occurrence the next one, which is not overdue. -/
def State.actEval (s : State) (i : Nat) : State :=
  if tickDiff (s.actNext i) s.now < 0 then (s.actEvalOne i).actEvalOne i else s.actEvalOne i

/-- Evaluate every armed entry that is not swap-type, in ascending index: at a landing, and after a step. -/
def State.actsEval (s : State) : State := forEach s.armedActs (fun i x => if x.actSt i = ActS.armed then x.actEval i else x) s

/-! ### Swap-type actions at a cut-off (R81) -/

/-- The request a swap-type action makes. -/
def swapOf (code arg : Nat) : SwapKind :=
  if code = 6 then .epoch (arg % 8) else if arg / 2 ^ 28 = 0 then .bank (arg % 256) else .dmaSet (arg % 256)

/-- A swap-type occurrence beyond the late window is discarded: as a tick action, and as the swap request it would have made
(R81, R235). -/
def State.swapDiscard (s : State) (i t rep : Nat) (k : SwapKind) : State :=
  let s1 := (s.actDiscard i t rep).raise Src.swapDiscard []
  match k with
  | .bank p => s1.lastSwap p Swap.discarded
  | _ => s1

/-- A hall-synchronous member joins the group of tick `n`: one that the snapshot for `n` did not count makes READY 0
(R104). -/
def State.hallJoined (s : State) (n : Nat) (counted : Bool) : State :=
  if s.tick.snapTick = some n ∧ counted = false then { s with tick := { s.tick with snapReady := false } } else s

/-- Entry `i` of the hall-synchronous snapshot has been evaluated for its group: its write protection ends (R104). -/
def State.actUnsnap (s : State) (i : Nat) : State :=
  { s with tick := { s.tick with snapEntries := s.tick.snapEntries.filter (· != i) } }

/-- One occurrence of a swap-type entry evaluated at the cut-off of tick `n`: it joins the swap set of `n`, on time or
late, or is discarded. An entry beyond the late window is discarded before its check is made (log entry 83). -/
def State.actJoinOne (s0 : State) (i n : Nat) : State :=
  let s := s0.actUnsnap i
  let b := s.actBytes i
  let rep := actRepeat b
  let t0 := s.actNext i
  let d0 := tickDiff t0 n
  if s.actSt i ≠ ActS.armed ∨ !isSwapAct (actCode b) ∨ 0 < d0 then s0
  else
    let o := overdue (-1) d0 rep
    let d := o.2
    let t := (t0 + o.1 * rep) % 2 ^ 32
    let s1 := if o.1 = 0 then s else (s.actSkip o.1).setActNext i (some (BitVec.ofNat 32 t))
    if d < -((s.inForce R.tickLateWin).toNat % 256 : Int) then s1.swapDiscard i t rep (swapOf (actCode b) (actArg b))
    else if !s.actOk b then s1.actFailed i
    else
      let late := decide (d < 0)
      let s2 := s1.actDone i t rep (if late then ActS.firedLate else ActS.fired)
      let s3 := if late then s2.inc R.tickActLate else s2
      let k := swapOf (actCode b) (actArg b)
      let s4 := (if actHall b then s3.hallJoined n (s0.tick.snapEntries.contains i) else s3).addReq ⟨k, n, late, actHall b, none, false⟩
      match k with
      | .bank p => s4.settleOwned p
      | _ => s4

/-- A swap-type entry is evaluated at the cut-off of tick `n` (R81): after an overdue occurrence the next one. -/
def State.actJoin (s : State) (i n : Nat) : State :=
  if tickDiff (s.actNext i) n < 0 then (s.actJoinOne i n).actJoinOne i n else s.actJoinOne i n

/-- An entry with target difference `d` would join at the cut-off of that tick, under a late window of `w`. -/
def wouldJoin (d : Int) (rep w : Nat) : Bool :=
  let o := (overdue (-1) d rep).2
  decide (d ≤ 0) && (decide (-(w : Int) ≤ o) || (rep != 0 && o + rep == 0))

/-- The swap-type entries join the swap set of tick `n` at its cut-off, in ascending index. -/
def State.actsJoin (s : State) (n : Nat) : State :=
  forEach s.armedActs (fun i x => if x.actSt i = ActS.armed then x.actJoin i n else x) s

/-! ### Arming (R78) -/

/-- Entry `i` is owned by the hall-synchronous snapshot (R104). -/
def State.actOwned (s : State) (i : Nat) : Bool := s.tick.snapEntries.contains i

/-- A committed amendment's TICK_ACTIONS section covers entry `i` (R59). -/
def State.actCovered (s : State) (i : Nat) : Bool :=
  s.planState == PS.committed && (match s.plan.staged with
    | some im => (match im.body? Sect.tickActions 0 with
      | some b => decide ((tickActions b).1 ≤ i) && decide (i < (tickActions b).1 + (tickActions b).2.length)
      | none => false)
    | none => false)

/-- A host write of entry `i` goes to `f` unless the mirror (R419), an amendment (R59) or the hall-synchronous snapshot
(R104) owns the entry: then it is dropped and counted. -/
def State.actWrite (s : State) (i : Nat) (f : State → State) : State :=
  if s.mirrorOwns then s.inc R.rdnOwnedDrop
  else if s.actCovered i then s.inc R.planConflict
  else if s.actOwned i then s.inc R.tickSwapConflict
  else f s

/-- Entry `i` takes the four words `ws`: it is armed and, unless swap-type, evaluated (R78, R80). -/
def State.actArm (s : State) (i : Nat) (ws : List Reg) : State :=
  (((s.wrWords (R.tickAct i) ws).setActNext i none).setActSt i ActS.armed).actEval i

/-- Entry `i` is disarmed (R78). -/
def State.actDisarm (s : State) (i : Nat) : State := (s.setActNext i none).setActSt i ActS.idle

/-- TICK_ACTION_ARM: a write of the word at offset 0xC by `req` (R78). Entry `i` takes it with the words the requester holds
of the entry, a word not held being 0 (R6, R488). -/
def execTickActionArm (req : Requester) (i : Nat) (v : Reg) (s : State) : Answer :=
  .next (s.guarded req (R.tickAct i) (fun s =>
    if i < 4096 then
      s.actWrite i (fun s =>
        (s.setWide ((s.wideOf req).release (R.tickAct i))).actArm i ((s.wideOf req).whole (R.tickAct i) 3 v))
    else s))

/-- TICK_ACTION_DISARM: a write of word `w` (0 to 2) of the entry disarms it (R78); the word itself is held for the requester
until it writes the word at offset 0xC (R6, R488). -/
def execTickActionDisarm (req : Requester) (i w : Nat) (v : Reg) (s : State) : Answer :=
  .next (s.guarded req (R.tickAct i) (fun s =>
    if i < 4096 then
      s.actWrite i (fun s => (s.setWide ((s.wideOf req).hold (R.tickAct i) (w % 3) v)).actDisarm i)
    else s))

/-- The instant at which entry `i` fires in the current tick, if it waits with d = 0 (R80). -/
def State.actInstant (s : State) (i : Nat) : Option Time :=
  if isSwapAct (actCode (s.actBytes i)) ∨ tickDiff (s.actNext i) s.now ≠ 0 then none
  else some (s.landingNow + ofNs (actOfs (s.actBytes i)))

/-- The first instant, at most `bound`, at which an armed entry fires. -/
def State.firstAct (s : State) (bound : Time) : Option Time :=
  s.armedActs.foldl (fun m i => match s.actInstant i with
    | some x => if x ≤ bound then (match m with | some y => some (min x y) | none => some x) else m
    | none => m) none

/-- Entries whose instant is at most `bound` fire in the order of their instants, those of one instant in ascending index
(R84); at most `n` instants. -/
def State.firesTo (s : State) (bound : Time) : Nat → State
  | 0 => s
  | n + 1 => match s.firstAct bound with
    | none => s
    | some t => match s.reach t with
      | none => s
      | some s1 =>
        (forEach s1.armedActs (fun i x => if x.actSt i = ActS.armed ∧ x.actInstant i = some t then x.actEval i else x)
          s1).firesTo bound n

/-- TICK_ACTION_FIRE: armed entry `i`, waiting with d = 0, reaches its instant and fires (R80), after the entries that
come before it (R84); one that is overdue is evaluated at once. -/
def execTickActionFire (i : Nat) (s : State) : Answer :=
  .next (
    if s.actSt i ≠ ActS.armed ∨ isSwapAct (actCode (s.actBytes i)) ∨ !s.running ∨ s.holds then s
    else match s.actInstant i with
      | some t => s.firesTo t s.armedActs.length
      | none => s.actEval i)

/-! ### After a step of the tick source -/

/-- The count of the tick source may have been stepped forward: `s` was the state before. Entries whose instant it jumped
over fire late (R80), and GOOSE frames it jumped over are due (R310). -/
def State.afterStep (s t : State) : State :=
  if t.running && decide (s.srcNow < t.srcNow) then
    let t1 := if t.tick.missedTo.isSome then t else
      forEach t.armedActs (fun i x =>
        let b := x.actBytes i
        if x.actSt i = ActS.armed ∧ isSwapAct (actCode b) = false ∧ tickDiff (x.actNext i) x.now = 0 ∧
            x.landingNow + ofNs (actOfs b) < x.srcNow then x.actFire i (x.actNext i) true else x) t
    t1.gcbsCatchUp
  else t

end Sys2Proof.Machine
end

