-- ==== Sys2Proof/Machine/TimeCmd.lean ====
section
/-! DEFINITION. The commands and events of the time bases and of the timing pins (R112, R120 to R127, R140 to R142). -/

namespace Sys2Proof.Machine

/-! ### Commands of TSU.TB[n].CTL (R122) -/

/-- A command of time base `n`: none is legal on a DISABLED one; a step it makes on the tick source has its consequences. -/
def State.tsuCommand (s : State) (req : Requester) (n : Nat) (legal : State → Bool) (f : State → State) : State :=
  s.guarded req (R.tsuTbCtl n) (fun s =>
    let k := R.tsuTbStatus n
    if n < 8 ∧ s.tbOn n ∧ legal s then (s.afterStep (f s)).result k Code.ok else s.result k Code.state)

/-- ACCEPT (R120): the refused correction applies without the threshold, and R115 does not request it again. -/
def execAccept (req : Requester) (n : Nat) (s : State) : Answer :=
  .next (s.tsuCommand req n (fun s => s.tbState n == TbS.refused) (fun s =>
    let c := signed 64 (s.rd64 (R.tsuTbRefusedOfs n))
    let s1 := (s.applyCorr n c).leaveRefused n
    s1.setTb n { s1.tb n with asked := true }))

/-- SET (R122): SET_TIME is loaded into a FREE count; on the tick source only while the tick does not run. -/
def execTsuSet (req : Requester) (n : Nat) (s : State) : Answer :=
  .next (s.tsuCommand req n (fun s => s.tbState n == TbS.free && !(s.isSrc n && s.running)) (fun s =>
    let k := R.tsuTbSetTime n
    s.loadCount n (timeOfWords 16 (s.rd k) (s.rd (k + 4)) (s.rd (k + 8)) (s.rd (k + 12)))))

/-- ADJ_PHASE (R127): the host's phase is a correction under the threshold of R116, in host-assisted mode only. -/
def execAdjPhase (req : Requester) (n : Nat) (s : State) : Answer :=
  .next (s.tsuCommand req n (fun s => s.hostServo n) (fun s => s.tryCorr n (signed 64 (s.rd64 (R.tsuTbAdjPhase n)))))

/-- EPOCH_NEXT (R121): the shadow epoch is requested for the next landing; a shadow that is already requested belongs to
that request (R74). -/
def execEpochNext (req : Requester) (n : Nat) (s : State) : Answer :=
  .next (s.tsuCommand req n (fun s => !s.requested (.epoch n)) (fun s => s.requestNext (.epoch n)))

/-- A reserved time base command completes with STATE (R122). -/
def execTsuCmdReserved (req : Requester) (n : Nat) (s : State) : Answer :=
  .next (s.tsuCommand req n (fun _ => false) id)

/-- ADJ_FREQ_WRITE (R127): in host-assisted mode the written frequency is in force, saturated. -/
def execAdjFreqWrite (req : Requester) (n : Nat) (v : Reg) (s : State) : Answer :=
  .next (s.guarded req (R.tsuTbAdjFreq n) (fun s =>
    let s1 := s.wr (R.tsuTbAdjFreq n) v
    if n < 8 ∧ s.hostServo n ∧ s.tbOn n then s1.setFreq n (signed 32 v.toNat) else s1))

/-! ### Reference samples (R112, R124) -/

/-- The local elapsed time of time base `n` since the last valid PPS input 0 edge, `sub` steps of 80 ps after the TIME
edge. -/
def State.sincePps (s : State) (n sub : Nat) : Time := (s.tb n).count + ofPs80 (sub % 10) - (s.tb n).pps0At

/-- SERVO_SAMPLE (R124, R125): a sample of the reference the time base has. -/
def execServoSample (n : Nat) (x : RefSample) (s : State) : Answer :=
  .next (
    let ref := (s.im.timeBase n).ref
    if !(decide (n < 8) && s.im.hasTb n && s.timeRuns) then s
    else match x with
      | .ptp o log =>
        if ref = 0 then (let f := pow2Frac log; s.afterStep (s.sample n o f.1 f.2)) else s
      | .pps o => if ref = 1 ∨ ref = 2 then s.afterStep (s.sample n o 1 1) else s
      | .tenMhz k sub =>
        if ref = 3 ∧ !(s.tb n).ref10mStop ∧ s.pps.last0.isSome then
          s.afterStep (s.sample n (toQ16 (s.sincePps n sub - ofNs (k * 1000000))) 1 1000)
        else s)

/-- The PPS input a reference uses. -/
def ppsOf (ref : Nat) : Option Nat := if ref = 1 ∨ ref = 3 then some 0 else if ref = 2 then some 1 else none

/-- The last valid edge of PPS input `i`. -/
def State.ppsLast (s : State) (i : Nat) : Option Time := if i = 0 then s.pps.last0 else s.pps.last1

/-- Set the last valid edge of PPS input `i`, with its PRESENT bit. -/
def State.setPpsLast (s : State) (i : Nat) (t : Option Time) : State :=
  let p := if i = 0 then { s.pps with last0 := t } else { s.pps with last1 := t }
  State.setBit { s with pps := p } (R.tsuPpsInSt i) 0 t.isSome

/-- REFERENCE_LOSS: LOSS_MS passes without a valid sample (R112, R140). A time base that has had none counts from the release
of PORST_N (log entry 93). -/
def execReferenceLoss (n : Nat) (s : State) : Answer :=
  .next (
    if !(decide (n < 8) && s.im.hasTb n && s.tbOn n) then s
    else match s.reachClock ((s.tb n).lastSample + ofMs (s.inForce (R.tsuTbLossMs n)).toNat) with
      | none => s
      | some s0 =>
        let s1 := s0.loseReference n
        match ppsOf (s.im.timeBase n).ref with
        | some i => s1.setPpsLast i none
        | none => s1)

/-- The instant at which a foreign record counts as not heard: announceReceiptTimeout announce intervals of its own after its
last Announce (R112, log entry 90). -/
def State.announceDue (s : State) (n : Nat) (f : Foreign) : Time :=
  f.heard + fld (s.ptpCfg n) 23 16 * (oneSec * (pow2Frac f.log).1) / (pow2Frac f.log).2

/-- Foreign record `k` of time base `n`, which is `f`, is dropped: the best of the rest is selected, and with none left the
reference is lost (R112, R135). Then PORT reads 0xFF, GM_ID and UTC_OFS keep what they hold, and TB_MASTER is not raised, no
timeTransmitter having been selected (log entry 90). -/
def State.dropForeign (s : State) (n k : Nat) (f : Foreign) : State :=
  let t := s.tb n
  let left := t.foreign.eraseIdx k
  let gone := t.selected == some f.source && s.getF (R.tsuTbStatus n) 23 16 == f.port
  let s1 := s.setTb n { t with foreign := left }
  if !gone then s1
  else if left.isEmpty then
    let s2 := (s1.setTb n { s1.tb n with selected := none, twoStep := none }).setF (R.tsuTbStatus n) 23 16 0xFF
    (if s.tbState n = TbS.locked ∨ s.tbState n = TbS.refused then s2.loseReference n else s2)
  else s1.selectMaster n

/-- ANNOUNCE_TIMEOUT: foreign record `k` of time base `n` is not heard for announceReceiptTimeout (R112, R135). -/
def execAnnounceTimeout (n k : Nat) (s : State) : Answer :=
  .next (match (s.tb n).foreign[k]? with
    | none => s
    | some f => match s.reachClock (s.announceDue n f) with
      | none => s
      | some s0 => s0.dropForeign n k f)

/-- SLEW_COMPLETE: the remaining slew of a time base reaches 0 (R108, R117). -/
def execSlewComplete (n : Nat) (s : State) : Answer :=
  .next (
    let r := (s.tb n).slewRem
    if n < 8 ∧ r < 0 ∧ 0 < s.tbSlew n then
      let s1 := s.edges (ceilDiv (-r) (s.tbSlew n))
      (if s.running && decide (s.landingAt s.nextTick ≤ s1.srcNow) then s else s1)
    else s)

/-! ### Timing pins (R140 to R142) -/

/-- The 10 MHz edges counted between two edges of PPS input 0 are looked at (R141). -/
def State.ref10m (s : State) (edges : Nat) (first : Bool) : State :=
  let mine := (List.range 8).filter (fun n => s.im.hasTb n && (s.im.timeBase n).ref == 3)
  let bad := !first && decide (1000 < ((edges : Int) - 10000000).natAbs)
  let s1 := s.setBit R.tsuRef10mSt 0 (decide (0 < edges))
  if mine.isEmpty then s1
  else
    let s2 := forEach mine (fun n x => x.setTb n { x.tb n with ref10mStop := bad }) s1
    if bad then (s2.hwSet R.tsuRef10mSt 1).raise Src.ref10mFault [] else s2

/-- The offset of a PPS edge stamped `t` (R124). -/
def State.ppsOffset (s : State) (i : Nat) (t : Time) : Int :=
  let q := toQ16 (t % oneSec)
  let half : Int := 500000000 * 65536
  (if half ≤ q then q - 1000000000 * 65536 else q) - signed 32 (s.rdN (R.tsuPpsInComp i))

/-- PPS_INPUT_EDGE: a rising edge of PPS input `i`, `sub` steps of 80 ps after the TIME edge; `high` tells whether it stays
high for 100 ns, `edges` how many 10 MHz edges came since the PPS input 0 edge before it (R140, R141, R124). -/
def execPpsInputEdge (i sub : Nat) (high : Bool) (edges : Nat) (s : State) : Answer :=
  .next (
    if !(decide (i < 2) && s.timeRuns) then s
    else
      let on := (List.range 8).filter s.tbOn
      let capt := fun (n : Nat) => if i = 0 then R.tsuTbPps0Capt n else R.tsuTbPps1Capt n
      let stamp := fun (x : State) (n : Nat) => (x.tb n).count + ofPs80 (sub % 10)
      let s1 := forEach on (fun n x => x.wrWords (capt n) (timeWords 16 (stamp x n))) s
      let now := s.clock + ofPs80 (sub % 10)
      let spaced := match s.ppsLast i with
        | some t => decide ((now - t - oneSec).natAbs ≤ (ofMs 1).natAbs)
        | none => true
      if high && spaced then
        let s2 := s1.setPpsLast i (some now)
        let s3 := if i = 0 then (forEach on (fun n x => x.setTb n { x.tb n with pps0At := stamp x n }) s2).ref10m edges
            (s.ppsLast 0).isNone
          else s2
        let mine := on.filter (fun n => s.im.hasTb n && (s.im.timeBase n).ref == 1 + i)
        s.afterStep (forEach mine (fun n x => x.sample n (x.ppsOffset i (stamp s n)) 1 1) s3)
      else ((s1.hwSet (R.tsuPpsInSt i) 1).incF (R.tsuPpsInSt i) 31 16).raise (Src.ppsInFault i) [])

/-- The level of PPS_OUTn: high for WIDTH_US after its edge, and low while the output is disabled (R142). -/
def State.ppsHigh (s : State) (n : Nat) : Bool :=
  s.tbOn n && s.bit (R.tsuTbPpsOut n) 31 && decide (s.clock < (s.tb n).ppsUntil)

/-- PPS_OUTPUT_EDGE: the count of time base `n`, shifted by PPS_OUT_DELAY, crosses the next whole second: the output rises, and
stays high for WIDTH_US (R142). -/
def execPpsOutputEdge (n : Nat) (s : State) : Answer :=
  .next (
    let d := latency (s.rd (R.tsuTbPpsOutDelay n))
    let t := ((s.tb n).count - d) / oneSec * oneSec + oneSec + d
    if n < 8 ∧ s.tbOn n ∧ s.bit (R.tsuTbPpsOut n) 31 then
      let s1 := s.untilTb n t
      let us := s.getF (R.tsuTbPpsOut n) 18 0
      (if s.running && decide (s.landingAt s.nextTick ≤ s1.srcNow) then s
       else (s1.setTb n { s1.tb n with ppsUntil := s1.clock + ofUs us }).emit (.ppsEdge n us))
    else s)

end Sys2Proof.Machine
end

