-- ==== Sys2Proof/Machine/Mirror.lean ====
section
/-! DEFINITION. Pairs (14_redundancy): the interlock lines and the claim (R400 to R408), heartbeats and epochs (R409 to
R416), what the standby applies and the takeover does (R418 to R421), and the commands and the watchdog (R423, R424). -/

namespace Sys2Proof.Machine

/-! ### Time on the local count -/

/-! ### The interlock (R402 to R407) -/

/-- The device is strapped SECONDARY. -/
def State.secondary (s : State) : Bool := s.bit R.rdnStatus 17

/-- RDN.GUARD as a duration. -/
def State.guardSpan (s : State) : Time := ofNs (s.getF R.rdnGuard 15 0)

/-- A source whose reaction in force is C3 is LIVE (R404, R436). -/
def State.c3Live (s : State) : Bool :=
  (List.range 11).any (fun k => (List.range 32).any (fun b =>
    s.isLive (32 * k + b) && s.reactionOf (32 * k + b) == 3))

/-- The conditions of R404 other than a cause, the guard time apart. -/
def State.mayClaim (s : State) : Bool :=
  s.hasPair && s.role == Role.standby && s.running && !s.inFault && !s.c3Live &&
  (s.planState == PS.idle || s.planState == PS.stagedAmend || s.planState == PS.stagedPlan || s.planState == PS.committed)

/-- The peer's heartbeats carry the device's own strap (R404). -/
def State.sameStrap (s : State) : Bool := s.bit R.rdnStatus 20 && s.rdn.hbFlags.getLsbD 6 == s.secondary

/-- A cause of R404 is present. -/
def State.claimCause (s : State) : Bool :=
  s.rdn.claimCmd ||
  (s.bit R.rdnCtl 8 && !s.sameStrap && (s.rdn.peerReleased || s.mirrorLost || s.rdn.startUp))

/-- PAIR_PEER_IN has been deasserted for RDN.GUARD. -/
def State.lineFree (s : State) : Bool := !s.rdn.peerIn && decide (s.rdn.freeSince + s.guardSpan ≤ s.clock)

/-- Claim when R404 allows it: PAIR_ACT_OUT is asserted and the role becomes CLAIMING (R402); RELEASED ends (R405). -/
def State.tryClaim (s : State) : State :=
  if s.mayClaim && s.claimCause && s.lineFree then
    let s1 := (s.setRole Role.claiming).setBit R.rdnStatus 4 false
    { s1 with rdn := { s1.rdn with claimAt := s.clock, claimCmd := false, startUp := false } }
  else s

/-- Completions held under R325 are written, confirmed or not. -/
def State.writeHeld (s : State) (which : Nat → Entry → Bool) (unconfirmed : Bool) : State :=
  let qs := ((s.im.sqs.filter (fun r => r.kind == 2)).map (·.qid))
  forEach qs (fun q x =>
    (forEach ((x.queue q).entries.filter (fun e => e.stage == Stage.held && e.slot && which q e))
      (fun e y => y.completeTx q e unconfirmed) x).settleStop q) s

/-- Without the grant, or with the heartbeat lost, no completion is held any longer (R325); a device that hands over keeps
them (R406). -/
def State.settleHeld (s : State) : State :=
  if s.hasPair && (!(s.role == Role.active || s.role == Role.releasing) || s.mirrorLost) then
    s.writeHeld (fun _ _ => true) true
  else s

/-- PEER_IN_ASSERT (R402): a SECONDARY claimant or holder yields, a PRIMARY keeps the line; either counts the contest. -/
def execPeerInAssert (s : State) : Answer :=
  .next (
    if s.rdn.peerIn then s
    else
      let s1 := State.setBit { s with rdn := { s.rdn with peerIn := true } } R.rdnStatus 19 true
      if s1.hasPair && (s1.role == Role.claiming || s1.role == Role.active) then
        let s2 := if s1.secondary then (s1.setRole Role.standby).cutGates else s1
        ((s2.inc R.rdnContests).raise Src.pairContest []).settleHeld
      else s1)

/-- PEER_IN_DEASSERT (R404): the guard time starts; for a STANDBY device it is the peer's release. -/
def execPeerInDeassert (s : State) : Answer :=
  .next (
    if s.rdn.peerIn then
      let rel := s.rdn.peerReleased || s.role == Role.standby
      State.setBit { s with rdn := { s.rdn with peerIn := false, freeSince := s.clock, peerReleased := rel } } R.rdnStatus 19 false
    else s)

/-- GUARD_EXPIRY (R404): the line has been free for RDN.GUARD. -/
def execGuardExpiry (s : State) : Answer :=
  .next (
    if s.rdn.peerIn then s
    else match s.reachClock (s.rdn.freeSince + s.guardSpan) with
      | some s1 => s1.tryClaim
      | none => s)

/-- CLAIM_CONFIRM (R402): the line stayed free for 100 ns from the device's own assertion: it is ACTIVE, and its next
landing is the takeover landing (R420). -/
def execClaimConfirm (s : State) : Answer :=
  .next (
    if s.role = Role.claiming ∧ s.rdn.peerIn = false then
      match s.reachClock (max s.rdn.claimAt s.rdn.freeSince + ofNs 100) with
      | some s1 =>
        let s2 := s1.setRole Role.active
        { s2 with rdn := { s2.rdn with takeoverDue := true, snaps := [], sending := none } }
      | none => s
    else s)

/-! ### Commands of RDN.CTL (R423) -/

/-- A command of RDN.CTL. -/
def State.rdnCommand (s : State) (req : Requester) (legal : State → Bool) (f : State → State) : State :=
  s.guarded req R.rdnCtl (fun s =>
    if legal s then (f s).result R.rdnStatus Code.ok else s.result R.rdnStatus Code.state)

/-- HANDOVER (R406, R423): it acts at the next landing. -/
def execHandover (req : Requester) (s : State) : Answer :=
  .next (s.rdnCommand req
    (fun s => s.role == Role.active && s.hasPair && s.bit R.rdnStatus 20 &&
      s.getF R.rdnStatus 23 21 == Role.standby && !s.rdn.hbFlags.getLsbD 3)
    (fun s => { s with rdn := { s.rdn with handoverReq := true } }))

/-- CLAIM (R423). -/
def execClaim (req : Requester) (s : State) : Answer :=
  .next (s.rdnCommand req (fun s => s.mayClaim && s.lineFree)
    (fun s => State.tryClaim { s with rdn := { s.rdn with claimCmd := true } }))

/-- RELEASE (R405, R423). -/
def execRdnRelease (req : Requester) (s : State) : Answer :=
  .next (s.rdnCommand req (fun s => s.hasPair && (s.role == Role.active || s.role == Role.claiming))
    (fun s => s.giveUp.settleHeld))

/-- The all ones of a COMMITTED that names no epoch. -/
def noEpoch : Nat := 2 ^ 64 - 1

/-- RESYNC (R423). -/
def execRdnResync (req : Requester) (s : State) : Answer :=
  .next (s.rdnCommand req (fun s => s.role == Role.standby)
    (fun s =>
      let s1 := (s.wr64 R.rdnCommitted noEpoch).setBit R.rdnStatus 16 true
      { s1 with rdn := { s1.rdn with inDone := none } }))

/-- A reserved RDN command completes with STATE (R423). -/
def execRdnCmdReserved (req : Requester) (s : State) : Answer := .next (s.rdnCommand req (fun _ => false) id)

/-- A handing-over device lets the line go and becomes STANDBY with RELEASED set (R406). -/
def State.endRelease (s : State) : State :=
  let s1 := (s.setRole Role.standby).setBit R.rdnStatus 4 true
  { s1 with rdn := { s1.rdn with handoverAt := none } }

/-- HANDOVER_TIMEOUT (R406): no commit report came by L(h + HB_TICKS). -/
def execHandoverTimeout (s : State) : Answer :=
  .next (match s.rdn.handoverAt with
    | some h =>
      if s.role = Role.releasing ∧ h + s.getF R.rdnHbTicks 10 0 ≤ s.now then (s.writeHeld (fun _ _ => true) true).endRelease
      else s
    | none => s)

/-! ### The watchdog (R424) -/

/-- KICK: a write of MGT.WDOG restarts the watchdog; its other fields take the write under their types. -/
def execKick (req : Requester) (v : Reg) (s : State) : Answer :=
  .next (s.guarded req R.mgtWdog (fun s =>
    let s1 := s.setF R.mgtWdog 15 0 (fld v 15 0)
    let s2 := if rbit v 30 then s1.setBit R.mgtWdog 30 false else s1
    { s2 with rdn := { s2.rdn with wdogSince := s.clock } }))

/-- MGT_WDOG: no write came for TIMEOUT_MS. The watchdog runs from the first full plan commit, not in NONE, and not again
before a write once it has expired. With WDOG_FO an ACTIVE or CLAIMING device gives up (R405, R424; log entry 109). -/
def execMgtWdog (s : State) : Answer :=
  .next (
    if s.plan.everCommitted && s.planState != PS.none && !s.bit R.mgtWdog 30 then
      match s.reachClock (s.rdn.wdogSince + ofMs (max 10 (s.getF R.mgtWdog 15 0))) with
      | some s1 =>
        let s2 := (s1.hwSet R.mgtWdog 30).raise Src.mgtWdog []
        if s2.bit R.rdnCtl 9 then s2.giveUp.settleHeld else s2
      | none => s
    else s)

/-! ### Mirror frames (R409, R410, R415) -/

/-- The PAIR section in force, zeros without one. -/
def State.pair (s : State) : PairRec := s.im.pair?.getD ⟨0, 0, 0, 0, 0, 0, 0⟩

/-- Port `p` is a mirror port. -/
def State.isMirrorPort (s : State) (p : Nat) : Bool := s.hasPair && (p == s.pair.mirrorA || p == s.pair.mirrorB)

/-- The header every mirror frame opens with. -/
def State.mirrorHead (s : State) (typ tick : Nat) : List Byte :=
  beBytes 1 typ ++ beBytes 1 1 ++ beBytes 2 s.pair.pairId ++ beBytes 4 s.pair.compatId ++ beBytes 8 tick

/-- A mirror frame around its content, padded to the minimum. -/
def State.mirrorFrame (s : State) (c : List Byte) : List Byte :=
  let id := beBytes 2 s.pair.pairId
  let b := beBytes 3 0x035647 ++ id ++ [0] ++ beBytes 3 0x025647 ++ id ++ [if s.secondary then 2 else 1] ++ beBytes 2 0x88B6 ++ c
  b ++ List.replicate (60 - b.length) 0

/-- The mirror ports. -/
def State.mirrorPorts (s : State) : List Nat := [s.pair.mirrorA, s.pair.mirrorB]

/-- Send a mirror frame on both mirror ports, in the class field `[hi:lo]` of their SYS_TC names (R168). -/
def State.sendMirror (s : State) (src : TxSrc) (hi lo : Nat) (c : List Byte) : State :=
  forEach s.mirrorPorts (fun p x =>
    x.enqueue ⟨0, src, [p], fld (x.inForce (R.prtPSysTc p)) hi lo, false, x.mirrorFrame c, none, none, none, true, none, true⟩) s

/-- FLAGS of a heartbeat. -/
def State.hbFlagsOut (s : State) (ack : Bool) : Nat :=
  s.granted.toNat + 2 * (s.bit R.rdnStatus 4).toNat
    + 4 * (s.rdn.handoverReq || s.role == Role.releasing).toNat + 8 * s.inFault.toNat + 16 * ack.toNat
    + 32 * (s.bit R.rdnStatus 16).toNat + 64 * s.secondary.toNat

/-- The content of a heartbeat (R410). -/
def State.heartbeat (s : State) (ack : Bool) : List Byte :=
  let b := s.mirrorHead 1 s.now ++ beBytes 8 (s.rd64 R.rdnCommitted) ++ beBytes 1 s.role ++ beBytes 1 (s.hbFlagsOut ack) ++ [0, 0]
  b ++ beBytes 4 (crc32c b).toNat

/-- Send a heartbeat. -/
def State.sendHeartbeat (s : State) (ack : Bool) : State := s.sendMirror .heartbeat 6 4 (s.heartbeat ack)

/-- HEARTBEAT_SEND: the heartbeat of L(n) + 2 us, once in every tick (R410). -/
def execHeartbeatSend (s : State) : Answer :=
  .next (
    if s.hasPair && s.rdn.hbTick != some s.now then
      match s.reach (s.landingNow + ofUs 2) with
      | some s1 => State.sendHeartbeat { s1 with rdn := { s1.rdn with hbTick := some s.now } } false
      | none => s
    else s)

/-! ### Mirrored items (R412 to R414) -/

/-- A bank image of its own length. -/
def bankImage (b : List Byte) : List Byte := slice b 0 (bankSize (min 1024 (bankCount b)))

/-- The record of the banks of port `p`. -/
def State.recGate (s : State) (p : Nat) : MirrorRec :=
  let req := (s.reqsOn (.bank p)).head?
  let t := match req with | some r => r.tick | none => 0
  ⟨1, p, leBytes 4 t ++ leBytes 4 req.isSome.toNat ++ bankImage (s.bank p) ++ bankImage (s.shadowBank p)⟩

/-- The record of tick action entry `i`. -/
def State.recAction (s : State) (i : Nat) : MirrorRec :=
  ⟨2, i, s.actBytes i ++ leBytes 4 (s.actSt i) ++ leBytes 4 (s.actNext i)⟩

/-- The GCBs that are mirrored items: CFG.ACTUATION is 1. -/
def State.mirrorGcbs (s : State) : List Nat :=
  ((s.listed (R.txeGcbCfg 0) (R.txeGcbCfg 4096)).filter (fun k => (k - R.txeGcbCfg 0) % 0x40 == 0 && s.bit k 11)).map
    (fun k => (k - R.txeGcbCfg 0) / 0x40)

/-- The record of GCB `i` (R414). -/
def State.recGcb (s : State) (i : Nat) : MirrorRec :=
  let g := s.gcb i
  let st := s.rd (R.txeGcbStatus i)
  let flags := (rbit st 0).toNat + 2 * (rbit st 2).toNat + 4 * (rbit st 5).toNat + 8 * (rbit st 3).toNat
  ⟨3, i, leBytes 4 (s.rdN (R.txeGcbStnum i)) ++ leBytes 4 (s.rdN (R.txeGcbSqnum i)) ++ slice g.t 0 8 ++
    (timeWords 16 g.tc).flatMap (fun w => leBytes 4 w.toNat) ++ leBytes 4 g.lastK ++ leBytes 4 flags ++
    leBytes 4 (s.rdN (R.txeGcbCfg i)) ++ leBytes 4 (s.rdN (R.txeGcbT1Us i)) ++ leBytes 4 (s.rdN (R.txeGcbT0Ms i)) ++
    leBytes 4 (s.rdN (R.txeGcbTplA i)) ++ leBytes 4 (s.rdN (R.txeGcbTplP i)) ++ leBytes 4 0⟩

/-- The records of the template blocks of GCB `i`. -/
def State.recTemplates (s : State) (i : Nat) : List MirrorRec :=
  let run := fun (r : Reg) => let b := slotBlocks r; (List.range b.2).map (fun k => b.1 + k)
  (run (s.rd (R.txeGcbTplA i)) ++ run (s.rd (R.txeGcbTplP i))).map (fun b =>
    ⟨4, b, (List.range 64).map (fun o => s.tplGet (64 * b + o))⟩)

/-- The transmit queues and A-rings of the plan. -/
def State.mirrorQueues (s : State) : List Nat := (s.im.sqs.filter (fun r => r.kind == 0 || r.kind == 2)).map (·.qid)

/-- The record of queue `q`. -/
def State.recQueue (s : State) (q : Nat) : MirrorRec :=
  ⟨5, q, leBytes 1 (s.qState q) ++ leBytes 1 (s.getF (R.qmQStatus q) 7 4) ++ leBytes 2 (s.qHead q) ++ leBytes 2 (s.qTail q) ++ [0, 0]⟩

/-- The record of a binding. -/
def recBinding (q idx tag : Nat) (ended : Bool) (status : Nat) : MirrorRec :=
  ⟨6, q, leBytes 2 idx ++ leBytes 2 tag ++ leBytes 1 ended.toNat ++ leBytes 1 status ++ [0, 0]⟩

/-- An entry of an A-ring is bound: it was bound and has no completion. -/
def Entry.isBinding (e : Entry) : Bool := e.stage == Stage.bound || e.stage == Stage.onWire || e.stage == Stage.sent

/-- The records of the bindings of every A-ring: those that stand, and those that ended. -/
def State.recBindings (s : State) : List MirrorRec :=
  (s.mirrorQueues.flatMap (fun q => if s.qKind q = 2 then
      ((s.queue q).entries.filter Entry.isBinding).map (fun e =>
        recBinding q e.idx (entryTag 2 e.bytes) (e.status != 0) e.status)
    else [])) ++
  s.rdn.ends.map (fun e => recBinding e.1 e.2.1 e.2.2.1 true e.2.2.2.1)

/-- Every mirrored item as it stands. -/
def State.mirrorItems (s : State) : List MirrorRec :=
  s.im.ports.map s.recGate ++ (List.range 4096).map s.recAction ++ s.mirrorGcbs.map s.recGcb ++
    s.mirrorGcbs.flatMap s.recTemplates ++ s.mirrorQueues.map s.recQueue ++ s.recBindings

/-- A record as octets of the record stream (R413). -/
def MirrorRec.encode (r : MirrorRec) : List Byte :=
  beBytes 1 r.typ ++ [0] ++ beBytes 2 r.data.length ++ beBytes 4 r.index ++ r.data ++
    List.replicate ((4 - r.data.length % 4) % 4) 0

/-- Frames of an epoch are still being sent. -/
def State.epochOut (s : State) : Bool :=
  s.rdn.sending.isSome || s.tx.ready.any (fun f => f.src == TxSrc.epoch) ||
  s.mirrorPorts.any (fun p =>
    (match (s.port p).line with | some l => l.frame.src == TxSrc.epoch | none => false) ||
    (match (s.port p).preempted with | some l => l.frame.src == TxSrc.epoch | none => false))

/-- Every binding that stands is now carried in the epoch of tick `n`, and so is every end not yet carried. -/
def State.markCarried (s : State) (n : Nat) : State :=
  let s1 := forEach s.mirrorQueues (fun q x =>
    let y := x.queue q
    if x.qKind q = 2 then
      x.setQueue q { y with entries := y.entries.map (fun e =>
        if e.isBinding && e.carried.isNone then { e with carried := some n } else e) }
    else x) s
  let mark := fun (e : Nat × Nat × Nat × Nat × Option Nat) =>
    if e.2.2.2.2.isNone then (e.1, e.2.1, e.2.2.1, e.2.2.2.1, some n) else e
  { s1 with rdn := { s1.rdn with ends := s1.rdn.ends.map mark } }

/-- The active snapshots the epoch of the tick before TICK.NOW (R412). A base whose snapshot this device did not take has
every item changed after it. -/
def State.snapshot (s : State) (final : Bool) : State :=
  if s.epochOut then s
  else
    let n := s.now - 1
    let base := s.rd64 R.rdnPeerCommitted
    let full := base == noEpoch || s.rdn.fullAsked
    let items := s.mirrorItems
    let old := match s.rdn.snaps.find? (fun e => e.1 == base) with | some e => e.2 | none => []
    let carry := if full then items else items.filter (fun r => !old.contains r)
    let b := if full then noEpoch else base
    let s1 := s.markCarried n
    let keep := s1.rdn.snaps.filter (fun e => base == noEpoch || decide (base ≤ e.1))
    { s1 with rdn := { s1.rdn with
        sending := some (n, b, carry.flatMap MirrorRec.encode, full, final)
        snaps := (n, items) :: keep, fullAsked := false } }

/-- The slices of a record stream, at most `m` octets each; at most `fuel` of them. -/
def slices (m : Nat) : Nat → List Byte → List (List Byte)
  | 0, _ => []
  | n + 1, l => if l.isEmpty then [] else l.take m :: slices m n (l.drop m)

/-- The content of data frame `k` of an epoch. -/
def State.epochData (s : State) (tick k : Nat) (sl : List Byte) : List Byte :=
  s.mirrorHead 2 tick ++ beBytes 4 k ++ beBytes 2 sl.length ++ [0, 0] ++ sl

/-- The content of the trailer of an epoch. -/
def State.epochTrailer (s : State) (tick base : Nat) (stream : List Byte) (full final : Bool) (data : List (List Byte)) : List Byte :=
  let b := s.mirrorHead 3 tick ++ beBytes 8 base ++ beBytes 4 data.length ++ beBytes 4 stream.length ++
    beBytes 1 (full.toNat + 2 * final.toNat) ++ [0, 0, 0]
  b ++ beBytes 4 (crc32c (data.flatten ++ b)).toNat

/-- EPOCH_SEND: from L(n + 1) + 10 us the data frames leave on both mirror ports, and the trailer after them (R412, R415).
One slice fits both ports. -/
def execEpochSend (s : State) : Answer :=
  .next (match s.rdn.sending with
    | some (n, base, stream, full, final) =>
      if s.role ≠ Role.active ∧ s.role ≠ Role.releasing then { s with rdn := { s.rdn with sending := none } }
      else match s.reach (s.landingAt (n + 1) + ofUs 10) with
        | some s1 =>
          let m := (s1.mirrorPorts.map (fun p => (s1.portRec p).mtu - 42)).foldl min 16384
          let sl := slices m stream.length stream
          let data := (List.range sl.length).zip sl |>.map (fun e => s1.epochData n e.1 e.2)
          let s2 := forEach data (fun c x => x.sendMirror .epoch 10 8 c) s1
          let s3 := s2.sendMirror .epoch 10 8 (s2.epochTrailer n base stream full final data)
          State.inc { s3 with rdn := { s3.rdn with sending := none } } R.rdnEpochTx
        | none => s
    | none => s)

/-! ### Receiving (R409, R411, R416) -/

/-- The frame on a mirror port is no mirror frame of this pair (R409). -/
def State.mirrorForeign (s : State) (b : List Byte) : Bool :=
  let c := b.drop 14
  beAt b 12 2 != 0x88B6 || beAt c 2 2 != s.pair.pairId || beAt c 0 1 == 0 || decide (3 < beAt c 0 1) || beAt c 1 1 != 1

/-- The peer's COMMITTED confirms what waits for it: held completions (R325), ended bindings, and a handover (R406). -/
def State.peerCommit (s : State) : State :=
  let c := s.rd64 R.rdnPeerCommitted
  if c = noEpoch then s
  else
    let told := fun (q : Nat) (e : Entry) => s.rdn.ends.any (fun x => x.1 == q && x.2.1 == e.idx &&
      (match x.2.2.2.2 with | some t => decide (t ≤ c) | none => false))
    let s1 := s.writeHeld told false
    let s2 : State := { s1 with rdn := { s1.rdn with
      ends := s1.rdn.ends.filter (fun x => match x.2.2.2.2 with | some t => decide (c < t) | none => true)
      snaps := s1.rdn.snaps.filter (fun e => decide (c ≤ e.1)) } }
    match s2.rdn.handoverAt with
    | some h => if s2.role = Role.releasing ∧ h ≤ c + 1 then s2.endRelease else s2
    | none => s2

/-- A valid heartbeat is taken (R411). -/
def State.takeHeartbeat (s : State) (c : List Byte) : State :=
  if beAt c 28 4 ≠ (crc32c (slice c 0 28)).toNat then s
  else
    let fl : Byte := BitVec.ofNat 8 (beAt c 25 1)
    let s1 := (s.wr64 R.rdnPeerCommitted (beAt c 16 8)).setF R.rdnStatus 23 21 (beAt c 24 1)
    let s2 := (s1.setF R.rdnHbMissRun 15 0 0).condition Src.mirrorLoss [Cu.ml] false
    let s3 : State := { s2 with rdn := { s2.rdn with
      hbSeen := true, hbFlags := fl, fullAsked := s2.rdn.fullAsked || fl.getLsbD 5 } }
    s3.peerCommit

/-- The device takes epochs: as STANDBY, while it claims, and until its takeover landing (R416, R420). -/
def State.takesEpochs (s : State) : Bool :=
  s.hasPair && (s.role == Role.standby || s.role == Role.claiming || (s.role == Role.active && s.rdn.takeoverDue))

/-- Epoch `t` was committed, or its trailer taken, already. -/
def State.epochPast (s : State) (t : Nat) : Bool :=
  (s.rd64 R.rdnCommitted != noEpoch && decide (t ≤ s.rd64 R.rdnCommitted)) ||
  (match s.rdn.inDone with | some d => decide (t ≤ d) | none => false)

/-- The incoming bank gives way to epoch `t` (R416). -/
def State.openEpoch (s : State) (t : Nat) : State :=
  let s1 : State := { s with rdn := { s.rdn with inTick := some t, inFrames := [] } }
  if s.rdn.inTick.isSome then s1.inc R.rdnEpochAbandon else s1

/-- A data frame is taken (R416): the first copy of each FRAME_SEQ counts. -/
def State.takeEpochData (s : State) (c : List Byte) : State :=
  let t := beAt c 8 8
  let old := match s.rdn.inTick with | some x => decide (t < x) | none => false
  if !s.takesEpochs || s.epochPast t || old then s
  else
    let s1 := if s.rdn.inTick = some t then s else s.openEpoch t
    let k := beAt c 16 4
    if (s1.rdn.inFrames.find? (fun e => e.1 == k)).isSome then s1
    else { s1 with rdn := { s1.rdn with inFrames := Tab.put (fun _ => []) s1.rdn.inFrames k (slice c 0 (24 + beAt c 20 2)) } }

/-- Read the record stream (R413); at most `fuel` records. -/
def parseStreamRecs : Nat → List Byte → Option (List MirrorRec)
  | 0, l => if l.isEmpty then some [] else none
  | n + 1, l =>
    if l.isEmpty then some []
    else
      let len := beAt l 2 2
      let size := 8 + (len + 3) / 4 * 4
      if l.length < size ∨ beAt l 1 1 ≠ 0 then none
      else match parseStreamRecs n (l.drop size) with
        | some t => some (⟨beAt l 0 1, beAt l 4 4, slice l 8 len⟩ :: t)
        | none => none

/-- The bank images of a GATE record. -/
def gateBanks (d : List Byte) : List Byte × List Byte :=
  let a := d.drop 8
  let n := bankSize (bankCount a)
  (a.take n, a.drop n)

/-- A record is valid on this device. -/
def State.recOk (s : State) (r : MirrorRec) : Bool :=
  let n := r.data.length
  match r.typ with
  | 1 =>
    let b := gateBanks r.data
    s.portUsed r.index && decide (32 ≤ n) && decide (leAt r.data 4 1 ≤ 1) && decide (bankCount b.1 ≤ 1024) &&
    b.1.length == bankSize (bankCount b.1) && decide (bankCount b.2 ≤ 1024) && b.2.length == bankSize (bankCount b.2)
  | 2 => decide (r.index < 4096) && n == 24 && decide (leAt r.data 16 1 ≤ 5)
  | 3 => decide (r.index < 4096) && n == 64
  | 4 => decide (0 < n) && n % 64 == 0 && decide (r.index + n / 64 ≤ 65536)
  | 5 => s.mirrorQueues.contains r.index && n == 8 && decide (leAt r.data 0 1 ≤ 4)
  | 6 => s.mirrorQueues.contains r.index && s.qKind r.index == 2 && n == 8 && decide (leAt r.data 4 1 ≤ 1)
  | _ => false

/-- The incoming bank is discarded; further copies of its epoch's frames are ignored. -/
def State.closeEpoch (s : State) (t : Nat) : State :=
  { s with rdn := { s.rdn with inTick := none, inFrames := [], inDone := some t } }

/-- An epoch commits (R416). -/
def State.commitEpoch (s : State) (t : Nat) (full : Bool) (recs : List MirrorRec) : State :=
  let s1 := ((s.closeEpoch t).wr64 R.rdnCommitted t).inc R.rdnEpochCommit
  let s2 := if full then s1.setBit R.rdnStatus 16 false else s1
  let s3 : State := { s2 with rdn := { s2.rdn with bank := s2.rdn.bank ++ recs } }
  s3.sendHeartbeat true

/-- An epoch fails its check. -/
def State.epochCheck (s : State) (t : Nat) : State := ((s.closeEpoch t).inc R.rdnEpochCheck).raise Src.mirrorCheck [Cu.ml]

/-- The trailer is checked (R416, R65); `ue` is the address of a block of the incoming bank that read uncorrectable
(R395). -/
def State.checkEpoch (s : State) (c : List Byte) (ue : Option Nat) : State :=
  let t := beAt c 8 8
  let fs := if s.rdn.inTick = some t then s.rdn.inFrames else []
  let data := fs.map (·.2)
  let stream := (data.map (fun d => d.drop 24)).flatten
  let whole := (fs.map (·.1)) == List.range (beAt c 24 4) && stream.length == beAt c 28 4
  let crc := beAt c 36 4 == (crc32c (data.flatten ++ slice c 0 36)).toNat
  let full := (beAt c 32 1).testBit 0
  let have' := s.rd64 R.rdnCommitted
  let s1 := match ue with | some a => (s.inc (R.memChUe (s.channelOf a))).raise Src.memUeCtrl [Cu.ch (s.channelOf a)] | none => s
  if !whole || !crc || ue.isSome then s1.epochCheck t
  else if beAt c 4 4 ≠ s.pair.compatId then ((s1.closeEpoch t).inc R.rdnEpochCompat).raise Src.mirrorCompat [Cu.ml]
  else if !full && (have' == noEpoch || decide (have' < beAt c 16 8)) then
    ((s1.closeEpoch t).inc R.rdnEpochBase).setBit R.rdnStatus 16 true
  else match parseStreamRecs stream.length stream with
    | some rs => if rs.all s.recOk then s1.commitEpoch t full rs else s1.epochCheck t
    | none => s1.epochCheck t

/-- A trailer is taken. -/
def State.takeEpochTrailer (s : State) (c : List Byte) (ue : Option Nat) : State :=
  let t := beAt c 8 8
  let old := match s.rdn.inTick with | some x => decide (t < x) | none => false
  if !s.takesEpochs || s.epochPast t || old then s
  else
    let s1 := if s.rdn.inTick.isSome && s.rdn.inTick != some t then s.openEpoch t else s
    s1.checkEpoch c ue

/-- A frame of good FCS arrived on a mirror port. -/
def State.mirrorReceive (s : State) (b : List Byte) (ue : Option Nat) : State :=
  if s.mirrorForeign b then s.inc R.rdnMirrorForeign
  else
    let c := b.drop 14
    if beAt c 0 1 = 1 then s.takeHeartbeat c
    else if beAt c 0 1 = 2 then s.takeEpochData c
    else s.takeEpochTrailer c ue

/-! ### The standby applies an epoch (R418) -/

/-- A GATE record at L(a). -/
def State.applyGate (s : State) (p : Nat) (d : List Byte) : State :=
  let b := gateBanks d
  let s1 := if s.bank p = b.1 then s
    else if checkBank p s.periodNs b.1 then
      ((s.setBank p b.1).wrN (R.schPActiveId p) (bankId b.1)).setF (R.schPFlight p) 6 0 (bankFlight b.1)
    else s.bankFailed p
  let s2 := (s1.setShadow p b.2).dropReqs (fun r => decide (r.kind = .bank p))
  let t := s.fullTick (leAt d 0 4)
  let s3 := if leAt d 4 1 = 1 ∧ s.now < t then s2.addReq ⟨.bank p, t, false, false, none, true⟩ else s2
  s3.settleOwned p

/-- A TICK_ACTION record. -/
def State.applyAction (s : State) (i : Nat) (d : List Byte) : State :=
  let b := slice d 0 16
  let s1 := (s.wrWords (R.tickAct i) (wordsOf 4 b)).setActSt i (leAt d 16 1)
  s1.setActNext i (if actRepeat b = 0 ∨ leAt d 20 4 = actTarget b then none else some (BitVec.ofNat 32 (leAt d 20 4)))

/-- The due instant d_n of a curve of GCB `i` that started at `tc` (R310). -/
def State.gcbDueAt (s : State) (i : Nat) (tc : Time) (n : Nat) : Time :=
  let st := s.gcbSteps i
  let sum : Nat := ((List.range (min n st)).map (fun j => s.gcbInterval i (j + 1))).foldl (· + ·) 0
  tc + ofNs ((sum + (n - st) * s.gcbInterval i (st + 1) : Nat) : Int)

/-- Gallery `g` is in host-assisted TWIN mode. -/
def State.hostTwin (s : State) (g : Nat) : Bool := (s.im.gallery g).twin == 1

/-- The summary of a function's units: 0 all in hardware mode, 1 all host-assisted, 2 mixed. -/
def summary (l : List Bool) : Nat := if l.all (fun b => !b) then 0 else if l.all id then 1 else 2

/-- TOP.FUNC_MODE (R36). -/
def State.funcMode (s : State) : Nat :=
  let im := s.im
  let gs := List.range 8
  let goose := (List.range 4096).map s.hostGoose
  if !s.hasPlan then 0
  else
    summary ((gs.filter im.galHasPort).map s.hostTstamp) +
    4 * summary ((gs.filter im.hasTb).map s.hostServo) +
    16 * summary ((gs.filter (fun g => im.galHasPort g || (im.gallery g).shCount != 0)).map s.hostTwin) +
    64 * summary (im.pgs.map (fun g => match im.pg? g with | some r => r.raw | none => false)) +
    256 * summary goose +
    1024 * summary (im.ports.map s.hostSwap) +
    4096 * summary ((List.range 20).map s.hostFault) +
    16384 * summary ((List.range 16).map s.hostPwr)

/-- TOP.FUNC_MODE follows the modes. -/
def State.settleFuncMode (s : State) : State := s.wrN R.topFuncMode s.funcMode

/-- Set the GOOSE_RPT mode of GCB `i` in the MODES in force. -/
def State.setHostGoose (s : State) (i : Nat) (h : Bool) : State :=
  let m := s.plan.modes
  let o := 24 + i / 8
  let b := leAt m o 1
  let v := if b.testBit (i % 8) == h then b else if h then b + 2 ^ (i % 8) else b - 2 ^ (i % 8)
  { s with plan := { s.plan with modes := patch m o (leBytes 1 v) } }

/-- A GCB record (R414). -/
def State.applyGcb (s : State) (i : Nat) (d : List Byte) : State :=
  let w := fun (o : Nat) => leAt d o 4
  let fl := w 0x24
  let s1 := ((s.wrN (R.txeGcbStnum i) (w 0)).wrN (R.txeGcbSqnum i) (w 4)).wrN (R.txeGcbCfg i) (w 0x28)
  let s2 := ((s1.wrN (R.txeGcbT1Us i) (w 0x2C)).wrN (R.txeGcbT0Ms i) (w 0x30)).wrN (R.txeGcbTplA i) (w 0x34)
  let s3 := (s2.wrN (R.txeGcbTplP i) (w 0x38)).setBit (R.txeGcbStatus i) 0 (fl.testBit 0)
  let s4 := ((s3.setBit (R.txeGcbStatus i) 2 (fl.testBit 1)).setBit (R.txeGcbStatus i) 5 (fl.testBit 2)).setBit
    (R.txeGcbStatus i) 3 (fl.testBit 3)
  let word := fun (o : Nat) => BitVec.ofNat 32 (w o)
  let tc := timeOfWords 16 (word 0x10) (word 0x14) (word 0x18) (word 0x1C)
  let k := w 0x20
  let g := s4.gcb i
  let s5 := s4.setGcb i { g with tc := tc, lastK := k, k := k + 1, fresh := false, flat := false, t := slice d 8 8 }
  (s5.setGcb i { s5.gcb i with due := s5.gcbDueAt i tc (k + 1) }).setHostGoose i (fl.testBit 1)

/-- A QUEUE record: recorded, and ended bindings before its HEAD are forgotten. -/
def State.applyQueue (s : State) (q : Nat) (d : List Byte) : State :=
  let h := leAt d 2 2
  let t := leAt d 4 2
  let live := fun (b : Nat × Nat × Nat × Nat × Nat) => b.1 != q || decide (idxDist b.2.1 h < 32768)
  { s with rdn := { s.rdn with
      queueRecs := s.rdn.queueRecs.filter (fun r => r.1 != q) ++ [(q, leAt d 0 1, leAt d 1 1, h, t)]
      bindRecs := s.rdn.bindRecs.filter live } }

/-- A BINDING record: only an ended one changes what a takeover does. -/
def State.applyBinding (s : State) (q : Nat) (d : List Byte) : State :=
  let i := leAt d 0 2
  let others := s.rdn.bindRecs.filter (fun b => b.1 != q || b.2.1 != i)
  { s with rdn := { s.rdn with bindRecs := others ++ [(q, i, leAt d 2 2, leAt d 4 1, leAt d 5 1)] } }

/-- One record is applied. -/
def State.applyRec (s : State) (r : MirrorRec) : State :=
  match r.typ with
  | 1 => s.applyGate r.index r.data
  | 2 => s.applyAction r.index r.data
  | 3 => s.applyGcb r.index r.data
  | 4 => s.tplWrite (64 * r.index) r.data
  | 5 => s.applyQueue r.index r.data
  | _ => s.applyBinding r.index r.data

/-- What committed since the last landing is applied; `ue` is the address of a block of the committed bank that read
uncorrectable: the epoch is then handled as one that failed its CRC (R395). -/
def State.applyEpochs (s : State) (ue : Option Nat) : State :=
  if s.rdn.bank.isEmpty then s
  else
    let s1 : State := { s with rdn := { s.rdn with bank := [] } }
    match ue with
    | some a =>
      let c := s.channelOf a
      ((((s1.inc (R.memChUe c)).raise Src.memUeCtrl [Cu.ch c])).inc R.rdnEpochCheck).raise Src.mirrorCheck [Cu.ml]
    | none => (forEach s.rdn.bank (fun r x => x.applyRec r) s1).settleFuncMode

/-! ### Takeover (R420, R421) -/

/-- SQNUM of a mirrored GCB at the takeover landing (R421). -/
def sqAfterGuard (sq guard : Nat) : Nat := if 2 ^ 31 - 1 < sq + guard then sq + guard - (2 ^ 31 - 1) else sq + guard

/-- A mirrored GCB takes its number, and its curve goes on: due instants that passed merge into one waiting frame. -/
def State.takeoverGcb (s : State) (i : Nat) : State :=
  let s1 := s.wrN (R.txeGcbSqnum i) (sqAfterGuard (s.rdN (R.txeGcbSqnum i)) (s.getF R.rdnSqGuard 15 0))
  if s1.gcbRuns i then
    let s2 := if s1.bit (R.txeGcbStatus i) 5 then (s1.gcbDrop i).gcbWait i else s1
    let span := (s2.srcNow - (s2.gcb i).due) / max 1 (ofNs (min (s2.gcbInterval i 1) (s2.gcbInterval i 9)))
    s2.gcbCatchUp i (span.toNat + 1)
  else s1

/-- A mirrored queue starts in its recorded state. -/
def State.takeoverQueue (s : State) (r : Nat × Nat × Nat × Nat × Nat) : State :=
  let q := r.1
  let st := if r.2.1 = QS.stopping then QS.stopped else r.2.1
  if st = QS.off then s
  else if !s.qBaseOk q || !s.crEnabled (s.qRing q) then s.inc R.rdnToQfail
  else
    let h := r.2.2.2.1
    let s1 := ((s.setF (R.qmQHead q) 15 0 h).setF (R.qmQTail q) 15 0 r.2.2.2.2).setF (R.qmQFetched q) 15 0 h
    let s2 := ((s1.takeCfg q).setQState q st).setF (R.qmQStatus q) 7 4 r.2.2.1
    let mine := s.rdn.bindRecs.filter (fun b => b.1 == q && b.2.2.2.1 == 1 &&
      decide (idxDist b.2.1 h < idxDist r.2.2.2.2 h))
    let ended := mine.map (fun b =>
      (⟨b.2.1, patch (List.replicate 64 0) 0xA (leBytes 2 b.2.2.1), Stage.held, 0, [], b.2.2.2.2, none, false⟩ : Entry))
    let x := s2.queue q
    (s2.setQueue q { x with entries := ended, done := [] }).flushOutcomes q

/-- The takeover landing L(t), before step 4 of R72. -/
def State.takeover (s : State) (ue : Option Nat) : State :=
  let s1 := if s.rdn.inTick.isSome then s.inc R.rdnEpochAbandon else s
  let s2 := State.applyEpochs { s1 with rdn := { s1.rdn with inTick := none, inFrames := [], takeoverDue := false } } ue
  let s3 := forEach s2.mirrorGcbs (fun i x => x.takeoverGcb i) s2
  let s4 := forEach s3.rdn.queueRecs (fun r x => x.takeoverQueue r) s3
  let s5 : State := { s4 with rdn := { s4.rdn with queueRecs := [], bindRecs := [], ends := [] } }
  ((s5.wrN R.rdnTakeoverTick s.now).inc R.rdnTakeovers).raise Src.pairTakeover []

/-! ### What a landing does -/

/-- Heartbeats of the tick that ended are counted (R411). -/
def State.hbLand (s : State) (first : Bool) : State :=
  if !s.hasPair then s
  else
    let seen := s.rdn.hbSeen
    let s1 : State := State.setBit { s with rdn := { s.rdn with hbSeen := false } } R.rdnStatus 20 seen
    let s2 := if seen || first then s1 else (s1.inc R.rdnHbMiss).incF R.rdnHbMissRun 15 0
    let s3 := s2.condition Src.mirrorLoss [Cu.ml] s2.mirrorLost
    let lag := s3.rd64 R.rdnPeerCommitted == noEpoch ||
      decide (((s3.inForce R.rdnStaleTicks).toNat % 65536 : Int) < (s3.now : Int) - s3.rd64 R.rdnPeerCommitted)
    s3.condition Src.mirrorStale [Cu.ml] (s3.role == Role.active && lag)

/-- Equal straps are contested at each landing (R404). -/
def State.strapLand (s : State) : State := if s.hasPair && s.sameStrap then s.raise Src.pairContest [] else s

/-- The active's part after step 2: its snapshot, and the handover (R406, R412). -/
def State.mirrorLand (s : State) : State :=
  if !s.hasPair then s
  else if s.role = Role.active then
    if s.rdn.handoverReq then
      let s1 := s.snapshot true
      let s2 : State := { s1 with rdn := { s1.rdn with handoverReq := false, handoverAt := some s.now } }
      s2.setRole Role.releasing
    else s.snapshot false
  else
    let s1 : State := { s with rdn := { s.rdn with handoverReq := false } }
    match s.rdn.handoverAt with
    | some h =>
      let done := s.rdn.snaps.any (fun e => decide (h ≤ e.1 + 1))
      if s.role = Role.releasing ∧ done = false then s1.snapshot true else s1
    | none => s1

end Sys2Proof.Machine
end

