-- ==== Sys2Proof/Machine/Twin.lean ====
section
/-! DEFINITION. Streams and twin elimination (06_streams_twins): redundancy tags, identification, metering, recovery, the
node table, the timers, and the commands of STR. -/

namespace Sys2Proof.Machine

/-! ### Redundancy tags and trailers (R186, R188, R198) -/

/-- What the device reads of a frame's redundancy: the source of its sequence number (0 none, 1 R-TAG, 2 HSR tag, 3 PRP
trailer), the number, a LanId that disagrees with the port, the frame without tags and trailer, and the number the node table
takes (the HSR tag's or the PRP trailer's). -/
structure Redund where
  src : Nat
  seq : Nat
  wrongLan : Bool
  bare : List Byte
  node : Option Nat
  deriving DecidableEq, Repr

/-- Cut `n` octets at offset `o`. -/
def cutAt (b : List Byte) (o n : Nat) : List Byte := b.take o ++ b.drop (o + n)

/-- The frame carries an HSR tag. -/
def hasHsrTag (b : List Byte) : Bool := etherType b == 0x892F

/-- The LSDU size of an HSR tag agrees with the frame (log entry 14). -/
def hsrSizeOk (b : List Byte) : Bool :=
  let n := beAt b (typeOfs b + 2) 2 % 4096
  n == lsduSize b % 4096 || (b.length == 60 && decide (n ≤ lsduSize b))

/-- The frame ends in a PRP trailer whose size and suffix are right. -/
def hasTrailer (b : List Byte) : Bool :=
  let o := b.length - 6
  decide (20 ≤ b.length) && beAt b (o + 4) 2 == 0x88FB && beAt b (o + 2) 2 % 4096 == lsduSize b % 4096

/-- Read and take off the redundancy of a frame received on a port of role `role`. -/
def readRedund (role : Nat) (b : List Byte) : Redund :=
  let o := typeOfs b
  let hsr := role == 3 && hasHsrTag b
  let b1 := if hsr then cutAt b o 6 else b
  let rt := etherType b1 == 0xF1C1
  let b2 := if rt then cutAt b1 o 6 else b1
  let prp := (role == 1 || role == 2) && hasTrailer b
  let b3 := if prp then b2.take (b2.length - 6) else b2
  let t := b.length - 6
  let wrong := prp && beAt b (t + 2) 2 / 4096 != (if role = 1 then 0xA else 0xB)
  let node := if hsr then some (beAt b (o + 4) 2) else if prp then some (beAt b t 2) else none
  if hsr then ⟨2, beAt b (o + 4) 2, wrong, b3, node⟩
  else if rt then ⟨1, beAt b1 (o + 4) 2, wrong, b3, node⟩
  else if prp then ⟨3, beAt b t 2, wrong, b3, node⟩
  else ⟨0, 0, wrong, b3, node⟩

/-- The path of a copy from port `p`: false A, true B (R188). -/
def State.pathB (s : State) (p : Nat) : Bool :=
  let r := s.portRec p
  if r.role = 1 then false
  else if r.role = 2 then true
  else if r.role = 3 then decide (r.partner < p)
  else p % 2 == 1

/-! ### Identification (R176 to R179) -/

/-- The VID compared: that of the innermost tag, and whether the frame counts as tagged with one. -/
def frameVid (b : List Byte) : Nat := match innerTci b with | some t => t % 4096 | none => 0

/-- The tagging a key asks for, and its VID. -/
def tagMatch (key b : List Byte) : Bool :=
  match leAt key 8 1 with
  | 1 => frameVid b != 0 && frameVid b == leAt key 6 2 % 4096
  | 2 => frameVid b == 0
  | 3 => true
  | _ => false

/-- A key of method 2 matches (R176, R177). -/
def ipMatch (key b : List Byte) : Bool :=
  let o := typeOfs b + 2
  let m := leAt key 9 1
  let l4 := o + 4 * (beAt b o 1 % 16)
  let proto := leAt key 0xB 1
  let hasPorts := proto == 6 || proto == 17
  etherType b == 0x0800 && beAt b o 1 / 16 == 4 && tagMatch key b &&
  beAt b (o + 16) 4 == leAt key 0xC 4 && beAt b (o + 9) 1 == proto &&
  (!m.testBit 0 || dmac b == leAt key 0 6) && (!m.testBit 1 || beAt b (o + 12) 4 == leAt key 0x10 4) &&
  (!m.testBit 2 || beAt b (o + 1) 1 / 4 == leAt key 0xA 1) &&
  !((m.testBit 3 || m.testBit 4) && beAt b (o + 6) 2 % 8192 != 0) &&
  (!(m.testBit 3 && hasPorts) || beAt b l4 2 == leAt key 0x16 2) &&
  (!(m.testBit 4 && hasPorts) || beAt b (l4 + 2) 2 == leAt key 0x14 2)

/-- The elements at the front of `b` as far as their heads are well formed: tag, content as far as `b` holds it, and whether it
holds all of it. -/
def berWalk : Nat → List Byte → List (Nat × List Byte × Bool)
  | 0, _ => []
  | n + 1, b =>
    match berHead b with
    | none => []
    | some (t, h, l) => (t, slice b h l, decide (h + l ≤ b.length)) :: berWalk n (b.drop (h + l))

/-- The content of the first element of tag `tag` that the walk through `b` meets, and whether all of it is there. -/
def berFind (b : List Byte) (tag : Nat) : Option (List Byte × Bool) :=
  ((berWalk b.length b).find? (fun e => e.1 == tag)).map (·.2)

/-- The svID of the first ASDU of a sampled-value frame; what follows it in the frame need not be well formed, which the prism
checks (R178, R242). -/
def firstSvId (b : List Byte) : Option (List Byte) :=
  match berWalk 1 (b.drop (typeOfs b + 10)) with
  | (0x60, pdu, _) :: _ =>
    match berFind pdu 0xA2 with
    | some (seq, _) =>
      (match berWalk 1 seq with
       | (0x30, asdu, _) :: _ => (match berFind asdu 0x80 with | some (v, true) => some v | _ => none)
       | _ => none)
    | none => none
  | _ => none

/-- A key of method 3 matches (R178). -/
def State.svMatch (s : State) (key b : List Byte) : Bool :=
  let o := typeOfs b + 2
  if leAt key 2 1 = 0 then
    etherType b == 0x88BA && beAt b o 2 == leAt key 0 2 && firstSvId b == some (slice key 4 (leAt key 3 1))
  else etherType b == fld (s.inForce R.przInCfg) 15 0 && beAt b (o + 4) 4 == leAt key 4 4

/-- The record's key matches the bare frame. -/
def State.keyMatch (s : State) (r : StreamRec) (b : List Byte) : Bool :=
  match r.method with
  | 0 => dmac b == leAt r.key 0 6 && tagMatch r.key b
  | 1 => smac b == leAt r.key 0 6 && tagMatch r.key b
  | 2 => ipMatch r.key b
  | 3 => s.svMatch r.key b
  | _ => false

/-- How much a key compares: its method, then its tagging, then its MASK bits (R179). -/
def keyRank (r : StreamRec) : Nat :=
  let m := leAt r.key 9 1
  let bits := ((List.range 8).filter m.testBit).length
  r.method * 64 + (if r.method ≤ 2 ∧ leAt r.key 8 1 ≠ 3 then 16 else 0) + (if r.method = 2 then bits else 0)

/-- The record a frame takes: the key that compares the most, among equals the lowest SH. -/
def bestKey : List StreamRec → Option StreamRec
  | [] => none
  | r :: t => match bestKey t with
    | none => some r
    | some q => if keyRank r < keyRank q ∨ (keyRank r = keyRank q ∧ q.sh < r.sh) then some q else some r

/-- The handle of a bare frame. -/
def State.identify (s : State) (b : List Byte) : Option StreamRec := bestKey (s.im.streams.filter (fun r => s.keyMatch r b))

/-! ### Handles -/

/-- A handle at load (R206). -/
def handleInit (_ : Nat) : HandleSt :=
  ⟨true, 0, 0, 0, false, false, false, false, none, 0, none, none, 0, 0, 0, 0, 0, 0, 0, 0, 0, 0, 0⟩

/-- Handle `sh` beside its plan record. -/
def State.handle (s : State) (sh : Nat) : HandleSt := Tab.get handleInit s.str.handles sh

/-- Replace handle `sh`. -/
def State.setHandle (s : State) (sh : Nat) (h : HandleSt) : State :=
  { s with str := { s.str with handles := Tab.put handleInit s.str.handles sh h } }

/-- The home gallery of handle `sh`. -/
def State.home (s : State) (sh : Nat) : Nat := (s.im.homeOf sh).getD 0

/-- Handle `sh` is contained (R185). -/
def State.handleContained (s : State) (sh : Nat) : Bool := (s.handle sh).contained || s.galContained (s.home sh)

/-- Add one to a counter of a handle, which saturates at 64 bits. -/
def up64 (n : Nat) : Nat := satAdd 64 n 1

/-! ### Meters (R182 to R184) -/

/-- A meter never used. -/
def meterInit (_ : Nat) : MeterSt := ⟨0, 0, 0, false⟩

/-- Meter `m`. -/
def State.meter (s : State) (m : Nat) : MeterSt := Tab.get meterInit s.str.meters m

/-- Replace meter `m`. -/
def State.setMeter (s : State) (m : Nat) (x : MeterSt) : State :=
  { s with str := { s.str with meters := Tab.put meterInit s.str.meters m x } }

/-- One octet in bucket units. -/
def octetUnit : Nat := 8 * 10 ^ 6 * 2 ^ 48

/-- A bucket size register in bucket units. -/
def State.bucketMax (s : State) (k : Nat) : Nat := (s.inForce k).toNat * octetUnit

/-- Colours of a frame. -/
inductive Colour where
  | green
  | yellow
  | red
  deriving DecidableEq, Repr

/-- Meter `m` with its buckets filled up to the present, at the rates in force (MEF 10.3 by IEEE 802.1Q). -/
def State.filled (s : State) (m : Nat) : MeterSt :=
  let x := s.meter m
  let dt := (s.clock - x.since).toNat
  let c0 := x.committed + (s.inForce (R.strMeterCir m)).toNat * dt
  let cmax := s.bucketMax (R.strMeterCbs m)
  let spare := if rbit (s.inForce (R.strMeterCfg m)) 1 then c0 - cmax else 0
  let c := min cmax c0
  let e := min (s.bucketMax (R.strMeterEbs m)) (x.excess + (s.inForce (R.strMeterEir m)).toNat * dt + spare)
  { x with committed := c, excess := e, since := s.clock }

/-- Meter `m` measures a frame of `len` octets, color-blind (MEF 10.3 by IEEE 802.1Q). -/
def State.runMeter (s : State) (m len : Nat) : Colour × State :=
  let x := s.filled m
  let l := len * octetUnit
  if l ≤ x.committed then (.green, s.setMeter m { x with committed := x.committed - l })
  else if l ≤ x.excess then (.yellow, s.setMeter m { x with excess := x.excess - l })
  else (.red, s.setMeter m x)

/-- Filter a frame of handle `sh` by its POLICER: none when discarded, else whether it is yellow. -/
def State.police (s : State) (r : StreamRec) (g len : Nat) : Option Bool × State :=
  let m := r.policer
  let cfg := s.inForce (R.strMeterCfg m)
  let drop := fun (x : State) => (none, x.setHandle r.sh { x.handle r.sh with policed := up64 (x.handle r.sh).policed })
  if m = 0xFFFF ∨ rbit cfg 0 = false then (some false, s)
  else if s.bit (R.strMeterCfg m) 4 then drop s
  else match s.runMeter m len with
    | (.green, s1) => (some false, s1)
    | (.yellow, s1) => if rbit cfg 2 then drop s1 else (some true, s1)
    | (.red, s1) =>
      if rbit cfg 3 then drop ((s1.hwSet (R.strMeterCfg m) 4).raise (Src.meterRed g) [Cu.gallery g]) else drop s1

/-- The time before a landing counts at the rates that were in force in it (R184). -/
def State.metersFill (s : State) : State :=
  forEach (s.str.meters.map (·.1)) (fun m x => if (x.meter m).running then x.setMeter m (x.filled m) else x) s

/-- At a landing the written parameters take effect: a meter newly enabled starts with full buckets (R184). -/
def State.metersLand (s : State) : State :=
  let on := ((s.listed (R.strMeterCfg 0) (R.strMeterCfg 4096)).filter
    (fun k => (k - R.strMeterCfg 0) % 0x20 == 0)).map (fun k => (k - R.strMeterCfg 0) / 0x20)
  let old := s.str.meters.map (·.1)
  forEach (on ++ old.filter (fun m => !on.contains m)) (fun m x =>
    let y := x.meter m
    let en := x.bit (R.strMeterCfg m) 0
    if en && !y.running then
      x.setMeter m ⟨x.rdN (R.strMeterCbs m) * octetUnit, x.rdN (R.strMeterEbs m) * octetUnit, x.clock, true⟩
    else x.setMeter m { y with running := en }) s

/-! ### Recovery (R187 to R190) -/

/-- A pass on path B or A is recorded (R190). -/
def State.notePass (s : State) (sh : Nat) (b : Bool) : State :=
  let h := s.handle sh
  s.setHandle sh { h with
    passed := up64 h.passed
    passA := if b then h.passA else up64 h.passA
    passB := if b then up64 h.passB else h.passB
    lastPath := b
    lastPass := some s.now
    shownPass := s.now % 2 ^ 32 }

/-- Count a duplicate. -/
def State.noteDiscard (s : State) (sh : Nat) : State :=
  s.setHandle sh { s.handle sh with discarded := up64 (s.handle sh).discarded }

/-- Count a rogue copy and raise its source. -/
def State.noteRogue (s : State) (sh : Nat) : State :=
  let g := s.home sh
  (s.setHandle sh { s.handle sh with rogue := up64 (s.handle sh).rogue }).raise (Src.twinRogue g) [Cu.gallery g]

/-- Bits of `h` from `lo` up, `n` of them, that are 0. -/
def zerosIn (h lo n : Nat) : Nat := ((List.range n).filter (fun k => !h.testBit (lo + k))).length

/-- A copy of path liveness reaches the eliminator (R193). -/
def State.noteCopy (s : State) (sh : Nat) (b : Bool) : State :=
  let h := s.handle sh
  s.setHandle sh (if b then { h with lastB := some s.now, pathDownB := false } else { h with lastA := some s.now, pathDownA := false })

/-- Vector recovery of number `seq` from source `src` (R189): pass or not, and the state after. -/
def State.vectorRecover (s : State) (r : StreamRec) (src seq : Nat) : Bool × State :=
  let sh := r.sh
  let h := s.handle sh
  let len := r.histLen
  if h.takeAny then (true, s.setHandle sh { h with recovSeq := seq, hist := 1, takeAny := false })
  else
    let d := signed 16 (unsigned 16 ((seq : Int) - h.recovSeq))
    let fwd : Int := if src = 1 then len else 2 ^ 15 - 1
    if d ≤ -(len : Int) ∨ fwd < d then (false, s.noteRogue sh)
    else if d ≤ 0 then
      if h.hist.testBit (-d).toNat then (false, s.noteDiscard sh)
      else (true, s.setHandle sh { h with hist := h.hist + 2 ^ (-d).toNat, outOfOrder := up64 h.outOfOrder })
    else
      let k := min d.toNat len
      let lost := if src = 1 then satAdd 64 h.lost (zerosIn h.hist (len - k) k) else h.lost
      (true, s.setHandle sh { h with hist := (h.hist * 2 ^ k) % 2 ^ len / 2 * 2 + 1, recovSeq := seq, lost := lost })

/-- Match recovery (R189). -/
def State.matchRecover (s : State) (r : StreamRec) (seq : Nat) : Bool × State :=
  let h := s.handle r.sh
  if h.takeAny || h.recovSeq != seq then (true, s.setHandle r.sh { h with recovSeq := seq, takeAny := false })
  else (false, s.noteDiscard r.sh)

/-- The home eliminator takes a copy: whether it passes (R187 to R190, R203). `bypass`: an untagged frame on a ring port,
delivered without elimination (R201). -/
def State.eliminate (s : State) (r : StreamRec) (v : Redund) (b bypass : Bool) : Bool × State :=
  let sh := r.sh
  let s1 := if r.recovery = 0 then s else s.noteCopy sh b
  let count := fun (x : State) =>
    let h := x.handle sh
    x.setHandle sh { h with
      passed := up64 h.passed
      passA := if b then h.passA else up64 h.passA
      passB := if b then up64 h.passB else h.passB }
  if s.hostTwin (s.home sh) then (true, count s1)
  else if r.recovery = 0 then (true, s1.notePass sh b)
  else if v.src = 0 then
    (true, (s1.setHandle sh { s1.handle sh with tagless := up64 (s1.handle sh).tagless }).notePass sh b)
  else if bypass then (true, s1.notePass sh b)
  else if (s1.handle sh).seqSrc ≠ 0 ∧ (s1.handle sh).seqSrc ≠ v.src then (false, s1.noteRogue sh)
  else
    let o := if r.recovery = 2 then s1.matchRecover r v.seq else s1.vectorRecover r v.src v.seq
    if o.1 then (true, (o.2.setHandle sh { o.2.handle sh with seqSrc := v.src }).notePass sh b) else o

/-! ### The node table (R197, R200) -/

/-- One step of a window of 64 numbers: whether the number is new, and the window after. -/
def Window.take (w : Option Window) (seq : Nat) : Bool × Window :=
  match w with
  | none => (true, ⟨seq, 1⟩)
  | some w =>
    let d := signed 16 (unsigned 16 ((seq : Int) - w.seq))
    if d ≤ -64 then (true, ⟨seq, 1⟩)
    else if d ≤ 0 then
      (if w.hist.testBit (-d).toNat then (false, w) else (true, { w with hist := w.hist + 2 ^ (-d).toNat }))
    else (true, ⟨seq, (w.hist * 2 ^ min d.toNat 64) % 2 ^ 64 / 2 * 2 + 1⟩)

/-- The entry of a source MAC on a pair. -/
def State.node? (s : State) (pair mac : Nat) : Option Node := s.str.nodes.find? (fun n => n.pair == pair && n.mac == mac)

/-- Replace or add an entry. -/
def State.putNode (s : State) (n : Node) : State :=
  let rest := s.str.nodes.filter (fun m => m.pair != n.pair || m.mac != n.mac)
  { s with str := { s.str with nodes := rest ++ [n] } }

/-- The entry of a source MAC, made when there is room: with none, the frame counts in NODE_FULL, once (`count`). -/
def State.needNode (s : State) (pair mac : Nat) (count : Bool) : Option Node × State :=
  match s.node? pair mac with
  | some n => (some { n with seen := s.clock }, s)
  | none =>
    if s.str.nodes.length < 16384 then (some ⟨pair, mac, none, none, none, s.clock⟩, s)
    else if count then
      let g := s.portGallery pair
      (none, (s.inc64 (R.strRpNodeFull pair)).raise (Src.nodeFull g) [Cu.gallery g])
    else (none, s)

/-- Local elimination of a frame without a handle: whether it passes. `count`: forwarding has not looked for its entry. -/
def State.nodeLocal (s : State) (pair mac seq : Nat) (count : Bool) : Bool × State :=
  match s.needNode pair mac count with
  | (some n, s1) =>
    let w := Window.take n.localWin seq
    (w.1, s1.putNode { n with localWin := some w.2 })
  | (none, s1) => (true, s1)

/-- The forward window of a frame from ring port `p`: whether the copy is forwarded (R200). -/
def State.nodeForward (s : State) (pair p mac seq : Nat) : Bool × State :=
  match s.needNode pair mac true with
  | (some n, s1) =>
    let low := p == pair
    let w := Window.take (if low then n.fwdLow else n.fwdHigh) seq
    (w.1, s1.putNode (if low then { n with fwdLow := some w.2 } else { n with fwdHigh := some w.2 }))
  | (none, s1) => (true, s1)

/-- NODE_FORGET: an entry that has seen no frame for FORGET_MS is freed (R197). -/
def execNodeForget (pair mac : Nat) (s : State) : Answer :=
  .next (match s.node? pair mac with
    | some n =>
      (match s.reachClock (n.seen + ofMs (s.getF (R.strRpForget pair) 15 0)) with
       | some s1 => { s1 with str := { s1.str with
           nodes := s1.str.nodes.filter (fun m => m.pair != pair || m.mac != mac) } }
       | none => s)
    | none => s)

/-! ### Supervision (R196, R201) -/

/-- The octets of a supervision frame (IEC 62439-3:2021, log entry 24). -/
def supFrame (hsr : Bool) (mac seq : Nat) : List Byte :=
  let b := beBytes 6 0x01154E000100 ++ beBytes 6 mac ++ beBytes 2 0x88FB ++ beBytes 2 1 ++ beBytes 2 seq ++
    beBytes 1 (if hsr then 23 else 20) ++ beBytes 1 6 ++ beBytes 6 mac ++ [0, 0]
  b ++ List.replicate (60 - b.length) 0

/-- The traffic class TC_MAP of a pair gives a PCP (R200). -/
def State.tcOf (s : State) (pair pcp : Nat) : Nat := fld (s.inForce (R.strRpTcMap pair)) (3 * pcp + 2) (3 * pcp)

/-- The next supervision frame of the pair of lower port `p` becomes ready. -/
def State.supervise (s : State) (p : Nat) : State :=
  let n := Tab.get (fun _ => 0) s.str.supSeq p
  let s1 := { s with str := { s.str with
    supSeq := Tab.put (fun _ => 0) s.str.supSeq p ((n + 1) % 65536)
    supAt := Tab.put (fun _ => none) s.str.supAt p (some s.clock) } }
  let f : TxFrame := ⟨0, .supervision p, s.txPorts p, s.tcOf p 0, false,
    supFrame ((s.portRec p).role == 3) (s.rd64 (R.strRpMac p) % 2 ^ 48) n, none, some p, none, true, none, true⟩
  (s1.enqueue f).inc64 (R.strRpSupTx p)

/-- SUPERVISION_SEND: the pair of lower port `p` sends its supervision frame on both ports, LIFE_CHECK_MS after the one before,
the first at once (log entry 105). -/
def execSupervisionSend (p : Nat) (s : State) : Answer :=
  .next (
    if s.pairOf p = some p ∧ s.bit (R.strRpCtl p) 0 ∧ s.rd64 (R.strRpMac p) % 2 ^ 48 ≠ 0 then
      match Tab.get (fun _ => none) s.str.supAt p with
      | none => s.supervise p
      | some t => (match s.reachClock (t + ofMs (s.getF (R.strRpCtl p) 31 16)) with
        | some s1 => s1.supervise p
        | none => s)
    else s)

/-! ### Timers (R191, R193) -/

/-- A handle resets (R191, R206). -/
def State.resetHandle (s : State) (sh : Nat) : State :=
  let h := s.handle sh
  s.setHandle sh { h with takeAny := true, hist := 0, seqSrc := 0, resets := up64 h.resets }

/-- Rt of a handle in ticks. -/
def State.resetTicks (s : State) (r : StreamRec) : Nat := ceilDiv (ofNs r.resetNs) s.period

/-- The timer resets a handle at the landing of tick `n` (R191): the last pass alone counts, whatever reset it since. -/
def State.twinDue (s : State) (r : StreamRec) (n : Nat) : Bool :=
  match (s.handle r.sh).lastPass with
  | some t => r.recovery != 0 && r.resetNs != 0 && !s.hostTwin (s.home r.sh) && decide (t + 1 + s.resetTicks r ≤ n)
  | none => false

/-- The reset of a handle by its timer, when it is due (R191). -/
def State.twinTimer (s : State) (r : StreamRec) : State :=
  if s.twinDue r s.now then
    let g := s.home r.sh
    let x := s.resetHandle r.sh
    (x.setHandle r.sh { x.handle r.sh with lastPass := none }).raise (Src.twinReset g) [Cu.gallery g]
  else s

/-- The paths of a handle, A and B, whose PATH_DOWN sets at the landing of tick `n` (R193). -/
def State.pathsDue (s : State) (r : StreamRec) (n : Nat) : Bool × Bool :=
  let h := s.handle r.sh
  let w := (s.inForce R.strPathWin).toNat % 65536
  let age := fun (t : Option Nat) => n - t.getD s.str.firstTick
  let on := r.recovery != 0 && (h.lastA.isSome || h.lastB.isSome)
  (on && !h.pathDownA && decide (w + 1 ≤ age h.lastA) && decide (age h.lastB ≤ w),
   on && !h.pathDownB && decide (w + 1 ≤ age h.lastB) && decide (age h.lastA ≤ w))

/-- PATH_DOWN of the paths of a handle, when it is due (R193). -/
def State.pathTimer (s : State) (r : StreamRec) : State :=
  let h := s.handle r.sh
  let d := s.pathsDue r s.now
  let g := s.home r.sh
  if d.1 || d.2 then
    (s.setHandle r.sh { h with pathDownA := h.pathDownA || d.1, pathDownB := h.pathDownB || d.2 }).raise
      (Src.pathLoss g) [Cu.gallery g]
  else s

/-- The timers of every handle at a landing. -/
def State.twinsLand (s : State) : State :=
  forEach (s.im.streams.filter (fun r => r.recovery != 0)) (fun r x => (x.twinTimer r).pathTimer r) s

/-! ### Commands of STR (R208, R210) -/

/-- A command of STR.CMD on handle `sh`. -/
def State.strCommand (s : State) (req : Requester) (sh : Nat) (legal : StreamRec → State → Bool) (f : State → State) : State :=
  s.guarded req R.strCmd (fun s0 =>
    let s := s0.setF R.strCmd 31 16 sh
    match s.stream? (sh % 65536) with
    | some r => if legal r s then (f s).result R.strStatus Code.ok else s.result R.strStatus Code.state
    | none => s.result R.strStatus Code.state)

/-- RECOV_RESET. -/
def execRecovReset (req : Requester) (sh : Nat) (s : State) : Answer :=
  .next (s.strCommand req sh (fun r s => r.recovery != 0 && !s.hostTwin (s.home r.sh)) (fun s => s.resetHandle (sh % 65536)))

/-- CONTAIN. -/
def execContain (req : Requester) (sh : Nat) (s : State) : Answer :=
  .next (s.strCommand req sh (fun r s => !(s.handle r.sh).contained)
    (fun s => s.setHandle (sh % 65536) { s.handle (sh % 65536) with contained := true }))

/-- RELEASE. -/
def execStrRelease (req : Requester) (sh : Nat) (s : State) : Answer :=
  .next (s.strCommand req sh (fun r s => (s.handle r.sh).contained)
    (fun s => s.setHandle (sh % 65536) { s.handle (sh % 65536) with contained := false }))

/-- A reserved STR command completes with STATE. -/
def execStrCmdReserved (req : Requester) (sh : Nat) (s : State) : Answer :=
  .next (s.strCommand req sh (fun _ _ => false) id)

/-- W_STATE of a handle. -/
def State.strStateWord (s : State) (sh : Nat) : Reg :=
  if (s.stream? sh).isNone then 0
  else
    let h := s.handle sh
    BitVec.ofNat 32 (16 + h.lastPath.toNat * 32 + h.seqSrc % 4 * 64 + h.takeAny.toNat * 256 +
      (s.hostTwin (s.home sh)).toNat * 512 + (s.handleContained sh).toNat * 1024 + h.pathDownA.toNat * 2048 +
      h.pathDownB.toNat * 4096 + h.recovSeq % 65536 * 65536)

/-- A handle with its counters cleared. -/
def HandleSt.cleared (h : HandleSt) : HandleSt :=
  { h with
    passed := 0
    discarded := 0
    outOfOrder := 0
    rogue := 0
    lost := 0
    resets := 0
    passA := 0
    passB := 0
    tagless := 0
    policed := 0
    containDrop := 0 }

/-- STR_SEL_WRITE: the record of handle SH is copied into the window; CLEAR clears its counters (R210). -/
def execStrSelWrite (req : Requester) (v : Reg) (s : State) : Answer :=
  .next (s.guarded req R.strSel (fun s =>
    let sh := fld v 15 0
    let h := if (s.stream? sh).isSome then s.handle sh else handleInit sh
    let s1 := ((s.wrN R.strSel sh).wr R.strWState (s.strStateWord sh)).wrN R.strWLastPass h.shownPass
    let s2 := (s1.wrN R.strWLastA (h.lastA.getD 0)).wrN R.strWLastB (h.lastB.getD 0)
    let s3 := forEach [(R.strWPassed, h.passed), (R.strWDiscarded, h.discarded), (R.strWOutOfOrder, h.outOfOrder),
      (R.strWRogue, h.rogue), (R.strWLost, h.lost), (R.strWResets, h.resets), (R.strWPassA, h.passA),
      (R.strWPassB, h.passB), (R.strWTagless, h.tagless), (R.strWPoliced, h.policed),
      (R.strWContainDrop, h.containDrop)] (fun e x => x.wr64 e.1 e.2) s2
    if rbit v 16 then s3.setHandle sh (s3.handle sh).cleared else s3))

end Sys2Proof.Machine
end

