-- ==== Sys2Proof/Machine/Links.lean ====
section
/-! DEFINITION. The link state machine of a port (R151, R154), the verification of its merge partner (R167), and the
commands of PRT.P[p].CTL. -/

namespace Sys2Proof.Machine

/-- The lanes of port `p`. -/
def State.portLanes (s : State) (p : Nat) : List Nat :=
  (List.range (s.portRec p).lanes).map (fun k => (s.portRec p).firstLane + k)

/-- What lane `l` of port `p` transmits while its port is not DISABLED: its CFG as taken at the entry to TRAINING, and the taps of
TXEQ, MAIN above 0x1F acting as 0x1F; link training sets the taps itself (R149). -/
def State.laneTx (s : State) (p l : Nat) : Reg × Option (List Int) :=
  let x := s.port p
  let e := s.rd (R.prtLTxeq l)
  (x.laneCfg.getD (l - (s.portRec p).firstLane) 0,
   if x.lt then none
   else some [signed 6 (fld e 5 0), min 0x1F (fld e 13 8), signed 6 (fld e 21 16), signed 6 (fld e 29 24)])

/-- The transmitters of port `p` follow its link state: electrical idle while it is DISABLED (R144, log entry 104). -/
def State.emitLanes (s : State) (p : Nat) : State :=
  forEach (s.portLanes p) (fun l x =>
    x.emit (.lane l (if x.link p = Link.disabled then none else some (x.laneTx p l)))) s

/-- TXEQ of lane `l` was written: its transmitter follows at once where no link training sets it (R149). -/
def State.txeqWritten (s : State) (l : Nat) : State :=
  match s.im.ports.find? (fun p => (s.portLanes p).contains l) with
  | some p => if s.link p = Link.disabled ∨ (s.port p).lt then s else s.emit (.lane l (some (s.laneTx p l)))
  | none => s

/-- The Reconciliation Sublayer of port `p` sends remote fault: FAULT with a local fault (R151). -/
def State.sendsFault (s : State) (p : Nat) : Bool := s.link p == Link.fault && s.bit (R.prtPStatus p) 16

/-- Remote fault begins or ends on port `p` when it did not stand, or did, in `old`. -/
def State.emitFault (s old : State) (p : Nat) : State :=
  if s.sendsFault p = old.sendsFault p then s else s.emit (.remoteFault p (s.sendsFault p))

/-- VERIFY of port `p` as its link enters UP or leaves it, and PREEMPT_ACTIVE with it (R166, R167). -/
def State.startVerify (s : State) (p : Nat) : State :=
  let v := if s.link p = Link.up ∧ s.bit (R.prtPMmCfg p) 0 ∧ s.bit (R.prtPMmCfg p) 3 then Verify.verifying
    else s.verifyRest p
  ((s.setF (R.prtPStatus p) 23 20 v).setPort p { s.port p with verifies := 0 }).settlePreempt p

/-- Set LINK of port `p`, entered now. -/
def State.linkTo (s : State) (p st : Nat) : State :=
  (s.setF (R.prtPStatus p) 2 0 st).setPort p { s.port p with since := s.clock }

/-- Port `p` enters TRAINING: LT_EN and the CFG of its lanes are taken (R149, lane registers after R172). -/
def State.train (s : State) (p : Nat) : State :=
  let s1 := forEach (s.portLanes p) (fun l x => x.setBit (R.prtLStatus l) 2 false) (s.linkTo p Link.training)
  let cfg := (s.portLanes p).map (fun l => s.rd (R.prtLCfg l))
  (s1.setPort p { s1.port p with lt := s.bit (R.prtPCtl p) 1, laneCfg := cfg }).emitLanes p

/-- Port `p` enters DISABLED: its lanes have neither signal nor lock. -/
def State.disablePort (s : State) (p : Nat) : State :=
  (forEach (s.portLanes p) (fun l x => x.setF (R.prtLStatus l) 3 0 0) (s.linkTo p Link.disabled)).emitLanes p

/-- What leaving UP does (R154). -/
def State.leaveUp (s : State) (p : Nat) : State :=
  let gs := s.portSlot p
  let cut := (s.port p).rxBegun.isSome || (s.port p).rxFrag.isSome
  let s1 := (s.settlePort p).cutPort p
  let s2 := if cut then s1.inc64 (R.prtPRxAbort p) else s1
  let s3 := s2.inc64 (R.prtPLinkDownCnt p)
  let seen := s3.bit (R.prtGLinkEvt gs.1) gs.2
  let s4 := if seen then s3.hwSet (R.prtGLinkEvt gs.1) gs.2 else (s3.hwSet (R.prtGLinkEvt gs.1) gs.2).event (Evt.link gs.1)
  if View.run ≤ s.getF (R.topUsb p) 3 0 then s4.raise (Src.linkDown gs.1) [Cu.port p] else s4

/-- Leave the present link state for `st`, with all that leaving UP does. -/
def State.linkLeave (s : State) (p st : Nat) : State :=
  let s1 := if s.link p = Link.up then s.leaveUp p else s
  let s2 := if st = Link.training then s1.train p else if st = Link.disabled then s1.disablePort p else s1.linkTo p st
  (s2.startVerify p).emitFault s p

/-- The lanes of port `p` have their reference clock. -/
def State.lanesClocked (s : State) (p : Nat) : Bool := !s.isLive (Src.refclkLoss (s.portGallery p))

/-- LINK_ALIGNING: every lane of a TRAINING port has signal and lock, and link training is complete where it runs. -/
def execLinkAligning (p : Nat) (s : State) : Answer :=
  .next (
    if s.portUsed p && s.link p == Link.training && s.lanesClocked p then
      let s1 := forEach (s.portLanes p) (fun l x =>
        ((x.setBit (R.prtLStatus l) 0 true).setBit (R.prtLStatus l) 1 true).setBit (R.prtLStatus l) 2 (s.port p).lt) s
      s1.linkTo p Link.aligning
    else s)

/-- LINK_UP: the conditions for UP were held for UP_QUAL_MS, from `start` ns after the entry to the present state on. In ALIGNING
they have to begin within 500 ms of the entry (R151, log entry 103). -/
def execLinkUp (p start : Nat) (s : State) : Answer :=
  .next (
    if s.portUsed p && (s.link p == Link.fault || (s.link p == Link.aligning && decide (start ≤ 500000000))) && s.lanesClocked p then
      match s.reachClock ((s.port p).since + ofNs start + ofMs (max 1 (s.getF (R.prtPLinkTmr p) 15 0))) with
      | some s1 => (((s1.setF (R.prtPStatus p) 18 14 3).linkTo p Link.up).startVerify p).emitFault s1 p
      | none => s
    else s)

/-- ALIGN_TIMEOUT: 500 ms in ALIGNING. -/
def execAlignTimeout (p : Nat) (s : State) : Answer :=
  .next (
    if s.link p = Link.aligning then
      match s.reachClock ((s.port p).since + ofMs 500) with
      | some s1 => s1.linkLeave p Link.training
      | none => s
    else s)

/-- LINK_FAULT: the condition bits [18:14] of STATUS of an UP or FAULT port become `st`; a fault of an UP port that has lasted
`ns` takes it to FAULT when that is longer than DOWN_HOLD_US (R151, R154). -/
def execLinkFault (p st ns : Nat) (s : State) : Answer :=
  .next (
    if s.portUsed p && (s.link p == Link.up || s.link p == Link.fault) then
      let s1 := s.setF (R.prtPStatus p) 18 14 st
      if s.link p = Link.up ∧ s.getF (R.prtPLinkTmr p) 31 16 * 1000 < ns then s1.linkLeave p Link.fault else s1.emitFault s p
    else s)

/-- CDR_LOSS_TIMEOUT: lane `l` of a FAULT port has had no CDR lock for 10 ms. -/
def execCdrLossTimeout (p l : Nat) (s : State) : Answer :=
  .next (
    if s.link p = Link.fault ∧ (s.portLanes p).contains l then
      (s.setBit (R.prtLStatus l) 1 false).linkLeave p Link.training
    else s)

/-- RETRAIN: legal in UP and FAULT. -/
def execRetrain (req : Requester) (p : Nat) (s : State) : Answer :=
  .next (s.guarded req (R.prtPCtl p) (fun s =>
    if !s.portUsed p then s
    else if s.link p = Link.up ∨ s.link p = Link.fault then
      (s.linkLeave p Link.training).result (R.prtPStatus p) Code.ok
    else s.result (R.prtPStatus p) Code.state))

/-- A reserved port command completes with STATE. -/
def execPrtCmdReserved (req : Requester) (p : Nat) (s : State) : Answer :=
  .next (s.guarded req (R.prtPCtl p) (fun s => if s.portUsed p then s.result (R.prtPStatus p) Code.state else s))

/-- VERIFY_TIME_MS as taken. -/
def State.verifyMs (s : State) (p : Nat) : Nat :=
  let v := s.getF (R.prtPMmCfg p) 15 8
  if 1 ≤ v ∧ v ≤ 128 then v else 10

/-- VERIFY_TIMER: the next Verify is sent; after three attempts without a Respond verification fails (R167). A port that does not
carry traffic sends only idles (R153). -/
def execVerifyTimer (p : Nat) (s : State) : Answer :=
  .next (
    let x := s.port p
    if s.link p = Link.up ∧ s.getF (R.prtPStatus p) 23 20 = Verify.verifying ∧ s.portCarries p then
      match s.reachClock (x.since + ofMs (x.verifies * s.verifyMs p)) with
      | some s1 =>
        if x.verifies < s1.getF (R.prtPMmCfg p) 19 16 then
          (s1.setPort p { s1.port p with verifies := x.verifies + 1 }).emit (.mPacket p false)
        else
          ((s1.setF (R.prtPStatus p) 23 20 Verify.failed).settlePreempt p).raise
            (Src.mmVerifyFail (s.portGallery p)) [Cu.port p]
      | none => s
    else s)

/-- ADMIN_DOWN acts at a landing (R151). -/
def State.adminLand (s : State) : State :=
  forEach s.im.ports (fun p x =>
    if x.bit (R.prtPCtl p) 0 then (if x.link p = Link.disabled then x else x.linkLeave p Link.disabled)
    else if x.link p = Link.disabled then x.linkLeave p Link.training else x) s

end Sys2Proof.Machine
end

