-- ==== Sys2Proof/Machine/Receive.lean ====
section
/-! DEFINITION. A frame arrives (R155 to R164, R171): the MAC's checks, containment, PTP, forwarding, identification,
elimination and its one local destination (R10, R11, R181, R194 to R205). -/

namespace Sys2Proof.Machine

/-! ### The MAC and the merge sublayer -/

/-- A reassembly in progress fails (R171). -/
def State.assyFail (s : State) (p : Nat) : State :=
  (s.setPort p { s.port p with rxFrag := none }).inc64 (R.prtPMmRxAssyErr p)

/-- What the PRBS checker of lane `l` found, where PRBS_CHK runs it. -/
def State.countPrbs (s : State) (l : Nat) (lock : Bool) (n : Nat) : State :=
  if s.bit (R.prtLCfg l) 8 then (s.setBit (R.prtLStatus l) 3 lock).incBy (R.prtLPrbsErr l) n else s

/-- The errors of the lanes and of their FEC and PCS since the last arrival are counted, whatever the link state (R172, R173). -/
def State.countLine (s0 : State) (p : Nat) (x : RxIn) : State :=
  let s := forEach (x.prbs.filter (fun e => (s0.portLanes p).contains e.1)) (fun e y => y.countPrbs e.1 e.2.1 e.2.2) s0
  let s1 := (s.inc64By (R.prtPFecCorrCw p) x.fecCorr).inc64By (R.prtPPcsErrBlk p) x.pcsErr
  if x.fecUncorr = 0 then s1
  else (s1.inc64By (R.prtPFecUncorrCw p) x.fecUncorr).raise (Src.fecUncorr (s1.portGallery p)) [Cu.port p]

/-- A fragment starts a frame. -/
def State.fragStart (s : State) (p : Nat) (x : RxIn) (cap : Capture) (count : Nat) : State :=
  if x.ok then
    (s.setPort p { s.port p with rxFrag := some (count, 0, x.bytes, cap) }).inc64 (R.prtPMmRxFrag p)
  else s.inc64 (R.prtPMmRxAssyErr p)

/-- What the merge sublayer gives on: octets, FCS correct, capture; and the state after (R171). A continuation without a start in
progress is part of no reassembly: it is discarded and counts in no counter (log entry 98). `now`: the capture of the first octet
of what arrives. -/
def State.merge (s : State) (p : Nat) (x : RxIn) (now : Capture) : Option (List Byte × Bool × Capture) × State :=
  let en := s.bit (R.prtPMmCfg p) 0
  let smd : Option (List Byte × Bool × Capture) × State := (none, s.inc64 (R.prtPMmRxSmdErr p))
  match x.mac with
  | .begin => (none, s.setPort p { s.port p with rxBegun := some now })
  | .idle => (none, s)
  | .frame => (some (x.bytes, x.ok, now), s)
  | .verify => if !en then smd else (none, if s.portCarries p then s.emit (.mPacket p true) else s)
  | .respond =>
    if !en then smd
    else if s.getF (R.prtPStatus p) 23 20 = Verify.verifying then
      (none, (s.setF (R.prtPStatus p) 23 20 Verify.succeeded).settlePreempt p)
    else (none, s)
  | .start count final =>
    if !en then smd
    else
      let s1 := if (s.port p).rxFrag.isSome then s.assyFail p else s
      if final then (some (x.bytes, x.ok, now), s1) else (none, s1.fragStart p x now count)
  | .cont count frag final =>
    if !en then smd
    else match (s.port p).rxFrag with
      | none => (none, s)
      | some (c, k, b, cap) =>
        if c ≠ count ∨ k ≠ frag then (none, s.assyFail p)
        else if final then
          let s1 := s.setPort p { s.port p with rxFrag := none }
          (if x.ok then (some (b ++ x.bytes, true, cap), s1.inc64 (R.prtPMmRxAssyOk p))
           else (none, s1.inc64 (R.prtPMmRxAssyErr p)))
        else if x.ok then
          (none, (s.setPort p { s.port p with rxFrag := some (c, (k + 1) % 4, b ++ x.bytes, cap) }).inc64 (R.prtPMmRxFrag p))
        else (none, s.assyFail p)

/-! ### Delivery to a receive queue (R129, R181, R198, R205) -/

/-- The receive timestamp trailer. -/
def State.stampTrailer (s : State) (p : Nat) (c : Capture) (b : List Byte) : List Byte :=
  let own := match ptpOf b with | some m => some (s.ptpOwner p b m) | none => none
  let n := match own with | some (some n) => n | _ => s.src
  let hw := !c.host
  let t := if hw then s.rxStamp p c n else 0
  let flags := hw.toNat + 2 * (own == some none).toNat + 4 * (s.tbState n != TbS.locked).toNat
  leBytes 4 (t % oneSec / ns48).toNat ++ leBytes 6 (t / oneSec).toNat ++ leBytes 2 (t % ns48 / (2 ^ 32 : Nat)).toNat ++
    leBytes 1 n ++ leBytes 1 flags ++ [0, 0]

/-- The twin trailer. -/
def State.twinTrailer (s : State) (p : Nat) (sh : Option Nat) (v : Redund) (yellow : Bool) : List Byte :=
  let flags := (s.pathB p).toNat + 2 * (v.src != 0).toNat + 4 * v.src + 16 * v.wrongLan.toNat + 32 * yellow.toNat +
    64 * sh.isNone.toNat
  leBytes 2 (sh.getD 0) ++ leBytes 2 (if v.src = 0 then 0 else v.seq) ++ leBytes 1 flags ++ leBytes 1 p ++ [0, 0]

/-- A frame for receive queue `q`, whole or without its tags and trailer. -/
def State.deliver (s : State) (q p : Nat) (c : Capture) (b : List Byte) (v : Redund) (whole : Bool) (sh : Option Nat)
    (yellow : Bool) : State :=
  s.offerRx q ⟨if whole then b else v.bare, s.now, s.stampTrailer p c b, s.twinTrailer p sh v yellow⟩

/-- The receive queue classification names for port `p` (R181). -/
def State.classQueue (s : State) (p : Nat) : Option Nat :=
  let ps := s.txPorts p
  ((s.im.sqs.filter (fun r => r.kind == 1 && ps.contains r.port)).map (·.qid)).foldl
    (fun a q => match a with | none => some q | some x => some (min x q)) none

/-- A frame without a handle is classified, or dropped (R10, R181). -/
def State.classify (s : State) (p : Nat) (c : Capture) (b : List Byte) (v : Redund) : State :=
  match s.classQueue p with
  | some q => s.deliver q p c b v (s.hostTwin (s.portGallery p)) none false
  | none => s.inc64 (R.prtPRxNoclassDrop p)

/-! ### Local delivery -/

/-- A copy that passed goes to its handle's one destination (R10, R11). -/
def State.toDest (s : State) (r : StreamRec) (p : Nat) (c : Capture) (b : List Byte) (v : Redund) (yellow : Bool) : State :=
  if r.dest = 1 ∨ r.dest = 2 then s.prismFrame r.sh p c (etherType v.bare) (v.bare.drop (typeOfs v.bare + 2))
  else if r.dest = 3 then s.deliver r.destIdx p c b v (s.hostTwin (s.home r.sh)) (some r.sh) yellow
  else s

/-- A frame of handle `r.sh`: metering, containment, elimination, destination (R182 to R190). -/
def State.handleFrame (s : State) (r : StreamRec) (p : Nat) (c : Capture) (b : List Byte) (v : Redund) (bypass : Bool) : State :=
  match s.police r (s.portGallery p) (b.length + 4) with
  | (none, s1) => s1
  | (some yellow, s1) =>
    if s1.handleContained r.sh then
      s1.setHandle r.sh { s1.handle r.sh with containDrop := up64 (s1.handle r.sh).containDrop }
    else
      let o := s1.eliminate r v (s1.pathB p) bypass
      if o.1 then o.2.toDest r p c b v yellow else o.2

/-- Pdelay messages are never forwarded (R137). -/
def isPdelay (b : List Byte) : Bool :=
  match ptpOf b with
  | some m => msgType b m == Msg.pdelayReq || msgType b m == Msg.pdelayResp || msgType b m == Msg.pdelayFollow
  | none => false

/-- A frame of the ring is for the pair itself. -/
def State.ringMine (s : State) (pair : Nat) (b : List Byte) : Bool :=
  let mac := s.rd64 (R.strRpMac pair) % 2 ^ 48
  mac != 0 && dmac b == mac

/-- A tagged frame of the ring is forwarded, unless its number was forwarded before (R199, R200). -/
def State.ringForwards (s : State) (pair : Nat) (b : List Byte) : Bool := !s.ringMine pair b && !isPdelay b

/-- A frame without a handle: the node table's local elimination on a pair, then classification (R194, R197, R203). A ring frame
that was to be forwarded has looked for its entry already. -/
def State.looseFrame (s : State) (p : Nat) (c : Capture) (b : List Byte) (v : Redund) : State :=
  match s.pairOf p, v.node with
  | some pair, some n =>
    if s.hostTwin (s.portGallery p) then s.classify p c b v
    else
      let o := s.nodeLocal pair (smac b) n (v.src != 2 || !s.ringForwards pair b)
      if o.1 then o.2.classify p c b v else o.2
  | _, _ => s.classify p c b v

/-- A key lookup that reached the overflow region at DDR4 address `o.1` is counted (R180). Keys of a block that read uncorrectable
match no frame until the next re-plan (R395): whether the lookup met such a block, and the state after it. -/
def State.overflowLookup (s : State) (o : Option (Nat × Option Bool)) : Bool × State :=
  match o with
  | none => (false, s)
  | some (a, find) =>
    let k := a / 64
    let s1 := (s.inc R.strOvfLookups).eccFound a 1 ((find.map (fun ue => (k, ue))).toList)
    let ue := s1.badRead a 1
    if ue || s1.str.lost.contains k then
      let s2 := (s1.ueReport a 1).inc R.memOvfUeMiss
      (true, { s2 with str := { s2.str with lost := k :: s2.str.lost.filter (· != k) } })
    else (false, s1)

/-- A frame is delivered locally from a port of role 0 to 3. -/
def State.localFrame (s : State) (p : Nat) (c : Capture) (b : List Byte) (x : RxIn) (bypass : Bool) : State :=
  let role := (s.portRec p).role
  let v := readRedund role b
  let look := s.overflowLookup x.overflow
  let s1 := look.2
  let s2 := match s1.pairOf p with
    | some pair =>
      let y := if v.wrongLan then s1.inc64 (R.strRpWrongLan pair) else s1
      if (role = 1 ∨ role = 2) ∧ !hasTrailer b then y.inc64 (R.strRpUntagged pair) else y
    | none => s1
  match (if look.1 then none else s2.identify v.bare) with
  | some r => s2.handleFrame r p c b v bypass
  | none => if bypass then s2.classify p c b v else s2.looseFrame p c b v

/-- The message of a frame goes to the ordinary clock it belongs to (R134): whether the frame is still delivered. -/
def State.ptpFirst (s : State) (p : Nat) (c : Capture) (b : List Byte) : Bool × State :=
  match ptpOf b with
  | none => (true, s)
  | some m =>
    match s.ptpOwner p b m, s.ptpMismatch p b m with
    | some n, _ => (let o := s.onPtp n p c b m; (o.2, o.1))
    | none, some n => (false, s.inc (R.tsuTbSdoMismatch n))
    | none, none => (true, s)

/-! ### Forwarding (R199, R200, R202) -/

/-- The frame is queued on the partner of port `p`, corrected on its way (R137, R200, R202). -/
def State.forward (s : State) (p : Nat) (c : Capture) (b : List Byte) : State :=
  let partner := (s.portRec p).partner
  let o := s.residence p c b
  let pcp := match innerTci b with | some t => t / 2 ^ 13 | none => 0
  o.1.enqueue ⟨0, .forward p, [partner], o.1.tcOf (min p partner) pcp, false, b, none, none, none, true, o.2, true⟩

/-- A frame with a valid tag on ring port `p` (R199). -/
def State.ringFrame (s : State) (p : Nat) (c : Capture) (b : List Byte) (x : RxIn) : State :=
  let pair := min p (s.portRec p).partner
  let mac := s.rd64 (R.strRpMac pair) % 2 ^ 48
  let multi := (beAt b 0 1).testBit 0
  let mine := s.ringMine pair b
  if mac ≠ 0 ∧ smac b = mac then s.inc64 (R.strRpOwnDrop pair)
  else
    let s1 :=
      if s.ringForwards pair b then
        let o := s.nodeForward pair p (smac b) (beAt b (typeOfs b + 4) 2)
        if o.1 then (o.2.forward p c b).inc64 (R.strRpFwd pair) else o.2.inc64 (R.strRpFwdDup pair)
      else s
    if multi || mine then
      let o := s1.ptpFirst p c b
      if o.1 then o.2.localFrame p c b x false else o.2
    else s1

/-- A frame on ring port `p` (R186, R199, R201). -/
def State.hsrFrame (s : State) (p : Nat) (c : Capture) (b : List Byte) (x : RxIn) : State :=
  let pair := min p (s.portRec p).partner
  if hasHsrTag b then
    (if hsrSizeOk b then s.ringFrame p c b x else s.inc64 (R.strRpSizeErr pair))
  else
    let o := (s.inc64 (R.strRpUntagged pair)).ptpFirst p c b
    if o.1 then o.2.localFrame p c b x true else o.2

/-- A frame on a pass-through port (R202): sent on the partner unchanged but for its residence; a clock on the port sees
its messages too. -/
def State.passFrame (s : State) (p : Nat) (c : Capture) (b : List Byte) : State :=
  let s1 := (s.ptpFirst p c b).2
  if isPdelay b then s1 else s1.forward p c b

/-! ### The frame behind the MAC -/

/-- A frame with good FCS that was counted: containment, buffer, MAC control, then its port's role (R153 to R164). -/
def State.goodFrame (s : State) (p : Nat) (c : Capture) (b : List Byte) (x : RxIn) : State :=
  let g := s.portGallery p
  if !s.portCarries p then s.inc64 (R.prtPRxContainDrop p)
  else if !x.room then (s.inc64 (R.prtPRxBufDrop p)).raise (Src.rxBufOvf g) [Cu.gallery g]
  else if x.bufErr = some true then
    ((s.inc64 (R.prtPRxUeDrop p)).inc (R.prtGPktbufUe g)).raise (Src.pktbufUe g) [Cu.gallery g]
  else
    let s1 := if x.bufErr = some false then (s.inc (R.prtGPktbufCe g)).raise (Src.pktbufCe g) [Cu.gallery g] else s
    if etherType b = 0x8808 then s1.inc64 (R.prtPRxPause p)
    else
      let s2 := if etherType b = 0x88E5 then s1.inc64 (R.prtPRxMacsec p) else s1
      let s3 := match x.store with | some e => s2.storeError e | none => s2
      match (s3.portRec p).role with
      | 5 => s3.mirrorReceive b x.mirrorUe
      | 4 => s3.passFrame p c b
      | 3 => s3.hsrFrame p c b x
      | _ =>
        let o := s3.ptpFirst p c b
        if o.1 then o.2.localFrame p c b x false else o.2

/-- The checks of R155. -/
def State.macFrame (s : State) (p : Nat) (c : Capture) (b : List Byte) (ok : Bool) (x : RxIn) : State :=
  let len := b.length + 4
  if len < 64 then s.inc64 (R.prtPRxRunt p)
  else if (s.portRec p).mtu < len then s.inc64 (R.prtPRxOversize p)
  else if !ok then s.inc64 (R.prtPRxFcsErr p)
  else ((s.inc64 (R.prtPRxFrames p)).inc64By (R.prtPRxOctets p) len).goodFrame p c b x

/-- The port receives: its link is UP and reception is not stopped by a rebuild (R61). -/
def State.receives (s : State) (p : Nat) : Bool :=
  s.portUsed p && s.link p == Link.up && !s.holds && s.coreRuns && s.planState != PS.none

/-- The capture of the first octet of what arrives: that of its begin, when it was being received. -/
def State.arrivalCapture (s : State) (p : Nat) (x : RxIn) : Capture := (s.port p).rxBegun.getD (s.capture p x.sub)

/-- A frame or fragment that was being received on port `p` is received. -/
def State.rxDone (s : State) (p : Nat) (x : RxIn) : State :=
  if x.mac = .idle ∨ x.mac = .begin then s else s.setPort p { s.port p with rxBegun := none }

/-- An arrival on port `p`; a step of the tick source it leads to has its consequences. -/
def State.arrive (s : State) (p : Nat) (x : RxIn) : State :=
  if !s.portUsed p || !s.coreRuns then s
  else if !s.receives p then s.countLine p x
  else
    let o := (((s.wakePort p).countLine p x).rxDone p x).merge p x (s.arrivalCapture p x)
    match o.1 with
    | some (b, ok, c) => s.afterStep (o.2.macFrame p c b ok x)
    | none => o.2

end Sys2Proof.Machine
end

