-- ==== Sys2Proof/Machine/Faults.lean ====
section
/-! DEFINITION. The fault collector's landing, its commands and injection (15_faults_events, R439 to R444), and the
moderated vectors (R448, R449, R498). -/

namespace Sys2Proof.Machine

/-! ### Leaving the fault state (R440 to R442) -/

/-- A source whose reaction in force is C4 is LIVE. -/
def State.c4Live (s : State) : Bool :=
  (List.range 11).any (fun k => s.rd (R.fcrGLive k) != 0 &&
    (List.range 32).any (fun b => s.isLive (32 * k + b) && s.reactionOf (32 * k + b) == 4))

/-- The fault state ends: a device without a PAIR section holds the grant again (R407). -/
def State.leaveFault (s : State) : State :=
  let s1 := s.setBit R.fcrStatus 1 false
  if !s.hasPair && s.role == Role.standby then s1.setRole Role.active else s1

/-- The fault state is latched (R441). -/
def State.latched (s : State) : Bool := s.bit R.fcrStatus 2

/-- A recovery at the present landing would be the RECOV_MAX-th in its window (R441). -/
def State.tooMany (s : State) : Bool :=
  let n := s.now
  let recent := s.fcr.recoveries.filter (fun r => decide (n < r + s.rdN R.fcrRecovWin) && decide (r ≤ n))
  decide (s.getF R.fcrRecovMax 7 0 ≤ recent.length + 1)

/-- The device recovers, or latches (R440, R441). -/
def State.recover (s : State) : State :=
  if s.tooMany then
    ((s.setBit R.fcrStatus 2 true).condition Src.fcrLatch [] true).event Evt.fstate
  else
    let s1 : State := { s with fcr := { s.fcr with recoveries := s.now :: s.fcr.recoveries.take 254 } }
    ((s1.leaveFault).incF R.fcrRecovCnt 15 0).event Evt.fstate

/-- The collector's part of a landing, after step 2 of R72: containments that were ended end, RELEASE acts, and the quiet
count runs. `c4` tells that a C4 raise fell in the tick that ended. -/
def State.faultLand (s : State) (c4 : Bool) : State :=
  let f := s.fcr
  let s1 : State := { s with fcr := { f with
    contained := f.contained.filter (fun u => !f.ending.contains u)
    ending := []
    releasing := false } }
  if f.releasing && s1.latched then
    let s2 : State := { s1 with fcr := { s1.fcr with recoveries := [] } }
    ((s2.setBit R.fcrStatus 2 false).condition Src.fcrLatch [] false).leaveFault
  else if s1.inFault then
    let s2 := if c4 || s1.c4Live then s1.setF R.fcrStatus 23 8 0 else s1.incF R.fcrStatus 23 8
    if !s2.latched && decide (s2.getF R.fcrQuiet 15 0 ≤ s2.getF R.fcrStatus 23 8) then s2.recover else s2
  else s1

/-! ### Commands of FCR.CTL (R442) -/

/-- A command of FCR.CTL with its argument. -/
def State.fcrCommand (s : State) (req : Requester) (arg : Nat) (legal : State → Bool) (f : State → State) : State :=
  s.guarded req R.fcrCtl (fun s =>
    let s1 := s.setF R.fcrCtl 31 16 arg
    if legal s1 then (f s1).result R.fcrStatus Code.ok else s1.result R.fcrStatus Code.state)

/-- RELEASE (R442): it acts at the next landing. -/
def execFcrRelease (req : Requester) (arg : Nat) (s : State) : Answer :=
  .next (s.fcrCommand req arg State.latched (fun s => { s with fcr := { s.fcr with releasing := true } }))

/-- UNCONTAIN (R442): the containment of the unit ARG names ends at the next landing. -/
def execUncontain (req : Requester) (arg : Nat) (s : State) : Answer :=
  .next (s.fcrCommand req arg (fun s => s.contained (arg % 65536)) (fun s =>
    { s with fcr := { s.fcr with ending := arg % 65536 :: s.fcr.ending } }))

/-- A reserved FCR command completes with STATE (R442). -/
def execFcrCmdReserved (req : Requester) (arg : Nat) (s : State) : Answer :=
  .next (s.fcrCommand req arg (fun _ => false) id)

/-! ### Injection (R443, R444) -/

/-- The unit the index of a source names, for C2 units G, TB, HL and ML. -/
def injUnits (src : Nat) : List Nat :=
  let i := src % 8
  if inRanges [(32, 71)] src then [Cu.tb i]
  else if inRanges [(72, 79), (112, 135), (160, 199)] src then [Cu.gallery i]
  else if inRanges [(261, 264)] src then [Cu.ml]
  else if inRanges [(335, 336)] src then [Cu.hl (src - 335)]
  else if inRanges [(337, 338)] src then [Cu.hl (src - 337)]
  else []

/-- A real detection of `src` falls on the edge: any for an occurrence, a state source that was not LIVE. -/
def State.detects (s : State) (src : Nat) : Bool := !srcIsState src || !s.isLive src

/-- An injection of `src` (R443). On an edge on which its detector found something it sets COINCIDE, and the stronger reaction is
taken on the units the detection names (R444). -/
def State.injectBit (s : State) (src : Nat) : State :=
  let k := src / 32
  let note := fun (c : Nat) (x : State) => ({ x with fcr := { x.fcr with injNow := (src, c) :: x.fcr.injNow } } : State)
  if s.fcr.injNow.any (fun e => e.1 == src) then s
  else match s.fcr.raisedNow.filter (fun e => e.1 == src) with
    | [] =>
      let c := if s.bit (R.fcrGInjCfg k) 3 then 0 else s.injClass src
      let o := (s.noteRaise src).cross (Xing.source src) 13
      (note c o.2).react (if o.1 then c else 0) c src (injUnits src)
    | found =>
      let both := s.bothClass src
      (note both (s.hwSet (R.fcrGCoincide k) (src % 32))).react (s.reactionOf src) both src (found.flatMap (·.2))

/-- Inject source `src`; `real` is the detection that falls on the same detector edge, with the C2 units it names. -/
def State.inject (s : State) (src : Nat) (real : Option (List Nat)) : State :=
  if !srcAssigned src then s
  else match real.filter (fun _ => s.detects src) with
    | some us => (s.detect src us).injectBit src
    | none => s.injectBit src

/-- INJ_WRITE (R443): every bit set in the written value injects its source. `real` lists the bits of the group whose
detectors find something on the same edge, each with the C2 units that detection names (R444). -/
def execInjWrite (req : Requester) (k : Nat) (v : Reg) (real : List (Nat × List Nat)) (s : State) : Answer :=
  .next (if k < 20 then
    s.guarded req (R.fcrGInj k) (fun s =>
      (forEach ((List.range 32).filter (fun b => rbit v b)) (fun b x =>
        x.inject (32 * k + b) ((real.find? (fun e => e.1 == b)).map (·.2))) s).settleHeld)
  else s)

/-! ### Vectors (R448, R449, R497) -/

/-- The key under which a virtual function's moderation register keeps its value in force. -/
def vfModKey (k : Nat) : Nat := 0x20000000 + k

/-- The moderation register in force of vector `v` of a function (R448). -/
def State.modOf (s : State) (fn : Requester) (v : Nat) : Reg :=
  let k := vecKey fn v
  if fn.fnKey < 3 then s.inForce (R.fcrMod fn.fnKey v)
  else match s.stale.find? (fun e => e.1 == vfModKey k) with
    | some e => e.2
    | none => Tab.get (fun _ => (0x00010000 : Reg)) s.fcr.vfMod k

/-- The tolerance bound of a function's vectors, if its link's board entry is in a wake group (R497). -/
def State.vecTol (s : State) (fn : Requester) : Option Time :=
  (s.im.groupOf (146 + s.linkOf fn)).map (fun g => ofNs (s.inForce (R.pwrTol g)).toNat)

/-- The local TIME count at which vector `k` falls due, if its timer or its tolerance bound says so. -/
def State.vecDue (s : State) (fn : Requester) (v : Nat) : Option Time :=
  let m := s.modOf fn v
  let t := if fld m 9 0 = 0 then none else some (ofUs (fld m 9 0))
  let d := match t, s.vecTol fn with
    | some a, some b => some (min a b)
    | some a, none => some a
    | none, b => b
  d.map (fun d => (s.vec (vecKey fn v)).since + d)

/-- Messages of a function are off: MSI-X disabled or masked whole, or the vector masked (R449). -/
def State.vecMuted (s : State) (fn : Requester) (v : Nat) : Bool :=
  (s.vec (vecKey fn v)).masked || s.fcr.msixOff.contains fn.fnKey

/-- The message of a vector leaves, as its table entry says. -/
def State.sendVec (s : State) (fn : Requester) (v : Nat) : State :=
  let x := s.vec (vecKey fn v)
  s.emit (.msix fn v x.addr x.data)

/-- Vector `v` of a function fires: its pending count and timer return to 0, and its message is sent or its PBA bit set. -/
def State.fireVec (s : State) (fn : Requester) (v : Nat) : State :=
  let k := vecKey fn v
  let x := s.vec k
  if s.vecMuted fn v then s.setVec k { x with pending := 0, since := 0, pba := true }
  else (s.setVec k { x with pending := 0, since := 0 }).sendVec fn v

/-- VECTOR_FIRE (R448): the vector's count is reached, or its timer or tolerance bound comes. -/
def execVectorFire (fn : Requester) (v : Nat) (s : State) : Answer :=
  .next (
    let x := s.vec (vecKey fn v)
    if x.pending = 0 ∨ s.inD3 fn then s
    else if max 1 (fld (s.modOf fn v) 23 16) ≤ x.pending then s.fireVec fn v
    else match s.vecDue fn v with
      | some t => (match s.reachClock t with
        | some s1 => s1.fireVec fn v
        | none => s)
      | none => s)

/-- The vectors of a function that the state lists. -/
def State.vecsOf (s : State) (fn : Requester) : List Nat :=
  (s.fcr.vecs.filter (fun e => e.1 / 2048 == fn.fnKey)).map (fun e => e.1 % 2048)

/-- Send the messages whose PBA bit is set and which nothing mutes any longer (R449). -/
def State.sendPba (s : State) (fn : Requester) (vs : List Nat) : State :=
  forEach vs (fun v x =>
    let k := vecKey fn v
    if (x.vec k).pba && !x.vecMuted fn v && !x.inD3 fn then
      (x.setVec k { x.vec k with pba := false }).sendVec fn v
    else x) s

/-- Vectors of a function's MSI-X table (R447). -/
def vecCount (r : Requester) : Nat := if r.vfNum ≠ 0 then 64 else 2048

/-- MSIX_UNMASK (R449): the mask of one vector is removed, or the function's MSI-X is enabled and unmasked. -/
def execMsixUnmask (fn : Requester) (v : Option Nat) (s : State) : Answer :=
  .next (match v with
    | some v =>
      if v < vecCount fn then
        (s.setVec (vecKey fn v) { s.vec (vecKey fn v) with masked := false }).sendPba fn [v]
      else s
    | none =>
      let s1 : State := { s with fcr := { s.fcr with msixOff := s.fcr.msixOff.filter (· != fn.fnKey) } }
      s1.sendPba fn (s1.vecsOf fn))

/-- A physical function and its virtual functions. -/
def State.family (s : State) (func : Nat) : List Requester :=
  requesterOf func 0 ::
    (if func < 2 then (List.range (s.im.vfCount (func == 1))).map (fun n => requesterOf func (n + 1)) else [])

/-- Fire every vector of a function and its virtual functions whose pending count is above 0 (R498). -/
def State.fireAll (s : State) (func : Nat) : State :=
  forEach (s.family func) (fun fn x =>
    forEach (x.vecsOf fn) (fun v y => if 0 < (y.vec (vecKey fn v)).pending then y.fireVec fn v else y) x) s

/-- FLUSH_MOD (R498). -/
def execFlushMod (req : Requester) (v : Reg) (s : State) : Answer :=
  .next (s.guarded req R.pwrFlushMod (fun s =>
    let f := fld v 2 0
    if (f = 0 ∨ f = 1 ∨ f = 7) ∧ s.inD3 (requesterOf f 0) = false then s.fireAll f else s))

end Sys2Proof.Machine
end

