-- ==== Sys2Proof/Machine/Images.lean ====
section
/-! DEFINITION. Signed images (02_floor_plan, R38 to R44) and every check the device makes of a floor plan at load
(R50, R51, R54). A failed check is its rejection code with the TYPE and INSTANCE it names. -/

namespace Sys2Proof.Machine

/-! ### Fuses as they read (R462) -/

/-- KEY_HASH of a slot, when its two copies agree. -/
def State.keyHash? (s : State) (slot : Nat) : Option (List Byte) :=
  let f := s.boot.fuses
  let a := f.keyHash1.getD slot []
  if a = f.keyHash2.getD slot [] then some a else none

/-- REVOKE: a bit of either copy counts. -/
def State.revoked (s : State) (slot : Nat) : Bool := (s.boot.fuses.revoke1 ||| s.boot.fuses.revoke2).getLsbD slot

/-- Ones in the low `n` bits. -/
def ones (v : BitVec 64) : Nat → Nat
  | 0 => 0
  | n + 1 => (v.getLsbD n).toNat + ones v n

/-- The rollback counter. -/
def State.rollback (s : State) : Nat := ones (s.boot.fuses.rollback1 ||| s.boot.fuses.rollback2) 64

/-! ### Header and signature block (R39, R42, R43, R458) -/

/-- A rejection: code, TYPE, INSTANCE (zeros where it names no section). -/
abbrev Reject := Nat × Nat × Nat

/-- A rejection that names no section. -/
def plainIf (bad : Bool) (code : Nat) : Option Reject := if bad then some (code, 0, 0) else none

/-- Length of the signature block. -/
def sigLen : Nat := 2936

/-- Signed octets of an image of `n` octets. -/
def signedPart (b : List Byte) (n : Nat) : List Byte := b.take (n - sigLen)

/-- The signature block. -/
def sigBlock (b : List Byte) (n : Nat) : List Byte := slice b (n - sigLen) sigLen

/-- KEY_SLOT of an image. -/
def sigSlot (b : List Byte) (n : Nat) : Nat := leAt (sigBlock b n) 4 1

/-- Codes 0x01 to 0x04: the header under MAGIC `magic`; the signature block's own MAGIC counts under 0x01, unless the block
could not be read (`noSig`). -/
def headerCheck (magic : Nat) (maxLen : Nat) (b : List Byte) (n : Nat) (noSig : Bool) : Option Reject :=
  plainIf (beAt b 0 4 != magic || leAt b 4 2 != 1 || leAt b 6 2 != 256 ||
    (!noSig && beAt (sigBlock b n) 0 4 != 0x4F545347)) 0x01 <|>
  plainIf (leAt b 0xFC 4 != (crc32c (slice b 0 0xFC)).toNat) 0x02 <|>
  plainIf (decide (maxLen < leAt b 0xC 4) || leAt b 0xC 4 != n || leAt b 0x10 4 + sigLen != n) 0x03 <|>
  plainIf (leAt b 8 2 != 0x1280 || decide (0xB0 < leAt b 0xA 1)) 0x04

/-- What of a staged copy reads uncorrectable: its signature block, and its first section that does (R395). -/
structure Unread where
  sig : Bool
  sect : Option (Nat × Nat)
  deriving DecidableEq, Repr

/-- Codes 0x05 to 0x09: key slot, signatures and security version. A signature block that reads uncorrectable is code 0x07;
over octets that read uncorrectable no signature is verified (R395; log entry 81). -/
def State.signatureCheck (s : State) (b : List Byte) (n : Nat) (u : Unread) : Option Reject :=
  if u.sig then some (0x07, 0, 0)
  else
  let g := sigBlock b n
  let slot := leAt g 4 1
  let ecPub := slice g 8 97
  let lmsPub := slice g 0x70 56
  let d := Config.sha384 (signedPart b n)
  plainIf (decide (3 < slot) || s.revoked slot) 0x05 <|>
  plainIf (s.keyHash? slot != some (Config.sha384 (ecPub ++ lmsPub))) 0x06 <|>
  plainIf (u.sect.isNone && !Config.ecdsaP384Verify ecPub (slice g 0xA8 96) d) 0x07 <|>
  plainIf (u.sect.isNone && !Config.lmsVerify lmsPub (slice g 0x108 2668) d) 0x08 <|>
  plainIf (decide (leAt b 0x24 4 < s.rollback)) 0x09

/-! ### Sections (R40, R41, R44) -/

/-- A section as it stands in an image. -/
structure RawSect where
  typ : Nat
  version : Nat
  flags : Nat
  inst : Nat
  reserved : Nat
  crcOk : Bool
  body : List Byte
  deriving DecidableEq, Repr

/-- Read `n` sections from the octets between header and signature block; what is left over is returned. A section that runs
past them, or whose LENGTH is no multiple of 8, counts as one whose CRC fails (code 0x0A): the spec names no code for it (log
entry 82). -/
def readSects : Nat → List Byte → List RawSect × List Byte
  | 0, b => ([], b)
  | n + 1, b =>
    let len := leAt b 4 4
    let whole := decide (16 + len ≤ b.length) && len % 8 == 0
    let crc := leAt b 0xC 4 == (crc32c (slice b 0 12 ++ slice b 16 len)).toNat
    let x : RawSect := ⟨leAt b 0 2, leAt b 2 1, leAt b 3 1, leAt b 8 2, leAt b 0xA 2, whole && crc, slice b 16 len⟩
    if whole then
      let r := readSects n (b.drop (16 + len))
      (x :: r.1, r.2)
    else ([x], [])

/-- A type's instances (R44): none for an unknown type. -/
def instRange (typ : Nat) : Option (Nat × Nat) :=
  if typ = 0x0004 then some (1, 63)
  else if typ = 0x0006 then some (0, 7)
  else if typ = 0x000A then some (0, 255)
  else if typ = 0x000F then some (0, 127)
  else if 1 ≤ typ ∧ typ ≤ 0x0011 then some (0, 0)
  else if 0x8000 ≤ typ ∧ typ ≤ 0xFFFF then some (0, 65535)
  else none

/-- A type is amendable (R44). -/
def typeAmendable (typ : Nat) : Bool := typ == 7 || typ == 0xB || typ == 0xC || typ == 0xF || typ == 0x10

/-- Code 0x0B of one section after the one before it. -/
def sectOrderBad (prev : Option (Nat × Nat)) (x : RawSect) : Bool :=
  (match instRange x.typ with
   | some r => decide (x.inst < r.1) || decide (r.2 < x.inst)
   | none => true) || x.version != 1 ||
  (match prev with
   | some p => decide (x.typ < p.1) || (x.typ == p.1 && decide (x.inst ≤ p.2))
   | none => false)

/-- The first section that breaks code 0x0B. -/
def orderCheck : Option (Nat × Nat) → List RawSect → Option Reject
  | _, [] => none
  | p, x :: t => if sectOrderBad p x then some (0x0B, x.typ, x.inst) else orderCheck (some (x.typ, x.inst)) t

/-- The first section a test picks. -/
def sectCheck (code : Nat) (bad : RawSect → Bool) (l : List RawSect) : Option Reject :=
  (l.find? bad).map (fun x => (code, x.typ, x.inst))

/-! ### The checks of R50: each row lists what breaks it -/

/-- A finding of a row: section (TYPE, INSTANCE) breaks it. -/
abbrev Finding := Bool × Nat × Nat

/-- The first section in image order among a row's findings. -/
def worst (l : List Finding) : Option Reject :=
  (l.filter (·.1)).foldl (fun r f => match r with
    | some x => if f.2.1 * 65536 + f.2.2 < x.2.1 * 65536 + x.2.2 then some (0x0D, f.2.1, f.2.2) else r
    | none => some (0x0D, f.2.1, f.2.2)) none

/-- No two elements of a list are equal. -/
def noRepeat : List Nat → Bool
  | [] => true
  | a :: t => !t.contains a && noRepeat t

/-- The body lengths R44's layouts give. -/
def bodyOk (typ : Nat) (b : List Byte) : Bool :=
  let n := b.length
  match typ with
  | 0x1 => n == 2048
  | 0x2 => n == 256
  | 0x3 => n == 16
  | 0x4 => n == 16384
  | 0x5 => n == 16
  | 0x6 => n == 32
  | 0x7 => n == 536
  | 0x8 => n == 8 + 16 * leAt b 0 2 + 8 * leAt b 2 2
  | 0x9 => n % 48 == 0
  | 0xA => n == 32 + 8 * leAt b 18 2
  | 0xB => n == 8192
  | 0xC => n == 648
  | 0xD => n == 16
  | 0xE => n == 640
  | 0x10 => n == 8 + 16 * leAt b 2 2
  | 0x11 => n % 24 == 0
  | _ => true

/-- The types a full plan needs (R44). -/
def requiredTypes : List Nat := [1, 2, 3, 5, 7, 8, 0xB, 0xC, 0xE, 0x11]

/-- Row "header, section CRCs, order, types" beyond its own codes: zeros of R39 and R40, lengths, required sections. -/
def rowHeader (b : List Byte) (secs : List RawSect) (rest : List Byte) (im : Image) : List Finding :=
  [(decide (leAt b 0x14 2 = 0 ∨ 4096 < leAt b 0x14 2) || !rest.isEmpty || leAt b 0xB 1 / 2 != 0 || leAt b 0x16 2 != 0 ||
    !allZero (slice b 0x80 124) || (!im.amend && !allZero (slice b 0x30 48)), 0, 0)] ++
  secs.map (fun x => (x.flags / 2 != 0 || x.reserved != 0 || !bodyOk x.typ x.body, x.typ, x.inst)) ++
  (if im.amend then []
   else requiredTypes.map (fun t => (!im.has t 0, t, 0)) ++
     [(im.has Sect.tick 0 && !im.hasTb im.tick.tb, Sect.timeBase, 0)])

/-- SPEED, LANES and FEC go together (R147, R148). -/
def modeOk (speed lanes fec : Nat) : Bool :=
  match speed, lanes with
  | 0, 1 => fec == 0
  | 1, 1 => decide (fec ≤ 1)
  | 2, 1 => decide (fec ≤ 2)
  | 3, 1 => fec == 3
  | 4, 1 => fec == 3
  | 4, 2 => fec == 3
  | 4, 4 => fec == 2
  | 5, 2 => fec == 3
  | 5, 4 => fec == 3
  | 6, 4 => fec == 3
  | _, _ => false

/-- PARTNER of port `p` is symmetric (R45), and equal in speed where R150 asks. -/
def Image.partnerOk (im : Image) (p : Nat) (r : PortRec) : Bool :=
  if r.role = 0 then true
  else
    let q := im.port r.partner
    let back := if r.role = 1 then 2 else if r.role = 2 then 1 else r.role
    decide (r.partner < 128) && r.partner != p && q.lanes != 0 && q.partner == p && q.role == back &&
      ((r.role != 3 && r.role != 4) || q.speed == r.speed)

/-- Record `p` of PORT_MAP. -/
def Image.portOk (im : Image) (p : Nat) : Bool :=
  let r := im.port p
  r.port == p && (r.lanes == 0 ||
    ((r.lanes == 1 || r.lanes == 2 || r.lanes == 4) && r.firstLane % r.lanes == 0 && decide (r.firstLane + r.lanes ≤ 128) &&
     modeOk r.speed r.lanes r.fec && decide (64 ≤ r.mtu) && decide (r.mtu ≤ 9216) && decide (r.role ≤ 5) &&
     decide (r.wake ≤ 15) && im.partnerOk p r))

/-- The lanes of the used ports of an image. -/
def Image.lanes (im : Image) : List Nat :=
  im.ports.flatMap (fun p => (List.range (im.port p).lanes).map (fun l => (im.port p).firstLane + l))

/-- Row of R45. -/
def rowPorts (im : Image) : List Finding :=
  [(!((List.range 128).all im.portOk && noRepeat im.lanes), Sect.portMap, 0)]

/-- HIST_LEN of the handles homed in gallery `g` that keep a history. -/
def Image.histBits (im : Image) (g : Nat) : Nat :=
  ((im.streams.filter (fun r => r.recovery == 1 && im.homeOf r.sh == some g)).map (·.histLen)).foldl (· + ·) 0

/-- Record `g` of GALLERY, apart from the others (R46). -/
def Image.galOk (im : Image) (g : Nat) : Bool :=
  let r := im.gallery g
  decide (r.twin ≤ 1) && decide (r.firstSh + r.shCount ≤ 65536) &&
  (r.twin == 1 || decide (im.histBits g ≤ r.histKib * 8192)) &&
  (decide (1024 ≤ r.pktKib ∧ r.pktKib ≤ 24576) || (r.pktKib == 0 && !im.galHasPort g))

/-- The handle ranges of galleries `g` and `h` lie apart. -/
def Image.galApart (im : Image) (g h : Nat) : Bool :=
  let a := im.gallery g
  let b := im.gallery h
  a.shCount == 0 || b.shCount == 0 || decide (a.firstSh + a.shCount ≤ b.firstSh) || decide (b.firstSh + b.shCount ≤ a.firstSh)

/-- Row of R46. -/
def rowGallery (im : Image) : List Finding :=
  let gs := List.range 8
  [(!(gs.all im.galOk && gs.all (fun g => gs.all (fun h => g == h || im.galApart g h)) &&
    decide ((gs.map (fun g => (im.gallery g).histKib)).foldl (· + ·) 0 ≤ 2048)), Sect.gallery, 0)]

/-- Channels of handle `sh` that the first pane groups use. -/
def Image.usedMask (im : Image) (gs : List Nat) (sh : Nat) : Nat :=
  gs.foldl (fun m g => match im.pg? g with
    | some r => r.members.foldl (fun m x => if x.1 = sh then m ||| x.2 else m) m
    | none => m) 0

/-- Octets of slot rings that the members of the first pane groups need (R294). -/
def Image.storeNeed (im : Image) (gs : List Nat) : Nat :=
  ((im.streams.filter (fun r => r.dest == 1 || r.dest == 2)).map (fun r =>
    roundUp ((outChans (im.usedMask gs r.sh)).length * (if r.dest = 1 then 24 else 256) * 9 / 2) 8)).foldl (· + ·) 0

/-- Row of R47, with the store of R294. -/
def rowPrism (im : Image) : List Finding :=
  let b := im.body Sect.prism 0
  let hist := leAt b 0 4
  let coef := leAt b 4 4
  let gs := im.pgs
  [(decide (65536 < hist + coef) || decide (im.coefSets = 0) || decide (64 < im.coefSets) || decide (8 < im.reorder) ||
    decide (coef < 9 * (im.coefSets - 1)), Sect.prism, 0)] ++
  (im.sections.filter (fun x => x.typ == Sect.coeff)).map (fun x =>
    (decide (im.coefSets ≤ x.inst) ||
      !(records 4 4096 x.body).all (fun e => leAt e 0 4 / 2 ^ 17 == 0 || leAt e 0 4 / 2 ^ 17 == 2 ^ 15 - 1),
      Sect.coeff, x.inst)) ++
  (List.range gs.length).map (fun i =>
    (decide (hist * 1024 < im.storeNeed (gs.take (i + 1))), Sect.paneGroup, gs.getD i 0))

/-- The period of an image in units of 2^-32 ns. -/
def Image.period32 (im : Image) : Int := (im.tick.periodNs * 2 ^ 32 + im.tick.periodFrac : Nat)

/-- Output channels of a group over its members. -/
def PgRec.channels (r : PgRec) : Nat := (r.members.map (fun m => (outChans m.2).length)).foldl (· + ·) 0

/-- Output of the first pane groups in samples per period, times the period (R30): a raw group counts at its input rates. -/
def Image.output (im : Image) (gs : List Nat) : Int :=
  (gs.map (fun g => match im.pg? g with
    | some r =>
      if r.raw then ((r.members.map (fun m => (outChans m.2).length * im.rateOf m.1)).foldl (· + ·) 0 : Nat) * im.period32
      else ((r.channels * r.spt * 10 ^ 9 * 2 ^ 32 : Nat) : Int)
    | none => 0)).foldl (· + ·) 0

/-- Row of R30. -/
def rowOutput (im : Image) : List Finding :=
  let gs := im.pgs
  (List.range gs.length).map (fun i =>
    (decide (24 * 10 ^ 9 * im.period32 < im.output (gs.take (i + 1))), Sect.paneGroup, gs.getD i 0))

/-- Row of LAG_K and HOLD_NS. -/
def rowLag (im : Image) : List Finding :=
  im.pgs.map (fun g => match im.pg? g with
    | some r => (decide (63 < r.lag) || decide (im.tick.periodNs ≤ r.holdNs), Sect.paneGroup, g)
    | none => (false, 0, 0))

/-- Octets of a group's ring. -/
def Image.ringSize (im : Image) (r : PgRec) : Nat := r.depth * im.slotBytes im.period32 r

/-- RING_BASE of group `g` (R290): on a 4 KiB boundary after the rings of the lower groups in its region. -/
def Image.ringBase (im : Image) (g : Nat) : Nat :=
  match im.pg? g with
  | some r =>
    let b := match im.region? r.region with | some x => x.base | none => 0
    (im.pgs.filter (fun h => decide (h < g))).foldl (fun a h => match im.pg? h with
      | some x => if x.region = r.region then roundUp (a + im.ringSize x) 4096 else a
      | none => a) (roundUp b 4096)
  | none => 0

/-- Row of the rings in their regions. -/
def rowRings (im : Image) : List Finding :=
  im.pgs.map (fun g => match im.pg? g with
    | some r => (match im.region? r.region with
      | some x => (decide (x.base + x.size < im.ringBase g + im.ringSize r), Sect.paneGroup, g)
      | none => (false, 0, 0))
    | none => (false, 0, 0))

/-- 1 MiB -/
def mib : Nat := 2 ^ 20

/-- One region by itself (R49, R390), on channels that are READY (R387). -/
def State.regionOk (s : State) (r : RegionRec) : Bool :=
  let cs := maskBits 16 r.chMask
  let n := cs.length
  decide (r.region ≤ 63) && decide (r.kind ≤ 4) && (n == 1 || n == 2 || n == 4 || n == 8 || n == 16) &&
  r.base % mib == 0 && decide (0 < r.size) && r.size % (n * mib) == 0 && decide (16 * mib ≤ r.base) &&
  decide (r.base + r.size ≤ 2 ^ 40) && cs.all (fun c => s.getF (R.memChStatus c) 2 0 == 2)

/-- Two regions lie apart. -/
def regionsApart (a b : RegionRec) : Bool := decide (a.base + a.size ≤ b.base) || decide (b.base + b.size ≤ a.base)

/-- The regions are apart pairwise. -/
def allApart : List RegionRec → Bool
  | [] => true
  | a :: t => t.all (regionsApart a) && allApart t

/-- The regions packed on channel `c` fit it (R391). -/
def State.channelFits (s : State) (im : Image) (c : Nat) : Bool :=
  let mine := im.regions.filter (fun r => r.chMask.testBit c)
  let need := (mine.map (fun r => chanShare r.size (maskBits 16 r.chMask).length)).foldl (· + ·) (if c = 0 then 16 * mib else 0)
  mine.isEmpty || decide (need ≤ s.getF (R.memChStatus c) 31 24 * 2 ^ 30)

/-- Row of R49. -/
def State.rowRegions (s : State) (im : Image) : List Finding :=
  [(!(im.regions.all s.regionOk && noRepeat (im.regions.map (·.region)) && allApart im.regions &&
    (List.range 16).all (s.channelFits im)), Sect.memRegions, 0)]

/-- A FUNC and VF pair of the plan. -/
def Image.fnOk (im : Image) (func vf : Nat) : Bool :=
  match func with
  | 0 => decide (vf ≤ im.vfCount false)
  | 1 => decide (vf ≤ im.vfCount true)
  | 7 => vf == 0
  | _ => false

/-- One submission queue (R48, R328). -/
def Image.sqOk (im : Image) (q : SqRec) : Bool :=
  decide (q.qid < 4096) && decide (q.kind ≤ 3) && im.fnOk q.func q.vf && decide (4 ≤ q.log2 ∧ q.log2 ≤ 15) &&
  im.crs.any (fun c => c.rid == q.cring && c.func == q.func && c.vf == q.vf) &&
  (q.kind == 3 || im.ports.contains q.port) && ((q.kind != 0 && q.kind != 2) || decide (q.tc ≤ 7))

/-- One completion ring. -/
def Image.crOk (im : Image) (c : CrRec) : Bool :=
  decide (c.rid < 1024) && im.fnOk c.func c.vf && decide (4 ≤ c.log2 ∧ c.log2 ≤ 15)

/-- A virtual function owns at most 64 queues and 64 rings (R358). -/
def Image.vfOk (im : Image) : Bool :=
  [0, 1].all (fun f => (List.range 128).all (fun v =>
    decide ((im.sqs.filter (fun q => q.func == f && q.vf == v + 1)).length ≤ 64) &&
    decide ((im.crs.filter (fun q => q.func == f && q.vf == v + 1)).length ≤ 64)))

/-- QUEUES. -/
def Image.queuesOk (im : Image) : Bool :=
  decide (im.vfCount false ≤ 128) && decide (im.vfCount true ≤ 128) && im.sqs.all im.sqOk && im.crs.all im.crOk &&
  noRepeat (im.sqs.map (·.qid)) && noRepeat (im.crs.map (·.rid)) && im.vfOk

/-- VID and TAGGED of a key (R176). -/
def vidOk (k : List Byte) : Bool :=
  let t := leAt k 8 1
  decide (leAt k 6 2 < 4096) && (t == 1 || ((t == 2 || t == 3) && leAt k 6 2 == 0))

/-- A KEY keeps R176 to R178. -/
def keyOk (method : Nat) (k : List Byte) : Bool :=
  match method with
  | 0 => vidOk k && allZero (slice k 9 15)
  | 1 => vidOk k && allZero (slice k 9 15)
  | 2 => vidOk k && decide (leAt k 9 1 < 32)
  | 3 =>
    (leAt k 2 1 == 0 && decide (1 ≤ leAt k 3 1 ∧ leAt k 3 1 ≤ 20) && allZero (slice k (4 + leAt k 3 1) (20 - leAt k 3 1))) ||
    (leAt k 2 1 == 1 && leAt k 3 1 == 0 && leAt k 0 2 == 0 && allZero (slice k 8 16))
  | _ => false

/-- One STREAMS record. -/
def Image.streamOk (im : Image) (r : StreamRec) : Bool :=
  keyOk r.method r.key && decide (r.dest ≤ 3) && decide (r.recovery ≤ 2) && decide (1 ≤ r.channels ∧ r.channels ≤ 32) &&
  (r.recovery != 1 || decide (1 ≤ r.histLen ∧ r.histLen ≤ 256)) && (r.policer == 65535 || decide (r.policer < 4096)) &&
  decide (-10000000 ≤ r.pathOfs) && decide (r.pathOfs ≤ 10000000) &&
  (match im.homeOf r.sh with
   | some g => !((im.gallery g).twin == 1 && (r.dest == 1 || r.dest == 2) && r.recovery != 0)
   | none => false) &&
  (r.dest != 3 || im.sqs.any (fun q => q.qid == r.destIdx && q.kind == 1)) &&
  (r.dest != 1 || decide (1000 ≤ r.inRate ∧ r.inRate ≤ 96000 ∧ (65536 < r.inRate → r.inRate % 2 = 0))) &&
  (r.dest != 2 || (jwtRate r.inRate != 0 && decide (r.channels ≤ 16)))

/-- Two records with one METHOD and equal keys. -/
def sameKey (a b : StreamRec) : Bool := a.method == b.method && a.key == b.key

/-- No two records of STREAMS share a key. -/
def keysApart : List StreamRec → Bool
  | [] => true
  | a :: t => !t.any (sameKey a) && keysApart t

/-- STREAMS; `unplaced` tells that a key found no place in the on-chip table (R180). -/
def Image.streamsOk (im : Image) (unplaced : Bool) : Bool :=
  let l := im.streams
  l.all im.streamOk && noRepeat (l.map (·.sh)) && keysApart l &&
  decide ((l.filter (fun r => r.dest == 2)).length ≤ 1024) && (!unplaced || (im.regionOfKind? 2).isSome)

/-- The units a pane group names exist: members, region, DMA channel, coefficient set, link (R268). -/
def Image.pgRefsOk (im : Image) (r : PgRec) : Bool :=
  r.members.all (fun m => match im.streams.find? (·.sh == m.1) with
    | some x => (x.dest == 1 || x.dest == 2) && m.2 != 0 && decide (m.2 < 2 ^ x.channels)
    | none => false) &&
  noRepeat (r.members.map (·.1)) && (im.region? r.region).isSome && decide (r.link ≤ 1) && decide (r.coefSet < im.coefSets) &&
  (r.coefSet == 0 || im.has Sect.coeff r.coefSet)

/-- A TIME_BASE section names used ports only. -/
def Image.tbPortsOk (im : Image) (n : Nat) : Bool := (List.range 128).all (fun p => !im.tbPort n p || im.ports.contains p)

/-- The mirror ports of a PAIR section are used ports. -/
def Image.pairPortsOk (im : Image) : Bool :=
  match im.pair? with
  | none => true
  | some p => im.ports.contains p.mirrorA && im.ports.contains p.mirrorB

/-- Row of references: a SCHEDULE section's port among `ports`, and what a full plan names. -/
def rowRefs (im : Image) (ports : List Nat) (unplaced : Bool) : List Finding :=
  (im.sections.filter (fun x => x.typ == Sect.schedule)).map (fun x => (!ports.contains x.inst, Sect.schedule, x.inst)) ++
  (if im.amend then []
   else
    [(!im.queuesOk, Sect.queues, 0), (!im.streamsOk unplaced, Sect.streams, 0), (!im.pairPortsOk, Sect.pair, 0)] ++
    (List.range 8).map (fun n => (im.hasTb n && !im.tbPortsOk n, Sect.timeBase, n)) ++
    im.pgs.map (fun g => match im.pg? g with
      | some r => (!im.pgRefsOk r, Sect.paneGroup, g)
      | none => (false, 0, 0)))

/-- Row of HSR ring pairs. -/
def rowHsr (im : Image) : List Finding :=
  [(decide (64 < (im.ports.filter (fun p => (im.port p).role == 3)).length), Sect.portMap, 0)]

/-- Row of SCHEDULE: the bank passes R214. -/
def rowSchedule (im : Image) (periodNs : Nat) : List Finding :=
  (im.sections.filter (fun x => x.typ == Sect.schedule)).map (fun x =>
    (!checkBank x.inst periodNs x.body, Sect.schedule, x.inst))

/-- Row of per-tick work: the prism's outputs at 24 per ns within the period of R89. -/
def rowWork (im : Image) : List Finding :=
  let gs := im.pgs
  let room := 24 * (im.period32 * (10 ^ 6 - (im.timeBase im.tick.tb).slewMax) - 1000 * 2 ^ 32 * 10 ^ 6)
  (List.range gs.length).map (fun i =>
    let n := ((gs.take (i + 1)).map (fun g => match im.pg? g with
      | some r => if r.raw then 0 else r.channels * r.spt
      | none => 0)).foldl (· + ·) 0
    (decide (room < ((n * 2 ^ 32 * 10 ^ 6 : Nat) : Int)), Sect.paneGroup, gs.getD i 0))

/-- A pane group against R268 and R382. -/
def Image.pgOk (im : Image) (g : Nat) (r : PgRec) : Bool :=
  (r.raw || (decide (1 ≤ r.spt ∧ r.spt ≤ 65535) &&
    decide (((r.spt * 10 ^ 9 * 2 ^ 32 : Nat) : Int) ≤ 2400000 * im.period32))) &&
  decide (r.lag + 2 + ceilDiv (10000000 * 2 ^ 32) im.period32 ≤ r.depth) &&
  (match im.region? r.region with | some x => x.kind == r.raw.toNat | none => false) &&
  !im.pgs.any (fun h => decide (h < g) && (match im.pg? h with | some x => x.dmaCh == r.dmaCh | none => false))

/-- PAIR (R417). -/
def Image.pairOk (im : Image) : Bool :=
  match im.pair? with
  | none => true
  | some p =>
    (im.regions.filter (fun r => r.kind == 3)).length == 1 &&
    im.regions.any (fun r => r.kind == 3 && decide (16 * mib ≤ r.size)) &&
    (im.port p.mirrorA).role == 5 && (im.port p.mirrorA).partner == p.mirrorB &&
    decide (500 ≤ p.guardNs) && (p.hbTicks == 0 || decide (2 ≤ p.hbTicks ∧ p.hbTicks ≤ 1024)) && decide (1 ≤ p.sqGuard)

/-- WAKE_GROUPS: no unit in two groups, bits 0 to 127 apart (R491). -/
def Image.wakeOk (im : Image) : Bool :=
  (List.range 16).all (fun g => (List.range g).all (fun h =>
    ((im.wakeGroup g).2 &&& (im.wakeGroup h).2) / 2 ^ 128 == 0))

/-- A class byte of FAULT_CLASS is in order (R433, R397). -/
def classOk (src v : Nat) : Bool :=
  !srcAssigned src || src == Src.tempCrit ||
    (decide (v % 16 ≤ 4) && v / 32 == 0 && (src != Src.memUeCtrl || (decide (2 ≤ v % 16) && v / 16 == 0)))

/-- FAULT_CLASS (R433). -/
def faultClassOk (b : List Byte) : Bool :=
  leAt b 0 2 != 0 && leAt b 2 1 != 0 && leAt b 4 4 != 0 && (List.range 640).all (fun n => classOk n (leAt b (8 + n) 1))

/-- EVENT_MAP (R447). -/
def eventMapOk (b : List Byte) : Bool :=
  (records 4 2048 b).all (fun r => decide (leAt r 0 2 ≤ 2047) && (leAt r 2 1 == 0 || leAt r 2 1 == 1 || leAt r 2 1 == 7))

/-- A TIME_BASE section. -/
def tbSectOk (b : List Byte) : Bool :=
  decide (leAt b 1 1 ≤ 4) && decide (leAt b 3 1 ≤ 3) && decide (1 ≤ leAt b 8 2 ∧ leAt b 8 2 ≤ 1000)

/-- TICK (R66). -/
def tickSectOk (t : TickRec) : Bool :=
  decide (10000 ≤ t.periodNs ∧ t.periodNs ≤ 10000000) && decide (t.role ≤ 2) && decide (t.tb ≤ 7) && decide (t.devIndex ≤ 63)

/-- The amendable sections' own checks. -/
def ownChecks (im : Image) : List Finding :=
  im.sections.map (fun x =>
    ((match x.typ with
      | 0x6 => !tbSectOk x.body
      | 0x7 => leAt x.body 4 4 / 2 ^ 20 != 0
      | 0xB => !eventMapOk x.body
      | 0xC => !faultClassOk x.body
      | 0x10 => decide (4096 < leAt x.body 0 2 + leAt x.body 2 2)
      | _ => false), x.typ, x.inst))

/-- Checks of other chapters that belong to no row of R50; they are taken after its rows. -/
def rowOwn (im : Image) : List Finding :=
  ownChecks im ++
  (if im.amend then []
   else [(!tickSectOk im.tick, Sect.tick, 0), (!im.pairOk, Sect.pair, 0), (!im.wakeOk, Sect.wakeGroups, 0)] ++
     im.pgs.map (fun g => match im.pg? g with
       | some r => (!im.pgOk g r, Sect.paneGroup, g)
       | none => (false, 0, 0)))

/-- Code 0x0D: the rows of R50 in order. -/
def State.rowCheck (s : State) (b : List Byte) (secs : List RawSect) (rest : List Byte) (im : Image) (unplaced : Bool) :
    Option Reject :=
  worst (rowHeader b secs rest im) <|>
  (if im.amend then
    worst (rowRefs im s.im.ports unplaced) <|> worst (rowSchedule im s.im.tick.periodNs) <|> worst (rowOwn im)
   else
    worst (rowPorts im) <|> worst (rowGallery im) <|> worst (rowPrism im) <|> worst (rowOutput im) <|> worst (rowLag im) <|>
    worst (rowRings im) <|> worst (s.rowRegions im) <|> worst (rowRefs im im.ports unplaced) <|>
    worst (rowHsr im) <|> worst (rowSchedule im im.tick.periodNs) <|> worst (rowWork im) <|> worst (rowOwn im))

/-! ### The whole image -/

/-- The sections of an image of `n` octets as they stand, and what is left before the signature block. -/
def imageSects (b : List Byte) (n : Nat) : List RawSect × List Byte := readSects (leAt b 0x14 2) ((signedPart b n).drop 256)

/-- The image its octets spell. -/
def imageOf (b : List Byte) (n : Nat) : Image :=
  ⟨(leAt b 0xB 1).testBit 0, leAt b 0x18 8, leAt b 0x20 4, leAt b 0x24 4, sigSlot b n, Config.sha384 (signedPart b n),
    (imageSects b n).1.map (fun x => ⟨x.typ, x.inst, x.body⟩)⟩

/-- Every check of a staged image of `n` octets in the order of R51: what rejects it, if anything does. `u` is what of it could
not be read. -/
def State.checkImage (s : State) (b : List Byte) (n : Nat) (u : Unread) (unplaced : Bool) : Option Reject :=
  let r := imageSects b n
  let im := imageOf b n
  headerCheck 0x4F544650 (16 * mib) b n u.sig <|> s.signatureCheck b n u <|>
  sectCheck 0x0A (fun x => !x.crcOk || u.sect == some (x.typ, x.inst)) r.1 <|> orderCheck none r.1 <|>
  sectCheck 0x0C (fun x => x.flags % 2 != (typeAmendable x.typ).toNat) r.1 <|>
  (if im.amend then
    plainIf (!s.hasPlan || slice b 0x30 48 != s.im.digest) 0x0E <|>
    sectCheck 0x0F (fun x => !typeAmendable x.typ) r.1 <|>
    plainIf (decide (im.revision ≤ s.rdN R.planActiveRev)) 0x10
   else none) <|>
  s.rowCheck b r.1 r.2 im unplaced

end Sys2Proof.Machine
end

