-- ==== Sys2Proof/Machine/Power.lean ====
section
/-! DEFINITION. Power states of the units and their choice at a landing (17_crossings_power, R490 to R494), and a unit
that wakes. -/

namespace Sys2Proof.Machine

/-! ### States, groups and depths (R490, R491) -/

/-- Exit latency of a power state in ns. -/
def exitNs (st : Nat) : Nat :=
  match st with
  | 0 => 0
  | 1 => 50
  | 2 => 2000
  | _ => 12000

/-- Every pane group is ABSENT or contained. -/
def State.prismIdle (s : State) : Bool := s.im.pgs.all (fun g => s.viewPg g == View.contained)

/-- The deepest state of board entry `u`. -/
def State.deepest (s : State) (u : Nat) : Nat :=
  if u < 128 then (if s.bit (R.prtPCtl u) 2 then 2 else 1)
  else if u < 136 then 1
  else if 148 ≤ u ∧ u < 164 then 3
  else if u = 228 then (if s.prismIdle then 3 else 1)
  else 0

/-! ### Scheduled acts (R492) -/

/-- Instants of the armed tick actions whose code a test picks, with their ARG. -/
def State.actTimes (s : State) (code : Nat) : List (Time × Nat) :=
  s.armedActs.filterMap (fun i =>
    let b := s.actBytes i
    if actCode b = code then some (s.landingAt (s.fullTick (s.actNext i)) + ofNs (actOfs b), actArg b) else none)

/-- Seal instants to come of the groups a test picks. -/
def State.sealTimes (s : State) (pick : Nat → PgRec → Bool) : List Time :=
  s.im.pgs.filterMap (fun g => match s.pg? g with
    | some r => if pick g r then some (s.sealTime g r) else none
    | none => none)

/-- Bound instants of the A-ring entries of port `p`. -/
def State.boundTimes (s : State) (p : Nat) : List Time :=
  (s.im.sqs.filter (fun q => q.kind == 2 && (s.txPorts q.port).contains p)).flatMap (fun q =>
    ((s.queue q.qid).entries.filter (fun e => e.stage == Stage.bound)).map (fun e => s.boundAt e.bytes))

/-- The next due instant of each SV publisher of port `p` (R316). -/
def State.svpTimes (s : State) (p : Nat) : List Time :=
  ((List.range 64).filter (fun n => s.svpOn n && decide (0 < s.svpPerTick n) &&
    (s.txPorts (fld (s.svpCfg n) 6 0)).contains p)).map (fun n =>
      let per := s.svpPerTick n
      let f := max (s.svp n).next (s.now * per)
      s.gridAt (f / per) (f % per * s.svpAsdus n + s.svpAsdus n - 1) (fld (s.svpCfg n) 31 16) * (2 ^ 16 : Nat))

/-- The next own PTP message times of port `p`, on the count of the tick source (R132, R133). -/
def State.ptpTimes (s : State) (p : Nat) : List Time :=
  ((List.range 8).filter (fun n => s.sendsPtp n p)).filterMap (fun n =>
    (s.peer n p).sentAt.map (fun t => s.srcNow + (t + s.ptpInterval n - s.clock)))

/-- Scheduled acts of port `p`: tread starts, due instants of GCBs and SV publishers, GCB actions, bound instants, own PTP messages. -/
def State.portActs (s : State) (p : Nat) : List Time :=
  (match s.nextTreadAt p with | some t => [t] | none => []) ++
  ((s.gcbsOn.filter (fun i => s.gcbRuns i && (s.txPorts (s.gcbPort i)).contains p)).map (fun i => (s.gcb i).due)) ++
  (((s.actTimes 5).filter (fun e => (s.txPorts (s.gcbPort (e.2 % 4096))).contains p)).map (·.1)) ++ s.boundTimes p ++
  s.svpTimes p ++ s.ptpTimes p

/-- Scheduled acts of board entry `u`. -/
def State.unitActs (s : State) (u : Nat) : List Time :=
  if u < 128 then s.portActs u
  else if u < 136 then (s.im.ports.filter (fun p => s.portGallery p == u - 128)).flatMap s.portActs
  else if 148 ≤ u ∧ u < 164 then
    s.sealTimes (fun _ r => match s.im.region? r.region with
      | some x => x.chMask.testBit (u - 148)
      | none => false) ++ (s.actTimes 3).map (·.1)
  else if u = 228 then s.sealTimes (fun _ _ => true) ++ (s.actTimes 2).map (·.1)
  else []

/-- Time until the next scheduled act of board entry `u`, none when there is none. -/
def State.untilAct (s : State) (u : Nat) : Option Time :=
  ((s.unitActs u).filter (fun t => decide (s.srcNow ≤ t))).foldl (fun m t =>
    let d := t - s.srcNow
    match m with
    | some x => some (min x d)
    | none => some d) none

/-! ### The choice at a landing -/

/-- State `st` may be chosen for board entry `u` of group `g` in hardware PWR mode. -/
def State.stateFits (s : State) (g u st : Nat) : Bool :=
  decide (st ≤ s.deepest u) && decide (exitNs st ≤ (s.inForce (R.pwrTol g)).toNat) &&
  (match s.untilAct u with
   | some d => decide (ofNs (exitNs st + 100) ≤ d)
   | none => true)

/-- The state board entry `u` takes at a landing. -/
def State.chooseState (s : State) (u : Nat) : Nat :=
  match s.wakeGroupOf u with
  | none => 0
  | some g =>
    if s.hostPwr g then min (fld (s.rd (R.pwrSel g)) 1 0) (s.deepest u)
    else (([3, 2, 1].find? (s.stateFits g u)).getD 0)

/-- Something passes port `p` now: a frame stands on its line, waits for its continuation, or is being received. -/
def State.portBusy (s : State) (p : Nat) : Bool :=
  let x := s.port p
  x.line.isSome || x.preempted.isSome || x.rxBegun.isSome || x.rxFrag.isSome

/-- Board entry `u` is not idle: a port, or a gallery with such a port. -/
def State.unitBusy (s : State) (u : Nat) : Bool :=
  if u < 128 then s.portBusy u
  else if u < 136 then s.im.ports.any (fun p => s.portGallery p == u - 128 && s.portBusy p)
  else false

/-- Every unit of a group takes its state for the tick that begins, unless it is not idle (R492, R494; log entry 111). -/
def State.powerLand (s : State) : State :=
  let s1 := forEach (powerUnits.filter (fun u => (s.wakeGroupOf u).isSome || s.powerState u != 0))
    (fun u x => x.setPower u (if s.unitBusy u then 0 else s.chooseState u)) s
  forEach (List.range 16) (fun g x => x.settleSel g) s1

/-- The PWR mode of group `g` changes at a landing: host-assisted starts from the state in force (R35, R494). -/
def State.pwrMode (s : State) (g : Nat) (host : Bool) : State :=
  let s1 := s.setBit (R.pwrSel g) 8 host
  if host then s1.setF (R.pwrSel g) 1 0 (s1.getF (R.pwrSel g) 5 4) else s1

/-- POWER_WAKE: board entry `u` leaves its power state, one exit latency before a scheduled act, or on a demand that no other command
brings, an LPI wake from the link partner (R492). -/
def execPowerWake (u : Nat) (s : State) : Answer := .next (if u < 256 then s.wake u else s)

end Sys2Proof.Machine
end

