-- ==== Sys2Proof/Machine/Plan.lean ====
section
/-! DEFINITION. Loading, committing and applying a floor plan (02_floor_plan, R32 to R36 and R51 to R64): the PLAN
commands, amendments with their save store, and the re-plan. -/

namespace Sys2Proof.Machine

/-! ### Function modes (R32 to R36) -/

/-- A MODES body comes into force: every unit whose mode changes switches (R33 to R35). -/
def State.setModes (s : State) (b : List Byte) : State :=
  let old := s.plan.modes
  let new := fun (o n : Nat) => modeBit b o n
  let changed := fun (o count : Nat) => (List.range count).filter (fun n => modeBit old o n != modeBit b o n)
  let s1 : State := { s with plan := { s.plan with modes := b } }
  let s2 := forEach (changed 1 8) (fun n (x : State) => x.servoMode n (new 1 n)) s1
  let s3 := forEach (changed 2 16) (fun g (x : State) => x.pwrMode g (new 2 g)) s2
  let s4 := forEach (changed 4 20) (fun k (x : State) => x.setBit (R.fcrGMode k) 0 (new 4 k)) s3
  let s5 := forEach (changed 8 128) (fun p (x : State) => x.setBit (R.schPStatus p) 4 (new 8 p)) s4
  let s6 := forEach (changed 24 4096) (fun i (x : State) => x.gcbMode i (new 24 i)) s5
  s6.settleFuncMode

/-! ### Sections that amendments share with plans -/

/-- EVENT_MAP comes into force (FCR.EVT_MAP). -/
def State.loadEventMap (s : State) (b : List Byte) : State :=
  forEach (List.range 2048) (fun e (x : State) =>
    let r := slice b (4 * e) 4
    x.wrN (R.fcrEvtMap e) (leAt r 0 2 + leAt r 2 1 % 8 * 2 ^ 16 + leAt r 3 1 % 2 * 2 ^ 24)) s

/-- FAULT_CLASS comes into force: classes, masks, QUIET, RECOV_MAX, RECOV_WIN (R433). -/
def State.loadFaultClass (s : State) (b : List Byte) : State :=
  let c := fun (src : Nat) => if srcAssigned src then leAt b (8 + src) 1 else 0
  let s1 := ((s.wrN R.fcrQuiet (leAt b 0 2)).wrN R.fcrRecovMax (leAt b 2 1)).wrN R.fcrRecovWin (leAt b 4 4)
  forEach (List.range 20) (fun k (x : State) =>
    let y := forEach (List.range 4) (fun j (z : State) =>
      z.wrN (R.fcrGClass k j) (leNat ((List.range 4).map (fun i =>
        BitVec.ofNat 8 (c (32 * k + 8 * j + 2 * i) % 16 + 16 * (c (32 * k + 8 * j + 2 * i + 1) % 16)))))) x
    y.wrN (R.fcrGMask k) (((List.range 32).map (fun i => c (32 * k + i) / 16 % 2 * 2 ^ i)).foldl (· + ·) 0)) s1

/-- The entry of index `i` takes new content, ARMED with its own TARGET as internal target (R57). -/
def State.installAct (s : State) (i : Nat) (b : List Byte) : State :=
  ((s.wrWords (R.tickAct i) (wordsOf 4 b)).setActNext i none).setActSt i ActS.armed

/-- The entries of a TICK_ACTIONS body are installed. -/
def State.loadActs (s : State) (b : List Byte) : State :=
  let a := tickActions b
  forEach ((List.range a.2.length).zip a.2) (fun e (x : State) => x.installAct (a.1 + e.1) e.2) s

/-- The bank a SCHEDULE body carries, without its padding. -/
def scheduleBank (b : List Byte) : List Byte := slice b 0 (bankSize (bankCount b))

/-! ### Applying a full plan (R52, R61 to R64, R67) -/

/-- Registers of a range return to their reset values. -/
def State.resetRange (s : State) (lo hi : Nat) : State := forEach (s.listed lo hi) (fun k (x : State) => x.wr k (regReset k)) s

/-- The tick block takes its section: period, window, role; a new tick source (R66, R67). -/
def State.loadTick (s : State) (im : Image) : State :=
  let t := im.tick
  let s1 := ((s.wrN R.tickPeriodNs t.periodNs).wrN R.tickPeriodFrac t.periodFrac).wrN R.tickLateWin t.lateWin
  let s2 := s1.setF R.tickStatus 1 0 t.role
  forEach (List.range 8) (fun n (x : State) => x.setBit (R.tsuTbStatus n) 6 (n == t.tb))
    { s2 with tick := { s2.tick with tb := t.tb } }

/-- Ports: registers that show PORT_MAP and GALLERY (05_ports). -/
def State.loadPorts (s : State) (im : Image) : State :=
  let s1 := forEach (List.range 128) (fun p (x : State) =>
    let r := im.port p
    let used := r.lanes != 0
    let r' : PortRec := if used then r else { r with speed := 0, preempt := 0 }
    let adv := ((143 + 64 * (r.preempt / 2 % 4)) * 8000 + speedMbps r.speed - 1) / speedMbps r.speed
    let y := ((x.setF (R.prtPStatus p) 11 8 r.lanes).setF (R.prtPStatus p) 7 4 r'.speed).setF (R.prtPMmCfg p) 3 0 r'.preempt
    let z := (y.wrN (R.prtPHoldAdv p) (if used then roundUp adv 8 else 0)).wrN (R.prtPortLane p)
      (if used then r.firstLane + 128 else 0)
    if used then
      let w := (z.wr (R.prtPRxLatInt p) (Config.rxLatInt p)).wr (R.prtPTxLatInt p) (Config.txLatInt p)
      if w.link p = Link.up then w else w.setF (R.prtPStatus p) 23 20 (w.verifyRest p)
    else (z.wrN (R.prtPRxLatInt p) 0).wrN (R.prtPTxLatInt p) 0) s
  forEach (List.range 8) (fun g (x : State) => x.wrN (R.prtGPktKib g) (im.gallery g).pktKib) s1

/-- Gate banks: SCHEDULE or the implicit bank, active and shadow (R228); a port's status starts from its load values. -/
def State.loadBanks (s : State) (im : Image) : State :=
  forEach (List.range 128) (fun p (x : State) =>
    let bank := match im.body? Sect.schedule p with
      | some b => scheduleBank b
      | none => implicitBank p
    let host := x.bit (R.schPStatus p) 4
    let y := (x.resetRange (R.schPShadow p) (R.schPShadow p + 0x4000)).setBank p bank
    let z := if im.has Sect.schedule p then y.setShadow p bank else y
    let w := ((z.wrN (R.schPStatus p) 0).setBit (R.schPStatus p) 4 host).wrN (R.schPLastTick p) 0
    (w.wrN (R.schPActiveId p) (bankId bank)).wrN (R.schPFlight p) (bankFlight bank)) s

/-- The record of a submission queue as QM.Q[q].INFO shows it. -/
def SqRec.info (r : SqRec) : Nat :=
  r.kind + r.abort.toNat * 4 + r.act.toNat * 8 + r.log2 * 16 + r.cring * 2 ^ 8 + r.func * 2 ^ 18 + r.vf * 2 ^ 21

/-- Queue `q` under the new plan: OFF at 0; BASE and CFG stay when the queue is unchanged (R356). -/
def State.loadQueue (s : State) (im : Image) (q : Nat) : State :=
  let old := s.im.sqs.find? (·.qid == q)
  let new := im.sqs.find? (·.qid == q)
  let keep := match old, new with
    | some a, some b => a.kind == b.kind && a.log2 == b.log2 && a.func == b.func && a.vf == b.vf
    | _, _ => false
  let s1 := (((s.wrN (R.qmQHead q) 0).wrN (R.qmQTail q) 0).wrN (R.qmQFetched q) 0).wrN (R.qmQStatus q) 0
  let s2 := if keep then s1 else (s1.wr64 (R.qmQBase q) 0).wr (R.qmQCfg q) (regReset (R.qmQCfg q))
  match new with
  | some r => (s2.wrN (R.qmQInfo q) r.info).setBit (R.qmQStatus q) 3 true
  | none => s2.wrN (R.qmQInfo q) 0

/-- Completion ring `r` under the new plan. -/
def State.loadRing (s : State) (im : Image) (r : Nat) : State :=
  let old := s.im.crs.find? (·.rid == r)
  let new := im.crs.find? (·.rid == r)
  let keep := match old, new with
    | some a, some b => a.log2 == b.log2 && a.func == b.func && a.vf == b.vf
    | _, _ => false
  let s1 := ((s.wrN (R.qmCrHead r) 0).wrN (R.qmCrTail r) 0).wrN (R.qmCrStatus r) 0
  let s2 := if keep then s1 else s1.wr64 (R.qmCrBase r) 0
  match new with
  | some c => s2.wrN (R.qmCrInfo r) (c.log2 + c.func * 16 + c.vf * 2 ^ 7 + 2 ^ 17)
  | none => s2.wrN (R.qmCrInfo r) 0

/-- Every queue and ring of the old and the new plan, and the positions, caches and reservations of all (R63). -/
def State.loadQueues (s : State) (im : Image) : State :=
  let s1 := forEach (s.im.sqs.map (·.qid) ++ im.sqs.map (·.qid)) (fun q (x : State) => x.loadQueue im q) s
  let s2 := forEach (s.im.crs.map (·.rid) ++ im.crs.map (·.rid)) (fun r (x : State) => x.loadRing im r) s1
  let s3 := forEach (List.range 8) (fun g (x : State) => x.wrN (R.txeGRaUsed g) 0) s2
  let s4 : State := { s3 with
    queues := []
    slots := []
    stalled := []
    csrWait := []
    pwr := { s3.pwr with held := [] } }
  (s4.wrN R.qmCacheUsed 0).setBit R.qmStatus 0 false

/-- Pane groups, their channels and what the prism holds (09_panes, R262, R380, R382). `first` is the first tick whose
pane can be sealed. -/
def State.loadPanes (s : State) (im : Image) (first : Nat) : State :=
  let gs := im.pgs
  let s1 := forEach (List.range 256) (fun g (x : State) => x.resetRange (R.przPgStatus g) (R.przPgPanes g)) s
  let s2 : State := { s1 with prz := ⟨[], gs.map (fun g => (g, pgStart first)), [], []⟩ }
  let s3 := forEach gs (fun g (x : State) => match im.pg? g with
    | some r =>
      let y := (x.wrN (R.przPgStatus g) (r.raw.toNat * 2 ^ 16)).wrN (R.przPgCfg g)
        (r.lag + r.dmaCh * 2 ^ 8 + r.coefSet * 2 ^ 16 + r.link * 2 ^ 24)
      let z := ((y.wrN (R.przPgHoldNs g) r.holdNs).wrN (R.przPgSpt g) r.spt).wrN (R.przPgDepth g) r.depth
      ((z.wrN (R.przPgSlotBytes g) (im.slotBytes im.period32 r)).wr64 (R.przPgRingBase g) (im.ringBase g)).paneMode r.dmaCh r.link
    | none => x) s2
  let s4 := forEach (List.range 256) (fun v (x : State) =>
    x.wrN (R.przSynchMap v) (if v = 2 then 16 + im.tick.tb else 0)) s3
  s4.wrN R.przOutPerTick ((im.output gs).toNat / (10 ^ 9 * 2 ^ 32))

/-- The two ports and the role of the pair whose lower port is `p` are the same in both plans. -/
def samePair (a b : Image) (p : Nat) : Bool :=
  let x := a.port p
  let y := b.port p
  x.lanes != 0 && y.lanes != 0 && 1 ≤ x.role && x.role ≤ 4 && x.role == y.role && x.partner == y.partner && p < x.partner

/-- Streams, nodes and pairs (R63). -/
def State.loadStreams (s : State) (im : Image) (first : Nat) : State :=
  let s1 := forEach (List.range 128) (fun p (x : State) =>
    let y := x.resetRange (R.strRpWrongLan p) (R.strRpCtl p + 0x100)
    if samePair s.im im p then y
    else
      let z := y.resetRange (R.strRpCtl p) (R.strRpWrongLan p)
      { z with
        tx := { z.tx with pairSeq := Tab.put (fun _ => 0) z.tx.pairSeq p 0 }
        str := { z.str with supSeq := Tab.put (fun _ => 0) z.str.supSeq p 0 } }) s
  { s1 with str := { s1.str with
    handles := []
    nodes := []
    firstTick := first
    lost := [] } }

/-- The pair block: its section, or none (R401, R407). -/
def State.loadPair (s : State) (im : Image) : State :=
  let p := im.pair?
  let s1 := ((s.wr64 R.rdnCommitted noEpoch).wr64 R.rdnPeerCommitted noEpoch).wrN R.rdnHbMissRun 0
  let s2 := (s1.setBit R.rdnStatus 5 p.isNone).setBit R.rdnStatus 16 false
  let s3 := match p with
    | some x => ((((s2.wrN R.rdnGuard x.guardNs).wrN R.rdnSqGuard x.sqGuard).wrN R.rdnHbTicks
        (if x.hbTicks = 0 then 8 else x.hbTicks)).wrN R.rdnPairId x.pairId)
    | none => ((((s2.wr R.rdnGuard (regReset R.rdnGuard)).wr R.rdnSqGuard (regReset R.rdnSqGuard)).wr R.rdnHbTicks
        (regReset R.rdnHbTicks)).wrN R.rdnPairId 0)
  { s3 with rdn := { s3.rdn with
    claimCmd := false
    hbSeen := false
    handoverReq := false
    handoverAt := none
    takeoverDue := false
    inTick := none
    inFrames := []
    inDone := none
    bank := []
    sending := none
    snaps := []
    fullAsked := false
    queueRecs := []
    bindRecs := []
    ends := [] } }

/-- The role a device has once its plan is active (R405, R407, R439). -/
def State.roleLoaded (s : State) : State :=
  s.setRole (if s.hasPair || s.inFault then Role.standby else Role.active)

/-- Every management view takes the data-path view as it stands (R475); no override stands. -/
def State.loadViews (s : State) : State :=
  let s1 : State := { s with mgt := { s.mgt with overrides := [], amendDigest := [] } }
  forEach (List.range 232) (fun u (x : State) => x.wrN (R.topUsbMg u) (s1.dpView u)) s1

/-- Time bases at a full plan committed in NONE (R110): one an earlier plan had dropped starts in FREE again. -/
def State.loadTbsFirst (s : State) (im : Image) : State :=
  forEach (List.range 8) (fun n (x : State) =>
    if im.hasTb n then
      let t := im.timeBase n
      let y := if x.tbOn n then x else (x.setTb n tbInit).setTbState n TbS.free
      ((y.loadTbParams im n).wrN (R.tsuTbStepLimit n) t.stepLimit).wrN (R.tsuTbSlewMax n) t.slewMax
    else x.disableTb n) s

/-- Time bases at L(Tr) of a re-plan (R110): dropped ones stop, new ones start in FREE from 0. -/
def State.loadTbs (s : State) (im : Image) : State :=
  forEach (List.range 8) (fun n (x : State) =>
    if !im.hasTb n then (if x.tbOn n then x.disableTb n else x)
    else if x.tbOn n then x.loadTbParams im n
    else
      let t := im.timeBase n
      let y := (x.setTb n tbInit).setTbState n TbS.free
      ((y.loadTbParams im n).wrN (R.tsuTbStepLimit n) t.stepLimit).wrN (R.tsuTbSlewMax n) t.slewMax) s

/-- The image becomes the active plan: identity, tables and registers of every block but the tick grid and the time
bases. `first` is the tick it applies from. -/
def State.applyPlan (s : State) (im : Image) (first : Nat) : State :=
  let s1 := (((s.loadQueues im).loadPanes im first).loadStreams im first).loadPair im
  let s2 : State := { s1 with
    plan := { s1.plan with
      active := some im
      staged := none
      rebuilding := none
      loaded := false
      hall := false
      saved := []
      failed := none
      everCommitted := true }
    tx := { s1.tx with ready := [] } }
  let s3 := (((s2.wr64 R.planActiveId im.planId).wrN R.planActiveRev im.revision).setF R.secKeys 11 10 im.keySlot).setBit R.secKeys 12 true
  let s4 := ((s3.loadTick im).loadPorts im).loadBanks im
  let s5 := (s4.loadEventMap (im.body Sect.eventMap 0)).loadFaultClass (im.body Sect.faultClass 0)
  let s6 := forEach (List.range 16) (fun g (x : State) => x.wrN (R.pwrTol g) (im.wakeGroup g).1) s5
  let s7 := s6.setModes (im.body Sect.modes 0)
  let s8 := ((s7.resetRange (R.tickActSt 0) (R.tickActSt 512)).resetRange (R.tickAct 0) (R.tickAct 4096))
  let s9 : State := { s8 with tick := { s8.tick with
    reqs := []
    actNext := []
    snapEntries := []
    snapKinds := []
    snapTick := none
    verdict := none } }
  match im.body? Sect.tickActions 0 with
  | some b => s9.loadActs b
  | none => s9

/-- E of R67: the first whole second of the tick source at least 1 ms ahead. -/
def State.epochStart (s : State) : Time := (s.srcNow + ofMs 1 + oneSec - 1) / oneSec * oneSec

/-- A full plan committed in state NONE takes effect at once (R52, R67). -/
def State.firstPlan (s : State) (im : Image) : State :=
  let was := s.plan.everCommitted
  let s1 := ((s.loadTbsFirst im).applyPlan im 0).setF R.planStatus 3 0 PS.idle
  let src := im.tick.role != 2
  let s2 : State := { s1 with tick := { s1.tick with
    missedTo := none
    cutTick := none
    everLocked := false
    resync := false
    frameTick := 0
    frameStep := false
    nextEdge := none
    goodRun := 0
    badCrc := 0
    badFrames := 0
    lockBy := if src then none else some (s1.clock + ofMs 1000)
    calCount := 0
    calSum := 0
    calOut := false
    recal := false
    recalCmd := false
    calTicks := 0
    calAt := 0
    history := [] } }
  let s3 := (((s2.setDelta 0).wr64 R.tickNow 0).setF R.tickStatus 5 3 (if src then 0 else 1)).setBit R.tickStatus 6 false
  let s4 := (s3.setBit R.tickStatus 7 (!src)).setBit R.tickStatus 8 false
  let s5 := if src then s4.setBase 0 s4.epochStart else s4.setBase 0 0
  let s6 : State := { s5 with rdn := { s5.rdn with startUp := !was && !s5.secondary } }
  s6.roleLoaded.loadViews

/-! ### PLAN commands (R53 to R57) -/

/-- Set the plan state. -/
def State.setPlan (s : State) (st : Nat) : State := s.setF R.planStatus 3 0 st

/-- IDLE, or NONE without an active plan. -/
def State.planRest (s : State) : State := s.setPlan (if s.hasPlan then PS.idle else PS.none)

/-- A PLAN command completes: RESULT, BUSY, PLAN_EVT (R445). -/
def State.planResult (s : State) (code : Nat) : State :=
  ((s.setBit R.planStatus 4 (s.planState == PS.staging)).result R.planStatus code).event Evt.plan

/-- A STAGE completes, at once or after its staging (R51). -/
def State.stageResult (s : State) (code : Nat) : State := (s.planResult code).answerCmds R.planStatus code

/-- A write of PLAN.CTL with a command: HALL_SYNC is written with it (R57). -/
def State.planCommand (s : State) (req : Requester) (hall : Bool) (f : State → State) : State :=
  s.guarded req R.planCtl (fun s => f (s.setBit R.planCtl 7 hall))

/-- Staging fails (R54). -/
def State.stageFailed (s : State) (r : Reject) : State :=
  let s1 : State := { s with plan := { s.plan with staged := none } }
  let s2 := s1.planRest.setF R.planStatus 31 24 r.1
  let s3 := if (0x0A ≤ r.1 ∧ r.1 ≤ 0x0F) ∨ r.1 = 0x14 then s2.wrN R.planErrSect (r.2.1 + r.2.2 * 2 ^ 16) else s2
  (s3.raise Src.planReject []).stageResult (if r.1 = 0x11 then Code.hostRd else Code.check)

/-- STAGE (R51, R53, R387). The management processor names the staging area itself (R461). -/
def execStage (req : Requester) (hall : Bool) (s : State) : Answer :=
  .next (s.planCommand req hall (fun s =>
    let st := s.planState
    if !(st == PS.none || st == PS.idle || st == PS.stagedAmend || st == PS.stagedPlan) then s.planResult Code.state
    else if s.getF (R.memChStatus 0) 2 0 ≠ 2 then s.planResult Code.noResource
    else
      let r := s.acting req
      let s1 : State := { s with plan := { s.plan with
        staged := none
        source := if r = .mgmt then none else some r
        len := s.rdN R.planLen } }
      if s1.rdN R.planLen < 3192 ∨ 16 * mib < s1.rdN R.planLen then s1.stageFailed (0x03, 0, 0)
      else ((s1.setPlan PS.staging).setBit R.planStatus 4 true).defer R.planStatus))

/-- Offset and length of each section of an image with its TYPE and INSTANCE, its header included. -/
def sectSpans (o : Nat) : List RawSect → List (Nat × Nat × RawSect)
  | [] => []
  | x :: t => (o, 16 + x.body.length, x) :: sectSpans (o + 16 + x.body.length) t

/-- The first section of the staged copy that reads uncorrectable. -/
def State.badSect (s : State) (b : List Byte) (n : Nat) : Option (Nat × Nat) :=
  ((sectSpans 256 (imageSects b n).1).find? (fun x => s.badRead x.1 x.2.1)).map (fun x => (x.2.2.typ, x.2.2.inst))

/-- What uncorrectable blocks of the staged copy leave unread beside its header (R395). -/
def State.unread (s : State) (b : List Byte) (n : Nat) : Unread := ⟨s.badRead (n - sigLen) sigLen, s.badSect b n⟩

/-- STAGING_DONE: the copy ends and is verified (R51, R54). `data` is what PLAN.SRC gave, none when a read failed; it is
not looked at when the staging area is verified in place. `unplaced`: a stream key found no place in the on-chip table
(R180). `ecc`: what ECC found while the copy was read. -/
def execStagingDone (data : Option (List Byte)) (unplaced : Bool) (ecc : List (Nat × Bool)) (s : State) : Answer :=
  .next (
    let sleeps : Bool := match s.plan.source with
      | some r => s.inD3 r
      | none => false
    if s.planState ≠ PS.staging ∨ sleeps then s
    else
      let n := s.plan.len
      let s0 := match s.plan.source with
        | some r => s.emit (.hostRead r (s.rd64 R.planSrc) n)
        | none => s
      match (if s.plan.source.isNone then some (s.memRead 0 n) else data) with
      | none => s0.stageFailed (0x11, 0, 0)
      | some b0 =>
        let s1 := if s.plan.source.isNone then s else s0.ddrWrite 0 (slice b0 0 n)
        let s2 := (s1.eccFound 0 n ecc)
        let s3 := if s2.badRead 0 n then s2.ueReport 0 n else s2
        let b := s3.memRead 0 n
        let bad := plainIf (s3.badRead 0 256) 0x02 <|> s3.checkImage b n (s3.unread b n) unplaced
        match bad with
        | some r => s3.stageFailed r
        | none =>
          let im := imageOf b n
          let s4 : State := { s3 with plan := { s3.plan with staged := some im } }
          (s4.setPlan (if im.amend then PS.stagedAmend else PS.stagedPlan)).stageResult Code.ok)

/-- The distance of PLAN.TARGET lies in the commit window (R55, R56). -/
def State.inWindow (s : State) : Bool :=
  let d := tickDiff (s.rdN R.planTarget) s.now
  decide (2 ≤ d) && decide (d ≤ 65536)

/-- The tick PLAN.TARGET names. -/
def State.planTick (s : State) : Nat := s.now + (tickDiff (s.rdN R.planTarget) s.now).toNat

/-- Ports whose SCHEDULE an image carries. -/
def Image.scheduled (im : Image) : List Nat := (im.sections.filter (fun x => x.typ == Sect.schedule)).map (·.inst)

/-- COMMIT_AMEND (R55, R57, R59). A standby's mirror owns banks and tick actions (R419). -/
def execCommitAmend (req : Requester) (hall : Bool) (s : State) : Answer :=
  .next (s.planCommand req hall (fun s =>
    match s.plan.staged with
    | none => s.planResult Code.state
    | some im =>
      let owned := s.mirrorOwns && (!im.scheduled.isEmpty || im.has Sect.tickActions 0)
      if s.planState ≠ PS.stagedAmend || owned then s.planResult Code.state
      else if !s.inWindow then s.planResult Code.late
      else
        let s1 : State := { s with plan := { s.plan with
          target := s.planTick
          hall := hall
          loaded := false
          saved := []
          failed := none } }
        let s2 := s1.setPlan PS.committed
        (forEach im.scheduled (fun p (x : State) => x.settleOwned p) s2).planResult Code.ok))

/-- COMMIT_REPLAN (R52, R56). -/
def execCommitReplan (req : Requester) (hall : Bool) (s : State) : Answer :=
  .next (s.planCommand req hall (fun s =>
    match s.plan.staged with
    | none => s.planResult Code.state
    | some im =>
      if s.planState ≠ PS.stagedPlan then s.planResult Code.state
      else if !s.hasPlan then (s.firstPlan im).planResult Code.ok
      else if !s.inWindow then s.planResult Code.late
      else
        let s1 : State := { s with plan := { s.plan with
          target := s.planTick
          rebuilding := some im
          loaded := false } }
        (s1.setPlan PS.committedPlan).planResult Code.ok))

/-! ### The save store (R57, R60) -/

/-- Shadow registers of port `p`. -/
def shadowSpan (p : Nat) : Nat × Nat := (R.schPShadow p, R.schPShadow p + 0x4000)

/-- AMENDMENT_LOAD: the shadows of the committed amendment are saved and its sections loaded. `ecc`: what ECC found while
the staging area was read; a section that read uncorrectable fails the amendment (R58, R395). -/
def State.loadAmend (s : State) (ecc : List (Nat × Bool)) : State :=
  match s.plan.staged with
  | some im =>
    if s.planState = PS.committed ∧ !s.plan.loaded then
      let n := s.plan.len
      let s1 := s.eccFound 0 n ecc
      let s2 := if s1.badRead 0 n then s1.ueReport 0 n else s1
      let b := s2.memRead 0 n
      let lost := if s2.badRead 0 n then
          (match s2.badSect b n with
           | some x => some x
           | none => some (0, 0))
        else none
      let saved := im.scheduled.flatMap (fun p => (s2.listed (shadowSpan p).1 (shadowSpan p).2).map (fun k => (k, s2.rd k)))
      let s3 := forEach im.scheduled (fun p (x : State) => x.setShadow p (scheduleBank (im.body Sect.schedule p))) s2
      { s3 with plan := { s3.plan with
        loaded := true
        saved := saved
        failed := lost } }
    else s
  | none => s

/-- AMENDMENT_LOAD (R57, R60). -/
def execAmendmentLoad (ecc : List (Nat × Bool)) (s : State) : Answer := .next (s.loadAmend ecc)

/-- Every covered shadow returns to the host as it stood at the commit. -/
def State.restoreAmend (s : State) (im : Image) : State :=
  if s.plan.loaded then
    let s1 := forEach im.scheduled (fun p (x : State) => x.resetRange (shadowSpan p).1 (shadowSpan p).2) s
    forEach s.plan.saved (fun e (x : State) => x.wr e.1 e.2) s1
  else s

/-- The committed amendment ends without a swap: shadows restored, LAST_SWAP of its ports set by `last` (R60). -/
def State.dropAmend (s : State) (last : Nat → State → State) : State :=
  match s.plan.staged with
  | some im =>
    let s1 := s.restoreAmend im
    let s2 : State := { s1 with plan := { s1.plan with
      staged := none
      loaded := false
      hall := false
      saved := []
      failed := none } }
    forEach im.scheduled (fun p (x : State) => (last p x).settleOwned p) s2.planRest
  | none => s

/-- A committed amendment is released with LAST_SWAP ABORTED on every port it carried. -/
def State.releaseAmend (s : State) : State := s.dropAmend (fun p x => x.lastSwap p Swap.aborted)

/-- L(TARGET - 1) has not come. -/
def State.beforeTarget (s : State) : Bool :=
  decide (s.now + 1 < s.plan.target) && decide (s.srcNow < s.landingAt (s.plan.target - 1))

/-- PLAN_ABORT (R53, R60). -/
def execPlanAbort (req : Requester) (hall : Bool) (s : State) : Answer :=
  .next (s.planCommand req hall (fun s =>
    let st := s.planState
    let s1 : State := { s with plan := { s.plan with
      staged := none
      rebuilding := none
      source := none } }
    if st = PS.staging ∨ st = PS.stagedAmend ∨ st = PS.stagedPlan ∨ (st = PS.committedPlan ∧ s.beforeTarget) then
      let s2 := (s1.planRest.planResult Code.ok).answerCmds R.planStatus Code.aborted
      if st = PS.committedPlan then s2.panesFree else s2
    else if st = PS.committed ∧ s.beforeTarget then s.releaseAmend.planResult Code.ok
    else s.planResult Code.state))

/-- A reserved PLAN command completes with STATE (R20, R53). -/
def execPlanCmdReserved (req : Requester) (hall : Bool) (s : State) : Answer :=
  .next (s.planCommand req hall (fun s => s.planResult Code.state))

end Sys2Proof.Machine
end

