-- ==== Sys2Proof/Machine/Landing.lean ====
section
/-! DEFINITION. The landing (03_tick_landing, R72 to R89): cut-offs, swap sets, the hall-synchronous group, amendments
and re-plans at their landings, and the five steps in their order. -/

namespace Sys2Proof.Machine

/-! ### The shadows of a swap set (R75) -/

/-- The shadow of a request passes its unit's check. -/
def State.shadowOk (s : State) (k : SwapKind) : Bool :=
  match k with
  | .bank p => checkBank p s.periodNs (s.shadowBank p)
  | .dmaSet c => s.chSetOk c (s.shadowSet c)
  | .epoch n => s.epochOk n

/-- What verification makes of a request: what it found before, or the check now. -/
def State.reqOk (s : State) (r : SwapReq) : Bool := r.verified.getD (s.shadowOk r.kind)

/-- SHADOW_VERIFY: the shadow of every request on `k` that is not verified yet is verified (R75). -/
def State.verifyShadow (s : State) (k : SwapKind) : State :=
  let ok := s.shadowOk k
  { s with tick := { s.tick with reqs := s.tick.reqs.map (fun r =>
      if r.kind = k ∧ r.verified = none then { r with verified := some ok } else r) } }

/-- SHADOW_VERIFY (R75). -/
def execShadowVerify (k : SwapKind) (s : State) : Answer := .next (s.verifyShadow k)

/-- A request is released unapplied: its unit is as before the commit; a bank reports `last`. -/
def State.releaseReq (s : State) (k : SwapKind) (last : Nat) : State :=
  match k with
  | .bank p => (s.lastSwap p last).settleOwned p
  | .dmaSet c => s.setBit (R.dmaChStatus c) 8 false
  | .epoch _ => s

/-- A shadow swaps at the landing of tick `t`, or fails its check (R75, R76). -/
def State.swapKind (s : State) (k : SwapKind) (t : Nat) (late ok : Bool) : State :=
  match k with
  | .bank p => if ok then s.swapBank p t late else s.bankFailed p
  | .dmaSet c => s.swapDma c ok
  | .epoch n => s.swapEpoch n ok

/-! ### The cut-off (R73, R81, R88) -/

/-- The first shadow of an amendment committed for tick `n` that `unverified` names, as its section. -/
def State.amendUnverified (s : State) (n : Nat) (unverified : List SwapKind) : Option (Nat × Nat) :=
  if s.planState = PS.committed ∧ s.plan.target = n then
    match s.plan.staged with
    | some im => (im.scheduled.find? (fun p => unverified.contains (.bank p))).map (fun p => (Sect.schedule, p))
    | none => none
  else none

/-- The cut-off of tick `n` is reached: swap-type actions join, and shadows in `unverified` missed their deadline. -/
def State.cutOff (s : State) (n : Nat) (unverified : List SwapKind) : State :=
  let s1 := s.untilSrc (s.cutoffAt n)
  let s2 := if s1.holds then s1 else s1.actsJoin n
  let bad := fun (r : SwapReq) => r.tick == n && r.verified.isNone && unverified.contains r.kind
  let late := s2.amendUnverified n unverified
  let s3 := if s2.tick.reqs.any bad || late.isSome then
      (s2.hwSet R.tickOvrCause 2).raise Src.tickOverrun []
    else s2
  { s3 with
    tick := { s3.tick with
      cutTick := some n
      reqs := s3.tick.reqs.map (fun r => if bad r then { r with verified := some false } else r) }
    plan := { s3.plan with failed := if s3.plan.failed.isSome then s3.plan.failed else late } }

/-- The cut-off of the next landing is still to come. -/
def State.cutDue (s : State) : Bool :=
  match s.tick.cutTick with
  | some c => decide (c < s.nextTick)
  | none => true

/-- A locked follower waits for the edge whose phase a TICK frame with STEP = 1 makes it adopt (R96). -/
def State.stepDue (s : State) : Bool :=
  s.getF R.tickStatus 1 0 == 2 && s.getF R.tickStatus 5 3 == 3 && s.tick.frameStep && s.tick.nextEdge.isSome

/-- Landings can take effect: a plan is active, the grid is set, the TIME domain runs, and no RESYNC and no adopted edge
is waited for. -/
def State.canLand (s : State) : Bool := s.hasPlan && s.gridSet && s.timeRuns && !s.tick.resync && !s.stepDue

/-- CUT_OFF: C(n) of the next landing is reached (R81). `unverified` are shadows whose verification missed it (R88). -/
def execCutOff (unverified : List SwapKind) (s : State) : Answer :=
  .next (if s.canLand && s.cutDue then s.cutOff s.nextTick unverified else s)

/-! ### Seals before the landing (R281) -/

/-- The first seal instant before `bound`. -/
def State.firstSeal (s : State) (bound : Time) : Option Time :=
  s.im.pgs.foldl (fun m g => match s.pg? g with
    | some r =>
      let x := s.sealTime g r
      if x < bound ∧ !s.paneBarred (s.group g).nextSeal then (match m with | some y => some (min x y) | none => some x) else m
    | none => m) none

/-- Panes whose seal instant lies before `bound` seal in the order of their instants, at most `n` instants. -/
def State.sealsBefore (s : State) (bound : Time) : Nat → State
  | 0 => s
  | n + 1 => match s.firstSeal bound with
    | some t => ((s.untilSrc t).sealDue).sealsBefore bound n
    | none => s

/-! ### Hall unlock (R101) -/

/-- TICK.STATUS.HALL_UNLOCKED: a follower that is not LOCKED, or whose current tick's TICK frame carried it. -/
def State.settleUnlocked (s : State) : State :=
  s.setBit R.tickStatus 7 (s.getF R.tickStatus 1 0 == 2 && (s.getF R.tickStatus 5 3 != 3 || s.tick.parentUnlocked))

/-- The device is the tick source. -/
def State.isSource (s : State) : Bool := s.getF R.tickStatus 1 0 != 2

/-! ### The hall-synchronous group (R104, R106) -/

/-- A committed amendment belongs to the group of tick `t`. -/
def State.hallAmend (s : State) (t : Nat) : Bool := s.planState == PS.committed && s.plan.hall && decide (s.plan.target ≤ t)

/-- The hall-synchronous requests of tick `t`. -/
def State.hallReqs (s : State) (t : Nat) : List SwapReq := s.tick.reqs.filter (fun r => r.hall && decide (r.tick ≤ t))

/-- The armed HALL entries that R81 would place in the group of `t`, were its cut-off reached now. -/
def State.hallEntries (s : State) (t : Nat) : List Nat :=
  s.armedActs.filter (fun i =>
    let b := s.actBytes i
    isSwapAct (actCode b) && actHall b &&
      wouldJoin (tickDiff (s.actNext i) t) (actRepeat b) ((s.inForce R.tickLateWin).toNat % 256))

/-- The committed amendment's shadows pass their checks (R58). -/
def State.amendBad (s : State) : Option (Nat × Nat) :=
  match s.plan.staged with
  | some im =>
    match s.plan.failed with
    | some f => some f
    | none => ((im.scheduled.find? (fun p => !checkBank p s.periodNs (s.shadowBank p))).map (fun p => (Sect.schedule, p)))
  | none => none

/-- Verification of the shadow that a HALL entry names, at the snapshot. -/
def State.entryReady (s : State) (i : Nat) : Bool :=
  let b := s.actBytes i
  s.actOk b && s.shadowOk (swapOf (actCode b) (actArg b))

/-- The snapshot at L(T - 1) for tick `t` (R104): entries that fail R79 at it are no members. -/
def State.hallSnapshot (s0 : State) (t : Nat) : State :=
  let s := forEach (s0.hallEntries t) (fun i (x : State) => if x.actOk (x.actBytes i) then x else x.actFailed i) s0
  let es := s.hallEntries t
  let kinds := es.map (fun i => swapOf (actCode (s.actBytes i)) (actArg (s.actBytes i)))
  let pend := s.hallAmend t || !es.isEmpty || !(s.hallReqs t).isEmpty
  let ok := es.all s.entryReady && (!s.hallAmend t || (s.plan.loaded && s.amendBad.isNone)) && (s.hallReqs t).all s.reqOk
  let s1 : State := { s with tick := { s.tick with
    snapEntries := es
    snapKinds := kinds
    snapTick := some t
    snapReady := pend && ok && s.eff 145 == View.run && !s.bit R.tickStatus 7
    snapPending := pend
    verdict := s.tick.verdict.filter (fun v => v.1 == t) } }
  forEach kinds (fun k (x : State) => match k with
    | .bank p => x.settleOwned p
    | _ => x) s1

/-- READY of the device itself for tick `t`: the snapshot's, unless a member joined after it (R104). -/
def State.hallReady (s : State) (t : Nat) : Bool :=
  s.tick.snapReady && (s.hallEntries t).all s.tick.snapEntries.contains

/-- A child's READY and PENDING for tick `t` as the combination takes them (R105, R106). -/
def Child.vote (c : Child) (t : Nat) : Bool × Bool :=
  if c.present then (if c.target = t then (c.ready, c.pending) else (false, false)) else (true, false)

/-- READY and PENDING of the device and its followers for tick `t`. -/
def State.hallVote (s : State) (t : Nat) : Bool × Bool :=
  let own : Bool × Bool := if s.tick.snapTick = some t then (s.hallReady t, s.tick.snapPending) else (false, false)
  let a := s.tick.child0.vote t
  let b := s.tick.child1.vote t
  (own.1 && a.1 && b.1, own.2 || a.2 || b.2)

/-- GO (true) or ABORT (false) of a source for tick `t`, none without a pending group of its own or of a follower (R106). -/
def State.sourceVerdict (s : State) (t : Nat) : Option Bool :=
  let v := s.hallVote t
  let own := s.tick.snapTick != some t && (s.hallAmend t || !(s.hallEntries t).isEmpty)
  if v.2 || own then some v.1 else none

/-- TICK.HSYNC_RESULT for tick `t`: 1 GO, 2 ABORT, 3 no frame (R104, R106). -/
def State.hallOutcome (s : State) (t : Nat) : Nat :=
  match s.tick.verdict with
  | some (n, go) => if n = t then (if go then 1 else 2) else if s.isSource then 2 else 3
  | none =>
    if s.isSource then (match s.sourceVerdict t with | some true => 1 | _ => 2)
    else if s.tick.frameTick = t then 2 else 3

/-! ### Amendments at L(TARGET) (R57, R58) -/

/-- The committed amendment fails (R58): a port whose own shadow failed reports CHECK, one whose section read uncorrectable among
them, and every other port it carried ABORTED (R60). -/
def State.failAmend (s : State) (f : Nat × Nat) : State :=
  let s1 := (s.setF R.planStatus 31 24 0x14).wrN R.planErrSect (f.1 + f.2 * 2 ^ 16)
  let own := fun (p : Nat) => f == (Sect.schedule, p) || !checkBank p s.periodNs (s.shadowBank p)
  let s2 := s1.dropAmend (fun p x => if own p then x.bankFailed p else x.lastSwap p Swap.aborted)
  (s2.raise Src.planAmendFail []).planResult Code.check

/-- The committed amendment swaps at tick `t`. -/
def State.swapAmend (s : State) (t : Nat) (late : Bool) : State :=
  match s.plan.staged with
  | none => s
  | some im =>
    let s1 := forEach im.scheduled (fun p (x : State) => x.swapBank p t late) s
    let s2 := match im.body? Sect.modes 0 with | some b => s1.setModes b | none => s1
    let s3 := match im.body? Sect.eventMap 0 with | some b => s2.loadEventMap b | none => s2
    let s4 := match im.body? Sect.faultClass 0 with | some b => s3.loadFaultClass b | none => s3
    let s5 := match im.body? Sect.tickActions 0 with | some b => s4.loadActs b | none => s4
    let s6 : State := { s5 with
      plan := { s5.plan with
        staged := none
        loaded := false
        hall := false
        saved := [] }
      mgt := { s5.mgt with amendDigest := im.digest } }
    let s7 := ((s6.wrN R.planActiveRev im.revision).setPlan PS.idle).event Evt.plan
    forEach im.scheduled (fun p (x : State) => x.settleOwned p) s7

/-- The ports the committed amendment swaps at this landing, which then swap once (R231). -/
def State.amendPorts (s : State) : List Nat := match s.plan.staged with | some im => im.scheduled | none => []

/-- The committed amendment at the landing of tick `t`: it swaps, fails, or is beyond the late window (R58, R73). The
ports whose request has its outcome from the amendment, swapped or failed, are returned. -/
def State.landAmend (s0 : State) (t : Nat) : State × List Nat :=
  if s0.planState = PS.committed ∧ s0.plan.target ≤ t then
    let s := s0.loadAmend []
    let late := decide (s.plan.target < t)
    if ((s.inForce R.tickLateWin).toNat % 256 : Int) < (t : Int) - s.plan.target then
      ((s.dropAmend (fun p x => x.lastSwap p Swap.discarded)).raise Src.swapDiscard [] |>.planResult Code.aborted, [])
    else match s.amendBad with
      | some f => (s.failAmend f, s.amendPorts)
      | none => (s.swapAmend t late, s.amendPorts)
  else (s0, [])

/-! ### The swap set (R73, R75, R76) -/

/-- The kinds of a list of requests, each once. -/
def kindsOf (l : List SwapReq) : List SwapKind := l.foldl (fun a r => if a.contains r.kind then a else a ++ [r.kind]) []

/-- One request of a missed tick lies beyond the late window at tick `t`. -/
def State.reqLost (s : State) (t : Nat) (r : SwapReq) : Bool :=
  decide (((s.inForce R.tickLateWin).toNat % 256 : Int) < (t : Int) - r.tick)

/-- The swap set of tick `t`, apart from the amendment, is applied; ports in `done` have swapped already. -/
def State.landReqs (s : State) (t : Nat) (done : List Nat) : State :=
  let due := s.tick.reqs.filter (fun r => decide (r.tick ≤ t))
  let lost := due.filter (s.reqLost t)
  let live := due.filter (fun r => !s.reqLost t r)
  let s0 := s.dropReqs (fun r => decide (r.tick ≤ t))
  let s1 := forEach (kindsOf lost) (fun k (x : State) => (x.releaseReq k Swap.discarded).raise Src.swapDiscard []) s0
  forEach (kindsOf live) (fun k (x : State) =>
    let mine := live.filter (fun r => decide (r.kind = k))
    let late := mine.any (fun r => r.late || decide (r.tick < t))
    let swapped := match k with | .bank p => done.contains p | _ => false
    let y := if swapped then x else x.swapKind k t late (mine.all s.reqOk)
    match k with
    | .bank p => y.settleOwned p
    | _ => y) s1

/-- The hall-synchronous group of tick `t` before the rest: released unless the hall said GO and every member passes
(R75, R104, R106). Where the hall said GO and a member fails its check, HSYNC_RESULT stays GO and HSYNC_ABORT is not raised;
members that pass are released as after an ABORT (log entry 84). -/
def State.landHall (s0 : State) (t : Nat) : State :=
  -- entries of the snapshot whose cut-off was jumped over join now
  let s := forEach s0.tick.snapEntries (fun i (x : State) => if x.actSt i = ActS.armed then x.actJoin i t else x) s0
  let rs := s.hallReqs t
  let am := s.hallAmend t
  let s1 : State := { s with tick := { s.tick with snapEntries := [], snapKinds := [] } }
  if !am && rs.isEmpty then s1
  else
    let out := s1.hallOutcome t
    let s2 := (s1.wrN R.tickHsyncTarget t).wrN R.tickHsyncResult out
    if out = 1 then
      if rs.all s2.reqOk && (!am || (s2.loadAmend []).amendBad.isNone) then s2
      else
        -- a member failed: no member swaps; the failing ones report it
        let s3 := s2.dropReqs (fun r => r.hall && decide (r.tick ≤ t))
        let s4 := forEach (kindsOf rs) (fun k (x : State) =>
          if (rs.filter (fun r => decide (r.kind = k))).all s2.reqOk then x.releaseReq k Swap.aborted
          else match k with
            | .bank p => (x.swapKind k t false false).settleOwned p
            | _ => x.swapKind k t false false) s3
        if am then (match (s4.loadAmend []).amendBad with
          | some f => (s4.loadAmend []).failAmend f
          | none => s4.releaseAmend.planResult Code.aborted) else s4
    else
      let s3 := s2.dropReqs (fun r => r.hall && decide (r.tick ≤ t))
      let s4 := forEach (kindsOf rs) (fun k (x : State) => x.releaseReq k Swap.aborted) s3
      let s5 := s4.raise Src.hsyncAbort []
      if am then s5.releaseAmend.planResult Code.aborted else s5

/-! ### A re-plan's two landings (R61 to R64) -/

/-- L(TARGET) of a committed re-plan (R61). -/
def State.replanStart (s : State) : State :=
  let s1 := (s.giveUp.setRole Role.none).cutGates
  let s3 := forEach (s1.im.sqs.map (·.qid)) (fun q (x : State) => x.stopQueue q Stop.replan) s1
  let s4 := forEach s3.tx.ready (fun f (x : State) => if f.isHost then x.dropFrame f f.ports Code.aborted else x) s3
  let s5 : State := { s4 with
    tx := { s4.tx with ready := [] }
    tick := { s4.tick with
      reqs := []
      snapEntries := []
      snapKinds := []
      verdict := none }
    plan := { s4.plan with loaded := false } }
  ((s5.setPlan PS.rebuilding).retireDma).gcbsOff

/-- Every open pane seals at L(TARGET) of a re-plan, by the compare of that landing, and the inputs are cleared (R61, R285,
R286). -/
def State.replanPanes (s : State) : State :=
  (forEach s.im.pgs (fun g (x : State) =>
    forEach (x.group g).panes (fun _ (y : State) => y.sealPane g { sealPlain with replan := true }) x) s).clearInputs

/-- Links of ports whose record changes are taken down (R64). -/
def State.dropChanged (s : State) (im : Image) : State :=
  forEach s.im.ports (fun p (x : State) =>
    if s.im.port p = im.port p ∨ x.link p = Link.disabled then x else x.linkLeave p Link.disabled) s

/-- The tick bus under the new plan: a source, a follower as it was, or a former source that has to lock again. -/
def State.replanBus (s : State) (old : Nat) : State :=
  if s.isSource then
    ((s.setF R.tickStatus 5 3 0).setF R.tickStatus 23 16 0).setBit R.tickStatus 8 false
  else if old = 2 then s
  else State.setF { s with tick := { s.tick with everLocked := true, goodRun := 0 } } R.tickStatus 5 3 4

/-- L(Tr) of a re-plan: the new plan applies from tick `t` (R62, R67). -/
def State.replanDone (s : State) (t : Nat) : State :=
  match s.plan.rebuilding with
  | none => s
  | some im =>
    let role := s.getF R.tickStatus 1 0
    let l := s.landingAt t - s.srcNow
    let s1 := ((s.resetDma).dropChanged im).loadTbs im
    let s2 := s1.applyPlan im t
    let s3 := s2.replanBus role
    let d := if s3.isSource then 0 else s3.tick.delta
    let s4 := (s3.setDelta d).setBase t (s3.srcNow + l - d)
    let s5 := forEach (List.range 8) (fun n (x : State) => if im.hasTb n then x.swapEpoch n (x.epochOk n) else x) s4
    let s6 : State := { s5 with fcr := { s5.fcr with contained := [], ending := [] } }
    ((((s6.wrN R.planResume t).setPlan PS.idle).settleUnlocked).roleLoaded).loadViews

/-- No plan is active any more (R52): every port down, the tick stopped, every view ABSENT. -/
def State.planNone (s : State) : State :=
  let s1 := forEach s.im.ports (fun p (x : State) => if x.link p = Link.disabled then x else x.linkLeave p Link.disabled) s
  let s2 : State := { s1 with
    plan := { s1.plan with
      active := none
      staged := none
      rebuilding := none
      loaded := false }
    mgt := { s1.mgt with overrides := [], amendDigest := [] } }
  let s3 := ((((s2.setPlan PS.none).setBit R.secKeys 12 false).setBit R.tickStatus 6 false).setRole Role.none).settleFuncMode
  let s4 := forEach (List.range 20) (fun k (x : State) =>
    forEach (List.range 4) (fun j (y : State) => y.wr (R.fcrGClass k j) (regReset (R.fcrGClass k j))) (x.wrN (R.fcrGMask k) 0)) s3
  forEach (List.range 256) (fun u (x : State) => (x.wrN (R.topUsb u) 0).wrN (R.topUsbMg u) 0) s4

/-- REBUILD_DONE: the rebuild finishes, and the next landing is L(Tr) (R62). `ecc`: what ECC found while the staging area
was read; an uncorrectable block leaves no plan, in the fault state (R395). -/
def execRebuildDone (ecc : List (Nat × Bool)) (s : State) : Answer :=
  .next (
    if s.planState = PS.rebuilding ∧ !s.plan.loaded then
      let n := s.plan.len
      let s1 := s.eccFound 0 n ecc
      if s1.badRead 0 n then
        ((s1.ueReport 0 n).enterFault Src.memUeCtrl).planNone
      else { s1 with plan := { s1.plan with loaded := true } }
    else s)

/-! ### The five steps (R72) -/

/-- Step 1: TICK.NOW, missed ticks, occurrences end being LIVE, and what the ended tick's work used (R86, R89). -/
def State.landCount (s : State) (t : Nat) (work : List Nat) : State :=
  let s1 := forEach (List.range 20) (fun k (x : State) => x.wr (R.fcrGLive k) (x.rd (R.fcrGLive k) &&& stateBits k)) s
  let missed := if s.running || s.tick.missedTo.isSome then t - s.now - 1 else 0
  let s2 := ((s1.wr64 R.tickNow t).setBit R.tickStatus 6 true)
  let s3 : State := { s2 with
    fcr := { s2.fcr with c4Raised := false }
    tick := { s2.tick with
      missedTo := none
      parentUnlocked := if s2.tick.frameTick = t then s2.tick.frameUnlocked else false } }
  let s4 := s3.settleUnlocked
  let s5 : State := { s4 with tick := { s4.tick with
    history := ((t, s4.landingAt t, s4.bit R.tickStatus 7) :: s4.tick.history).take 256 } }
  let s6 := forEach ((List.range 4).zip work) (fun e (x : State) =>
    x.wrN (R.tickBudgetMax e.1) (max (x.rdN (R.tickBudgetMax e.1)) e.2)) s5
  if missed = 0 then s6
  else ((s6.incBy R.tickMissed missed).wrN R.tickLastMissed (t - 1)).raise Src.tickMissed []

/-- Registers whose writes were held for this landing take effect, with the commands that waited for it. -/
def State.landWrites (s : State) : State :=
  let s1 := s.inLand.metersFill
  let s2 : State := { s1 with stale := [] }
  let s3 := s2.adminLand
  let s4 := forEach (s3.tx.gcbs.map (·.1)) (fun i (x : State) => x.gcbLand i) s3
  let s5 := forEach (s4.tx.svps.map (·.1)) (fun n (x : State) => x.svpLand n) s4
  forEach s5.im.pgs (fun g (x : State) => x.pgLand g) s5

/-- Step 2: the swap set of `t` (R73 to R76), with plans and what waits for a landing. `c4`: a C4 raise fell in the tick
that ended; `first`: it is the first landing. -/
def State.landSwaps (s : State) (t : Nat) (c4 first : Bool) (ue : Option Nat) : State :=
  let s1 := if s.planState = PS.committedPlan ∧ s.plan.target ≤ t then s.replanStart
    else if s.planState = PS.rebuilding ∧ s.plan.loaded then s.replanDone t else s
  let s2 := s1.applyEpochs ue
  let s3 := if s2.holds then s2
    else
      let h := s2.landHall t
      let a := h.landAmend t
      a.1.landReqs t a.2
  (((s3.landWrites).hbLand first).faultLand c4).mirrorLand

/-- Step 3: the board is compared, and what follows the effective states (R25, R404, R405). -/
def State.landBoard (s : State) : State :=
  let was := s.eff 144
  let s1 := s.compareBoard
  let s2 := if was = View.actuating ∧ s1.eff 144 < View.actuating then s1.giveUp else s1
  let s3 := s2.strapLand.tryClaim
  forEach s3.im.ports (fun p (x : State) => x.landPort p) s3

/-- Bound entries whose window ended complete LATE, and entries that passed in an earlier tick complete (R321). -/
def State.landBound (s : State) : State :=
  forEach ((s.im.sqs.filter (fun q => q.kind == 2)).map (·.qid)) (fun q (x : State) =>
    let late := (x.queue q).entries.filter (fun e => e.stage == Stage.bound && x.aqExpired e.bytes)
    (forEach late (fun e (y : State) => Answer.state (execRaWindowExpiry q e.idx y) y) x).aqLand q) s

/-- A handover that was not confirmed in time ends (R406). -/
def State.landHandover (s : State) : State :=
  match execHandoverTimeout s with
  | .next x => x
  | _ => s

/-- Step 4: the panes of `ticks` open, actions of offset 0 fire, and what is due at the instant itself. -/
def State.landActs (s : State) (ticks : List Nat) : State :=
  if s.holds then s
  else
    let s1 := forEach s.im.pgs (fun g (x : State) =>
      forEach ticks (fun n (y : State) => y.openPane g n) x) s
    ((((s1.actsEval).sealDue).landBound).twinsLand).metersLand

/-- A follower that has not been heard for 4 ticks is no longer present (R105). -/
def Child.older (c : Child) : Child := { c with age := c.age + 1, present := c.present && decide (c.age + 1 < 4) }

/-- Step 5: landing edges leave on the D ports (R92), and the group of the next tick is looked at (R104). A SOLO device
uses D0 alone. -/
def State.landEdges (s : State) (t : Nat) : State :=
  let s1 := s.emit (.edge 1)
  let s2 := if s.getF R.tickStatus 1 0 = 0 then s1 else s1.emit (.edge 2)
  let s3 : State := { s2 with tick := { s2.tick with child0 := s2.tick.child0.older, child1 := s2.tick.child1.older } }
  if s3.holds then s3
  else
    let s4 := if s3.planState = PS.committed ∧ s3.plan.target ≤ t + 1 then s3.loadAmend [] else s3
    s4.hallSnapshot (t + 1)

/-- An entry or a trigger waits for a completion slot of ring `r`, and none can be reserved (R349). -/
def State.ringWaits (s : State) (r : Nat) : Bool :=
  !s.canReserve r 1 &&
  (s.im.sqs.any (fun q => q.cring == r && (
     !(s.queue q.qid).toAbort.isEmpty ||
     (s.queue q.qid).entries.any (fun e => !e.slot &&
       ((e.stage == Stage.cached && (q.kind != 1 || !(s.queue q.qid).rxWait.isEmpty)) || e.stage == Stage.held || e.stage == Stage.failed)))) ||
   s.dma.chans.any (fun c => s.chRing c.1 == r && s.trigPend c.1 && c.2.run.isNone))

/-- FULL_STALL counts once more for each ring on which something has waited since before this landing (R349). -/
def State.landStalls (s : State) : State :=
  let rs := s.stalled.filter s.ringWaits
  forEach rs (fun r (x : State) => x.inc (R.qmCrFullStall r)) { s with stalled := rs }

/-- The landing of tick `t` at the present instant. -/
def State.land (s : State) (t : Nat) (ue : Option Nat) (work : List Nat) : State :=
  let c4 := s.fcr.c4Raised
  let first := !s.running
  let ticks := if first then [t] else (List.range (t - s.now)).map (fun i => s.now + 1 + i)
  let s1 := (s.landCount t work).landSwaps t c4 first ue
  let b := s1.landBoard
  let s2 := if s.planState = PS.committedPlan ∧ b.planState = PS.rebuilding then b.replanPanes else b
  let s3 := if s2.rdn.takeoverDue && s2.role == Role.active then s2.takeover ue else s2
  let s4 := (((s3.landActs ticks).landHandover).landStalls).landEdges t
  (s4.settleHeld).powerLand

/-- The TIME edge after the landing edge, where an epoch's phase applies on it (R121). -/
def State.phaseEdge (s : State) : State :=
  let due := (List.range 8).filter (fun n => (s.tb n).phaseDue)
  if due.isEmpty then s
  else
    let s1 := s.edges 1
    s1.afterStep (forEach due (fun n x => x.applyPhase n) s1)

/-- The next landing takes effect (R72), after its cut-off and the seals that come before it. `ue`: the address of a block of the
committed mirror bank that read uncorrectable; `work`: ns each kind of per-tick work used (R89). -/
def State.landNow (s : State) (ue : Option Nat) (work : List Nat) : State :=
  if s.canLand then
    let t := s.nextTick
    let s1 := if s.cutDue then s.cutOff t [] else s
    let s2 := s1.sealsBefore (s1.landingAt t) (2 * s1.im.pgs.length + 2)
    let s3 := s2.untilSrc (s2.landingAt t)
    -- what the ended tick still had in its treads comes first
    let s4 := forEach s3.im.ports (fun p (x : State) => x.settlePort p) s3
    (s4.land t ue work).phaseEdge
  else s

/-- LANDING (R72). -/
def execLanding (ue : Option Nat) (work : List Nat) (s : State) : Answer := .next (s.landNow ue work)

/-- TWIN_RESET_TIMER (R191): the landing at which the timer of handle `sh` resets it is the next one, and it takes effect; every
handle whose timer is due resets at it. -/
def execTwinResetTimer (sh : Nat) (s : State) : Answer :=
  .next (match s.stream? sh with
    | some r => if s.twinDue r s.nextTick then s.landNow none [] else s
    | none => s)

/-- PATH_DOWN (R193): the landing at which a path of handle `sh` is lost is the next one, and it takes effect; every path that is
due sets PATH_DOWN at it. -/
def execPathDown (sh : Nat) (s : State) : Answer :=
  .next (match s.stream? sh with
    | some r => if s.pathsDue r s.nextTick ≠ (false, false) then s.landNow none [] else s
    | none => s)

/-- A landing that can take effect is due: its edge has come, and time stands until LANDING is taken. -/
def State.landingDue (s : State) : Bool := s.canLand && decide (s.landingAt s.nextTick ≤ s.srcNow)

/-- What arrives on the edge of a landing or of a seal instant comes after it: what is due takes effect first (R192, R262,
R281). -/
def State.landFirst (s : State) : State :=
  (if s.landingDue then s.landNow none [] else s).sealDue

end Sys2Proof.Machine
end

