-- ==== Sys2Proof/Machine/Ustor.lean ====
section
/-! DEFINITION. The Ustor tick bus (03_tick_landing, R91 to R106): its serial frames, calibration, lock, relock and the
TICK commands. -/

namespace Sys2Proof.Machine

/-! ### States of the bus (R97) -/

/-- SOURCE of TICK.STATUS.BUS -/
abbrev Bus.source : Nat := 0
/-- SEEKING -/
abbrev Bus.seeking : Nat := 1
/-- CALIBRATING -/
abbrev Bus.calibrating : Nat := 2
/-- LOCKED -/
abbrev Bus.locked : Nat := 3
/-- HOLDOVER -/
abbrev Bus.holdover : Nat := 4
/-- RELOCKING -/
abbrev Bus.relocking : Nat := 5

/-- TICK.STATUS.BUS. -/
def State.bus (s : State) : Nat := s.getF R.tickStatus 5 3

/-- The device is a FOLLOWER with a plan and a running TIME domain: its U port counts. -/
def State.follows (s : State) : Bool := s.hasPlan && s.timeRuns && s.getF R.tickStatus 1 0 == 2

/-- Enter a state of the bus. -/
def State.setBus (s : State) (b : Nat) : State := (s.setF R.tickStatus 5 3 b).settleUnlocked

/-- TICK.STATUS.AHEAD. -/
def State.setAhead (s : State) (b : Bool) : State := s.setBit R.tickStatus 8 b

/-- D ports that are driven: D0 (1) alone on a SOLO device (R91). -/
def State.dPorts (s : State) : List Nat := if s.getF R.tickStatus 1 0 = 0 then [1] else [1, 2]

/-- Send a serial frame on every D port. -/
def State.sendDown (s : State) (b : List Byte) : State := forEach s.dPorts (fun p (x : State) => x.emit (.ustor p b)) s

/-! ### Serial frames (R93) -/

/-- A frame of 16 octets: 14 and their CRC-16, high octet first. -/
def ustorFrame (b : List Byte) : List Byte := b ++ beBytes 2 (crc16 b).toNat

/-- The frame's length and CRC are right. -/
def ustorOk (b : List Byte) : Bool := b.length == 16 && beAt b 14 2 == (crc16 (b.take 14)).toNat

/-- CFG_CHK: the exclusive or of the eight octets of PERIOD_NS and PERIOD_FRAC. -/
def State.cfgChk (s : State) : Byte := xorBytes (leBytes 4 s.periodNs ++ leBytes 4 (s.rdN R.tickPeriodFrac))

/-- A flag octet from its bits 0 up. -/
def flagByte (l : List Bool) : Byte := BitVec.ofNat 8 (l.foldr (fun b n => b.toNat + 2 * n) 0)

/-- The TICK frame for tick `t`: HALL_UNLOCKED, GO, ABORT, STEP. -/
def State.tickFrame (s : State) (t : Nat) (flags : List Bool) : List Byte :=
  ustorFrame ([1, flagByte flags] ++ beBytes 2 s.im.tick.hallId ++ beBytes 8 t ++
    [BitVec.ofNat 8 (s.getF R.tickStatus 23 16), s.cfgChk])

/-- The relayed copy of a TICK frame (R94): DEPTH incremented, HALL_UNLOCKED or-ed with the device's own state, and the
CRC carried on, so that a damaged frame stays damaged. -/
def State.relayed (s : State) (b : List Byte) : List Byte :=
  let flags := (b.getD 1 0) ||| (if s.bit R.tickStatus 7 then 1 else 0)
  let h := patch (patch (b.take 14) 1 [flags]) 12 [BitVec.ofNat 8 (min 255 (beAt b 12 1 + 1))]
  h ++ beBytes 2 ((crc16 h) ^^^ (crc16 (b.take 14)) ^^^ (BitVec.ofNat 16 (beAt b 14 2))).toNat

/-! ### Sending (R94, R98, R105, R106) -/

/-- TICK_FRAME_SEND (R94, R106): at L(T-1) + 4 us a source sends the frame for T and fixes GO or ABORT; after a step that
missed ticks it sends the frame for m + 1 at once, with STEP and ABORT (R104). A follower in HOLDOVER sends its own (R98). -/
def execTickFrameSend (s : State) : Answer :=
  .next (
    if !(s.hasPlan && s.timeRuns && s.running) then s
    else
      let t := s.nextTick
      let at4 : State := s.untilSrc (s.landingNow + ofUs 4)
      if s.isSource then
        if s.tick.missedTo.isSome then
          let s1 : State := { s with tick := { s.tick with verdict := some (t, false) } }
          s1.sendDown (s1.tickFrame t [false, false, true, true])
        else
          let v := at4.sourceVerdict t
          let s1 : State := match v with
            | some go => { at4 with tick := { at4.tick with verdict := some (t, go) } }
            | none => at4
          s1.sendDown (s1.tickFrame t [false, v == some true, v == some false, false])
      else if s.bus = Bus.holdover ∧ s.tick.frameTick ≠ t then at4.sendDown (at4.tickFrame t [true])
      else s)

/-- Devices locked in the subtree, at most 255 (R93). -/
def State.lockedBelow (s : State) : Nat :=
  let own := (s.bus == Bus.source || s.bus == Bus.locked).toNat
  let child := fun (c : Child) => if c.present then c.locked else 0
  min 255 (own + child s.tick.child0 + child s.tick.child1)

/-- STATUS_FRAME_SEND (R105): at L(T-1) + 0.5 us without followers, else once they all have reported or at
L(T-1) + 3.5 us. -/
def execStatusFrameSend (s : State) : Answer :=
  .next (
    if !(s.follows && s.running) then s
    else
      let t := s.nextTick
      let cs := [s.tick.child0, s.tick.child1].filter (·.present)
      let s1 :=
        if cs.isEmpty then s.untilSrc (s.landingNow + ofNs 500)
        else if cs.all (fun c => c.target == t) then s
        else s.untilSrc (s.landingNow + ofNs 3500)
      let v := s1.hallVote t
      let below := s1.bit R.tickStatus 7 || cs.any (·.unlocked)
      s1.emit (.ustor 0 (ustorFrame ([2, flagByte [v.1, v.2, below]] ++ beBytes 2 s1.im.tick.hallId ++ beBytes 8 t ++
        [BitVec.ofNat 8 s1.im.tick.devIndex, BitVec.ofNat 8 s1.lockedBelow]))))

/-- STATUS_FRAME_RECEIVE (R105): a follower's frame on D0 (0) or D1 (1). -/
def execStatusFrameReceive (d1 : Bool) (b : List Byte) (s : State) : Answer :=
  .next (
    let used := s.hasPlan && s.timeRuns && !(d1 && s.getF R.tickStatus 1 0 == 0)
    if used && ustorOk b && beAt b 0 1 == 2 && beAt b 2 2 == s.im.tick.hallId then
      let f := b.getD 1 0
      let c : Child := ⟨true, beAt b 4 8, f.getLsbD 0, f.getLsbD 1, beAt b 13 1, f.getLsbD 2, 0⟩
      { s with tick := if d1 then { s.tick with child1 := c } else { s.tick with child0 := c } }
    else s)

/-! ### Receiving TICK frames (R94, R96, R97) -/

/-- The frame names the device's hall, its period and a legal depth (R97). -/
def State.frameFits (s : State) (b : List Byte) : Bool :=
  beAt b 2 2 == s.im.tick.hallId && b.getD 13 0 == s.cfgChk && decide (beAt b 12 1 ≤ 5)

/-- An accepted TICK frame. -/
def State.acceptFrame (s : State) (b : List Byte) : State :=
  let t := beAt b 4 8
  let f := b.getD 1 0
  let step := f.getLsbD 3
  let s1 : State := { s with tick := { s.tick with
    goodRun := if s.tick.nextEdge.isNone && (s.tick.goodRun == 0 || t == s.tick.frameTick + 1) then s.tick.goodRun else 0
    badCrc := 0
    badFrames := 0
    frameTick := t
    frameStep := step
    frameUnlocked := f.getLsbD 0
    nextEdge := some t
    verdict := if f.getLsbD 1 then some (t, true) else if f.getLsbD 2 then some (t, false) else s.tick.verdict
    missedTo := if step && s.bus == Bus.locked && s.running && decide (s.now + 1 < t) then some (t - 1) else s.tick.missedTo } }
  s1.setF R.tickStatus 23 16 (beAt b 12 1 + 1)

/-- A recalibration ends; a RECAL command completes with `code`. -/
def State.recalEnd (s : State) (code : Nat) : State :=
  let s1 : State := { s with tick := { s.tick with
    recal := false
    recalCmd := false
    calAt := s.now } }
  if s.tick.recalCmd then s1.finish R.tickCtl R.tickStatus code else s1

/-- Four consecutive expected edges are missing, or four consecutive frames failed (R97). -/
def State.parentLost (s : State) : State :=
  let s1 : State := { s with tick := { s.tick with
    goodRun := 0
    badCrc := 0
    badFrames := 0
    nextEdge := none
    calOut := false } }
  if s.bus = Bus.calibrating then (s1.setBus Bus.seeking).raise Src.ustorLoss []
  else if s.bus = Bus.locked then
    ((if s.tick.recal then s1.recalEnd Code.timeout else s1).setBus Bus.holdover).raise Src.ustorLoss []
  else if s.bus = Bus.holdover then { s1 with tick := { s1.tick with recal := false } }
  else s1

/-- A TICK frame failed its CRC, or HALL_ID, CFG_CHK or DEPTH: the run of good ones ends, and the fourth consecutive one
counts in CALIBRATING, in LOCKED the fourth with a wrong CRC (R97). -/
def State.frameFailed (s : State) (crc : Bool) : State :=
  let s1 : State := { s with tick := { s.tick with
    goodRun := 0
    badCrc := if crc then s.tick.badCrc + 1 else 0
    badFrames := s.tick.badFrames + 1 } }
  if (s.bus = Bus.calibrating ∧ 4 ≤ s1.tick.badFrames) ∨ (s.bus = Bus.locked ∧ 4 ≤ s1.tick.badCrc) then s1.parentLost else s1

/-- TICK_FRAME_RECEIVE on U (R94, R96, R97). -/
def execTickFrameReceive (b : List Byte) (s : State) : Answer :=
  .next (
    if !(s.follows && b.length == 16) then s
    else if !ustorOk b then (s.sendDown (s.relayed b)).frameFailed true
    else if beAt b 0 1 ≠ 1 then s
    else
      let s1 := s.sendDown (s.relayed b)
      if !s.frameFits b then (if s.bus = Bus.seeking then s1.raise Src.ustorCfg [] else s1).frameFailed false
      else s1.acceptFrame b)

/-! ### Calibration (R95) -/

/-- The one-way delay in use. -/
def State.hallDelay (s : State) : Time := ofPs (s.rdN R.tickHallDelay)

/-- A calibration or recalibration begins. -/
def State.calStart (s : State) (recal cmd : Bool) : State :=
  { s with tick := { s.tick with
    calCount := 0
    calSum := 0
    calTicks := 0
    calOut := false
    recal := recal
    recalCmd := cmd } }

/-- A calibration pulse is due each tick: the follower calibrates. -/
def State.calibrates (s : State) : Bool := s.bus == Bus.calibrating || s.tick.recal

/-- CAL_PULSE_SEND (R95): at L(n) + period / 2 while CALIBRATING or recalibrating, which also begins after 2^20 ticks in
LOCKED. -/
def execCalPulseSend (s : State) : Answer :=
  .next (
    if !s.follows then s
    else
      let s0 := if s.bus = Bus.locked ∧ !s.tick.recal ∧ s.tick.calAt + 2 ^ 20 ≤ s.now then s.calStart true false else s
      if s0.calibrates && !s0.tick.calOut then
        let s1 := if s0.running then s0.untilSrc (s0.landingNow + s0.period / 2) else s0
        State.emit { s1 with tick := { s1.tick with calOut := true, calTicks := s1.tick.calTicks + 1 } } (.calPulse 0)
      else s0)

/-- CAL_PULSE_RETURN (R95): the pulse that arrived on D0 or D1 1,024 ns ago goes back. -/
def execCalPulseReturn (d1 : Bool) (s : State) : Answer :=
  .next (
    let p := 1 + d1.toNat
    if s.hasPlan && s.timeRuns && s.dPorts.contains p then s.emit (.calPulse p) else s)

/-- 256 ticks passed without 16 round trips (R95, R97). -/
def State.calExpire (s : State) : State :=
  if s.tick.calTicks < 256 then s
  else if s.bus = Bus.calibrating then
    State.raise (State.setBus { s with tick := { s.tick with goodRun := 0 } } Bus.seeking) Src.ustorLoss []
  else if s.bus = Bus.locked then s.recalEnd Code.timeout
  else s

/-- Sixteen consecutive round trips were measured: the one-way delay is their mean less 1,024 ns, halved; a fraction of a
picosecond is cut off in TICK.HALL_DELAY (log entry 85). -/
def State.calDone (s : State) : State :=
  let s1 := s.wrN R.tickHallDelay ((s.tick.calSum - 16 * 1024000) / 32)
  if s.bus = Bus.calibrating then State.setBus { s1 with tick := { s1.tick with calAt := s1.now } } Bus.locked
  else if s.bus = Bus.holdover then (s1.recalEnd Code.ok).setBus Bus.relocking
  else s1.recalEnd Code.ok

/-- A round trip failed: the count of consecutive ones restarts. -/
def State.calFail (s : State) : State :=
  State.calExpire { s with tick := { s.tick with calOut := false, calCount := 0, calSum := 0 } }

/-- CAL_PULSE_ARRIVE (R95): the pulse came back after `trip` steps of 80 ps. -/
def execCalPulseArrive (trip : Nat) (s : State) : Answer :=
  .next (
    if !(s.follows && s.calibrates && s.tick.calOut) then s
    else if 2048000 < 80 * trip then s.calFail
    else
      let s1 : State := { s with tick := { s.tick with
        calOut := false
        calCount := s.tick.calCount + 1
        calSum := s.tick.calSum + 80 * trip } }
      if s1.tick.calCount = 16 then s1.calDone else s1.calExpire)

/-- CAL_PULSE_TIMEOUT (R95): the pulse did not return within 2,048 ns. -/
def execCalPulseTimeout (s : State) : Answer :=
  .next (if s.follows && s.calibrates && s.tick.calOut then s.calFail else s)

/-! ### Landing edges of the parent (R96 to R99) -/

/-- The first landing of the follower is that of tick `t` at `est` (R96). -/
def State.firstLock (s : State) (t : Nat) (est : Time) : State :=
  let s1 := (s.setDelta 0).setBase t est
  let s2 : State := { s1 with
    tick := { s1.tick with
      everLocked := true
      lockBy := none
      calAt := t
      reqs := s1.tick.reqs.map (fun r => { r with tick := max r.tick t }) }
    str := { s1.str with firstTick := t } }
  forEach s2.im.pgs (fun g (x : State) => x.setGroup g { x.group g with first := max t (x.group g).first, nextSeal := max t (x.group g).nextSeal }) s2

/-- The landing of tick `t` is put at `est`; the ticks this passes are missed (R85, R96, R99). -/
def State.adopt (s : State) (t : Nat) (est : Time) : State :=
  let s1 := s.setDelta (s.tick.delta + est - s.landingAt t)
  if s.now + 1 < t then { s1 with tick := { s1.tick with missedTo := some (t - 1) } } else s1

/-- A comparison in RELOCKING: tick `t` of the source landed at `est` (R99). -/
def State.relock (s : State) (t : Nat) (est : Time) : State :=
  let e := s.landingAt t - est
  let win := ofNs (s.rdN R.tickRelockWin)
  if win < e then (s.adopt t est).setAhead false
  else if e < -win then ((s.setAhead true).setBus Bus.holdover).raise Src.ustorAhead []
  else if -(ofNs 2) ≤ e ∧ e ≤ ofNs 2 then (s.setAhead false).setBus Bus.locked
  else
    let most := s.period * s.rdN R.tickRelockSlew / 1000000
    (s.setDelta (s.tick.delta - max (-most) (min most e))).setAhead false

/-- The source's landing of tick `t` at `est`, by the state of the bus. One-sixteenth of the error is rounded toward minus
infinity to a unit of 2^-48 ns (log entry 85). -/
def State.edgeAt (s : State) (t : Nat) (est : Time) : State :=
  let good : State := { s with tick := { s.tick with goodRun := s.tick.goodRun + 1 } }
  if s.bus = Bus.seeking then
    if 4 ≤ good.tick.goodRun then
      State.setBus (State.calStart { good with tick := { good.tick with goodRun := 0 } } false false) Bus.calibrating
    else good
  else if s.bus = Bus.locked then
    if !s.tick.everLocked then s.firstLock t est
    else if s.tick.frameStep then s.adopt t est
    else s.setDelta (s.tick.delta + (est - s.landingAt t) / 16)
  else if s.bus = Bus.holdover then
    if s.tick.resync then
      if s.now < t then
        let s1 : State := s.adopt t est
        ((State.setBus { s1 with tick := { s1.tick with resync := false } } Bus.locked).setAhead false).finish R.tickStatus R.tickStatus Code.ok
      else s
    else if 4 ≤ good.tick.goodRun ∧ !s.tick.recal then good.calStart true false
    else good
  else if s.bus = Bus.relocking then s.relock t est
  else s

/-- USTOR_EDGE_RECEIVE: the parent's landing edge, `sub` steps of 80 ps after the TIME edge (R96). -/
def execUstorEdgeReceive (sub : Nat) (s : State) : Answer :=
  .next (
    if !s.follows then s
    else match s.tick.nextEdge with
      | none => { s with tick := { s.tick with goodRun := 0 } }
      | some t =>
        let s1 := s.edgeAt t (s.srcNow + ofPs80 (sub % 10) - s.hallDelay)
        { s1 with tick := { s1.tick with nextEdge := none } })

/-- USTOR_EDGE_MISSING: the fourth consecutive expected edge is missing (R97). -/
def execUstorEdgeMissing (s : State) : Answer :=
  .next (if s.follows then s.parentLost else s)

/-- USTOR_NO_LOCK: 1 s passes since the plan commit without a lock (R97). -/
def execUstorNoLock (s : State) : Answer :=
  .next (match s.tick.lockBy with
    | some t =>
      if s.follows && !s.tick.everLocked && (s.bus == Bus.seeking || s.bus == Bus.calibrating) then
        State.raise { s.untilClock t with tick := { s.tick with lockBy := none } } Src.ustorNoLock []
      else s
    | none => s)

/-! ### TICK commands (R100) -/

/-- A TICK command: STATE unless `legal`. -/
def State.tickCommand (s : State) (req : Requester) (legal : State → Bool) (f : State → State) : State :=
  s.guarded req R.tickCtl (fun s => if legal s then f s else s.result R.tickStatus Code.state)

/-- PROMOTE (R100): the follower becomes the tick source of its subtree. -/
def execPromote (req : Requester) (s : State) : Answer :=
  .next (s.tickCommand req (fun s => s.follows && s.bus == Bus.holdover) (fun s =>
    let s1 : State := { s with tick := { s.tick with
      resync := false
      recal := false
      nextEdge := none
      parentUnlocked := false } }
    let s2 := ((s1.setF R.tickStatus 1 0 1).setF R.tickStatus 23 16 0).setAhead false
    (s2.setBus Bus.source).result R.tickStatus Code.ok))

/-- RESYNC (R100): the tick ends at L(c) + period, and the source's landing of c + 1 is adopted. -/
def execResync (req : Requester) (s : State) : Answer :=
  .next (s.tickCommand req (fun s => s.follows && s.bus == Bus.holdover && s.bit R.tickStatus 8) (fun s =>
    State.defer { s with tick := { s.tick with resync := true, recal := false } } R.tickStatus))

/-- RECAL (R95, R100): it completes with OK after 16 round trips or with TIMEOUT after 256 ticks. -/
def execRecal (req : Requester) (s : State) : Answer :=
  .next (s.tickCommand req (fun s => s.follows && s.bus == Bus.locked) (fun s => (s.calStart true true).defer R.tickCtl))

/-- A reserved TICK command completes with STATE (R100). -/
def execTickCmdReserved (req : Requester) (s : State) : Answer := .next (s.tickCommand req (fun _ => false) id)

end Sys2Proof.Machine
end

