-- ==== Sys2Proof/Machine/Clocks.lean ====
section
/-! DEFINITION. DDR4 training and patrol scrub (13_memory, R387 to R393), PLLs, oscillators and reference clocks
(17_crossings_power, R481, R482; 18_pins_electrical, R518, R519), the PCIe links and the functions' power states
(R454, R495 to R499), and function-level reset (R357). -/

namespace Sys2Proof.Machine

/-! ### DDR4 (R387, R390 to R393) -/

/-- A channel whose patrol scrub has not begun. -/
def scrubInit (_ : Nat) : ScrubSt := ⟨0, 0, 1⟩

/-- The patrol scrub of channel `c`. -/
def State.scrub (s : State) (c : Nat) : ScrubSt := Tab.get scrubInit s.ddr.scrub c

/-- Replace the patrol scrub of channel `c`. -/
def State.setScrub (s : State) (c : Nat) (x : ScrubSt) : State :=
  { s with ddr := { s.ddr with scrub := Tab.put scrubInit s.ddr.scrub c x } }

/-- Hours of a scrub pass that begins now: PERIOD_H, 0 taken as 1 (R393). -/
def State.scrubHours (s : State) : Nat := max 1 (s.getF R.memScrub 7 0)

/-- 64-byte blocks of channel `c`. -/
def State.scrubBlocks (s : State) (c : Nat) : Nat := s.getF (R.memChStatus c) 31 24 * (1024 * mib / 64)

/-- A pass of `h` hours. -/
def scrubSpan (h : Nat) : Time := (h : Int) * 3600 * oneSec

/-- When the pass of channel `c` reads its next block: the reads are spread evenly over its period (R393). -/
def State.scrubAt (s : State) (c : Nat) : Time :=
  let x := s.scrub c
  x.since + scrubSpan x.hours * x.next / max 1 (s.scrubBlocks c)

/-- The pass goes on to its next block; the last one ends it, and the next pass begins when its period is over, with the
PERIOD_H then in force. -/
def State.scrubOn (s : State) (c : Nat) : State :=
  let x := s.scrub c
  if x.next + 1 < s.scrubBlocks c then s.setScrub c { x with next := x.next + 1 }
  else (s.setScrub c ⟨0, x.since + scrubSpan x.hours, s.scrubHours⟩).inc R.memScrubPasses

/-- DDR_TRAIN: stage 5 of the boot trains every channel (R387, R455). `outcome` gives MEM.CH[c].STATUS as training leaves
it, of which STATE is 2 READY or 3 FAILED; any other channel is ABSENT. The patrol scrub of a READY channel begins (log entry
110). -/
def execDdrTrain (outcome : List Reg) (s : State) : Answer :=
  .next (
    if s.boot.stage ≠ 4 then s
    else
      let s1 := forEach (List.range 16) (fun c (x : State) =>
        let w := outcome.getD c 0
        let st := fld w 2 0
        if st = 2 then (x.wr (R.memChStatus c) (w &&& 0xFFFF01E7#32)).setScrub c ⟨0, x.clock, x.scrubHours⟩
        else if st = 3 then (x.wr (R.memChStatus c) (w &&& 0xFFFF01E7#32)).raise Src.memTrain [Cu.ch c]
        else x.wr (R.memChStatus c) 0) s
      { s1 with boot := { s1.boot with stage := 5 } })

/-- The regions that use channel `c`, in ascending BASE, with the local address where each begins (R391). -/
def State.packed (s : State) (c : Nat) : List (RegionRec × Nat) :=
  let rs := (s.im.regions.filter (fun r => r.chMask.testBit c)).mergeSort (fun a b => decide (a.base ≤ b.base))
  (rs.foldl (fun a r => (a.1 ++ [(r, a.2)], a.2 + chanShare r.size (maskBits 16 r.chMask).length))
    (([] : List (RegionRec × Nat)), if c = 0 then 16 * mib else 0)).1

/-- The flat address of local address `l` of channel `c`, none where nothing is mapped (R389 to R391). -/
def State.flatOf (s : State) (c l : Nat) : Option Nat :=
  if c = 0 ∧ l < 16 * mib then some l
  else (s.packed c).findSome? (fun e =>
    let cs := maskBits 16 e.1.chMask
    let n := cs.length
    if e.2 ≤ l ∧ l < e.2 + chanShare e.1.size n then
      let d := l - e.2
      some (e.1.base + (d / 4096 * n + cs.idxOf c) * 4096 + d % 4096)
    else none)

/-- The next block of channel `c` is read (R393): a correctable error is corrected, an uncorrectable one counted and raised by
the block's region. -/
def State.scrubRead (s : State) (c : Nat) (find : Option Bool) : State :=
  let block := (s.flatOf c (64 * (s.scrub c).next)).map (· / 64)
  let bad := match block with | some b => s.ddr.bad.contains b | none => false
  match block with
  | none => if find = some true then s.inc (R.memChUe c) else if find = some false then s.correctable c else s
  | some b =>
    if find = some true || bad then
      let s1 : State := if bad then s else { s with ddr := { s.ddr with bad := b :: s.ddr.bad } }
      let s2 := s1.inc (R.memChUe c)
      s2.raise (s2.ueSource b) (s2.ueUnits b)
    else if find = some false then s.correctable c
    else s

/-- PATROL_SCRUB: the scrub of channel `c` reads its next block when that read is due (R393). `find`: the read met a correctable
error (false) or an uncorrectable one (true). -/
def execPatrolScrub (c : Nat) (find : Option Bool) (s : State) : Answer :=
  .next (
    if 16 ≤ c ∨ s.getF (R.memChStatus c) 2 0 ≠ 2 ∨ s.scrubBlocks c = 0 then s
    else match s.reachClock (s.scrubAt c) with
      | none => s
      | some s1 => ((s1.wake (148 + c)).scrubRead c find).scrubOn c)

/-! ### PLLs (R482) -/

/-- The fault source of PLL `i` (0 CORE, 1 PRZ, 2 TIME, 3 MGT). -/
def pllSource (i : Nat) : Nat := Src.pllUnlockCore + i

/-- PLL `i` reports loss of lock: its domains stop. AON deasserts PAIR_ACT_OUT when CORE stops; while CSR is stopped the
collector takes no raise. -/
def State.pllLost (s : State) (i : Nat) : State :=
  if 3 < i ∨ s.pwr.stopped.contains i then s
  else
    let s1 : State := State.setBit { s with pwr := { s.pwr with stopped := i :: s.pwr.stopped } } R.pwrClkStatus i false
    if i = 0 then s1.giveUp.settleHeld
    else if s1.coreRuns then s1.condition (pllSource i) [] true
    else s1

/-- PLL_UNLOCK (R482). -/
def execPllUnlock (i : Nat) (s : State) : Answer := .next (s.pllLost i)

/-- A re-plan of the active plan, committed for the first landing to come; a committed amendment is released (R482). -/
def State.rebuildPlan (s : State) : State :=
  if !s.hasPlan || s.planState == PS.rebuilding then s
  else
    let s1 := if s.planState = PS.committed then s.releaseAmend.planResult Code.aborted else s
    let s2 : State := { s1 with plan := { s1.plan with
      staged := none
      source := none
      rebuilding := s1.plan.active
      target := s1.nextTick
      loaded := false } }
    s2.setPlan PS.committedPlan

/-- A management reset begins (R476): the cores and their SRAM start again; `reload` runs stage 3 again. -/
def State.mgtStart (s : State) (reload : Bool) : State :=
  { s with
    pwr := { s.pwr with mgtReset := true, mgtReload := s.pwr.mgtReload || s.pwr.mgtRom || reload, mgtRom := false }
    mgt := { s.mgt with log := [], net := [], eid := [], spdm := [] }
    boot := { s.boot with lastVerify := none } }

/-- PLL_RESTART: PLL `i` has relocked and its domains restart (R482). `ns` is the interval the TIME domain stood still. -/
def execPllRestart (i ns : Nat) (s : State) : Answer :=
  .next (
    if !s.pwr.stopped.contains i then s
    else
      let s1 : State := State.setBit { s with pwr := { s.pwr with stopped := s.pwr.stopped.filter (· != i) } }
        R.pwrClkStatus i true
      if i = 0 then
        -- raises that waited for the collector
        let s2 := forEach s.pwr.stopped (fun k (x : State) => x.condition (pllSource k) [] true) s1
        (s2.condition (pllSource 0) [] false).rebuildPlan
      else
        let s2 := if s1.coreRuns then s1.condition (pllSource i) [] false else s1
        if i = 1 then s2.rebuildPlan
        else if i = 2 then
          let d := (((ns + 20) / 40 * 40 : Nat) : Int) * 65536
          forEach ((List.range 8).filter s2.tbOn) (fun n (x : State) => x.afterStep (x.applyCorr n d)) s2
        else s2.mgtStart false)

/-! ### The system oscillator and the gallery reference clocks (R518, R519) -/

/-- SYSOSC_LOSS: AON runs on its internal oscillator, and every PLL loses its reference (R518). -/
def execSysoscLoss (s : State) : Answer :=
  .next (
    let s1 : State := State.condition { s with pwr := { s.pwr with internalOsc := true } } Src.sysoscLoss [] true
    -- the PLL whose loss stops the collector comes last
    forEach [1, 2, 3, 0] (fun i (x : State) => x.pllLost i) s1)

/-- SYSCLK_RESTORE: AON switches back (R518). The PLLs relock and restart apart. -/
def execSysclkRestore (s : State) : Answer :=
  .next (State.condition { s with pwr := { s.pwr with internalOsc := false } } Src.sysoscLoss [] false)

/-- REFCLK_LOSS: the lanes of gallery `g` lose CDR lock (R519); its ports leave UP under R151 and R154, at once where DOWN_HOLD_US
is 0. -/
def execRefclkLoss (g : Nat) (s : State) : Answer :=
  .next (
    if 8 ≤ g then s
    else
      let s1 := s.condition (Src.refclkLoss g) [Cu.gallery g] true
      let s2 := forEach (List.range 16) (fun l (x : State) => x.setBit (R.prtLStatus (16 * g + l)) 1 false) s1
      forEach (s2.im.ports.filter (fun p => s2.portGallery p == g)) (fun p (x : State) =>
        let y := x.setF (R.prtPStatus p) 18 14 0
        if y.link p = Link.up ∧ y.getF (R.prtPLinkTmr p) 31 16 = 0 then y.linkLeave p Link.fault else y) s2)

/-- REFCLK_RESTORE: the ports of gallery `g` go through TRAINING (R519). -/
def execRefclkRestore (g : Nat) (s : State) : Answer :=
  .next (
    if 8 ≤ g ∨ s.isLive (Src.refclkLoss g) = false then s
    else
      let s1 := s.condition (Src.refclkLoss g) [Cu.gallery g] false
      forEach (s1.im.ports.filter (fun p => s1.portGallery p == g && s1.link p != Link.disabled))
        (fun p (x : State) => x.linkLeave p Link.training) s1)

/-! ### PCIe links (R24, R454, R495, R496) -/

/-- State of PCIe link `h`: 0 down, 1 L0, 2 L1. -/
def State.pcie (s : State) (h : Nat) : Nat := if h = 0 then s.pwr.link0 else s.pwr.link1

/-- Set the state of PCIe link `h`; PCIE_LINK_DOWN follows it. -/
def State.setPcie (s : State) (h v : Nat) : State :=
  State.condition { s with pwr := if h = 0 then { s.pwr with link0 := v } else { s.pwr with link1 := v } }
    (Src.pcieLinkDown h) [Cu.hl h] (v == 0)

/-- PCIE_LINK_UP: link `h` reaches L0 (R24). -/
def execPcieLinkUp (h : Nat) (s : State) : Answer :=
  .next (if h < 2 ∧ s.boot.stage ≠ 0 ∧ s.pcie h = 0 then s.setPcie h 1 else s)

/-- PCIE_LINK_LOST: link `h` leaves L0 or its low-power states (R24). -/
def execPcieLinkLost (h : Nat) (s : State) : Answer := .next (if h < 2 ∧ s.pcie h ≠ 0 then s.setPcie h 0 else s)

/-- A host-memory request of link `h` is pending: bursts or unanswered writes of a channel. -/
def State.linkPending (s : State) (h : Nat) : Bool :=
  s.dma.chans.any (fun e => s.linkOf (s.chFunc e.1) == h &&
    (!e.2.unanswered.isEmpty || (match e.2.run with | some r => !r.bursts.isEmpty | none => false)))

/-- Functions whose messages travel on link `h`. -/
def State.linkFamily (s : State) (h : Nat) : List Requester :=
  s.family h ++ (if s.linkOf (.pf7 false) = h then [.pf7 false] else [])

/-- A tick-triggered run or a moderated vector of link `h` can fall due within `d`. -/
def State.linkDue (s : State) (h : Nat) (d : Time) : Bool :=
  (s.actTimes 3).any (fun e => s.linkOf (s.chFunc (e.2 % 256)) == h && decide (e.1 ≤ s.srcNow + d)) ||
  (s.linkFamily h).any (fun fn => (s.vecsOf fn).any (fun v =>
    decide (0 < (s.vec (vecKey fn v)).pending) && (match s.vecDue fn v with
      | some t => decide (t ≤ s.clock + d)
      | none => false)))

/-- L1_ENTRY: link `h`, on which ASPM permits L1 and which advertises an L1 exit latency of `exit` ns, enters L1 (R495). -/
def execL1Entry (h exit : Nat) (s : State) : Answer :=
  .next (
    if h < 2 ∧ s.pcie h = 1 ∧ s.linkPending h = false ∧ s.linkDue h (ofNs (exit + 2000)) = false then s.setPcie h 2
    else s)

/-- L1_EXIT: link `h` is in L0 again (R495). -/
def execL1Exit (h : Nat) (s : State) : Answer := .next (if h < 2 ∧ s.pcie h = 2 then s.setPcie h 1 else s)

/-- The smallest latency an LTR message can carry that is at least `ns`: 10 bits of a scale of 1, 32, 1,024 ... ns. -/
def ltrRound (ns : Nat) : Nat → Nat → Nat
  | 0, scale => (ns + scale - 1) / scale * scale
  | n + 1, scale =>
    let v := (ns + scale - 1) / scale
    if v ≤ 1023 then v * scale else ltrRound ns n (32 * scale)

/-- LTR_SEND: the LTR message of link `h` leaves (R496). -/
def execLtrSend (h : Nat) (s : State) : Answer :=
  .next (
    if h < 2 ∧ s.pcie h ≠ 0 then
      let v := s.getF (R.pwrLtr h) 29 0
      s.emit (.ltr h (if v = 0 then none else some (ltrRound v 5 1)))
    else s)

/-! ### D3hot (R499) -/

/-- D3HOT_ENTRY: physical function `func` enters D3hot; `pmeEn` is the PME_En written with it. -/
def execD3hotEntry (func : Nat) (pmeEn : Bool) (s : State) : Answer :=
  .next (
    if func = 0 ∨ func = 1 ∨ func = 7 then
      let f := requesterOf func 0
      let b := Requester.d3Bit f
      let s1 : State := { s with pwr := { s.pwr with
        pmeEn := (if pmeEn then [b] else []) ++ s.pwr.pmeEn.filter (· != b) } }
      let s2 := s1.setBit R.pwrD3 b true
      if s.inD3 f = false ∧ ((s.family func).any (fun fn =>
          (s.vecsOf fn).any (fun v => decide (0 < (s.vec (vecKey fn v)).pending)))) then s2.setPme f
      else s2
    else s)

/-- The reads that waited while function `f` was in D3hot are issued: of queue entries and of descriptors (R499). -/
def State.readsResume (s : State) (f : Requester) : State :=
  let mine := fun (r : Requester) => Requester.d3Bit r == Requester.d3Bit f
  let s1 := forEach ((s.im.sqs.filter (fun q => mine (s.qOwner q.qid))).map (·.qid)) (fun q x => x.issueFetch q) s
  forEach (s1.dma.chans.filter (fun e => mine (s1.chFunc e.1))) (fun e x =>
    match e.2.run with
    | some r => if r.phase = .fetch then x.fetchDesc e.1 r.cur else x
    | none => x) s1

/-- D0_RETURN: function `func` returns to D0: its held records are written in their order, then its vectors fire (R499).
`pmeEn` and `clear` are PME_En and the clearing 1 of PME_Status written with it. -/
def execD0Return (func : Nat) (pmeEn clear : Bool) (s : State) : Answer :=
  .next (
    if func = 0 ∨ func = 1 ∨ func = 7 then
      let f := requesterOf func 0
      let b := Requester.d3Bit f
      let mine := s.pwr.held.filter (fun h => s.crOwner h.ring == f)
      let s1 : State := { s with pwr := { s.pwr with
        held := s.pwr.held.filter (fun h => s.crOwner h.ring != f)
        pmeEn := (if pmeEn then [b] else []) ++ s.pwr.pmeEn.filter (· != b) } }
      let s2 := s1.setBit R.pwrD3 b false
      let s3 := if clear then s2.setBit R.pwrD3 (8 + b) false else s2
      let s4 := forEach mine (fun h (x : State) => x.finishRecord h) s3
      ((forEach (mine.filterMap (fun h => h.idx.map (fun _ => h.qid))) (fun q x => x.drainQueue q) s4).fireAll func).readsResume f
    else s)

/-- PME_RESEND: PM_PME is repeated while PME_Status stands (R499). -/
def execPmeResend (func : Nat) (s : State) : Answer :=
  .next (
    let f := requesterOf func 0
    let b := Requester.d3Bit f
    if (func = 0 ∨ func = 1 ∨ func = 7) ∧ s.bit R.pwrD3 (8 + b) = true ∧ s.pwr.pmeEn.contains b = true then s.emit (.pme f)
    else s)

/-! ### Function-level and link reset (R357, R451, R454) -/

/-- Mailbox `m` starts again. -/
def State.resetMailbox (s : State) (m : Nat) : State :=
  let s1 := (s.resetRange (R.mgtMbReq m) (R.mgtMbReq m + 0x1000)).resetRange (R.mgtMbRsp m) (R.mgtMbRsp m + 0x1000)
  let s2 := s1.wrN (R.mgtMbStatus m) 0
  { s2 with mgt := { s2.mgt with requests := Tab.put (fun _ => 0) s2.mgt.requests m 0 } }

/-- A function-level reset with the function's own mailbox (R451). -/
def State.flrAll (s : State) (func vf : Nat) : State :=
  let s1 := s.flr func vf
  if vf = 0 ∧ func < 2 then s1.resetMailbox func else s1

/-- FUNCTION_LEVEL_RESET (R357). -/
def execFunctionLevelReset (func vf : Nat) (s : State) : Answer := .next (s.flrAll func vf)

/-- The configuration of a function returns to its reset state: power state, PME, MSI-X. -/
def State.resetConfig (s : State) (fn : Requester) : State :=
  let s1 := forEach (s.vecsOf fn) (fun v (x : State) => x.setVec (vecKey fn v) (vecInit 0)) s
  if fn.vfNum ≠ 0 then s1
  else
    let b := Requester.d3Bit fn
    State.setBit (State.setBit { s1 with pwr := { s1.pwr with pmeEn := s1.pwr.pmeEn.filter (· != b) } }
      R.pwrD3 b false) R.pwrD3 (8 + b) false

/-- LINK_RESET: PERSTh_N is low (R451, R454). PF7 goes on over the other link. -/
def execLinkReset (h : Nat) (s : State) : Answer :=
  .next (
    if 2 ≤ h then s
    else
      let s1 := (s.setPcie h 0).flrAll h 0
      forEach (s.family h) (fun fn (x : State) => x.resetConfig fn) s1)

end Sys2Proof.Machine
end

