-- ==== Sys2Proof/Machine/Boot.lean ====
section
/-! DEFINITION. Resets, the boot and its firmware copies, the device's identity, and the fuse commands
(16_boot_security_management, R451 to R468). -/

namespace Sys2Proof.Machine

/-! ### The SPI NOR (R457) -/

/-- What an octet of the SPI NOR that nothing has written reads as (log entry 8). -/
def norInit (_ : Nat) : Byte := 0xFF

/-- Read `n` octets of the SPI NOR from offset `o`. -/
def State.norRead (s : State) (o : Nat) : Nat → List Byte
  | 0 => []
  | n + 1 => Tab.get norInit s.boot.nor o :: s.norRead (o + 1) n

/-- Write octets of the SPI NOR from offset `o`. -/
def State.norWrite (s : State) (o : Nat) : List Byte → State
  | [] => s
  | b :: t => State.norWrite { s with boot := { s.boot with nor := Tab.put norInit s.boot.nor o b } } (o + 1) t

/-- Where firmware copy A (0) or B (1) begins. -/
def copyBase (c : Nat) : Nat := 0x100000 + c * 0x400000

/-- Where the plan slot begins. -/
def planSlot : Nat := 0x1000000

/-- PREFERRED of the directory: 0 where its MAGIC or CRC is wrong. -/
def State.preferred (s : State) : Nat :=
  let d := s.norRead 0 12
  if beAt d 0 4 = 0x4F544244 ∧ leAt d 8 4 = (crc32c (d.take 8)).toNat then leAt d 4 1 % 2 else 0

/-! ### Fuses as sensed (R462) -/

/-- The slot holds a usable hash: its copies agree and it is not blank. -/
def State.slotUsable (s : State) (k : Nat) : Bool :=
  match s.keyHash? k with
  | some h => !allZero h
  | none => false

/-- SEC.ROLLBACK, SEC.KEYS and SEC.KEY_HASH show the fuses. -/
def State.senseFuses (s : State) : State :=
  let revoke := ((List.range 4).map (fun k => (s.revoked k).toNat * 2 ^ k)).sum
  let usable := ((List.range 4).map (fun k => (s.slotUsable k).toNat * 2 ^ k)).sum
  let s1 := ((s.wrN R.secRollback s.rollback).setF R.secKeys 3 0 revoke).setF R.secKeys 7 4 usable
  forEach (List.range 4) (fun k (x : State) =>
    x.wrWords (R.secKeyHash k) (wordsOf 12 (if s.slotUsable k then (s.keyHash? k).getD [] else []))) s1

/-- How many fields and bits have copies that disagree (R462). -/
def FuseSt.splits (f : FuseSt) : Nat :=
  ((List.range 4).filter (fun k => f.keyHash1.getD k [] != f.keyHash2.getD k [])).length +
  ones ((f.revoke1 ^^^ f.revoke2).setWidth 64) 4 + ones (f.rollback1 ^^^ f.rollback2) 64

/-! ### Resets (R451 to R453, R479) -/

/-- The transmitters of the lanes in use go electrically idle (R144, R479). -/
def State.lanesIdle (s : State) : State :=
  forEach (s.im.ports.filter (fun p => s.link p != Link.disabled)) (fun p x =>
    forEach (s.portLanes p) (fun l y => y.emit (.lane l none)) x) s

/-- What no reset reaches: the waiting commands, fuses, SPI NOR, the pair line's level, and the model's own record. -/
def State.carry (s : State) (stage : Nat) : State :=
  { State.reset with
    pending := s.pending
    boot := { BootSt.reset with fuses := s.boot.fuses, nor := s.boot.nor, stage := stage }
    rdn := { RdnSt.reset with peerIn := s.rdn.peerIn }
    pwr := { State.reset.pwr with draws := s.pwr.draws }
    out := s.lanesIdle.out }

/-- The levels of the pair pins show in RDN.STATUS; `secondary` is the strap PAIR_ROLE. -/
def State.showPair (s : State) (secondary : Bool) : State :=
  (s.setBit R.rdnStatus 17 secondary).setBit R.rdnStatus 19 s.rdn.peerIn

/-- A reset input that was low for `cycles` AON cycles performs its reset (R516). -/
def longLow (cycles : Nat) : Bool := decide (25 ≤ cycles)

/-- PORST_ASSERT: PORST_N is low, so far for `cycles` AON cycles (R451, R516): everything is in reset, and PAIR_ACT_OUT is high
impedance. -/
def execPorstAssert (cycles : Nat) (s : State) : Answer :=
  .next (
    if longLow cycles then
      let s1 := s.carry 0
      { s1 with pwr := { s1.pwr with stopped := [0, 1, 2, 3] } }
    else s)

/-- POWER_ON_RESET: PORST_N is released (R451, R452, R455). `straps` are bits [30:24] of SEC.BOOT_STATUS: BOOT_SRC,
PAIR_ROLE, MGT_PORT_EN and SMB_ADDR. -/
def execPowerOnReset (straps : Nat) (s : State) : Answer :=
  .next (
    let s1 := ((s.carry 1).setF R.secBootStatus 30 24 straps).showPair (straps.testBit 2)
    forEach (List.range s1.boot.fuses.splits) (fun _ (x : State) => x.raise Src.fuseErr []) s1.senseFuses)

/-- Registers of the AON domain, which a warm reset keeps (R451, R453): the record of fault group 10, straps and fuses,
sensors, MGT.CURR_LIMIT and the lock of the PLLs. -/
def aonReg (k : Nat) : Bool :=
  k == R.fcrGSticky 10 || k == R.fcrGLive 10 || k == R.fcrGCoincide 10 || k == R.fcrGRaises 10 || k == R.pwrClkStatus ||
  (decide (R.mgtTempMax ≤ k) && decide (k ≤ R.mgtCurrLimit)) || k == R.secRollback ||
  (decide (R.secKeyHash 0 ≤ k) && decide (k < R.secKeyHash 4))

/-- Everything outside the AON domain is reset; DDR4 keeps its contents (R453). -/
def State.warm (s : State) (stage : Nat) : State :=
  let s1 := s.carry stage
  let s2 : State := { s1 with
    regs := s.regs.filter (fun e => aonReg e.1)
    mem := s.mem
    ddr := { s1.ddr with bad := s.ddr.bad }
    pwr := { s1.pwr with stopped := s.pwr.stopped, internalOsc := s.pwr.internalOsc, railOut := s.pwr.railOut }
    boot := { s1.boot with thermtrip := s.boot.thermtrip } }
  (((s2.setF R.secBootStatus 30 24 (s.getF R.secBootStatus 30 24)).setF R.secKeys 7 0 (s.getF R.secKeys 7 0)).showPair
    (s.bit R.rdnStatus 17))

/-- A warm reset (R453): not while PORST_N is low or after a thermal shutdown. -/
def State.warmReset (s : State) : State := if s.boot.stage = 0 then s else s.warm 1

/-- WARM_RESET: SYSRST_N is low, so far for `cycles` AON cycles (R453, R516). -/
def execWarmReset (cycles : Nat) (s : State) : Answer := .next (if longLow cycles then s.warmReset else s)

/-- Thermal shutdown (R479): the device stands still until PORST_N. -/
def State.shutDown (s : State) : State :=
  let s1 := s.warm 0
  let s2 : State := { s1 with
    boot := { s1.boot with shutdown := true, thermtrip := true }
    pwr := { s1.pwr with stopped := [0, 1, 2, 3] } }
  (s2.setPcie 0 0).setPcie 1 0

/-! ### Firmware copies (R458, R459) -/

/-- Four MiB. -/
def fwMax : Nat := 4 * mib

/-- The code of R54 or R459 that a firmware image earns, 0 when it is accepted. -/
def State.fwCode (s : State) (b : List Byte) : Nat :=
  let n := leAt b 0xC 4
  if (slice b 0 256).all (· == 0xFF) then 0x12
  else
    let bad :=
      if fwMax < n then
        plainIf (beAt b 0 4 != 0x4F544657 || leAt b 4 2 != 1 || leAt b 6 2 != 256) 0x01 <|>
        plainIf (leAt b 0xFC 4 != (crc32c (slice b 0 0xFC)).toNat) 0x02 <|> plainIf true 0x13
      else headerCheck 0x4F544657 fwMax b n false <|> s.signatureCheck b n ⟨false, none⟩
    match bad with
    | some r => r.1
    | none => 0

/-- The error field of copy `c` in SEC.BOOT_STATUS. -/
def State.setCopyErr (s : State) (c code : Nat) : State :=
  s.setF R.secBootStatus (15 + 8 * c) (8 + 8 * c) code

/-- The image `b` becomes the firmware that runs, from copy A (0), copy B (1) or RAM (2). -/
def State.takeFirmware (s : State) (b : List Byte) (copy : Nat) : State :=
  let n := leAt b 0xC 4
  let fw := slice b 0 n
  let s1 := ((s.setF R.secBootStatus 1 0 copy).wrN R.secFwSecVersion (leAt b 0x24 4)).setF R.secKeys 9 8 (sigSlot b n)
  let s2 := (s1.wrWords R.secFwDigest (wordsOf 12 (Config.sha384 (signedPart b n)))).wr64 R.mgtFwVersion (leAt b 0x18 8)
  { s2 with boot := { s2.boot with firmware := fw } }

/-- The next copy to try is read and verified; the last failure leaves RECOVERY. The answer tells whether stage 3 is
passed. -/
def State.tryCopies (s : State) : List Nat → State × Bool
  | [] => (s.setF R.secBootStatus 1 0 2, true)
  | c :: rest =>
    let b := s.norRead (copyBase c) fwMax
    let code := s.fwCode b
    let s1 := s.setCopyErr c code
    let s2 : State := { s1 with boot := { s1.boot with toTry := rest } }
    if code = 0 then (forEach rest (fun d (x : State) => x.setCopyErr d 0xFF) (s2.takeFirmware b c), true)
    else if rest.isEmpty then (s2.setF R.secBootStatus 1 0 2, true)
    else (s2, false)

/-- The copies in the order the boot ROM tries them. -/
def State.copyOrder (s : State) : List Nat := [s.preferred, 1 - s.preferred]

/-- Stage 2: PLLs locked, directory read; the host links show whether they are up. -/
def State.stageTwo (s : State) : State :=
  let s1 := forEach [0, 1, 2, 3] (fun i (x : State) => if x.pwr.stopped.contains i then x else x.setBit R.pwrClkStatus i true) s
  let s2 := forEach [0, 1] (fun h (x : State) => if x.pcie h = 0 then x.setPcie h 0 else x) s1
  { s2 with boot := { s2.boot with stage := 2, toTry := s2.copyOrder } }

/-- FW_COPY_VERIFY: stage 3 reads and verifies the next copy (R459); it passes stage 2 first. -/
def execFwCopyVerify (s : State) : Answer :=
  .next (
    if s.boot.stage = 1 ∨ s.boot.stage = 2 then
      let s1 := if s.boot.stage = 1 then s.stageTwo else s
      let r := s1.tryCopies s1.boot.toTry
      if r.2 then { r.1 with boot := { r.1.boot with stage := 3, toTry := [] } } else r.1
    else s)

/-! ### Identity (R466 to R468) -/

/-- The order n of the group of P-384 (FIPS 186-5). -/
def p384Order : Nat :=
  0xffffffffffffffffffffffffffffffffffffffffffffffffc7634d81f4372ddf581a0db248b0a77aecec196accc52973

/-- The octets of an ASCII text, without a terminator. -/
def ascii (t : String) : List Byte := t.toList.map (fun c => BitVec.ofNat 8 c.toNat)

/-- The private scalar d that key `k` and label `l` give (R467): c is the first 448 bits of the two HMACs, big-endian. -/
def keyScalar (k l : List Byte) : Nat :=
  let c := beNat (slice (Config.hmacSha384 k (l ++ [1]) ++ Config.hmacSha384 k (l ++ [2])) 0 56)
  c % (p384Order - 1) + 1

/-- The key pair of key `k` and label `l` (R467). -/
def deriveKey (k : List Byte) (l : String) : KeyPair :=
  let d := keyScalar k (ascii l)
  ⟨d, Config.p384Point d⟩

/-- The UDS as it reads: zeros once it is locked (R466). -/
def State.udsRead (s : State) : List Byte := if s.boot.udsLocked then List.replicate 48 0 else s.boot.fuses.uds

/-- FWID of the running firmware as SEC.FW_DIGEST shows it. -/
def State.fwid (s : State) : List Byte := s.rdBytes R.secFwDigest 12

/-- DICE_DERIVE: stage 4 derives CDI and the DeviceID and Alias keys, issues the Alias certificate and locks the UDS; an uncorrectable
UDS skips it (R462, R466 to R468). -/
def execDiceDerive (s : State) : Answer :=
  .next (
    if s.boot.stage ≠ 3 then s
    else
      let s1 : State := { s with boot := { s.boot with stage := 4 } }
      if s.boot.fuses.udsOk then
        let v := s.rdN R.secFwSecVersion
        let cdi := Config.hmacSha384 s.udsRead (s.fwid ++ leBytes 4 v ++ leBytes 1 (s.getF R.secKeys 9 8))
        let device := deriveKey s.udsRead "OT-1280 DeviceID"
        let own := deriveKey cdi "OT-1280 Alias"
        let serial := slice (Config.sha384 own.point) 0 20
        { s1 with boot := { s1.boot with
          cdi := cdi
          udsLocked := true
          deviceKey := some device
          aliasKey := some own
          aliasCert := Config.aliasCertificate device.scalar serial own.point v s.fwid } }
      else (s1.setBit R.secBootStatus 2 true).raise Src.fuseErr [])

/-! ### Stage 6 (R461) -/

/-- The plan slot's image is copied into the staging area, staged in place and committed in state NONE (R461). -/
def State.bootPlan (s : State) (unplaced : Bool) (ecc : List (Nat × Bool)) : State :=
  let n := leAt (s.norRead planSlot 256) 0xC 4
  let m := min n (16 * mib)
  let s1 := if s.getF (R.memChStatus 0) 2 0 = 2 then s.ddrWrite 0 (s.norRead planSlot m) else s
  let s2 := s1.wrN R.planLen m
  let s3 := Answer.state (execStage .mgmt false s2) s2
  if s3.planState = PS.staging then
    let s4 := Answer.state (execStagingDone none unplaced ecc s3) s3
    if s4.planState = PS.stagedPlan then Answer.state (execCommitReplan .mgmt false s4) s4 else s4
  else s3

/-- The firmware starts: the DeviceID key and the intermediate values of its derivation are erased (R460), BAR0 becomes accessible,
and BOOT_SRC says whether a plan is loaded (R455, R461). -/
def State.startFirmware (s : State) (unplaced : Bool) (ecc : List (Nat × Bool)) : State :=
  let s1 : State := { s with boot := { s.boot with stage := 6, cdi := [], deviceKey := none } }
  if s1.getF R.secBootStatus 25 24 < 2 then s1.bootPlan unplaced ecc else s1

/-- FW_START: stage 6 begins, unless the device is in RECOVERY. `unplaced` and `ecc` are what STAGING_DONE takes. -/
def execFwStart (unplaced : Bool) (ecc : List (Nat × Bool)) (s : State) : Answer :=
  .next (if s.boot.stage = 5 ∧ s.getF R.secBootStatus 1 0 ≠ 2 then s.startFirmware unplaced ecc else s)

/-! ### SEC commands (R463 to R465) -/

/-- A SEC command: only the management plane may issue one (R465). -/
def State.secCommand (s : State) (req : Requester) (f : State → State) : State :=
  s.guarded req R.secCmd (fun s =>
    if isMgmt (s.acting req) then
      (if s.bit R.secStatus 0 then s.result R.secStatus Code.state else f s)
    else s.inc R.secCmdDrop)

/-- Replace the fuse array and show it. -/
def State.program (s : State) (f : FuseSt) : State := State.senseFuses { s with boot := { s.boot with fuses := f } }

/-- ROLLBACK_SET (R463). -/
def execRollbackSet (req : Requester) (s : State) : Answer :=
  .next (s.secCommand req (fun s =>
    let v := s.getF R.secArg 6 0
    if v ≤ s.rollback then s.result R.secStatus Code.ok
    else if 64 < v ∨ s.rdN R.secFwSecVersion < v ∨ (s.hasPlan ∧ s.im.secVersion < v) then s.result R.secStatus Code.check
    else
      let m := BitVec.ofNat 64 (2 ^ v - 1)
      let f := s.boot.fuses
      (s.program { f with rollback1 := f.rollback1 ||| m, rollback2 := f.rollback2 ||| m }).result R.secStatus Code.ok))

/-- REVOKE (R464). -/
def execRevoke (req : Requester) (s : State) : Answer :=
  .next (s.secCommand req (fun s =>
    let k := s.getF R.secArg 1 0
    let left := (List.range 4).filter (fun j => s.slotUsable j && !s.revoked j)
    if s.revoked k then s.result R.secStatus Code.state
    else if k = s.getF R.secKeys 9 8 ∨ (s.hasPlan ∧ k = s.im.keySlot) ∨ left = [k] then s.result R.secStatus Code.check
    else
      let m := BitVec.ofNat 4 (2 ^ k)
      let f := s.boot.fuses
      (s.program { f with revoke1 := f.revoke1 ||| m, revoke2 := f.revoke2 ||| m }).result R.secStatus Code.ok))

/-- KEY_WRITE (R464). -/
def execKeyWrite (req : Requester) (s : State) : Answer :=
  .next (s.secCommand req (fun s =>
    let k := s.getF R.secArg 1 0
    let f := s.boot.fuses
    if allZero (f.keyHash1.getD k []) && allZero (f.keyHash2.getD k []) && !s.revoked k then
      let h := s.rdBytes R.secKeyStage 12
      (s.program { f with keyHash1 := f.keyHash1.set k h, keyHash2 := f.keyHash2.set k h }).result R.secStatus Code.ok
    else s.result R.secStatus Code.state))

/-- A reserved SEC command completes with STATE (R465). -/
def execSecCmdReserved (req : Requester) (s : State) : Answer :=
  .next (s.secCommand req (fun s => s.result R.secStatus Code.state))

end Sys2Proof.Machine
end

