-- ==== Sys2Proof/Machine/Mgt.lean ====
section
/-! DEFINITION. The management services (16_boot_security_management): mailbox requests, SPDM and MCTP, the SGMII port,
management resets, sensors, and the management views (R28, R469 to R480). -/

namespace Sys2Proof.Machine

/-! ### Requests and replies (R472) -/

/-- The firmware runs. -/
def State.fwRuns (s : State) : Bool := s.boot.stage == 6 && !s.pwr.mgtReset && !s.pwr.stopped.contains 3

/-- The boot ROM serves FW_LOAD in RECOVERY (R459): of the boot, or of a management reset that ran stage 3 again (R476). -/
def State.inRecovery (s : State) : Bool :=
  (s.boot.stage == 5 && s.getF R.secBootStatus 1 0 == 2) || (s.pwr.mgtRom && !s.pwr.stopped.contains 3)

/-- A management reset ends: the cores run, and a RESTART that waits for it completes (R476). -/
def State.mgtUp (s : State) : State :=
  let s1 : State := { s with pwr := { s.pwr with mgtReset := false, mgtReload := false, mgtRom := false } }
  if s1.bit R.mgtCtlStatus 0 then (s1.setBit R.mgtCtlStatus 0 false).finish R.mgtCtlStatus R.mgtCtlStatus Code.ok else s1

/-- The road is PF7's: its mailbox, or VDM through it. -/
def Road.isPf7 (r : Road) : Bool :=
  match r with
  | .mailbox m => m == 2
  | .mctp smbus => !smbus
  | .sgmii _ => false

/-- The road is PF7's or SMBus. -/
def Road.isTrusted (r : Road) : Bool :=
  match r with
  | .mctp _ => true
  | x => Road.isPf7 x

/-- Request codes (R473). -/
def opcodes : List Nat := [1, 2, 3, 4, 5, 0x10, 0x11, 0x12, 0x13, 0x14, 0x20, 0x21, 0x30, 0x40]

/-- The request is served on the road (R473). -/
def roadServes (r : Road) (op : Nat) : Bool :=
  match op with
  | 0x04 | 0x05 => (match r with | .sgmii _ => false | _ => true)
  | 0x10 | 0x11 | 0x12 | 0x14 | 0x21 => Road.isTrusted r
  | 0x13 => (match r with | .mailbox m => m == 2 | _ => false)
  | 0x40 => Road.isPf7 r
  | _ => true

/-- The request that waits on a road, with its announced length: a mailbox holds its own, a message is given. -/
def State.requestOn (s : State) (r : Road) (msg : List Byte) : Option (List Byte × Nat) :=
  match r with
  | .mailbox m =>
    if m < 3 ∧ s.bit (R.mgtMbStatus m) 0 then
      let n := Tab.get (fun _ => 0) s.mgt.requests m
      some (slice (s.rdBytes (R.mgtMbReq m) 1024) 0 n, n)
    else none
  | _ => some (msg, msg.length)

/-- An Ethernet, IPv4 and UDP header for a reply of `n` octets to the request under `h` (R474). -/
def udpReply (h : List Byte) (n : Nat) : List Byte :=
  let ip := fun (ck : Nat) => beBytes 2 0x4500 ++ beBytes 2 (28 + n) ++ beBytes 4 0 ++ beBytes 2 0x4011 ++ beBytes 2 ck ++
    slice h 30 4 ++ slice h 26 4
  slice h 6 6 ++ beBytes 6 Config.mgtMac ++ beBytes 2 0x0800 ++ ip (ipCheck (ip 0)) ++ slice h 36 2 ++ slice h 34 2 ++
    beBytes 2 (8 + n) ++ [0, 0]

/-- Answer request `b` with a status and a body (R472): OPCODE and TAG are copied. -/
def State.reply (s : State) (r : Road) (b : List Byte) (status : Nat) (body : List Byte) : State :=
  let m := slice b 0 4 ++ leBytes 2 (8 + body.length) ++ [BitVec.ofNat 8 status, 0] ++ body
  match r with
  | .mailbox k =>
    let s1 := s.wrWords (R.mgtMbRsp k) (wordsOf ((m.length + 3) / 4) m)
    let s2 := (s1.setBit (R.mgtMbStatus k) 0 false).hwSet (R.mgtMbStatus k) 1
    State.event { s2 with mgt := { s2.mgt with requests := Tab.put (fun _ => 0) s2.mgt.requests k 0 } } Evt.mbox
  | .mctp smbus => s.emit (.mgtMessage smbus.toNat m)
  | .sgmii h => s.emit (.mgtMessage 2 (udpReply h m.length ++ m))

/-! ### The requests (R473) -/

/-- What a request does: the state after it, the reply's status and its body. -/
abbrev Served := State × Nat × List Byte

/-- GET_INFO. -/
def State.doInfo (s : State) : Served :=
  (s, Code.ok, leBytes 8 (s.rd64 R.mgtFwVersion) ++ s.fwid ++ leBytes 4 (s.rdN R.secBootStatus) ++ leBytes 1 s.planState)

/-- GET_SENSORS: temperatures, rails, current. -/
def State.doSensors (s : State) : Served :=
  (s, Code.ok, (List.range 16).flatMap (fun i => leBytes 2 (s.rdN (R.mgtTemp i))) ++
    (List.range 9).flatMap (fun r => leBytes 2 (s.rdN (R.mgtVolt r))) ++ leBytes 2 (s.rdN R.mgtCurr))

/-- GET_BOARD. -/
def State.doBoard (s : State) : Served := (s, Code.ok, (List.range 256).flatMap (fun u => leBytes 4 (s.rdN (R.topUsb u))))

/-- A management view takes a code; 0x5 to 0xF act as CONTAINED (R28). -/
def State.setMgView (s : State) (u code : Nat) : State := s.wrN (R.topUsbMg u) (if 4 < code then 1 else code)

/-- A management-view override of entry `u` (R28, R475). -/
def State.overrideView (s : State) (u code : Nat) : State :=
  let s1 := s.setMgView u code
  if s1.mgt.overrides.contains u then s1 else { s1 with mgt := { s1.mgt with overrides := u :: s1.mgt.overrides } }

/-- SET_MG_VIEW and CLEAR_MG_VIEW (R475). -/
def State.doView (s : State) (b : List Byte) (set : Bool) : Served :=
  let u := leAt b 8 2
  if 231 < u then (s, Code.check, [])
  else if !s.hasPlan then (s, Code.state, [])
  else if set then (s.overrideView u (leAt b 10 1 % 16), Code.ok, [])
  else ({ s with mgt := { s.mgt with overrides := s.mgt.overrides.filter (· != u) } }, Code.ok, [])

/-- The firmware copy that is not running, none in RECOVERY. -/
def State.spareCopy (s : State) : Option Nat :=
  let c := s.getF R.secBootStatus 1 0
  if c < 2 then some (1 - c) else none

/-- FW_WRITE. -/
def State.doFwWrite (s : State) (b : List Byte) : Served :=
  match s.spareCopy with
  | none => (s, Code.state, [])
  | some c =>
    let o := leAt b 8 4
    let d := b.drop 12
    if 4064 < d.length ∨ fwMax < o + d.length then (s, Code.check, [])
    else (s.norWrite (copyBase c + o) d, Code.ok, [])

/-- FW_VERIFY. -/
def State.doFwVerify (s : State) : Served :=
  match s.spareCopy with
  | none => (s, Code.state, [])
  | some c =>
    let code := s.fwCode (s.norRead (copyBase c) fwMax)
    ({ s with boot := { s.boot with lastVerify := some code } }, Code.ok, leBytes 1 code)

/-- FW_ACTIVATE: the directory names the copy (R457). -/
def State.doFwActivate (s : State) : Served :=
  match s.spareCopy with
  | none => (s, Code.state, [])
  | some c =>
    if s.boot.lastVerify = some 0 then
      let d := beBytes 4 0x4F544244 ++ leBytes 4 c
      (s.norWrite 0 (d ++ leBytes 4 (crc32c d).toNat), Code.ok, [])
    else (s, Code.state, [])

/-- What an octet of the RAM image reads as before it is loaded. -/
def ramInit (_ : Nat) : Byte := 0

/-- Octets of the RAM image. -/
def State.ramRead (s : State) (o : Nat) : Nat → List Byte
  | 0 => []
  | n + 1 => Tab.get ramInit s.boot.ram o :: s.ramRead (o + 1) n

/-- Load octets of the RAM image. -/
def State.ramWrite (s : State) (o : Nat) : List Byte → State
  | [] => s
  | b :: t => State.ramWrite { s with boot := { s.boot with ram := Tab.put ramInit s.boot.ram o b } } (o + 1) t

/-- FW_LOAD in RECOVERY: an image whose last octet is loaded is verified, and starts when it is accepted (R459). -/
def State.doFwLoad (s : State) (b : List Byte) : Served :=
  if !s.inRecovery then (s, Code.state, [])
  else
    let o := leAt b 8 4
    let d := b.drop 12
    if fwMax < o + d.length then (s, Code.check, [])
    else
      let s1 := s.ramWrite o d
      let n := leAt (s1.ramRead 0 256) 0xC 4
      if n = 0 ∨ o + d.length < n then (s1, Code.ok, [])
      else
        let im := s1.ramRead 0 fwMax
        if s1.fwCode im = 0 then
          let s2 := s1.takeFirmware im 2
          (if s.pwr.mgtRom then s2.mgtUp else s2.startFirmware false [], Code.ok, [])
        else (s1, Code.check, [])

/-- PLAN_WRITE: into the staging area, which exists only while channel 0 is READY (R387). -/
def State.doPlanWrite (s : State) (b : List Byte) : Served :=
  let o := leAt b 8 4
  let d := b.drop 12
  let st := s.planState
  if !(st == PS.none || st == PS.idle || st == PS.stagedAmend || st == PS.stagedPlan) then (s, Code.state, [])
  else if s.getF (R.memChStatus 0) 2 0 ≠ 2 then (s, Code.noResource, [])
  else if 16 * mib < o + d.length then (s, Code.check, [])
  else (s.ddrWrite o d, Code.ok, [])

/-- PLAN_SLOT_WRITE. -/
def State.doSlotWrite (s : State) (b : List Byte) : Served :=
  let o := leAt b 8 4
  let d := b.drop 12
  if 16 * mib < o + d.length then (s, Code.check, []) else (s.norWrite (planSlot + o) d, Code.ok, [])

/-- GET_LOG, from a sequence number. -/
def State.doLog (s : State) (b : List Byte) : Served :=
  (s, Code.ok, ((s.mgt.log.filter (fun e => decide (leAt b 8 4 ≤ e.1))).flatMap (fun e =>
    leBytes 4 e.1 ++ leBytes 2 e.2.length ++ e.2)).take 4088)

/-- The effect of a request by its code. -/
def State.doRequest (s : State) (op : Nat) (b : List Byte) : Served :=
  match op with
  | 0x01 => s.doInfo
  | 0x02 => s.doSensors
  | 0x03 => s.doBoard
  | 0x04 => s.doView b true
  | 0x05 => s.doView b false
  | 0x10 => s.doFwWrite b
  | 0x11 => s.doFwVerify
  | 0x12 => s.doFwActivate
  | 0x13 => s.doFwLoad b
  | 0x14 => ({ s with boot := { s.boot with resetAt := some (s.clock + ofMs 10) } }, Code.ok, [])
  | 0x20 => s.doPlanWrite b
  | 0x21 => s.doSlotWrite b
  | 0x30 => s.doLog b
  | 0x40 => ({ s with mgt := { s.mgt with net := slice b 8 12 } }, Code.ok, [])
  | _ => (s, Code.check, [])

/-- Serve the request on a road when it is of code `want` (none: of any code). A bad length or an unknown code is answered
with CHECK whatever is wanted (R472). -/
def State.serve (s : State) (r : Road) (msg : List Byte) (want : Option Nat) : State :=
  match s.requestOn r msg with
  | none => s
  | some (b, n) =>
    let op := leAt b 0 2
    if !(s.fwRuns || (s.inRecovery && r == .mailbox 2)) then s
    else if n < 8 || 4096 < n || leAt b 4 2 != n || !opcodes.contains op then s.reply r b Code.check []
    else if want.isSome && want != some op then s
    else if !roadServes r op then s.reply r b Code.check []
    else if s.inRecovery && op != 0x13 then s.reply r b Code.state []
    else
      let x := s.doRequest op b
      x.1.reply r b x.2.1 x.2.2

/-- GET_INFO (R473). -/
def execGetInfo (r : Road) (msg : List Byte) (s : State) : Answer := .next (s.serve r msg (some 0x01))

/-- GET_SENSORS (R473). -/
def execGetSensors (r : Road) (msg : List Byte) (s : State) : Answer := .next (s.serve r msg (some 0x02))

/-- GET_BOARD (R473). -/
def execGetBoard (r : Road) (msg : List Byte) (s : State) : Answer := .next (s.serve r msg (some 0x03))

/-- SET_MG_VIEW (R473, R475). -/
def execSetMgView (r : Road) (msg : List Byte) (s : State) : Answer := .next (s.serve r msg (some 0x04))

/-- CLEAR_MG_VIEW (R473, R475). -/
def execClearMgView (r : Road) (msg : List Byte) (s : State) : Answer := .next (s.serve r msg (some 0x05))

/-- FW_WRITE (R473, R477). -/
def execFwWrite (r : Road) (msg : List Byte) (s : State) : Answer := .next (s.serve r msg (some 0x10))

/-- FW_VERIFY (R473, R477). -/
def execFwVerify (r : Road) (msg : List Byte) (s : State) : Answer := .next (s.serve r msg (some 0x11))

/-- FW_ACTIVATE (R473, R477). -/
def execFwActivate (r : Road) (msg : List Byte) (s : State) : Answer := .next (s.serve r msg (some 0x12))

/-- FW_LOAD (R459, R473). -/
def execFwLoad (r : Road) (msg : List Byte) (s : State) : Answer := .next (s.serve r msg (some 0x13))

/-- SYS_RESET (R473): the warm reset comes 10 ms after the reply. -/
def execSysReset (r : Road) (msg : List Byte) (s : State) : Answer := .next (s.serve r msg (some 0x14))

/-- PLAN_WRITE (R473). -/
def execPlanWrite (r : Road) (msg : List Byte) (s : State) : Answer := .next (s.serve r msg (some 0x20))

/-- PLAN_SLOT_WRITE (R473). -/
def execPlanSlotWrite (r : Road) (msg : List Byte) (s : State) : Answer := .next (s.serve r msg (some 0x21))

/-- GET_LOG (R473). -/
def execGetLog (r : Road) (msg : List Byte) (s : State) : Answer := .next (s.serve r msg (some 0x30))

/-- SET_NET (R473). -/
def execSetNet (r : Road) (msg : List Byte) (s : State) : Answer := .next (s.serve r msg (some 0x40))

/-! ### SPDM and MCTP (R469 to R471) -/

/-- The measurement blocks 1 to 5 (R470). -/
def State.measurements (s : State) : List (List Byte) :=
  [Config.bootRomDigest, s.fwid, (if s.hasPlan then s.im.digest else List.replicate 48 0), slice s.mgt.amendDigest 0 48,
   leBytes 1 s.rollback ++ leBytes 1 (s.getF R.secKeys 3 0) ++ leBytes 1 (s.getF R.secKeys 9 8) ++
     leBytes 1 (if s.hasPlan then s.im.keySlot else 0xFF) ++ leBytes 4 (s.rdN R.secBootStatus)]

/-- The SPDM connection state of a binding. -/
def State.spdmState (s : State) (smbus : Bool) : Nat := Tab.get (fun _ => 0) s.mgt.spdm smbus.toNat

/-- What an SPDM reply is built from: the connection state, the Alias scalar that signs it, the certificates of slot 0 that the device
holds, and the measurements (R468 to R470). -/
def State.spdmContext (s : State) (c : Nat) : List Byte :=
  BitVec.ofNat 8 c :: beBytes 48 (match s.boot.aliasKey with | some k => k.scalar | none => 0) ++
    s.boot.fuses.deviceCert ++ s.boot.aliasCert ++ s.measurements.flatten

/-- An SPDM request on a binding: legal from connection state `need` on, it leads to `next`. Without identity every request
is answered with an error (R462). -/
def State.spdm (s : State) (smbus : Bool) (msg : List Byte) (need : Nat) (next : Nat → Nat) : State :=
  if !s.fwRuns then s
  else
    let c := s.spdmState smbus
    if s.bit R.secBootStatus 2 || decide (c < need) then s.emit (.mgtMessage smbus.toNat (Config.spdmError msg))
    else
      let s1 : State := { s with mgt := { s.mgt with spdm := Tab.put (fun _ => 0) s.mgt.spdm smbus.toNat (next c) } }
      s1.emit (.mgtMessage smbus.toNat (Config.spdmReply (s1.spdmContext c) msg))

/-- GET_VERSION (R471): the binding's connection state starts again. -/
def execGetVersion (smbus : Bool) (msg : List Byte) (s : State) : Answer := .next (s.spdm smbus msg 0 (fun _ => 1))

/-- GET_CAPABILITIES (R469). -/
def execGetCapabilities (smbus : Bool) (msg : List Byte) (s : State) : Answer := .next (s.spdm smbus msg 1 (max 2))

/-- NEGOTIATE_ALGORITHMS (R469). -/
def execNegotiateAlgorithms (smbus : Bool) (msg : List Byte) (s : State) : Answer := .next (s.spdm smbus msg 2 (max 3))

/-- GET_DIGESTS (R469). -/
def execGetDigests (smbus : Bool) (msg : List Byte) (s : State) : Answer := .next (s.spdm smbus msg 3 id)

/-- GET_CERTIFICATE (R469). -/
def execGetCertificate (smbus : Bool) (msg : List Byte) (s : State) : Answer := .next (s.spdm smbus msg 3 id)

/-- CHALLENGE (R469). -/
def execChallenge (smbus : Bool) (msg : List Byte) (s : State) : Answer := .next (s.spdm smbus msg 3 id)

/-- GET_MEASUREMENTS (R470): the values held at the request. -/
def execGetMeasurements (smbus : Bool) (msg : List Byte) (s : State) : Answer := .next (s.spdm smbus msg 3 id)

/-- SET_ENDPOINT_ID (R471). -/
def execSetEndpointId (smbus : Bool) (eid : Nat) (s : State) : Answer :=
  .next (
    if s.fwRuns then
      State.emit { s with mgt := { s.mgt with eid := Tab.put (fun _ => 0) s.mgt.eid smbus.toNat (eid % 256) } }
        (.mgtMessage smbus.toNat (Config.mctpReply smbus (eid % 256)))
    else s)

/-! ### The SGMII management port (R474) -/

/-- The IPv4 address of the port, 0 for none. -/
def State.mgtIp (s : State) : Nat := beAt s.mgt.net 0 4

/-- MGT_PORT_RECEIVE: ARP and ICMP echo are answered, and a datagram to port 41,280 carries a request (R474). -/
def execMgtPortReceive (b : List Byte) (s : State) : Answer :=
  .next (
    if !(s.fwRuns && s.bit R.secBootStatus 27 && s.mgtIp != 0) then s
    else
      let typ := beAt b 12 2
      let me := beBytes 6 Config.mgtMac
      if typ = 0x0806 ∧ beAt b 20 2 = 1 ∧ beAt b 38 4 = s.mgtIp then
        s.emit (.mgtMessage 2 (slice b 6 6 ++ me ++ slice b 12 8 ++ beBytes 2 2 ++ me ++ beBytes 4 s.mgtIp ++ slice b 22 10))
      else if typ = 0x0800 ∧ beAt b 14 1 = 0x45 ∧ beAt b 30 4 = s.mgtIp then
        let n := beAt b 16 2
        if beAt b 23 1 = 1 ∧ beAt b 34 2 = 0x0800 then
          let rest := slice b 38 (n - 24)
          let ip := fun (ck : Nat) => slice b 14 10 ++ beBytes 2 ck ++ slice b 30 4 ++ slice b 26 4
          s.emit (.mgtMessage 2 (slice b 6 6 ++ me ++ slice b 12 2 ++ ip (ipCheck (ip 0)) ++ [0, 0] ++
            beBytes 2 (ipCheck rest) ++ rest))
        else if beAt b 23 1 = 17 ∧ beAt b 36 2 = 41280 then
          s.serve (.sgmii (slice b 0 42)) (slice b 42 (beAt b 38 2 - 8)) none
        else s
      else s)

/-! ### Management resets (R476, R480) -/

/-- RESTART (R476). -/
def execRestart (req : Requester) (s : State) : Answer :=
  .next (s.guarded req R.mgtCtl (fun s => ((s.mgtStart false).setBit R.mgtCtlStatus 0 true).defer R.mgtCtlStatus))

/-- A reserved MGT.CTL command completes with STATE (R476). -/
def execMgtCmdReserved (req : Requester) (s : State) : Answer :=
  .next (s.guarded req R.mgtCtl (fun s => s.result R.mgtCtlStatus Code.state))

/-- MGT_FW_FAULT: a trap or failed check of the firmware, or an uncorrectable error in its SRAM (R480). -/
def execMgtFwFault (sram : Bool) (s : State) : Answer :=
  .next (
    if s.fwRuns then (s.mgtStart sram).raise (if sram then Src.mgtSramUe else Src.mgtFwFault) [] else s)

/-- MGT_RESTART_DONE: the firmware runs again, after MGT_SRAM_UE from a copy that was read and verified anew; when neither copy is
accepted the boot ROM serves FW_LOAD (R459, R476). -/
def execMgtRestartDone (s : State) : Answer :=
  .next (
    if !s.pwr.mgtReset || s.pwr.mgtRom || s.pwr.stopped.contains 3 then s
    else if s.pwr.mgtReload then
      let a := s.tryCopies s.copyOrder
      let s1 := if a.2 then a.1 else (a.1.tryCopies (s.copyOrder.drop 1)).1
      if s1.getF R.secBootStatus 1 0 = 2 then { s1 with pwr := { s1.pwr with mgtReload := false, mgtRom := true } } else s1.mgtUp
    else s.mgtUp)

/-! ### Sensors (R478, R479, R513) -/

/-- The recommended range of rail `r` in tenths of a mV (R513). -/
def railRange (r : Nat) : Nat × Nat :=
  match r with
  | 0 => (7275, 7725)
  | 1 => (7760, 8240)
  | 2 => (8330, 8670)
  | 3 => (11760, 12240)
  | 4 => (11400, 12600)
  | 5 => (23750, 27500)
  | 6 => (17100, 18900)
  | 7 => (7600, 8400)
  | _ => (31350, 34650)

/-- Rail `r` at `mv` is outside its recommended range. -/
def railOut (r mv : Nat) : Bool := decide (10 * mv < (railRange r).1) || decide ((railRange r).2 < 10 * mv)

/-- SENSOR_SAMPLE: 16 temperatures in 0.25 degrees, 9 rails in mV with the ns each has been outside its range, and the
current in 0.1 A (R478, R479). -/
def execSensorSample (temps : List Int) (rails : List (Nat × Nat)) (amps : Nat) (s : State) : Answer :=
  .next (
    let live := !(s.boot.stage == 0 && !s.boot.shutdown)
    if !live then s
    else
      let top := (temps.take 16).foldl max (temps.headD 0)
      let was := signed 12 (s.getF R.mgtTempMax 11 0)
      let s1 := forEach (List.range 16) (fun i (x : State) => x.wrN (R.mgtTemp i) (unsigned 12 (temps.getD i 0))) s
      let s2 := (s1.wrN R.mgtTempMax (unsigned 12 top)).wrN R.mgtCurr (amps % 65536)
      let s3 := forEach (List.range 9) (fun r (x : State) =>
        let v := rails.getD r (0, 0)
        (x.wrN (R.mgtVolt r) (v.1 % 65536)).condition (Src.voltAlarm r) [] (railOut r v.1 && decide (10000 ≤ v.2))) s2
      let out := (List.range 9).any (fun r => railOut r (rails.getD r (0, 0)).1)
      let s4 := State.condition { s3 with pwr := { s3.pwr with railOut := out } } Src.currAlarm [] (decide (s3.getF R.mgtCurrLimit 15 0 < amps))
      let s5 := if 460 ≤ top then s4.condition Src.tempWarn [] true
        else if top < 440 then s4.condition Src.tempWarn [] false else s4
      if 520 ≤ top ∧ was < 520 ∧ s.boot.shutdown = false then (s5.raise Src.tempCrit []).shutDown else s5)

/-! ### Management views (R28, R475) -/

/-- MG_VIEW_WRITE: a write of TOP.USB_MG[u] (R28). PF7 sets an override; the firmware's own write waits while one stands. -/
def execMgViewWrite (req : Requester) (u : Nat) (v : Reg) (s : State) : Answer :=
  .next (
    if s.boot.stage < 6 ∨ (s.acting req).vfNum ≠ 0 then s
    else if s.clockStopped (R.topUsbMg u) then s.csrTimeout (R.topUsbMg u)
    else
      let legal := decide (u < 232) && s.hasPlan
      match req with
      | .pf7 _ => if legal then s.overrideView u (fld v 3 0) else s.inc R.topUsbWrDrop
      | .mgmt =>
        if !legal then s.inc R.topUsbWrDrop else if s.mgt.overrides.contains u then s else s.setMgView u (fld v 3 0)
      | _ => s.inc R.topUsbWrDrop)

end Sys2Proof.Machine
end

