-- ==== Sys2Proof/Machine/Access.lean ====
section
/-! DEFINITION. Register access through BAR0 (R3 to R6, R16, R486 to R489, R522 to R525): which register an offset names,
what a read returns and does, what a write does to each kind of register, wide registers and their per-requester latches,
and the commands that stand in command registers. -/

namespace Sys2Proof.Machine

/-! ### Which register an offset names (R146, R358, R522, R523) -/

/-- What an offset of a requester's BAR0 names. -/
inductive BusReg where
  | reg (k : Nat)
  /-- the moderation register of vector `v` of a virtual function -/
  | vfMod (v : Nat)
  /-- no register: reads 0, writes are dropped -/
  | nothing
  deriving DecidableEq, Repr

/-- A register stands at key `k`. -/
def isReg (k : Nat) : Bool := (findReg regTable k).isSome

/-- The port whose first lane is `l` (R146). -/
def State.portAtLane (s : State) (l : Nat) : Option Nat :=
  (List.range 128).find? (fun p => s.portUsed p && (s.portRec p).firstLane == l)

/-- A register of the device, or nothing. -/
def regOrNothing (k : Nat) : BusReg := if isReg k then .reg k else .nothing

/-- The register at offset `off` of a virtual function's BAR0 (R358, R522). -/
def State.vfReg (s : State) (r : Requester) (off : Nat) : BusReg :=
  if off = 0 then .reg R.qmCmd
  else if off = 4 then .reg R.qmStatus
  else if 0x1000 ≤ off ∧ off < 0x2000 then
    let q := s.qmIndex r false ((off - 0x1000) / 0x40)
    if q < 4096 then regOrNothing (R.qmQCfg q + off % 0x40) else .nothing
  else if 0x2000 ≤ off ∧ off < 0x2800 then
    let c := s.qmIndex r true ((off - 0x2000) / 0x20)
    if c < 1024 then regOrNothing (R.qmCrBase c + off % 0x20) else .nothing
  else if 0x3000 ≤ off ∧ off < 0x3100 ∧ off % 4 = 0 then .vfMod ((off - 0x3000) / 4)
  else .nothing

/-- STR.RP[p] holds registers: `p` is the lower port of a PRP or HSR pair, or of a pass-through pair, which has its TC_MAP
there (R202). -/
def State.pairRegs (s : State) (p : Nat) : Bool :=
  let r := s.portRec p
  s.portUsed p && decide (1 ≤ r.role ∧ r.role ≤ 4) && decide (p < r.partner)

/-- The register at offset `off` of the BAR0 of requester `r`. -/
def State.busReg (s : State) (r : Requester) (off : Nat) : BusReg :=
  if (s.acting r).vfNum ≠ 0 then s.vfReg r off
  else if 0x400000 ≤ off ∧ off < 0x480000 ∧ off % 0x1000 < 0x800 then
    match s.portAtLane ((off - 0x400000) / 0x1000) with
    | some p => regOrNothing (R.prtPCtl p + off % 0x1000)
    | none => .nothing
  else if R.strRpCtl 0 ≤ off ∧ off < R.strRpCtl 128 ∧ s.pairRegs ((off - R.strRpCtl 0) / 0x100) = false then .nothing
  else if off < 0x4000000 then regOrNothing off
  else .nothing

/-- Octets of a requester's BAR0: 64 MiB, 64 KiB of a virtual function (R358, R522). -/
def State.barSize (s : State) (r : Requester) : Nat := if (s.acting r).vfNum ≠ 0 then 0x10000 else 0x4000000

/-! ### Wide registers (R6, R487, R488) -/

/-- A register of 64 or 128 bits. -/
def RegDesc.wide (d : RegDesc) : Bool := d.words == 2 || d.words == 4

/-- The bits of word `k` of a writable wide register that are not reserved: STR.RP[p].MAC holds 48 bits, SET_TIME a fraction
and the top of the seconds of 16 bits each (R3). -/
def wideMask (k : Nat) : Reg :=
  if (elemAt (R.strRpMac 0 + 4) 0x100 128 0 k).isSome || (elemAt (R.tsuTbSetTime 0) 0x400 8 0 k).isSome ||
      (elemAt (R.tsuTbSetTime 0) 0x400 8 12 k).isSome then 0xFFFF else 0xFFFFFFFF

/-- The words of a wide register from key `k` on without their reserved bits. -/
def maskWords (k : Nat) : List Reg → List Reg
  | [] => []
  | v :: vs => (v &&& wideMask k) :: maskWords (k + 4) vs

/-! ### What a read returns -/

/-- TIME and SLEW_REM of a time base as shown: the top 16 bits of the fraction, and units of 2^-16 ns (R107, R117). -/
def State.tbWord (s : State) (n o : Nat) : Option Reg :=
  if 0x10 ≤ o ∧ o < 0x20 then (timeWords 16 (s.tb n).count)[(o - 0x10) / 4]?
  else if 0x48 ≤ o ∧ o < 0x50 then
    some (BitVec.ofNat 32 (unsigned 64 (toQ16 (s.tb n).slewRem) / 2 ^ (8 * (o - 0x48))))
  else none

/-- FCR.SUMMARY: bit k is set while group k has any STICKY bit set. -/
def State.summary (s : State) : Nat :=
  ((List.range 20).map (fun k => if s.rd (R.fcrGSticky k) = 0 then 0 else 2 ^ k)).foldl (· + ·) 0

/-- The present value of register `k`: the register file's, but for the fields that show other state. -/
def State.regView (s : State) (k : Nat) : Reg :=
  if k = R.fcrSummary then BitVec.ofNat 32 s.summary
  else if k = R.rdnStatus then withBit (s.rd k) 18 s.actOut
  else if R.strRpCtl 0 ≤ k ∧ k < R.strRpCtl 128 then
    -- the pair registers read 0 for any other port than the lower of a PRP or HSR pair
    (if s.pairOf ((k - R.strRpCtl 0) / 0x100) = some ((k - R.strRpCtl 0) / 0x100) then s.rd k else 0)
  else if R.tsuTbCtl 0 ≤ k ∧ k < R.tsuTbCtl 8 then
    (s.tbWord ((k - R.tsuTbCtl 0) / 0x400) ((k - R.tsuTbCtl 0) % 0x400)).getD (s.rd k)
  else if R.txeAqCfg 0 ≤ k ∧ k < R.txeAqCfg 4096 then
    -- the registers of an A-ring read 0 when the queue is no A-ring
    (let q := (k - R.txeAqCfg 0) / 0x20
     if s.qExists q && s.qKind q == 2 then s.rd k else 0)
  else if (elemAt (R.dmaChShadow 0) 0x100 256 0x3C k).isSome ∨ (elemAt (R.dmaChActive 0) 0x100 256 0x3C k).isSome then
    -- the CRC bytes of a set read 0 (R367)
    s.rd k &&& 0xFFFF
  else match elemAt (R.schPStatus 0) 0x40 128 0 k with
    | some p => withBit (s.rd k) 6 (s.portUsed p && s.actOpen p)
    | none => match elemAt (R.przPgStatus 0) 0x40 256 0 k with
      | some g => withFld (s.rd k) 3 0 (s.viewPg g)
      | none => s.rd k

/-- Read register `k`: its value, and what the read does. The first word of a wide register latches the rest for the
requester, a later word comes from the latch, and a counter of type RC is cleared (R4, R6, R487). -/
def State.readKey (s : State) (r : Requester) (k : Nat) : Reg × State :=
  match findReg regTable k with
  | none => (0, s)
  | some (d, w) =>
    if d.wide then
      let k0 := k - 4 * w
      if w = 0 then
        let rest := (List.range (d.words - 1)).map (fun i => s.regView (k0 + 4 * (i + 1)))
        let s1 := s.setWide { s.wideOf r with latchReg := some k0, latched := rest }
        (s.regView k, if d.rc then s1.wrWords k0 (List.replicate d.words 0) else s1)
      else
        let x := s.wideOf r
        (if x.latchReg = some k0 then x.latched.getD (w - 1) 0 else 0, s)
    else (s.regView k, if d.rc then s.wr k 0 else s)

/-- Answer a read. -/
def State.answer (s : State) (r : Requester) (v : Option Reg) : State := s.emit (.readData r v)

/-- The moderation register of vector `v` of a virtual function as written. -/
def State.vfModRd (s : State) (r : Requester) (v : Nat) : Reg :=
  Tab.get (fun _ => (0x00010000 : Reg)) s.fcr.vfMod (vecKey (s.acting r) v)

/-- The unit state board entry of the unit that register `k` addresses, where that unit has power states: a port, a gallery, a DDR4
channel, the prism (R491). -/
def unitOfReg (k : Nat) : Option Nat :=
  if R.prtPCtl 0 ≤ k ∧ k < R.prtPCtl 128 then some ((k - R.prtPCtl 0) / 0x1000)
  else if R.prtGLinkEvt 0 ≤ k ∧ k < R.prtGLinkEvt 8 then some (128 + (k - R.prtGLinkEvt 0) / 0x1000)
  else if R.memChStatus 0 ≤ k ∧ k < R.memChStatus 16 then some (148 + (k - R.memChStatus 0) / 0x20)
  else if blockOf k = 7 then some 228
  else none

/-- A register access wakes the unit it addresses (R489, R492). -/
def State.wakeReg (s : State) (k : Nat) : State :=
  match unitOfReg k with
  | some u => s.wake u
  | none => s

/-- A read by `r` at offset `off`, with its value: none when the device answers Unsupported Request. -/
def State.busRead (s : State) (r : Requester) (off : Nat) : Option Reg × State :=
  if s.barSize r ≤ off ∨ off % 4 ≠ 0 then (none, s)
  else match s.busReg r off with
    | .nothing => if s.boot.stage < 6 ∧ s.romServes r off = false then (none, s) else (some 0, s)
    | .vfMod v =>
      if s.boot.stage < 6 then (none, s)
      else if s.clockStopped R.qmCmd then (some 0xFFFFFFFF, s.csrTimeout R.qmCmd)
      else (some (s.vfModRd r v), s)
    | .reg k =>
      if s.boot.stage < 6 ∧ s.romServes r k = false then (none, s)
      else if s.clockStopped k then (some 0xFFFFFFFF, s.csrTimeout k)
      else
        let x := (s.wakeReg k).readKey r k
        (some x.1, x.2)

/-- One read, answered. -/
def State.readOne (s : State) (r : Requester) (off : Nat) : State :=
  let x := s.busRead r off
  x.2.answer r x.1

/-- A read request of `size` octets at `off` (R523): 4 octets, or 8 as two registers, the lower first; anything else is
answered with Unsupported Request. -/
def State.readAccess (s : State) (r : Requester) (off size : Nat) : State :=
  if size = 4 ∧ off % 4 = 0 then s.readOne r off
  else if size = 8 ∧ off % 8 = 0 then (s.readOne r off).readOne r (off + 4)
  else s.answer r none

/-! ### What a write does to a plain register (R4, R5, R431) -/

/-- The register after a write of `v` over `old`: RW bits take the value, 1s clear RW1C bits, the rest stays. -/
def RegDesc.merge (d : RegDesc) (old v : Reg) : Reg :=
  let rw := BitVec.ofNat 32 d.rw
  let clr := BitVec.ofNat 32 d.w1c &&& v
  (v &&& rw) ||| (old &&& ~~~ rw &&& ~~~ clr)

/-- A write of this register takes effect at the next landing. -/
def isLater (k : Nat) : Bool :=
  k == R.tickLateWin || k == R.strPathWin || k == R.przInCfg || k == R.przAgeNs || k == R.przAheadNs || k == R.qmCfg ||
  k == R.rdnStaleTicks ||
  (elemAt (R.tsuTbLossMs 0) 0x400 8 0 k).isSome || (elemAt (R.tsuTbPtpCfg 0) 0x400 8 0 k).isSome ||
  (elemAt (R.prtPSysTc 0) 0x1000 128 0 k).isSome || (elemAt (R.strRpTcMap 0) 0x100 128 0 k).isSome ||
  (decide (R.strMeterCir 0 ≤ k) && decide (k < R.strMeterCir 4096)) ||
  (elemAt (R.schPGuardNs 0) 0x40 128 0 k).isSome || (elemAt (R.przSynchMap 0) 4 256 0 k).isSome ||
  (elemAt (R.txeGcbCfg 0) 0x40 4096 0 k).isSome || (elemAt (R.txeGcbT1Us 0) 0x40 4096 0 k).isSome ||
  (elemAt (R.txeGcbT0Ms 0) 0x40 4096 0 k).isSome || (elemAt (R.txeSvpCfg 0) 0x40 64 0 k).isSome ||
  (elemAt (R.txeAqCfg 0) 0x20 4096 0 k).isSome || (elemAt (R.pwrTol 0) 4 16 0 k).isSome ||
  (decide (R.fcrMod 0 0 ≤ k) && decide (k < R.fcrMod 3 0))

/-- STICKY bits of state sources whose condition holds are set on every edge: a write of 1 leaves them set (R5, R430). The
bits that hardware set on the present edge are in `State.setNowOf`. -/
def State.stickySet (s : State) (k : Nat) : Reg :=
  match elemAt (R.fcrGSticky 0) 0x40 20 0 k with
  | some g => s.rd (R.fcrGLive g) &&& stateBits g
  | none => 0

/-- A write of `v` to the single register `k` under its types. -/
def State.plainWrite (s : State) (k : Nat) (v : Reg) : State :=
  match findReg regTable k with
  | some (d, _) =>
    let m := d.merge (s.rd k) v ||| (BitVec.ofNat 32 d.w1c &&& s.rd k &&& (s.stickySet k ||| s.setNowOf k))
    if isLater k then s.wrLater k m else s.wr k m
  | none => s

/-- The registers of the GCB that key `k` lies in. -/
def gcbAt (k : Nat) : Option Nat :=
  if R.txeGcbCfg 0 ≤ k ∧ k < R.txeGcbCfg 4096 then some ((k - R.txeGcbCfg 0) / 0x40) else none

/-- The counter of a write to `k` that is dropped because a request, an amendment or the mirror owns what it would change
(R59, R74, R371, R419). -/
def State.ownedBy (s : State) (k : Nat) : Option Nat :=
  if R.schPShadow 0 ≤ k ∧ k < R.schPShadow 128 then
    let p := (k - R.schPShadow 0) / 0x4000
    if s.mirrorOwns then some R.rdnOwnedDrop
    else if s.amendOwns Sect.schedule p then some R.planConflict
    else if s.requested (.bank p) then some R.tickSwapConflict
    else none
  else if R.tsuTbCtl 0 ≤ k ∧ k < R.tsuTbCtl 8 then
    let o := (k - R.tsuTbCtl 0) % 0x400
    if 0x80 ≤ o ∧ o < 0xA0 ∧ s.requested (.epoch ((k - R.tsuTbCtl 0) / 0x400)) then some R.tickSwapConflict else none
  else if R.dmaChCtl 0 ≤ k ∧ k < R.dmaChCtl 256 then
    let c := (k - R.dmaChCtl 0) / 0x100
    let o := (k - R.dmaChCtl 0) % 0x100
    if o < 0x80 ∨ 0xC0 ≤ o then none
    else if s.requested (.dmaSet c) then some R.tickSwapConflict
    else if s.armed c then some (R.dmaChShadowConflict c)
    else none
  else match gcbAt k with
    | some i => if s.gcbMirrored i then some R.rdnOwnedDrop else none
    | none => none

/-- A write to `k` is dropped without a count in the present state: STNUM and SQNUM of a GCB in hardware mode (R313), BASE of
a queue or ring that is not OFF (R352), CFG, CRING and PANE of a channel that is not OFF (R370). -/
def State.writeBarred (s : State) (k : Nat) : Bool :=
  match gcbAt k with
  | some i =>
    (k == R.txeGcbStnum i || k == R.txeGcbSqnum i) && s.gcbOn i && !s.hostGoose i
  | none =>
    if R.qmQCfg 0 ≤ k ∧ k < R.qmQCfg 4096 then
      let q := (k - R.qmQCfg 0) / 0x40
      (k == R.qmQBase q || k == R.qmQBase q + 4) && s.qState q != QS.off
    else if R.qmCrBase 0 ≤ k ∧ k < R.qmCrBase 1024 then
      let c := (k - R.qmCrBase 0) / 0x20
      (k == R.qmCrBase c || k == R.qmCrBase c + 4) && s.crEnabled c
    else if R.dmaChCtl 0 ≤ k ∧ k < R.dmaChCtl 256 then
      let c := (k - R.dmaChCtl 0) / 0x100
      (k == R.dmaChCfg c || k == R.dmaChCring c || k == R.dmaChPane c) && s.chState c != Ch.off
    else false

/-- A word of a writable wide register other than its last is held for the requester, whatever becomes of the write that
applies them (R488). A word of a tick action entry disarms it too and has a meaning of its own (R78). -/
def State.holdWord (s : State) (r : Requester) (k : Nat) (v : Reg) : Option State :=
  match findReg regTable k with
  | some (d, w) =>
    if d.wide && d.rw != 0 && d.base != R.tickAct 0 && decide (w + 1 < d.words) then some (s.setWide ((s.wideOf r).hold (k - 4 * w) w v)) else none
  | none => none

/-- A write of `v` to register `k` by `r` that has passed every gate: the last word of a wide register applies it whole,
and any other register is written under its types (R488). -/
def State.putKey (s : State) (r : Requester) (k : Nat) (v : Reg) : State :=
  match s.ownedBy k with
  | some c => s.inc c
  | none =>
    if s.writeBarred k then s
    else match findReg regTable k with
      | none => s
      | some (d, w) =>
        if d.wide then
          if d.rw = 0 then s
          else
            let k0 := k - 4 * w
            let x := s.wideOf r
            let vals := x.whole k0 w v
            (s.setWide (x.release k0)).wrWords k0 (maskWords k0 vals)
        else match elemAt (R.prtLTxeq 0) 0x1000 128 0 k with
          | some l => (s.plainWrite k v).txeqWritten l
          | none => s.plainWrite k v

/-! ### Command registers (R339) -/

/-- A command of PLAN, TICK, STR, PRZ, RDN, FCR, MGT or SEC, whose command registers stand once: none for CMD 0. -/
def commandOnce (r : Requester) (k : Nat) (v : Reg) : Option (State → Answer) :=
  let c := fld v 3 0
  let sh := fld v 31 16
  if c = 0 then none
  else if k = R.planCtl then
    let h := rbit v 7
    some (match c with
      | 1 => execStage r h
      | 2 => execCommitAmend r h
      | 3 => execCommitReplan r h
      | 4 => execPlanAbort r h
      | _ => execPlanCmdReserved r h)
  else if k = R.tickCtl then
    some (match c with
      | 1 => execPromote r
      | 2 => execResync r
      | 3 => execRecal r
      | _ => execTickCmdReserved r)
  else if k = R.strCmd then
    some (match c with
      | 1 => execRecovReset r sh
      | 2 => execContain r sh
      | 3 => execStrRelease r sh
      | _ => execStrCmdReserved r sh)
  else if k = R.przInCmd then
    some (match c with
      | 1 => execSetPathOfs r sh
      | 2 => execSetReorder r sh
      | 3 => execPrzBreak r sh
      | _ => execPrzInCmdReserved r sh)
  else if k = R.przPgCmd then
    some (match c with
      | 1 => execPgContain r (fld v 15 8)
      | 2 => execPgRelease r (fld v 15 8)
      | _ => execPgCmdReserved r (fld v 15 8))
  else if k = R.rdnCtl then
    some (match c with
      | 1 => execHandover r
      | 2 => execClaim r
      | 3 => execRdnRelease r
      | 4 => execRdnResync r
      | _ => execRdnCmdReserved r)
  else if k = R.fcrCtl then
    some (match c with
      | 1 => execFcrRelease r sh
      | 2 => execUncontain r sh
      | _ => execFcrCmdReserved r sh)
  else if k = R.mgtCtl then some (if c = 1 then execRestart r else execMgtCmdReserved r)
  else if k = R.secCmd then
    some (match c with
      | 1 => execRollbackSet r
      | 2 => execRevoke r
      | 3 => execKeyWrite r
      | _ => execSecCmdReserved r)
  else none

/-- A command of TXE.CMD or QM.CMD: none for CMD 0. -/
def commandUnit (r : Requester) (k : Nat) (v : Reg) : Option (State → Answer) :=
  let c := fld v 3 0
  if c = 0 then none
  else if k = R.txeCmd then
    let u := fld v 15 12
    let i := fld v 27 16
    some (match u, c with
      | 0, 1 => execLoadPending r i
      | 0, 2 => execGcbCommit r i
      | 0, 3 => execGcbEnable r i
      | 0, 4 => execGcbDisable r i
      | 1, 1 => execSvpLoad r i
      | 1, 3 => execSvpEnable r i
      | 1, 4 => execSvpDisable r i
      | _, _ => execTxeCmdReserved r u i)
  else if k = R.qmCmd then
    let g := rbit v 15
    let i := fld v 31 16
    some (match c with
      | 1 => execQmEnable r g i
      | 2 => execQmHold r g i
      | 3 => execQmRelease r g i
      | 4 => execQmStop r g i
      | 5 => execResume r g i
      | 6 => execQmDisable r g i
      | 7 => execResetIdx r g i
      | _ => execQmCmdReserved r g i)
  else none

/-- A command of a time base, a port, a port's gates or a DMA channel: none for CMD 0. -/
def commandEach (r : Requester) (k : Nat) (v : Reg) : Option (State → Answer) :=
  let c := fld v 3 0
  match elemAt (R.tsuTbCtl 0) 0x400 8 0 k with
  | some n =>
    if c = 0 then none else some (match c with
      | 1 => execAccept r n
      | 2 => execTsuSet r n
      | 3 => execAdjPhase r n
      | 4 => execEpochNext r n
      | _ => execTsuCmdReserved r n)
  | none => match elemAt (R.prtPCtl 0) 0x1000 128 0 k with
    | some p =>
      let d := fld v 7 4
      if d = 0 then none else some (if d = 1 then execRetrain r p else execPrtCmdReserved r p)
    | none => match elemAt (R.schPCtl 0) 0x40 128 0 k with
      | some p =>
        if c = 0 then none else some (match c with
          | 1 => execCommitAt r p
          | 2 => execCommitNext r p
          | 3 => execWithdraw r p
          | _ => execSchCmdReserved r p)
      | none => match elemAt (R.dmaChCtl 0) 0x100 256 0 k with
        | some n =>
          if c = 0 then none else some (match c with
            | 1 => execDmaEnable r n
            | 2 => execDmaCommit r n
            | 3 => execDmaStop r n
            | 4 => execDmaClear r n
            | 5 => execDmaDisable r n
            | _ => execDmaCmdReserved r n)
        | none => none

/-- Register `k` has a CMD field (R339). -/
def isCommandReg (k : Nat) : Bool :=
  k == R.planCtl || k == R.tickCtl || k == R.strCmd || k == R.przInCmd || k == R.przPgCmd || k == R.txeCmd || k == R.qmCmd ||
  k == R.rdnCtl || k == R.fcrCtl || k == R.mgtCtl || k == R.secCmd ||
  (elemAt (R.tsuTbCtl 0) 0x400 8 0 k).isSome || (elemAt (R.prtPCtl 0) 0x1000 128 0 k).isSome ||
  (elemAt (R.schPCtl 0) 0x40 128 0 k).isSome || (elemAt (R.dmaChCtl 0) 0x100 256 0 k).isSome

/-- The status register in which the command of register `k` records its RESULT. -/
def statusOf (k : Nat) : Nat :=
  if k = R.strCmd then R.strStatus
  else if k = R.przInCmd then R.przInStatus
  else if k = R.secCmd then R.secStatus
  else k + 4

/-- The command a write of `v` to register `k` issues. -/
def commandAt (r : Requester) (k : Nat) (v : Reg) : Option (State → Answer) :=
  match commandOnce r k v with
  | some f => some f
  | none => match commandUnit r k v with
    | some f => some f
    | none => commandEach r k v

/-- What the other fields of a command register bring about when they are written: HOST_STATE (R113) and AUTO_CLAIM
(R404). -/
def State.fieldsWritten (s : State) (k : Nat) : State :=
  if k = R.rdnCtl then s.tryClaim
  else match elemAt (R.tsuTbCtl 0) 0x400 8 0 k with
    | some n => s.hostState n
    | none => s

/-- A write of a command register: its RW fields take the value, then the command is taken. -/
def State.writeCommand (s : State) (r : Requester) (k : Nat) (v : Reg) : State :=
  match s.gateWrite r k with
  | .pass =>
    if k = R.secCmd ∧ isMgmt (s.acting r) = false then s.inc R.secCmdDrop
    else
    let s1 := (s.plainWrite k v).fieldsWritten k
    match commandAt r k v with
    | some f => Answer.state (f s1) s1
    | none => s1
  | _ => s.guarded r k id

/-! ### Registers whose writes act (R28, R78, R264, R331, R372, R443, R472, R498) -/

/-- A write of MGT.MB[m].DB: the request is announced, or dropped while one is in progress (R472). -/
def State.mailboxDoorbell (s : State) (m len : Nat) : State :=
  let k := R.mgtMbStatus m
  if s.bit k 0 then s.incF k 31 16
  else
    let s1 := s.setBit k 0 true
    { s1 with mgt := { s1.mgt with requests := Tab.put (fun _ => 0) s1.mgt.requests m len } }

/-- SEC.ARG and SEC.KEY_STAGE take writes from the management plane only (R465). -/
def State.secWrite (s : State) (r : Requester) (k : Nat) (v : Reg) : State :=
  if isMgmt (s.acting r) then s.putKey r k v else s.inc R.secCmdDrop

/-- The meaning of a write to a register with behaviour of its own, but for those of QM and the command registers. -/
def actingWrite (r : Requester) (k : Nat) (v : Reg) : Option (State → Answer) :=
  if R.tickAct 0 ≤ k ∧ k < R.tickAct 4096 ∧ k % 4 = 0 then
    let i := (k - R.tickAct 0) / 16
    some (if k % 16 = 12 then execTickActionArm r i v else execTickActionDisarm r i (k % 16 / 4) v)
  else if k = R.strSel then some (execStrSelWrite r v)
  else if k = R.schRdSel then some (execRdSelWrite r v)
  else if k = R.przInSel then some (execInSelWrite r v)
  else if k = R.pwrFlushMod then some (execFlushMod r v)
  else if k = R.mgtWdog then some (execKick r v)
  else match elemAt (R.topUsbMg 0) 4 256 0 k with
    | some u => some (execMgViewWrite r u v)
    | none => match elemAt (R.tsuTbAdjFreq 0) 0x400 8 0 k with
      | some n => some (execAdjFreqWrite r n v)
      | none => match elemAt (R.dmaChDb 0) 0x100 256 0 k with
        | some c => some (execDmaDoorbell r c)
        | none => match elemAt (R.fcrGInj 0) 0x40 20 0 k with
          | some g => some (execInjWrite r g v [])
          | none => none

/-- A write to QM.Q and QM.CR registers of queue or ring `i` (R16, R358). -/
def State.queueWrite (s : State) (r : Requester) (k : Nat) (v : Reg) : State :=
  if k < R.qmCrBase 0 then s.qmWrite r k false ((k - R.qmQCfg 0) / 0x40) (fun s => s.putKey r k v)
  else
    let c := (k - R.qmCrBase 0) / 0x20
    s.qmWrite r k true c (fun s => if k = R.qmCrHead c then s.reportHead c (fld v 15 0) else s.putKey r k v)

/-- A write of `v` to register `k` by `r`. -/
def State.writeKey (s : State) (r : Requester) (k : Nat) (v : Reg) : State :=
  match s.holdWord r k v with
  | some t => s.qmReach k (fun _ => t)
  | none =>
  if k = R.qmCmd then
    (match commandAt r k v with
     | some f => Answer.state (f s) s
     | none => s.qmReach k (fun s => s.plainWrite k v))
  else if R.qmQCfg 0 ≤ k ∧ k < R.qmCrBase 1024 then s.queueWrite r k v
  else if isCommandReg k then s.writeCommand r k v
  else match actingWrite r k v with
    | some f => Answer.state (f s) s
    | none => match elemAt (R.mgtMbDb 0) 0x10 3 0 k with
      | some m => s.guarded r k (fun s => s.mailboxDoorbell m (fld v 12 0))
      | none =>
        if k = R.secArg ∨ (R.secKeyStage ≤ k ∧ k < R.secKeyStage + 48) then s.guarded r k (fun s => s.secWrite r k v)
        else s.guarded r k (fun s => s.putKey r k v)

/-- A write of a virtual function's moderation register; it takes effect at the next landing (R448). -/
def State.vfModWrite (s : State) (r : Requester) (j : Nat) (v : Reg) : State :=
  if s.boot.stage < 6 then s
  else if s.clockStopped R.qmCmd then s.csrTimeout R.qmCmd
  else
    let k := vecKey (s.acting r) j
    let old := s.vfModRd r j
    let s1 : State := { s with fcr := { s.fcr with
      vfMod := Tab.put (fun _ => (0x00010000 : Reg)) s.fcr.vfMod k (v &&& 0x00FF03FF) } }
    if s.stale.any (fun e => e.1 == vfModKey k) then s1 else { s1 with stale := (vfModKey k, old) :: s1.stale }

/-- A 32-bit write by `r` at offset `off` of its BAR0. -/
def State.busWrite (s : State) (r : Requester) (off : Nat) (v : Reg) : State :=
  if s.barSize r ≤ off ∨ off % 4 ≠ 0 then s
  else match s.busReg r off with
    | .nothing => s
    | .vfMod j => s.vfModWrite r j v
    | .reg k => (if s.boot.stage < 6 || s.clockStopped k then s else s.wakeReg k).writeKey r k v

/-! ### BAR2 (R332, R358) -/

/-- Octets of a requester's BAR2: a doorbell page for each QID, or for each of a virtual function's 64 queues. -/
def State.bar2Size (s : State) (r : Requester) : Nat := if (s.acting r).vfNum ≠ 0 then 0x40000 else 0x1000000

/-- A 32-bit write by `r` at offset `off` of its BAR2: a doorbell of the page's queue, or nothing. `tags` are the TAGs in host memory
of the entries that a cancellation or an invalidation covers. -/
def State.bar2Write (s : State) (r : Requester) (off : Nat) (v : Reg) (tags : List Nat) : State :=
  let q := s.qmIndex r false (off / 4096)
  let o := off % 4096
  if s.bar2Size r ≤ off then s
  else if o = 0 then Answer.state (execTail r q v s) s
  else if o = 8 then Answer.state (execCancel r q v (tags.headD 0) s) s
  else if o = 0x10 then Answer.state (execInval r q v tags s) s
  else if o = 0x18 then Answer.state (execCrHead r q v s) s
  else s

/-- A read request of `size` octets at offset `off` of a BAR whose words `f` gives: 4 octets, or 8 as two words (R523). -/
def State.barRead (s : State) (r : Requester) (f : Nat → Option Reg) (off size : Nat) : State :=
  if size = 4 ∧ off % 4 = 0 then s.answer r (f off)
  else if size = 8 ∧ off % 8 = 0 then (s.answer r (f off)).answer r (f (off + 4))
  else s.answer r none

/-- A word of BAR2: a doorbell page reads 0. -/
def State.bar2Word (s : State) (r : Requester) (off : Nat) : Option Reg :=
  if s.bar2Size r ≤ off ∨ s.boot.stage < 6 then none else some 0

/-! ### BAR4: MSI-X table and PBA (R449, R522) -/

/-- Octets of a function's BAR4; the PBA begins in its middle (R522). -/
def bar4Size (r : Requester) : Nat := if r.vfNum ≠ 0 then 0x1000 else 0x10000

/-- The requester is a function of a host, which has a BAR4. -/
def isHost (r : Requester) : Bool :=
  match r with
  | .mgmt | .wq _ => false
  | _ => true

/-- A word of BAR4: address, data and vector control of a table entry, or pending bits (log entry 112). -/
def State.bar4Word (s : State) (r : Requester) (off : Nat) : Option Reg :=
  let v := off / 16
  let x := s.vec (vecKey r v)
  let first := (off - bar4Size r / 2) * 8
  if bar4Size r ≤ off ∨ !isHost r ∨ !s.barOpen then none
  else if v < vecCount r then
    some (match off % 16 / 4 with
      | 0 => x.addr.setWidth 32
      | 1 => (x.addr >>> 32).setWidth 32
      | 2 => x.data
      | _ => BitVec.ofNat 32 x.masked.toNat)
  else if bar4Size r / 2 ≤ off ∧ first < vecCount r then
    some (BitVec.ofNat 32 (((List.range 32).filter (fun i => (s.vec (vecKey r (first + i))).pba)).map (2 ^ ·)).sum)
  else some 0

/-- A 32-bit write by `r` at offset `off` of its BAR4: a word of a table entry; removing a mask sends what is pending (R449). -/
def State.bar4Write (s : State) (r : Requester) (off : Nat) (w : Reg) : State :=
  let v := off / 16
  let x := s.vec (vecKey r v)
  if vecCount r ≤ v ∨ !isHost r ∨ !s.barOpen then s
  else match off % 16 / 4 with
    | 0 => s.setVec (vecKey r v) { x with addr := (x.addr >>> 32).setWidth 32 ++ (w &&& ~~~ 3#32) }
    | 1 => s.setVec (vecKey r v) { x with addr := w ++ x.addr.setWidth 32 }
    | 2 => s.setVec (vecKey r v) { x with data := w }
    | _ => (s.setVec (vecKey r v) { x with masked := rbit w 0 }).sendPba r [v]

/-! ### The commands -/

/-- A 32-bit write by `r` at offset `off` of a BAR. -/
def State.barWrite (s : State) (r : Requester) (bar : Bar) (off : Nat) (v : Reg) : State :=
  match bar with
  | .bar0 => s.busWrite r off v
  | .bar2 tags => s.bar2Write r off v tags
  | .bar4 => s.bar4Write r off v

/-- REGISTER_WRITE (R3, R4, R522, R523): a write request of `size` octets at `off` of a BAR; `be` tells whether all its byte enables
are set. 8 octets are two writes, the lower offset first; a request of another size, or not aligned to it, writes nothing. -/
def execRegisterWrite (req : Requester) (off size : Nat) (be : Bool) (v : BitVec 64) (bar : Bar) (s : State) : Answer :=
  .next (
    if !be then s
    else if size = 4 ∧ off % 4 = 0 then s.barWrite req bar off (v.setWidth 32)
    else if size = 8 ∧ off % 8 = 0 then
      (s.barWrite req bar off (v.setWidth 32)).barWrite req bar (off + 4) ((v >>> 32).setWidth 32)
    else s)

/-- WIDE_LOW_WRITE (R488): a 32-bit write; of a low half, or of words 0 to 2 of a 128-bit register, it is held for the
requester. -/
def execWideLowWrite (req : Requester) (off : Nat) (v : Reg) (s : State) : Answer := .next (s.busWrite req off v)

/-- WIDE_HIGH_WRITE (R488): a 32-bit write; of a high half or of word 3 it applies the whole value. -/
def execWideHighWrite (req : Requester) (off : Nat) (v : Reg) (s : State) : Answer := .next (s.busWrite req off v)

/-- RC_READ (R4, R172, R522): a read request of `size` octets of a BAR; a counter of type RC returns its value and is cleared. -/
def execRcRead (req : Requester) (off size : Nat) (bar : Bar) (s : State) : Answer :=
  .next (match bar with
    | .bar0 => s.readAccess req off size
    | .bar2 _ => s.barRead req (s.bar2Word req) off size
    | .bar4 => s.barRead req (s.bar4Word req) off size)

/-- WIDE_LOW_READ (R6, R487): a read request of `size` octets; the first word of a wide register latches the others. -/
def execWideLowRead (req : Requester) (off size : Nat) (s : State) : Answer := .next (s.readAccess req off size)

/-- TIME_READ_CAPTURE (R130, R487): a read of the first word of TSU.TB[n].TIME captures the count. -/
def execTimeReadCapture (req : Requester) (n : Nat) (s : State) : Answer :=
  .next (if n < 8 then s.readAccess req (R.tsuTbTime n) 4 else s)

/-- CSR_TIMEOUT (R489): an access, a read or a write, meets a stopped clock: a read returns all ones, a write is dropped. -/
def execCsrTimeout (req : Requester) (off : Nat) (write : Option Reg) (s : State) : Answer :=
  .next (match s.busReg req off with
    | .reg k =>
      if s.boot.stage < 6 ∨ s.clockStopped k = false then s
      else match write with
        | some _ => s.csrTimeout k
        | none => (s.csrTimeout k).answer req (some 0xFFFFFFFF)
    | _ => s)

end Sys2Proof.Machine
end

