-- ==== Sys2Proof/Machine/Arrivals.lean ====
section
/-! DEFINITION. The commands that bring a frame to a port (R124, R133, R135, R136, R155, R411, R416). -/

namespace Sys2Proof.Machine

/-! ### The commands -/

/-- The type of the PTP message an arrival carries. -/
def rxMsg (x : RxIn) : Option Nat := (ptpOf x.bytes).map (msgType x.bytes)

/-- The TYPE of the mirror frame an arrival carries. -/
def rxMirror (x : RxIn) : Nat := if beAt x.bytes 12 2 = 0x88B6 then beAt x.bytes 14 1 else 0

/-- FRAME_RECEIVE (R155): any arrival on port `p`. -/
def execFrameReceive (p : Nat) (x : RxIn) (s : State) : Answer := .next (s.landFirst.arrive p x)

/-- PTP_SYNC_RECEIVE (R124): the arrival of a Sync or Follow_Up. -/
def execPtpSyncReceive (p : Nat) (x : RxIn) (s : State) : Answer :=
  .next (if rxMsg x = some Msg.sync ∨ rxMsg x = some Msg.followUp then s.landFirst.arrive p x else s)

/-- PTP_ANNOUNCE_RECEIVE (R135): the arrival of an Announce. -/
def execPtpAnnounceReceive (p : Nat) (x : RxIn) (s : State) : Answer :=
  .next (if rxMsg x = some Msg.announce then s.landFirst.arrive p x else s)

/-- PDELAY_REQ_RECEIVE (R136): the arrival of a Pdelay_Req. -/
def execPdelayReqReceive (p : Nat) (x : RxIn) (s : State) : Answer :=
  .next (if rxMsg x = some Msg.pdelayReq then s.landFirst.arrive p x else s)

/-- PDELAY_RESP_RECEIVE (R136): the arrival of a Pdelay_Resp or Pdelay_Resp_Follow_Up. -/
def execPdelayRespReceive (p : Nat) (x : RxIn) (s : State) : Answer :=
  .next (if rxMsg x = some Msg.pdelayResp ∨ rxMsg x = some Msg.pdelayFollow then s.landFirst.arrive p x else s)

/-- DELAY_RESP_RECEIVE (R133): the arrival of a Delay_Resp. -/
def execDelayRespReceive (p : Nat) (x : RxIn) (s : State) : Answer :=
  .next (if rxMsg x = some Msg.delayResp then s.landFirst.arrive p x else s)

/-- HEARTBEAT_RECEIVE (R411): the arrival of a heartbeat on a mirror port. -/
def execHeartbeatReceive (p : Nat) (x : RxIn) (s : State) : Answer :=
  .next (if rxMirror x = 1 ∧ s.isMirrorPort p then s.landFirst.arrive p x else s)

/-- EPOCH_DATA (R416): the arrival of a data frame on a mirror port. -/
def execEpochData (p : Nat) (x : RxIn) (s : State) : Answer :=
  .next (if rxMirror x = 2 ∧ s.isMirrorPort p then s.landFirst.arrive p x else s)

/-- EPOCH_TRAILER (R416): the arrival of a trailer on a mirror port. -/
def execEpochTrailer (p : Nat) (x : RxIn) (s : State) : Answer :=
  .next (if rxMirror x = 3 ∧ s.isMirrorPort p then s.landFirst.arrive p x else s)

end Sys2Proof.Machine
end

