-- ==== Sys2Proof/Machine/Work.lean ====
section
/-! DEFINITION. Work entries (R339, R340): their check at the point of use, their issue, and their completions. -/

namespace Sys2Proof.Machine

/-! ### Fields of a work descriptor (R339) -/

/-- OP. -/
def workOp (b : List Byte) : Nat := leAt b 0 1
/-- FENCE. -/
def workFence (b : List Byte) : Bool := (leAt b 1 1).testBit 0
/-- ARG. -/
def workArg (b : List Byte) : Nat := leAt b 4 4
/-- Bytes 0 to 3 of DATA. -/
def workData (b : List Byte) : Reg := BitVec.ofNat 32 (leAt b 8 4)
/-- Word `w` of DATA. -/
def workWord (b : List Byte) (w : Nat) : Reg := BitVec.ofNat 32 (leAt b (8 + 4 * w) 4)

/-! ### The check (R340) -/

/-- The CRC is right and every reserved bit and byte is 0. -/
def workClean (b : List Byte) : Bool := entryCrc b && leAt b 1 1 / 2 == 0 && allZero (slice b 0x18 6)

/-- Offset `off` lies in a register of a queue or ring that requester `r` may write (R16, R358). -/
def State.ownQm (s : State) (r : Requester) (off : Nat) : Bool :=
  let own := fun (o : Option (Nat × Nat)) => match o with | some x => s.qmMay r x.1 x.2 | none => false
  off / 4 * 4 == R.qmCmd ||
  (decide (R.qmQCfg 0 ≤ off) && decide (off < R.qmQCfg 4096) && own (s.qmOwner false ((off - R.qmQCfg 0) / 0x40))) ||
  (decide (R.qmCrBase 0 ≤ off) && decide (off < R.qmCrBase 1024) && own (s.qmOwner true ((off - R.qmCrBase 0) / 0x20)))

/-- A work queue of requester `r` may access offset `off`: a virtual function its own aliases only, PF7 what R16 lets it
write, and every function what its BAR0 holds. -/
def State.mayAccess (s : State) (r : Requester) (off : Nat) (write : Bool) : Bool :=
  let a := s.acting r
  if a.vfNum ≠ 0 then s.busReg r (off / 4 * 4) != .nothing
  else decide (off < 0x4000000) && (!write || !isMgmt a || mgmtMayWrite (blockOf off) || s.ownQm r off ||
    (decide (R.topUsbMg 0 ≤ off) && decide (off < R.topUsbMg 256)))

/-- The reason for which a work entry of queue `q` fails its check, 0 when it passes (R340). -/
def State.workReason (s : State) (q : Nat) (b : List Byte) : Nat :=
  let op := workOp b
  let off := workArg b
  let r : Requester := .wq q
  if !workClean b then 1
  else if 4 < op then 2
  else if (op = 1 ∨ op = 2 ∨ op = 3) ∧ !s.mayAccess r off (op != 2) then 3
  else if op = 4 ∧ !s.mayAccess r (R.tickAct 0) true then 3
  else if (op = 1 ∨ op = 2 ∨ op = 3) ∧ off % 4 ≠ 0 then 4
  else if op = 3 ∧ !(match s.busReg r off with | .reg k => isCommandReg k | _ => false) then 4
  else if op = 4 ∧ 4095 < off then 5
  else 0

/-! ### Issue -/

/-- The entry completes. -/
def State.workDone (s : State) (q : Nat) (e : Entry) (status info : Nat) : State :=
  (s.complete q e.idx (entryTag 3 e.bytes) status info).settleStop q

/-- The access of the entry would meet a stopped clock. -/
def State.workStopped (s : State) (q off : Nat) : Bool :=
  match s.busReg (.wq q) off with
  | .reg k => s.clockStopped k
  | .vfMod _ => s.clockStopped R.qmCmd
  | .nothing => false

/-- An entry of operation `op` of queue `q` issues: `f` is its effect, once it has its slot and passed its check. The oldest
cached entry of a RUN queue issues, a fenced one only when every earlier one has its completion (R339, R349, R353). One that fails
its check completes with CHECK whatever its operation. -/
def State.issue (s : State) (q op : Nat) (f : Entry → State → State) : State :=
  match s.oldestCached q with
  | none => s
  | some e =>
    let b := e.bytes
    let reason := s.workReason q b
    let first := e.idx == s.qHead q
    if s.qKind q ≠ 3 ∨ s.qState q ≠ QS.run ∨ s.inD3 (s.qOwner q) ∨ s.readFailed q ∨ !s.coreRuns then s
    else if reason = 0 ∧ workOp b ≠ op then s
    else if workClean b && workFence b && !first then s
    else if !s.canReserve (s.qRing q) 1 then s.stall (s.qRing q)
    else
      let e1 : Entry := { e with stage := .issued, slot := true }
      let s1 := (s.reserve (s.qRing q) 1).setEntry q e1
      if reason ≠ 0 then s1.workDone q e1 Code.check (reason * 2 ^ 32) else f e1 s1

/-- An access of entry `e` that meets a stopped clock completes with TIMEOUT (R340, R489). -/
def State.workTimeout (s : State) (q : Nat) (e : Entry) (info : Nat) : State :=
  let s1 := match s.busReg (.wq q) (workArg e.bytes) with
    | .reg k => s.csrTimeout k
    | _ => s.csrTimeout R.qmCmd
  s1.workDone q e Code.timeout info

/-- NOP: the entry completes with OK. -/
def execNop (qid : Nat) (s : State) : Answer := .next (s.issue qid 0 (fun e s => s.workDone qid e Code.ok 0))

/-- CSR_WRITE: a 32-bit register is written as the queue's function would write it. -/
def execCsrWrite (qid : Nat) (s : State) : Answer :=
  .next (s.issue qid 1 (fun e s =>
    if s.workStopped qid (workArg e.bytes) then s.workTimeout qid e 0
    else (s.busWrite (.wq qid) (workArg e.bytes) (workData e.bytes)).workDone qid e Code.ok 0))

/-- CSR_READ: the register's value goes into the completion. -/
def execCsrRead (qid : Nat) (s : State) : Answer :=
  .next (s.issue qid 2 (fun e s =>
    if s.workStopped qid (workArg e.bytes) then s.workTimeout qid e 0xFFFFFFFF
    else
      let x := s.busRead (.wq qid) (workArg e.bytes)
      x.2.workDone qid e Code.ok (match x.1 with | some v => v.toNat | none => 0)))

/-- CSR_CMD: the command register is written, and the entry completes with the RESULT of the command: at once, or when the
block has finished it. A write that issues no command completes with OK. -/
def execCsrCmd (qid : Nat) (s : State) : Answer :=
  .next (s.issue qid 3 (fun e s =>
    if s.workStopped qid (workArg e.bytes) then s.workTimeout qid e 0
    else
      let s1 : State := { s with csrWait := s.csrWait ++ [(issuing, qid, e.idx)] }
      ((s1.busWrite (.wq qid) (workArg e.bytes) (workData e.bytes)).answerCmds issuing Code.ok).settleStop qid))

/-- ACT_WRITE: words 0, 1 and 2 of a tick action entry are written, then word 3 (R78). -/
def execActWrite (qid : Nat) (s : State) : Answer :=
  .next (s.issue qid 4 (fun e s =>
    let a := R.tickAct (workArg e.bytes)
    if s.clockStopped a then (s.csrTimeout a).workDone qid e Code.timeout 0
    else
      (forEach (List.range 4) (fun w (x : State) => x.busWrite (.wq qid) (a + 4 * w) (workWord e.bytes w)) s).workDone qid e
        Code.ok 0))

end Sys2Proof.Machine
end

