-- ==== Sys2Proof/Machine/Dispatch.lean ====
section
/-! DEFINITION. One arm per command: the direct call of its meaning. -/

namespace Sys2Proof.Machine

/-- The effect of a command on everything but the queue. -/
def exec (i : Instr) (s : State) : Host.Outcome State Fault Refusal :=
  match i with
  | .landing ue work => Sys2Proof.Machine.execLanding ue work s
  | .rebuildDone ecc => Sys2Proof.Machine.execRebuildDone ecc s
  | .cutOff unverified => Sys2Proof.Machine.execCutOff unverified s
  | .shadowVerify k => Sys2Proof.Machine.execShadowVerify k s
  | .amendmentLoad ecc => Sys2Proof.Machine.execAmendmentLoad ecc s
  | .tickActionFire ix => Sys2Proof.Machine.execTickActionFire ix s
  | .tickActionArm req ix v => Sys2Proof.Machine.execTickActionArm req ix v s
  | .tickActionDisarm req ix w v => Sys2Proof.Machine.execTickActionDisarm req ix w v s
  | .stage req hall => Sys2Proof.Machine.execStage req hall s
  | .stagingDone data unplaced ecc => Sys2Proof.Machine.execStagingDone data unplaced ecc s
  | .commitAmend req hall => Sys2Proof.Machine.execCommitAmend req hall s
  | .commitReplan req hall => Sys2Proof.Machine.execCommitReplan req hall s
  | .planAbort req hall => Sys2Proof.Machine.execPlanAbort req hall s
  | .planCmdReserved req hall => Sys2Proof.Machine.execPlanCmdReserved req hall s
  | .tickFrameSend => Sys2Proof.Machine.execTickFrameSend s
  | .tickFrameReceive b => Sys2Proof.Machine.execTickFrameReceive b s
  | .statusFrameSend => Sys2Proof.Machine.execStatusFrameSend s
  | .statusFrameReceive d1 b => Sys2Proof.Machine.execStatusFrameReceive d1 b s
  | .ustorEdgeReceive sub => Sys2Proof.Machine.execUstorEdgeReceive sub s
  | .ustorEdgeMissing => Sys2Proof.Machine.execUstorEdgeMissing s
  | .ustorNoLock => Sys2Proof.Machine.execUstorNoLock s
  | .calPulseSend => Sys2Proof.Machine.execCalPulseSend s
  | .calPulseReturn d1 => Sys2Proof.Machine.execCalPulseReturn d1 s
  | .calPulseArrive trip => Sys2Proof.Machine.execCalPulseArrive trip s
  | .calPulseTimeout => Sys2Proof.Machine.execCalPulseTimeout s
  | .promote req => Sys2Proof.Machine.execPromote req s
  | .resync req => Sys2Proof.Machine.execResync req s
  | .recal req => Sys2Proof.Machine.execRecal req s
  | .tickCmdReserved req => Sys2Proof.Machine.execTickCmdReserved req s
  | .servoSample n x => Sys2Proof.Machine.execServoSample n x s
  | .referenceLoss n => Sys2Proof.Machine.execReferenceLoss n s
  | .announceTimeout n k => Sys2Proof.Machine.execAnnounceTimeout n k s
  | .accept req n => Sys2Proof.Machine.execAccept req n s
  | .tsuSet req n => Sys2Proof.Machine.execTsuSet req n s
  | .adjPhase req n => Sys2Proof.Machine.execAdjPhase req n s
  | .epochNext req n => Sys2Proof.Machine.execEpochNext req n s
  | .tsuCmdReserved req n => Sys2Proof.Machine.execTsuCmdReserved req n s
  | .adjFreqWrite req n v => Sys2Proof.Machine.execAdjFreqWrite req n v s
  | .timeReadCapture req n => Sys2Proof.Machine.execTimeReadCapture req n s
  | .ptpSyncReceive p x => Sys2Proof.Machine.execPtpSyncReceive p x s
  | .ptpAnnounceReceive p x => Sys2Proof.Machine.execPtpAnnounceReceive p x s
  | .pdelayReqReceive p x => Sys2Proof.Machine.execPdelayReqReceive p x s
  | .pdelayRespReceive p x => Sys2Proof.Machine.execPdelayRespReceive p x s
  | .delayRespReceive p x => Sys2Proof.Machine.execDelayRespReceive p x s
  | .ptpMessageSend n p => Sys2Proof.Machine.execPtpMessageSend n p s
  | .ppsInputEdge ix sub high edges => Sys2Proof.Machine.execPpsInputEdge ix sub high edges s
  | .ppsOutputEdge n => Sys2Proof.Machine.execPpsOutputEdge n s
  | .linkAligning p => Sys2Proof.Machine.execLinkAligning p s
  | .linkUp p start => Sys2Proof.Machine.execLinkUp p start s
  | .alignTimeout p => Sys2Proof.Machine.execAlignTimeout p s
  | .linkFault p st ns => Sys2Proof.Machine.execLinkFault p st ns s
  | .cdrLossTimeout p l => Sys2Proof.Machine.execCdrLossTimeout p l s
  | .retrain req p => Sys2Proof.Machine.execRetrain req p s
  | .prtCmdReserved req p => Sys2Proof.Machine.execPrtCmdReserved req p s
  | .frameReceive p x => Sys2Proof.Machine.execFrameReceive p x s
  | .rxFrameDeliver q => Sys2Proof.Machine.execRxFrameDeliver q s
  | .twinResetTimer sh => Sys2Proof.Machine.execTwinResetTimer sh s
  | .pathDown sh => Sys2Proof.Machine.execPathDown sh s
  | .nodeForget pair mac => Sys2Proof.Machine.execNodeForget pair mac s
  | .supervisionSend p => Sys2Proof.Machine.execSupervisionSend p s
  | .recovReset req sh => Sys2Proof.Machine.execRecovReset req sh s
  | .contain req sh => Sys2Proof.Machine.execContain req sh s
  | .strRelease req sh => Sys2Proof.Machine.execStrRelease req sh s
  | .strCmdReserved req sh => Sys2Proof.Machine.execStrCmdReserved req sh s
  | .strSelWrite req v => Sys2Proof.Machine.execStrSelWrite req v s
  | .verifyTimer p => Sys2Proof.Machine.execVerifyTimer p s
  | .treadStart p => Sys2Proof.Machine.execTreadStart p s
  | .mmHoldAssert p => Sys2Proof.Machine.execMmHoldAssert p s
  | .txSelect p => Sys2Proof.Machine.execTxSelect p s
  | .txLaunch p k ue => Sys2Proof.Machine.execTxLaunch p k ue s
  | .txEnd p ue => Sys2Proof.Machine.execTxEnd p ue s
  | .commitAt req p => Sys2Proof.Machine.execCommitAt req p s
  | .commitNext req p => Sys2Proof.Machine.execCommitNext req p s
  | .withdraw req p => Sys2Proof.Machine.execWithdraw req p s
  | .schCmdReserved req p => Sys2Proof.Machine.execSchCmdReserved req p s
  | .rdSelWrite req v => Sys2Proof.Machine.execRdSelWrite req v s
  | .setPathOfs req sh => Sys2Proof.Machine.execSetPathOfs req sh s
  | .setReorder req sh => Sys2Proof.Machine.execSetReorder req sh s
  | .przBreak req sh => Sys2Proof.Machine.execPrzBreak req sh s
  | .przInCmdReserved req sh => Sys2Proof.Machine.execPrzInCmdReserved req sh s
  | .inSelWrite req v => Sys2Proof.Machine.execInSelWrite req v s
  | .paneSeal g uncomputed slow => Sys2Proof.Machine.execPaneSeal g uncomputed slow s
  | .pgContain req g => Sys2Proof.Machine.execPgContain req g s
  | .pgRelease req g => Sys2Proof.Machine.execPgRelease req g s
  | .pgCmdReserved req g => Sys2Proof.Machine.execPgCmdReserved req g s
  | .txFetchDone q frame => Sys2Proof.Machine.execTxFetchDone q frame s
  | .loadPending req index => Sys2Proof.Machine.execLoadPending req index s
  | .templateLoadDone unit index bytes => Sys2Proof.Machine.execTemplateLoadDone unit index bytes s
  | .gcbCommit req index => Sys2Proof.Machine.execGcbCommit req index s
  | .gcbEnable req index => Sys2Proof.Machine.execGcbEnable req index s
  | .gcbDisable req index => Sys2Proof.Machine.execGcbDisable req index s
  | .txeCmdReserved req unit index => Sys2Proof.Machine.execTxeCmdReserved req unit index s
  | .gcbFrameDue ix => Sys2Proof.Machine.execGcbFrameDue ix s
  | .svpLoad req index => Sys2Proof.Machine.execSvpLoad req index s
  | .svpEnable req index => Sys2Proof.Machine.execSvpEnable req index s
  | .svpDisable req index => Sys2Proof.Machine.execSvpDisable req index s
  | .svpSlotRead n f values => Sys2Proof.Machine.execSvpSlotRead n f values s
  | .svpFrameReady n => Sys2Proof.Machine.execSvpFrameReady n s
  | .raWindowExpiry q ix => Sys2Proof.Machine.execRaWindowExpiry q ix s
  | .cancel req q v tag => Sys2Proof.Machine.execCancel req q v tag s
  | .tail req q v => Sys2Proof.Machine.execTail req q v s
  | .inval req q v tags => Sys2Proof.Machine.execInval req q v tags s
  | .crHead req q v => Sys2Proof.Machine.execCrHead req q v s
  | .crHeadWrite req r v => Sys2Proof.Machine.execCrHeadWrite req r v s
  | .descFetchDone q data => Sys2Proof.Machine.execDescFetchDone q data s
  | .nop qid => Sys2Proof.Machine.execNop qid s
  | .csrWrite qid => Sys2Proof.Machine.execCsrWrite qid s
  | .csrRead qid => Sys2Proof.Machine.execCsrRead qid s
  | .csrCmd qid => Sys2Proof.Machine.execCsrCmd qid s
  | .actWrite qid => Sys2Proof.Machine.execActWrite qid s
  | .qmEnable req ring index => Sys2Proof.Machine.execQmEnable req ring index s
  | .qmHold req ring index => Sys2Proof.Machine.execQmHold req ring index s
  | .qmRelease req ring index => Sys2Proof.Machine.execQmRelease req ring index s
  | .qmStop req ring index => Sys2Proof.Machine.execQmStop req ring index s
  | .resume req ring index => Sys2Proof.Machine.execResume req ring index s
  | .qmDisable req ring index => Sys2Proof.Machine.execQmDisable req ring index s
  | .resetIdx req ring index => Sys2Proof.Machine.execResetIdx req ring index s
  | .qmCmdReserved req ring index => Sys2Proof.Machine.execQmCmdReserved req ring index s
  | .queueStopped q => Sys2Proof.Machine.execQueueStopped q s
  | .functionLevelReset func vf => Sys2Proof.Machine.execFunctionLevelReset func vf s
  | .dmaEnable req c => Sys2Proof.Machine.execDmaEnable req c s
  | .dmaCommit req c => Sys2Proof.Machine.execDmaCommit req c s
  | .dmaStop req c => Sys2Proof.Machine.execDmaStop req c s
  | .dmaClear req c => Sys2Proof.Machine.execDmaClear req c s
  | .dmaDisable req c => Sys2Proof.Machine.execDmaDisable req c s
  | .dmaCmdReserved req c => Sys2Proof.Machine.execDmaCmdReserved req c s
  | .dmaDoorbell req c => Sys2Proof.Machine.execDmaDoorbell req c s
  | .dmaBurstIssue c => Sys2Proof.Machine.execDmaBurstIssue c s
  | .dmaReadDone c n data ecc => Sys2Proof.Machine.execDmaReadDone c n data ecc s
  | .dmaDescFetchDone c data => Sys2Proof.Machine.execDmaDescFetchDone c data s
  | .dmaWriteResponse c n err => Sys2Proof.Machine.execDmaWriteResponse c n err s
  | .dmaRunDeadline c => Sys2Proof.Machine.execDmaRunDeadline c s
  | .patrolScrub c find => Sys2Proof.Machine.execPatrolScrub c find s
  | .peerInAssert => Sys2Proof.Machine.execPeerInAssert s
  | .peerInDeassert => Sys2Proof.Machine.execPeerInDeassert s
  | .guardExpiry => Sys2Proof.Machine.execGuardExpiry s
  | .claimConfirm => Sys2Proof.Machine.execClaimConfirm s
  | .handover req => Sys2Proof.Machine.execHandover req s
  | .handoverTimeout => Sys2Proof.Machine.execHandoverTimeout s
  | .claim req => Sys2Proof.Machine.execClaim req s
  | .rdnRelease req => Sys2Proof.Machine.execRdnRelease req s
  | .rdnResync req => Sys2Proof.Machine.execRdnResync req s
  | .rdnCmdReserved req => Sys2Proof.Machine.execRdnCmdReserved req s
  | .heartbeatSend => Sys2Proof.Machine.execHeartbeatSend s
  | .heartbeatReceive p x => Sys2Proof.Machine.execHeartbeatReceive p x s
  | .epochSend => Sys2Proof.Machine.execEpochSend s
  | .epochData p x => Sys2Proof.Machine.execEpochData p x s
  | .epochTrailer p x => Sys2Proof.Machine.execEpochTrailer p x s
  | .kick req v => Sys2Proof.Machine.execKick req v s
  | .mgtWdog => Sys2Proof.Machine.execMgtWdog s
  | .fcrRelease req arg => Sys2Proof.Machine.execFcrRelease req arg s
  | .uncontain req arg => Sys2Proof.Machine.execUncontain req arg s
  | .fcrCmdReserved req arg => Sys2Proof.Machine.execFcrCmdReserved req arg s
  | .injWrite req k v real => Sys2Proof.Machine.execInjWrite req k v real s
  | .vectorFire fn v => Sys2Proof.Machine.execVectorFire fn v s
  | .msixUnmask fn v => Sys2Proof.Machine.execMsixUnmask fn v s
  | .flushMod req v => Sys2Proof.Machine.execFlushMod req v s
  | .powerOnReset straps => Sys2Proof.Machine.execPowerOnReset straps s
  | .warmReset cycles => Sys2Proof.Machine.execWarmReset cycles s
  | .linkReset h => Sys2Proof.Machine.execLinkReset h s
  | .fwCopyVerify => Sys2Proof.Machine.execFwCopyVerify s
  | .diceDerive => Sys2Proof.Machine.execDiceDerive s
  | .ddrTrain outcome => Sys2Proof.Machine.execDdrTrain outcome s
  | .fwStart unplaced ecc => Sys2Proof.Machine.execFwStart unplaced ecc s
  | .rollbackSet req => Sys2Proof.Machine.execRollbackSet req s
  | .revoke req => Sys2Proof.Machine.execRevoke req s
  | .keyWrite req => Sys2Proof.Machine.execKeyWrite req s
  | .secCmdReserved req => Sys2Proof.Machine.execSecCmdReserved req s
  | .getInfo r msg => Sys2Proof.Machine.execGetInfo r msg s
  | .getSensors r msg => Sys2Proof.Machine.execGetSensors r msg s
  | .getBoard r msg => Sys2Proof.Machine.execGetBoard r msg s
  | .setMgView r msg => Sys2Proof.Machine.execSetMgView r msg s
  | .clearMgView r msg => Sys2Proof.Machine.execClearMgView r msg s
  | .fwWrite r msg => Sys2Proof.Machine.execFwWrite r msg s
  | .fwVerify r msg => Sys2Proof.Machine.execFwVerify r msg s
  | .fwActivate r msg => Sys2Proof.Machine.execFwActivate r msg s
  | .fwLoad r msg => Sys2Proof.Machine.execFwLoad r msg s
  | .sysReset r msg => Sys2Proof.Machine.execSysReset r msg s
  | .planWrite r msg => Sys2Proof.Machine.execPlanWrite r msg s
  | .planSlotWrite r msg => Sys2Proof.Machine.execPlanSlotWrite r msg s
  | .getLog r msg => Sys2Proof.Machine.execGetLog r msg s
  | .setNet r msg => Sys2Proof.Machine.execSetNet r msg s
  | .getVersion smbus msg => Sys2Proof.Machine.execGetVersion smbus msg s
  | .getCapabilities smbus msg => Sys2Proof.Machine.execGetCapabilities smbus msg s
  | .negotiateAlgorithms smbus msg => Sys2Proof.Machine.execNegotiateAlgorithms smbus msg s
  | .getDigests smbus msg => Sys2Proof.Machine.execGetDigests smbus msg s
  | .getCertificate smbus msg => Sys2Proof.Machine.execGetCertificate smbus msg s
  | .challenge smbus msg => Sys2Proof.Machine.execChallenge smbus msg s
  | .getMeasurements smbus msg => Sys2Proof.Machine.execGetMeasurements smbus msg s
  | .setEndpointId smbus eid => Sys2Proof.Machine.execSetEndpointId smbus eid s
  | .mgtPortReceive b => Sys2Proof.Machine.execMgtPortReceive b s
  | .restart req => Sys2Proof.Machine.execRestart req s
  | .mgtCmdReserved req => Sys2Proof.Machine.execMgtCmdReserved req s
  | .mgtFwFault sram => Sys2Proof.Machine.execMgtFwFault sram s
  | .sensorSample temps rails amps => Sys2Proof.Machine.execSensorSample temps rails amps s
  | .mgViewWrite req u v => Sys2Proof.Machine.execMgViewWrite req u v s
  | .pllUnlock ix => Sys2Proof.Machine.execPllUnlock ix s
  | .pllRestart ix ns => Sys2Proof.Machine.execPllRestart ix ns s
  | .sysoscLoss => Sys2Proof.Machine.execSysoscLoss s
  | .sysclkRestore => Sys2Proof.Machine.execSysclkRestore s
  | .refclkLoss g => Sys2Proof.Machine.execRefclkLoss g s
  | .refclkRestore g => Sys2Proof.Machine.execRefclkRestore g s
  | .csrTimeout req off write => Sys2Proof.Machine.execCsrTimeout req off write s
  | .powerWake u => Sys2Proof.Machine.execPowerWake u s
  | .l1Entry h exit => Sys2Proof.Machine.execL1Entry h exit s
  | .l1Exit h => Sys2Proof.Machine.execL1Exit h s
  | .ltrSend h => Sys2Proof.Machine.execLtrSend h s
  | .d3hotEntry func pmeEn => Sys2Proof.Machine.execD3hotEntry func pmeEn s
  | .d0Return func pmeEn clear => Sys2Proof.Machine.execD0Return func pmeEn clear s
  | .pmeResend func => Sys2Proof.Machine.execPmeResend func s
  | .rcRead req off size bar => Sys2Proof.Machine.execRcRead req off size bar s
  | .wideLowRead req off size => Sys2Proof.Machine.execWideLowRead req off size s
  | .wideLowWrite req off v => Sys2Proof.Machine.execWideLowWrite req off v s
  | .wideHighWrite req off v => Sys2Proof.Machine.execWideHighWrite req off v s
  | .registerWrite req off size be v bar => Sys2Proof.Machine.execRegisterWrite req off size be v bar s
  | .slewComplete n => Sys2Proof.Machine.execSlewComplete n s
  | .pcieLinkUp h => Sys2Proof.Machine.execPcieLinkUp h s
  | .pcieLinkLost h => Sys2Proof.Machine.execPcieLinkLost h s
  | .porstAssert cycles => Sys2Proof.Machine.execPorstAssert cycles s
  | .mgtRestartDone => Sys2Proof.Machine.execMgtRestartDone s

end Sys2Proof.Machine
end

