-- ==== Sys2Proof/Machine/Idle.lean ====
section
/-! DEFINITION. What the device does when no command waits (log entry 1). -/

namespace Sys2Proof.Machine

/-- A SYS_RESET that was asked for falls due (R473). -/
def State.resetDue (s : State) : Bool :=
  match s.boot.resetAt with
  | some t => decide (t ≤ s.clock)
  | none => false

/-- Without a command one TIME edge passes, unless a landing is due; a SYS_RESET that falls due is made. -/
def State.idle (s : State) : State :=
  if s.resetDue then s.warmReset
  else if s.landingDue then s
  else s.edges 1

end Sys2Proof.Machine
end

