-- ==== Sys2Proof/WellFormed.lean ====
section
/-! DEFINITION. Which commands are well formed: every number names something the device has or the register field it stands
for can hold. A command that is not well formed is none of the command table's. -/

namespace Sys2Proof

/-- Port 0 to 127. -/
def portOk (n : Nat) : Bool := decide (n < 128)

/-- Lane 0 to 127. -/
def laneOk (n : Nat) : Bool := decide (n < 128)

/-- Gallery 0 to 7. -/
def galleryOk (n : Nat) : Bool := decide (n < 8)

/-- Time base 0 to 7. -/
def tbOk (n : Nat) : Bool := decide (n < 8)

/-- Queue 0 to 4,095. -/
def queueOk (n : Nat) : Bool := decide (n < 4096)

/-- Completion ring 0 to 1,023. -/
def ringOk (n : Nat) : Bool := decide (n < 1024)

/-- A 12-bit INDEX: GCB 0 to 4,095. -/
def gcbOk (n : Nat) : Bool := decide (n < 4096)

/-- SV publisher 0 to 63. -/
def svpOk (n : Nat) : Bool := decide (n < 64)

/-- DMA channel 0 to 255. -/
def dmaOk (n : Nat) : Bool := decide (n < 256)

/-- Pane group 0 to 255. -/
def paneGroupOk (n : Nat) : Bool := decide (n < 256)

/-- DDR4 channel 0 to 15. -/
def channelOk (n : Nat) : Bool := decide (n < 16)

/-- A 16-bit number: handle, index, TAG, ARG. -/
def handleOk (n : Nat) : Bool := decide (n < 65536)

/-- A ring index 0 to 65,535. -/
def indexOk (n : Nat) : Bool := decide (n < 65536)

/-- Tick action entry 0 to 4,095. -/
def entryOk (n : Nat) : Bool := decide (n < 4096)

/-- One of the first three words of an entry. -/
def wordOk (n : Nat) : Bool := decide (n < 3)

/-- Fault group 0 to 19. -/
def groupOk (n : Nat) : Bool := decide (n < 20)

/-- Unit state board entry 0 to 255. -/
def boardOk (n : Nat) : Bool := decide (n < 256)

/-- One of two: host link, PPS input, kind of unit. -/
def pairOk (n : Nat) : Bool := decide (n < 2)

/-- PLL 0 to 3. -/
def pllOk (n : Nat) : Bool := decide (n < 4)

/-- 80 ps steps after a TIME edge, 0 to 9. -/
def subOk (n : Nat) : Bool := decide (n < 10)

/-- PF0, PF1 or PF7. -/
def funcOk (n : Nat) : Bool := n == 0 || n == 1 || n == 7

/-- Virtual function 1 to 128, or 0 for the physical one. -/
def vfOk (n : Nat) : Bool := decide (n < 129)

/-- MSI-X vector 0 to 2,047. -/
def vectorOk (n : Nat) : Bool := decide (n < 2048)

/-- An octet. -/
def octetOk (n : Nat) : Bool := decide (n < 256)

/-- A 4-bit field. -/
def nibbleOk (n : Nat) : Bool := decide (n < 16)

/-- The straps field, seven bits. -/
def strapsOk (n : Nat) : Bool := decide (n < 128)

/-- The five line status bits of a port. -/
def faultBitsOk (n : Nat) : Bool := decide (n < 32)

/-- A MAC address. -/
def macOk (n : Nat) : Bool := decide (n < 2 ^ 48)

/-- The size of a request in octets. -/
def sizeOk (n : Nat) : Bool := decide (0 < n)

/-- A requester the device has. -/
def Requester.wf : Requester → Bool
  | .vf _ n => decide (0 < n) && vfOk n
  | .wq q => queueOk q
  | .pf0 | .pf1 | .pf7 _ | .mgmt => true

/-- The TAGs a BAR2 access comes with. -/
def Bar.wf : Bar → Bool
  | .bar2 tags => tags.all handleOk
  | .bar0 | .bar4 => true

/-- A swap of a unit the device has. -/
def SwapKind.wf : SwapKind → Bool
  | .bank p => portOk p
  | .dmaSet c => dmaOk c
  | .epoch n => tbOk n

/-- A road of management requests the device has. -/
def Road.wf : Road → Bool
  | .mailbox m => decide (m < 3)
  | .mctp _ => true
  | .sgmii h => h.length == 42

/-- The command is well formed. -/
def Instr.wf : Instr → Bool
  | .landing _ _ => true
  | .rebuildDone _ => true
  | .cutOff unverified => unverified.all SwapKind.wf
  | .shadowVerify k => k.wf
  | .amendmentLoad _ => true
  | .tickActionFire i => entryOk i
  | .tickActionArm req i _ => req.wf && entryOk i
  | .tickActionDisarm req i w _ => req.wf && entryOk i && wordOk w
  | .stage req _ => req.wf
  | .stagingDone _ _ _ => true
  | .commitAmend req _ => req.wf
  | .commitReplan req _ => req.wf
  | .planAbort req _ => req.wf
  | .planCmdReserved req _ => req.wf
  | .tickFrameSend => true
  | .tickFrameReceive _ => true
  | .statusFrameSend => true
  | .statusFrameReceive _ _ => true
  | .ustorEdgeReceive sub => subOk sub
  | .ustorEdgeMissing => true
  | .ustorNoLock => true
  | .calPulseSend => true
  | .calPulseReturn _ => true
  | .calPulseArrive _ => true
  | .calPulseTimeout => true
  | .promote req => req.wf
  | .resync req => req.wf
  | .recal req => req.wf
  | .tickCmdReserved req => req.wf
  | .servoSample n _ => tbOk n
  | .referenceLoss n => tbOk n
  | .announceTimeout n _ => tbOk n
  | .accept req n => req.wf && tbOk n
  | .tsuSet req n => req.wf && tbOk n
  | .adjPhase req n => req.wf && tbOk n
  | .epochNext req n => req.wf && tbOk n
  | .tsuCmdReserved req n => req.wf && tbOk n
  | .adjFreqWrite req n _ => req.wf && tbOk n
  | .timeReadCapture req n => req.wf && tbOk n
  | .ptpSyncReceive p _ => portOk p
  | .ptpAnnounceReceive p _ => portOk p
  | .pdelayReqReceive p _ => portOk p
  | .pdelayRespReceive p _ => portOk p
  | .delayRespReceive p _ => portOk p
  | .ptpMessageSend n p => tbOk n && portOk p
  | .ppsInputEdge i sub _ _ => pairOk i && subOk sub
  | .ppsOutputEdge n => tbOk n
  | .linkAligning p => portOk p
  | .linkUp p _ => portOk p
  | .alignTimeout p => portOk p
  | .linkFault p st _ => portOk p && faultBitsOk st
  | .cdrLossTimeout p l => portOk p && laneOk l
  | .retrain req p => req.wf && portOk p
  | .prtCmdReserved req p => req.wf && portOk p
  | .frameReceive p _ => portOk p
  | .rxFrameDeliver q => queueOk q
  | .twinResetTimer sh => handleOk sh
  | .pathDown sh => handleOk sh
  | .nodeForget pair mac => portOk pair && macOk mac
  | .supervisionSend p => portOk p
  | .recovReset req sh => req.wf && handleOk sh
  | .contain req sh => req.wf && handleOk sh
  | .strRelease req sh => req.wf && handleOk sh
  | .strCmdReserved req sh => req.wf && handleOk sh
  | .strSelWrite req _ => req.wf
  | .verifyTimer p => portOk p
  | .treadStart p => portOk p
  | .mmHoldAssert p => portOk p
  | .txSelect p => portOk p
  | .txLaunch p _ _ => portOk p
  | .txEnd p _ => portOk p
  | .commitAt req p => req.wf && portOk p
  | .commitNext req p => req.wf && portOk p
  | .withdraw req p => req.wf && portOk p
  | .schCmdReserved req p => req.wf && portOk p
  | .rdSelWrite req _ => req.wf
  | .setPathOfs req sh => req.wf && handleOk sh
  | .setReorder req sh => req.wf && handleOk sh
  | .przBreak req sh => req.wf && handleOk sh
  | .przInCmdReserved req sh => req.wf && handleOk sh
  | .inSelWrite req _ => req.wf
  | .paneSeal g _ _ => paneGroupOk g
  | .pgContain req g => req.wf && paneGroupOk g
  | .pgRelease req g => req.wf && paneGroupOk g
  | .pgCmdReserved req g => req.wf && paneGroupOk g
  | .txFetchDone q _ => queueOk q
  | .loadPending req index => req.wf && gcbOk index
  | .templateLoadDone unit index _ => pairOk unit && gcbOk index
  | .gcbCommit req index => req.wf && gcbOk index
  | .gcbEnable req index => req.wf && gcbOk index
  | .gcbDisable req index => req.wf && gcbOk index
  | .txeCmdReserved req unit index => req.wf && nibbleOk unit && gcbOk index
  | .gcbFrameDue i => gcbOk i
  | .svpLoad req index => req.wf && gcbOk index
  | .svpEnable req index => req.wf && gcbOk index
  | .svpDisable req index => req.wf && gcbOk index
  | .svpSlotRead n _ _ => svpOk n
  | .svpFrameReady n => svpOk n
  | .raWindowExpiry q i => queueOk q && indexOk i
  | .cancel req q _ tag => req.wf && queueOk q && handleOk tag
  | .tail req q _ => req.wf && queueOk q
  | .inval req q _ tags => req.wf && queueOk q && tags.all handleOk
  | .crHead req q _ => req.wf && queueOk q
  | .crHeadWrite req r _ => req.wf && ringOk r
  | .descFetchDone q _ => queueOk q
  | .nop qid => queueOk qid
  | .csrWrite qid => queueOk qid
  | .csrRead qid => queueOk qid
  | .csrCmd qid => queueOk qid
  | .actWrite qid => queueOk qid
  | .qmEnable req _ index => req.wf && handleOk index
  | .qmHold req _ index => req.wf && handleOk index
  | .qmRelease req _ index => req.wf && handleOk index
  | .qmStop req _ index => req.wf && handleOk index
  | .resume req _ index => req.wf && handleOk index
  | .qmDisable req _ index => req.wf && handleOk index
  | .resetIdx req _ index => req.wf && handleOk index
  | .qmCmdReserved req _ index => req.wf && handleOk index
  | .queueStopped q => queueOk q
  | .functionLevelReset func vf => funcOk func && vfOk vf
  | .dmaEnable req c => req.wf && dmaOk c
  | .dmaCommit req c => req.wf && dmaOk c
  | .dmaStop req c => req.wf && dmaOk c
  | .dmaClear req c => req.wf && dmaOk c
  | .dmaDisable req c => req.wf && dmaOk c
  | .dmaCmdReserved req c => req.wf && dmaOk c
  | .dmaDoorbell req c => req.wf && dmaOk c
  | .dmaBurstIssue c => dmaOk c
  | .dmaReadDone c _ _ _ => dmaOk c
  | .dmaDescFetchDone c _ => dmaOk c
  | .dmaWriteResponse c _ _ => dmaOk c
  | .dmaRunDeadline c => dmaOk c
  | .patrolScrub c _ => channelOk c
  | .peerInAssert => true
  | .peerInDeassert => true
  | .guardExpiry => true
  | .claimConfirm => true
  | .handover req => req.wf
  | .handoverTimeout => true
  | .claim req => req.wf
  | .rdnRelease req => req.wf
  | .rdnResync req => req.wf
  | .rdnCmdReserved req => req.wf
  | .heartbeatSend => true
  | .heartbeatReceive p _ => portOk p
  | .epochSend => true
  | .epochData p _ => portOk p
  | .epochTrailer p _ => portOk p
  | .kick req _ => req.wf
  | .mgtWdog => true
  | .fcrRelease req arg => req.wf && handleOk arg
  | .uncontain req arg => req.wf && handleOk arg
  | .fcrCmdReserved req arg => req.wf && handleOk arg
  | .injWrite req k _ _ => req.wf && groupOk k
  | .vectorFire fn v => fn.wf && vectorOk v
  | .msixUnmask fn v => fn.wf && (v.all vectorOk)
  | .flushMod req _ => req.wf
  | .powerOnReset straps => strapsOk straps
  | .warmReset _ => true
  | .linkReset h => pairOk h
  | .fwCopyVerify => true
  | .diceDerive => true
  | .ddrTrain _ => true
  | .fwStart _ _ => true
  | .rollbackSet req => req.wf
  | .revoke req => req.wf
  | .keyWrite req => req.wf
  | .secCmdReserved req => req.wf
  | .getInfo r _ => r.wf
  | .getSensors r _ => r.wf
  | .getBoard r _ => r.wf
  | .setMgView r _ => r.wf
  | .clearMgView r _ => r.wf
  | .fwWrite r _ => r.wf
  | .fwVerify r _ => r.wf
  | .fwActivate r _ => r.wf
  | .fwLoad r _ => r.wf
  | .sysReset r _ => r.wf
  | .planWrite r _ => r.wf
  | .planSlotWrite r _ => r.wf
  | .getLog r _ => r.wf
  | .setNet r _ => r.wf
  | .getVersion _ _ => true
  | .getCapabilities _ _ => true
  | .negotiateAlgorithms _ _ => true
  | .getDigests _ _ => true
  | .getCertificate _ _ => true
  | .challenge _ _ => true
  | .getMeasurements _ _ => true
  | .setEndpointId _ eid => octetOk eid
  | .mgtPortReceive _ => true
  | .restart req => req.wf
  | .mgtCmdReserved req => req.wf
  | .mgtFwFault _ => true
  | .sensorSample _ _ _ => true
  | .mgViewWrite req u _ => req.wf && boardOk u
  | .pllUnlock i => pllOk i
  | .pllRestart i _ => pllOk i
  | .sysoscLoss => true
  | .sysclkRestore => true
  | .refclkLoss g => galleryOk g
  | .refclkRestore g => galleryOk g
  | .csrTimeout req _ _ => req.wf
  | .powerWake u => boardOk u
  | .l1Entry h _ => pairOk h
  | .l1Exit h => pairOk h
  | .ltrSend h => pairOk h
  | .d3hotEntry func _ => funcOk func
  | .d0Return func _ _ => funcOk func
  | .pmeResend func => funcOk func
  | .rcRead req _ size bar => req.wf && sizeOk size && bar.wf
  | .wideLowRead req _ size => req.wf && sizeOk size
  | .wideLowWrite req _ _ => req.wf
  | .wideHighWrite req _ _ => req.wf
  | .registerWrite req _ size _ _ bar => req.wf && sizeOk size && bar.wf
  | .slewComplete n => tbOk n
  | .pcieLinkUp h => pairOk h
  | .pcieLinkLost h => pairOk h
  | .porstAssert _ => true
  | .mgtRestartDone => true

end Sys2Proof
end

