-- ==== Sys2Proof/Safety.lean ====
section
/-! DEFINITION. What claims call a safe state, a write that reaches its register, and a command written to a register. -/

namespace Sys2Proof.Machine

/-- DDR4 is in its canonical form. -/
def Memory.wf (m : Tab Byte) : Bool := Tab.wf memInit m

/-- The registers are in their canonical form. -/
def Registers.wf (r : Tab Reg) : Bool := Tab.wf regReset r

/-- No work entry is in the middle of issuing a command (R339): true between any two commands. -/
def State.quiet (s : State) : Bool := s.csrWait.all (fun w => w.1 != issuing)

/-- A safe state: registers and DDR4 in canonical form, so that equal contents are equal data, and no work entry left in the
middle of its issue. -/
def Sound (s : State) : Prop := Registers.wf s.regs = true ∧ Memory.wf s.mem = true ∧ s.quiet = true

/-- A write of register `k` by `r` reaches it: the firmware runs (R456), the register's clock runs (R489), `r` is no virtual
function (R358), and the management plane writes in its own blocks only (R16). -/
def Reaches (s : State) (r : Requester) (k : Nat) : Prop :=
  6 ≤ s.boot.stage ∧ s.clockStopped k = false ∧ (s.acting r).vfNum = 0 ∧
  (isMgmt (s.acting r) = true → mgmtMayWrite (blockOf k) = true)

/-- Register `k` has no behaviour of its own when it is written: its types (R4) alone say what a write leaves. -/
def plainReg (k : Nat) : Bool :=
  !(k == R.qmCmd || (decide (R.qmQCfg 0 ≤ k) && decide (k < R.qmCrBase 1024)) || isCommandReg k ||
    (actingWrite .pf0 k 0).isSome || (elemAt (R.mgtMbDb 0) 0x10 3 0 k).isSome || k == R.secArg ||
    (decide (R.secKeyStage ≤ k) && decide (k < R.secKeyStage + 48)))

/-- The register a command is written to, and who writes it, for the commands that pass the gate of BAR0. -/
def commandReg : Instr → Option (Requester × Nat)
  | .tickActionArm r i _ => some (r, R.tickAct i)
  | .tickActionDisarm r i _ _ => some (r, R.tickAct i)
  | .stage r _ | .commitAmend r _ | .commitReplan r _ | .planAbort r _ | .planCmdReserved r _ => some (r, R.planCtl)
  | .promote r | .resync r | .recal r | .tickCmdReserved r => some (r, R.tickCtl)
  | .accept r n | .tsuSet r n | .adjPhase r n | .epochNext r n | .tsuCmdReserved r n => some (r, R.tsuTbCtl n)
  | .adjFreqWrite r n _ => some (r, R.tsuTbAdjFreq n)
  | .retrain r p => some (r, R.prtPCtl p)
  | .prtCmdReserved r p => some (r, R.prtPCtl p)
  | .recovReset r _ | .contain r _ | .strRelease r _ | .strCmdReserved r _ => some (r, R.strCmd)
  | .strSelWrite r _ => some (r, R.strSel)
  | .commitAt r p | .commitNext r p | .withdraw r p | .schCmdReserved r p => some (r, R.schPCtl p)
  | .rdSelWrite r _ => some (r, R.schRdSel)
  | .setPathOfs r _ | .setReorder r _ | .przBreak r _ | .przInCmdReserved r _ => some (r, R.przInCmd)
  | .inSelWrite r _ => some (r, R.przInSel)
  | .pgContain r _ | .pgRelease r _ | .pgCmdReserved r _ => some (r, R.przPgCmd)
  | .loadPending r _ | .gcbCommit r _ | .gcbEnable r _ | .gcbDisable r _ | .svpLoad r _ | .svpEnable r _ | .svpDisable r _ =>
    some (r, R.txeCmd)
  | .txeCmdReserved r _ _ => some (r, R.txeCmd)
  | .dmaEnable r c | .dmaCommit r c | .dmaStop r c | .dmaClear r c | .dmaDisable r c | .dmaCmdReserved r c =>
    some (r, R.dmaChCtl c)
  | .dmaDoorbell r c => some (r, R.dmaChDb c)
  | .handover r | .claim r | .rdnRelease r | .rdnResync r | .rdnCmdReserved r => some (r, R.rdnCtl)
  | .kick r _ => some (r, R.mgtWdog)
  | .fcrRelease r _ | .uncontain r _ | .fcrCmdReserved r _ => some (r, R.fcrCtl)
  | .flushMod r _ => some (r, R.pwrFlushMod)
  | .rollbackSet r | .revoke r | .keyWrite r | .secCmdReserved r => some (r, R.secCmd)
  | .restart r | .mgtCmdReserved r => some (r, R.mgtCtl)
  | _ => none

/-- The commands that may store to DDR4: those that move data there, those that can end in a landing, a sample or a trigger on their way,
the restarts and resets, what the management processor takes and writes there, and the writes of any register. -/
def mayWriteDdr : Instr → Bool
  | .paneSeal .. | .dmaBurstIssue .. | .dmaReadDone .. | .tickActionArm .. | .tickActionFire .. | .planAbort ..
  | .twinResetTimer .. | .pathDown .. | .accept ..
  | .tsuSet .. | .adjPhase .. | .epochNext .. | .tsuCmdReserved .. | .servoSample .. | .ppsInputEdge ..
  | .frameReceive .. | .ptpSyncReceive .. | .ptpAnnounceReceive .. | .pdelayReqReceive .. | .pdelayRespReceive ..
  | .delayRespReceive .. | .heartbeatReceive .. | .epochData .. | .epochTrailer .. | .stagingDone .. | .landing ..
  | .pllRestart .. | .porstAssert .. | .powerOnReset .. | .warmReset .. | .fwStart .. | .getInfo ..
  | .getSensors .. | .getBoard .. | .setMgView .. | .clearMgView .. | .fwWrite .. | .fwVerify .. | .fwActivate ..
  | .fwLoad .. | .sysReset .. | .planWrite .. | .planSlotWrite .. | .getLog .. | .setNet .. | .mgtPortReceive ..
  | .sensorSample .. | .registerWrite .. | .wideLowWrite .. | .wideHighWrite .. | .csrWrite .. | .csrCmd ..
  | .actWrite .. => true
  | _ => false

end Sys2Proof.Machine
end

