-- ==== Sys2Proof/Certificates/Slice0/Obligations.lean ====
section
/-! DEFINITION. The statements about the device. -/

open Sys2Proof Sys2Proof.Machine

/-- With a command at the front of the queue, a step is that command's effect on the state with the queue's rest. -/
def Obligations.StepRunsFrontCommand : Prop :=
  ∀ (s : State) (c : Instr) (rest : List Instr), s.pending = c :: rest →
    step s = exec c { s with pending := rest }

/-- With no command waiting a step is one TIME edge: the local TIME count advances by 0.8 ns, in units of 2^-48 ns, while
the TIME domain has its clock. A landing that is due holds time, and a SYS_RESET that falls due is made. This is the model's
choice (log entry 1). -/
def Obligations.EmptyQueueLetsTimePass : Prop :=
  ∀ s : State, s.pending = [] →
    (s.resetDue = true → step s = .next s.warmReset) ∧
    (s.resetDue = false → s.landingDue = true → step s = .next s) ∧
    (s.resetDue = false → s.landingDue = false → ∃ t, step s = .next t ∧
      t.clock = s.clock + (if s.pwr.stopped.contains 2 then 0 else 225179981368525) ∧ t.mem = s.mem ∧ t.pending = [] ∧
      t.plan = s.plan ∧ t.out = s.out)

/-- Every command completes: exec answers a next state for every state and operands, leaves the waiting commands alone,
takes back nothing that has left the device, and unless it is one of the commands that move data to DDR4 or write any
register, every octet of DDR4 reads as before. -/
def Obligations.EveryCommandCompletes : Prop :=
  ∀ (c : Instr) (s : State), ∃ t, exec c s = .next t ∧ t.pending = s.pending ∧ (∃ l, t.out = l ++ s.out) ∧
    (mayWriteDdr c = false → ∀ a, t.memGet a = s.memGet a)

/-- Every step keeps a safe state safe: registers and DDR4 stay in canonical form, and no work entry is left in the middle
of its issue. -/
def Obligations.StepKeepsTheStateSafe : Prop :=
  ∀ s t : State, Sound s → step s = .next t → Sound t

/-- The reset state is safe. -/
def Obligations.ResetIsSafe : Prop :=
Sound State.reset

/-- What the release of PORST_N leaves (R1, R52, R110): the part numbers of TOP.ID, the plan state NONE, every port
DISABLED, the tick not running, every board entry ABSENT, and the eight time bases in FREE from count 0 with FREQ 0. Empty
DDR4 is the model's choice (log entry 5), an empty queue the model's own. -/
def Obligations.ResetLeavesTheStatedValues : Prop :=
  State.reset.getF R.topId 15 0 = 0x1280 ∧ State.reset.getF R.topId 23 20 = 0xB ∧ State.reset.getF R.topId 19 16 = 0 ∧
  State.reset.getF R.planStatus 3 0 = 0 ∧ State.reset.running = false ∧ State.reset.now = 0 ∧
  (∀ p, p < 128 → State.reset.link p = 0) ∧
  (∀ u, u < 256 → State.reset.eff u = 0 ∧ State.reset.dpView u = 0) ∧
  (∀ n, n < 8 → State.reset.tbState n = 1 ∧ (State.reset.tb n).count = 0 ∧ State.reset.freq n = 0 ∧
    (State.reset.tb n).slewRem = 0) ∧
  State.reset.mem = [] ∧ State.reset.pending = []

/-- A register reads what was written last, and a write of one register changes no other register and no octet of DDR4.
Octets written to DDR4 read back, every other octet stays, and no register changes. -/
def Obligations.StorageReadsBack : Prop :=
  (∀ (s : State) (k : Nat) (v : Reg), Sound s →
    (s.wr k v).rd k = v ∧ (∀ j, j ≠ k → (s.wr k v).rd j = s.rd j) ∧ (∀ a, (s.wr k v).memGet a = s.memGet a) ∧
    Sound (s.wr k v)) ∧
  (∀ (s : State) (a : Nat) (l : List Byte), Sound s →
    (s.memWrite a l).memRead a l.length = l ∧
    (∀ b, b < a ∨ a + l.length ≤ b → (s.memWrite a l).memGet b = s.memGet b) ∧
    (∀ k, (s.memWrite a l).rd k = s.rd k) ∧ Sound (s.memWrite a l))

/-- A field of a register reads what was written to it, cut to its width, and every other field of the register stays. -/
def Obligations.RegisterFieldsAreIndependent : Prop :=
  ∀ (r : Reg) (hi lo v hi' lo' : Nat), lo ≤ hi → hi < 32 → lo' ≤ hi' → hi' < 32 →
    fld (withFld r hi lo v) hi lo = v % 2 ^ (hi + 1 - lo) ∧
    (hi' < lo ∨ hi < lo' → fld (withFld r hi lo v) hi' lo' = fld r hi' lo')

/-- Reads (R4, R6, R28, R172, R332, R449, R487, R489, R522, R523) of any BAR. A read of 4 octets answers one word, of 8 two,
the lower first, of any other size or alignment Unsupported Request. In BAR0 a word beyond the BAR answers so too, as does
every word of a register that nothing serves before the firmware runs; one that meets a stopped clock raises CSR_TIMEOUT and
reads all ones; one of no register reads 0; and a register answers its value, waking the unit it addresses, and clears when
it is of type RC, the first word of a wide register latching the others, which later reads answer. A doorbell page of BAR2
reads 0; BAR4 answers the MSI-X table and its pending bits. Writes (R3, R4, R5, R59, R74, R371, R419, R431, R487, R488,
R489, R522, R523). A write of 4 octets writes one word, of 8 two, the lower first; one under partial byte enables, of
another size or alignment, or beyond its BAR0, writes nothing. What is no register takes none; the low words of a wide
register are held for the requester; the last word applies the whole value without reserved bits, and a plain register takes
its RW bits and loses the RW1C bits written as 1 but those set at that instant, at once or at the next landing. A write that
another owner bars is dropped, counted where the rule names a counter. A stopped clock drops it with CSR_TIMEOUT. -/
def Obligations.RegisterAccessesFollowTheirTypes : Prop :=
  (∀ (s : State) (req : Requester) (off : Nat),
    (∀ size, ∀ c ∈ [Instr.rcRead req off size .bar0, .wideLowRead req off size],
      (size = 4 → off % 4 = 0 → exec c s = .next (s.readOne req off)) ∧
      (size = 8 → off % 8 = 0 → exec c s = .next ((s.readOne req off).readOne req (off + 4))) ∧
      ((size ≠ 4 ∨ off % 4 ≠ 0) → (size ≠ 8 ∨ off % 8 ≠ 0) → exec c s = .next (s.answer req none))) ∧
    (∀ size tags, ∀ p ∈ [(Bar.bar4, s.bar4Word req), (.bar2 tags, s.bar2Word req)],
      (size = 4 → off % 4 = 0 → exec (.rcRead req off size p.1) s = .next (s.answer req (p.2 off))) ∧
      (size = 8 → off % 8 = 0 → exec (.rcRead req off size p.1) s =
        .next ((s.answer req (p.2 off)).answer req (p.2 (off + 4)))) ∧
      ((size ≠ 4 ∨ off % 4 ≠ 0) → (size ≠ 8 ∨ off % 8 ≠ 0) → exec (.rcRead req off size p.1) s = .next (s.answer req none))) ∧
    (off < s.bar2Size req → 6 ≤ s.boot.stage → s.bar2Word req off = some 0) ∧
    (s.barSize req ≤ off → s.readOne req off = s.answer req none) ∧
    (off < s.barSize req → off % 4 = 0 →
      (s.busReg req off = .nothing → 6 ≤ s.boot.stage → s.readOne req off = s.answer req (some 0)) ∧
      (∀ k, s.busReg req off = .reg k →
        (s.boot.stage < 6 → s.romServes req k = false → s.readOne req off = s.answer req none) ∧
        (6 ≤ s.boot.stage ∨ s.romServes req k = true →
          (s.clockStopped k = true →
            s.readOne req off = (s.raise (Src.csrTimeout (blockOf k)) []).answer req (some 0xFFFFFFFF)) ∧
          (∀ d w u, s.clockStopped k = false → findReg regTable k = some (d, w) → u = s.wakeReg k →
            (d.wide = false → d.rc = true → s.readOne req off = (u.wr k 0).answer req (some (u.regView k))) ∧
            (d.wide = false → d.rc = false → s.readOne req off = u.answer req (some (u.regView k))) ∧
            (∀ t, d.wide = true → w = 0 → t = u.setWide { u.wideOf req with
                latchReg := some k, latched := (List.range (d.words - 1)).map (fun i => u.regView (k + 4 * (i + 1))) } →
              s.readOne req off = State.answer
                (if d.rc = true then t.wrWords k (List.replicate d.words 0) else t) req (some (u.regView k))) ∧
            (d.wide = true → 0 < w → (u.wideOf req).latchReg = some (k - 4 * w) →
              s.readOne req off = u.answer req (some ((u.wideOf req).latched.getD (w - 1) 0)))))))) ∧
  (∀ (s : State) (req : Requester) (off : Nat) (v : Reg),
    (∀ (bar : Bar) size (be : Bool) (x : BitVec 64),
      (be = false ∨ ((size ≠ 4 ∨ off % 4 ≠ 0) ∧ (size ≠ 8 ∨ off % 8 ≠ 0)) → exec (.registerWrite req off size be x bar) s = .next s) ∧
      (size = 4 → off % 4 = 0 → be = true → exec (.registerWrite req off size be x bar) s =
        .next (s.barWrite req bar off (x.setWidth 32))) ∧
      (size = 8 → off % 8 = 0 → be = true → exec (.registerWrite req off size be x bar) s =
        .next ((s.barWrite req bar off (x.setWidth 32)).barWrite req bar (off + 4) ((x >>> 32).setWidth 32)))) ∧
    exec (.wideLowWrite req off v) s = .next (s.barWrite req .bar0 off v) ∧
    exec (.wideHighWrite req off v) s = .next (s.barWrite req .bar0 off v) ∧
    (s.barSize req ≤ off → s.barWrite req .bar0 off v = s) ∧
    (off < s.barSize req → off % 4 = 0 → 6 ≤ s.boot.stage →
      (s.busReg req off = .nothing → s.barWrite req .bar0 off v = s) ∧
      (∀ k d w u x, s.busReg req off = .reg k → findReg regTable k = some (d, w) → s.clockStopped k = false → u = s.wakeReg k →
        x = u.wideOf req →
        (d.wide = true → d.rw ≠ 0 → d.base ≠ R.tickAct 0 → w + 1 < d.words → 6 ≤ u.boot.stage → u.clockStopped k = false →
          s.barWrite req .bar0 off v = u.setWide (x.hold (k - 4 * w) w v)) ∧
        (Reaches u req k → plainReg k = true →
          (∀ c, u.ownedBy k = some c → (d.wide = false ∨ d.words ≤ w + 1) → s.barWrite req .bar0 off v = u.inc c) ∧
          (u.ownedBy k = none → u.writeBarred k = true → (d.wide = false ∨ d.words ≤ w + 1) → s.barWrite req .bar0 off v = u) ∧
          (u.ownedBy k = none → u.writeBarred k = false →
            (d.wide = true → d.rw ≠ 0 → w + 1 = d.words → s.barWrite req .bar0 off v =
              State.wrWords (u.setWide (x.release (k - 4 * w))) (k - 4 * w) (maskWords (k - 4 * w) (x.whole (k - 4 * w) w v))) ∧
            (d.wide = true → d.rw = 0 → s.barWrite req .bar0 off v = u) ∧
            (∀ m t, d.wide = false → m = ((v &&& BitVec.ofNat 32 d.rw) |||
                (u.rd k &&& ~~~ BitVec.ofNat 32 d.rw &&& ~~~ (BitVec.ofNat 32 d.w1c &&& v)) |||
                (BitVec.ofNat 32 d.w1c &&& u.rd k &&& (u.stickySet k ||| u.setNowOf k))) →
              t = (if isLater k = true then u.wrLater k m else u.wr k m) →
              (∀ l, elemAt (R.prtLTxeq 0) 0x1000 128 0 k = some l → s.barWrite req .bar0 off v = t.txeqWritten l) ∧
              (elemAt (R.prtLTxeq 0) 0x1000 128 0 k = none → s.barWrite req .bar0 off v = t)))))) ∧
    (∀ k, s.busReg req off = .reg k →
      (6 ≤ s.boot.stage → s.clockStopped k = true → ∀ e : State, e = s.raise (Src.csrTimeout (blockOf k)) [] →
        exec (.csrTimeout req off (some v)) s = .next e ∧
        exec (.csrTimeout req off none) s = .next (e.answer req (some 0xFFFFFFFF))) ∧
      (s.boot.stage < 6 ∨ s.clockStopped k = false → ∀ wr, exec (.csrTimeout req off wr) s = .next s)) ∧
    ((∀ k, s.busReg req off ≠ .reg k) → ∀ wr, exec (.csrTimeout req off wr) s = .next s))

/-- A virtual function reaches no command register of BAR0 (R358): its write changes nothing. A management-plane write
outside its blocks is dropped and counted in TOP.MGT_WR_DROP (R16), whatever the command. A command written to a register
whose clock is stopped has no effect but fault source CSR_TIMEOUT of the register's block (R489); before the firmware runs
it has none at all (R456). -/
def Obligations.CommandWritesAreGated : Prop :=
  (∀ (c : Instr) (r : Requester) (k : Nat) (s : State), commandReg c = some (r, k) → 6 ≤ s.boot.stage →
    s.clockStopped k = false → (s.acting r).vfNum ≠ 0 → exec c s = .next s) ∧
  (∀ (c : Instr) (r : Requester) (k : Nat) (s : State), commandReg c = some (r, k) → 6 ≤ s.boot.stage →
    s.clockStopped k = false → (s.acting r).vfNum = 0 → isMgmt (s.acting r) = true → mgmtMayWrite (blockOf k) = false →
    exec c s = .next (s.inc R.topMgtWrDrop)) ∧
  (∀ (c : Instr) (r : Requester) (k : Nat) (s : State), commandReg c = some (r, k) →
    (6 ≤ s.boot.stage → s.clockStopped k = true → exec c s = .next (s.raise (Src.csrTimeout (blockOf k)) [])) ∧
    (s.boot.stage < 6 → s.romServes (s.acting r) k = false → exec c s = .next s))

/-- Every reserved command code that reaches its command register completes with STATE and has no other effect than the
fields written beside it (R20, R53, R100, R352, R360): one clause for each block's command register. One of a port that no
plan uses reaches nothing; one of SEC.CMD is the management plane's; one of QM.CMD by a requester that may not address the
queue or ring is counted in FOREIGN_WR too. -/
def Obligations.ReservedCommandsAnswerState : Prop :=
  ∀ (s : State) (req : Requester),
    (∀ hall, Reaches s req R.planCtl →
      exec (.planCmdReserved req hall) s = .next ((s.setBit R.planCtl 7 hall).planResult 0x02)) ∧
    (Reaches s req R.tickCtl → exec (.tickCmdReserved req) s = .next (s.result R.tickStatus 0x02)) ∧
    (∀ n, Reaches s req (R.tsuTbCtl n) → exec (.tsuCmdReserved req n) s = .next (s.result (R.tsuTbStatus n) 0x02)) ∧
    (∀ p, Reaches s req (R.prtPCtl p) →
      (s.portUsed p = true → exec (.prtCmdReserved req p) s = .next (s.result (R.prtPStatus p) 0x02)) ∧
      (s.portUsed p = false → exec (.prtCmdReserved req p) s = .next s)) ∧
    (∀ sh, Reaches s req R.strCmd →
      exec (.strCmdReserved req sh) s = .next ((s.setF R.strCmd 31 16 sh).result R.strStatus 0x02)) ∧
    (∀ p, Reaches s req (R.schPCtl p) → exec (.schCmdReserved req p) s = .next (s.result (R.schPStatus p) 0x02)) ∧
    (∀ sh, Reaches s req R.przInCmd →
      exec (.przInCmdReserved req sh) s = .next ((s.setF R.przInCmd 31 16 sh).result R.przInStatus 0x02)) ∧
    (∀ g, Reaches s req R.przPgCmd →
      exec (.pgCmdReserved req g) s = .next ((s.setF R.przPgCmd 15 8 g).result R.przPgCmdStatus 0x02)) ∧
    (∀ unit index, Reaches s req R.txeCmd → exec (.txeCmdReserved req unit index) s =
      .next (((s.setF R.txeCmd 15 12 unit).setF R.txeCmd 27 16 index).result R.txeStatus 0x02)) ∧
    (∀ c, Reaches s req (R.dmaChCtl c) →
      (c < 256 → exec (.dmaCmdReserved req c) s = .next (s.result (R.dmaChStatus c) 0x02)) ∧
      (256 ≤ c → exec (.dmaCmdReserved req c) s = .next s)) ∧
    (Reaches s req R.rdnCtl → exec (.rdnCmdReserved req) s = .next (s.result R.rdnStatus 0x02)) ∧
    (∀ arg, Reaches s req R.fcrCtl →
      exec (.fcrCmdReserved req arg) s = .next ((s.setF R.fcrCtl 31 16 arg).result R.fcrStatus 0x02)) ∧
    (Reaches s req R.secCmd → isMgmt (s.acting req) = true →
      exec (.secCmdReserved req) s = .next (s.result R.secStatus 0x02)) ∧
    (Reaches s req R.mgtCtl → exec (.mgtCmdReserved req) s = .next (s.result R.mgtCtlStatus 0x02)) ∧
    (∀ ring index t, 6 ≤ s.boot.stage → s.clockStopped R.qmCmd = false →
      t = (s.setBit R.qmCmd 15 ring).setF R.qmCmd 31 16 index →
      ((∀ o, t.qmOwner ring (t.qmIndex req ring index) = some o → t.qmMay req o.1 o.2 = true) →
        exec (.qmCmdReserved req ring index) s = .next (t.result R.qmStatus 0x02)) ∧
      (∀ o, t.qmOwner ring (t.qmIndex req ring index) = some o → t.qmMay req o.1 o.2 = false →
        exec (.qmCmdReserved req ring index) s = .next ((t.inc R.qmForeignWr).result R.qmStatus 0x02)))

/-- RESULT (R360): the code stands in the RESULT field of the status register, its other fields and every other register
stay, but for QM.STATE_CNT, which counts a STATE and stops at 0xFFFF_FFFF. -/
def Obligations.ResultIsRecorded : Prop :=
  ∀ (s : State) (k code hi lo : Nat), Sound s → code < 256 → k ≠ R.qmStateCnt → lo ≤ hi → hi < 32 →
    (s.noteResult k code).getF k (resultField k + 7) (resultField k) = code ∧
    (hi < resultField k ∨ resultField k + 7 < lo → (s.noteResult k code).getF k hi lo = s.getF k hi lo) ∧
    (s.noteResult k code).rdN R.qmStateCnt =
      (if code = 0x02 then min (s.rdN R.qmStateCnt + 1) 0xFFFFFFFF else s.rdN R.qmStateCnt) ∧
    (∀ j, j ≠ k → j ≠ R.qmStateCnt → (s.noteResult k code).rd j = s.rd j)

/-- The signed difference of two stored ticks (R71): for ticks less than 2^31 apart it is their difference, whatever their
low 32 bits, and the full tick a stored field names is the one it was cut from. -/
def Obligations.StoredTicksCompareModulo : Prop :=
  (∀ a b : Nat, -2147483648 ≤ (a : Int) - b → (a : Int) - b ≤ 2147483647 →
    tickDiff (a % 4294967296) (b % 4294967296) = (a : Int) - b) ∧
  (∀ (s : State) (t : Nat), -2147483648 ≤ (t : Int) - s.now → (t : Int) - s.now ≤ 2147483647 →
    s.fullTick (t % 4294967296) = t)

/-- The compare of a landing (R25): the board entry of every unit, 0 to 231, shows its data-path view, its management view
and the lower of the two codes as its effective state, and no other register changes. -/
def Obligations.BoardTakesTheSaferView : Prop :=
  ∀ (s : State) (u : Nat), Sound s → u < 232 →
    (s.compareEntry u).getF (R.topUsb u) 3 0 = s.dpView u ∧
    (s.compareEntry u).getF (R.topUsb u) 7 4 = s.mgView u ∧
    (s.compareEntry u).eff u = min (s.dpView u) (s.mgView u) ∧
    (∀ k, k ≠ R.topUsb u → (s.compareEntry u).rd k = s.rd k) ∧ (s.compareEntry u).mem = s.mem

/-- The PLAN commands (R51 to R60) that reach PLAN.CTL, in every state; HALL_SYNC is written with them. STAGE in NONE, IDLE,
STAGED_AMEND or STAGED_PLAN with channel 0 of DDR4 READY and a length of 3,192 octets to 16 MiB enters STAGING with BUSY,
for the requester's address space. COMMIT_AMEND in STAGED_AMEND and COMMIT_REPLAN in STAGED_PLAN enter COMMITTED and
COMMITTED_PLAN for the tick that PLAN.TARGET names, or complete with LATE outside the window; in NONE a full plan takes
effect at once. PLAN_ABORT ends staging or a staged image, and a commit before L(TARGET - 1). Everything else completes with
STATE. Staging, the load of an amendment and a rebuild end (R51, R54, R57, R60, R62, R395); `ecc` is what ECC found while
the staging area was read. STAGING_DONE: a failed read gives reason 0x11; the copy, read by the requester's function or in
place, is held with the state of its kind when it passes every check, and else fails with the reason found, an uncorrectable
block in its header giving 0x02; while the function is in D3hot the copy waits. AMENDMENT_LOAD: the shadows a committed
amendment covers are kept and its sections loaded, and a section that reads uncorrectable marks it failed. REBUILD_DONE: the
rebuild waits for the next landing, or, with an uncorrectable block in the staging area, leaves no plan, in the fault state.
-/
def Obligations.PlanCommandsTakeEffectAndFinish : Prop :=
  (∀ (s w : State) (req : Requester) (hall : Bool), Reaches s req R.planCtl →
    w = s.setBit R.planCtl 7 hall →
    (w.planState ∈ [0, 1, 3, 4] →
      (w.getF (R.memChStatus 0) 2 0 = 2 → ∀ x, x = { w with plan := { w.plan with
          staged := none, source := if w.acting req = Requester.mgmt then none else some (w.acting req), len := w.rdN R.planLen } } →
        (3192 ≤ w.rdN R.planLen → w.rdN R.planLen ≤ 16777216 →
          exec (.stage req hall) s = .next (((x.setF R.planStatus 3 0 2).setBit R.planStatus 4 true).defer R.planStatus)) ∧
        (w.rdN R.planLen < 3192 ∨ 16777216 < w.rdN R.planLen →
          exec (.stage req hall) s = .next (x.stageFailed (0x03, 0, 0)))) ∧
      (w.getF (R.memChStatus 0) 2 0 ≠ 2 → exec (.stage req hall) s = .next (w.planResult 0x0D))) ∧
    (w.planState ∉ [0, 1, 3, 4] → exec (.stage req hall) s = .next (w.planResult 0x02)) ∧
    (∀ im, w.plan.staged = some im →
      (w.planState = 3 → (w.mirrorOwns && (!im.scheduled.isEmpty || im.has Sect.tickActions 0)) = false →
        (w.inWindow = true → exec (.commitAmend req hall) s = .next (State.planResult
          (forEach im.scheduled (fun p x => x.settleOwned p) (State.setF { w with plan := { w.plan with
            target := w.planTick, hall := hall, loaded := false, saved := [], failed := none } } R.planStatus 3 0 5)) 0x00)) ∧
        (w.inWindow = false → exec (.commitAmend req hall) s = .next (w.planResult 0x06))) ∧
      (w.planState ≠ 3 ∨ (w.mirrorOwns && (!im.scheduled.isEmpty || im.has Sect.tickActions 0)) = true →
        exec (.commitAmend req hall) s = .next (w.planResult 0x02)) ∧
      (w.planState = 4 →
        (w.hasPlan = false → exec (.commitReplan req hall) s = .next ((w.firstPlan im).planResult 0x00)) ∧
        (w.hasPlan = true → w.inWindow = true → exec (.commitReplan req hall) s = .next (State.planResult
          (State.setF { w with plan := { w.plan with target := w.planTick, rebuilding := some im, loaded := false } }
            R.planStatus 3 0 7) 0x00)) ∧
        (w.hasPlan = true → w.inWindow = false → exec (.commitReplan req hall) s = .next (w.planResult 0x06))) ∧
      (w.planState ≠ 4 → exec (.commitReplan req hall) s = .next (w.planResult 0x02))) ∧
    (w.plan.staged = none → exec (.commitAmend req hall) s = .next (w.planResult 0x02) ∧
      exec (.commitReplan req hall) s = .next (w.planResult 0x02)) ∧
    (∀ x, x = State.answerCmds (State.planResult (State.planRest { w with plan := { w.plan with
        staged := none, rebuilding := none, source := none } }) 0x00) R.planStatus 0x01 →
      (w.planState ∈ [2, 3, 4] → exec (.planAbort req hall) s = .next x) ∧
      (w.planState = 7 → w.beforeTarget = true → exec (.planAbort req hall) s = .next x.panesFree)) ∧
    (w.planState = 5 → w.beforeTarget = true → exec (.planAbort req hall) s = .next (w.releaseAmend.planResult 0x00)) ∧
    (w.planState ∈ [0, 1, 6] ∨ (w.planState ∈ [5, 7] ∧ w.beforeTarget = false) →
      exec (.planAbort req hall) s = .next (w.planResult 0x02))) ∧
  (∀ (s : State) (ecc : List (Nat × Bool)) (n : Nat), n = s.plan.len →
    (s.planState = 2 → ∀ data unplaced,
      (∀ a c d b, ((s.plan.source = none ∧ a = s) ∨ (∃ r b0, s.plan.source = some r ∧ s.inD3 r = false ∧ data = some b0 ∧
          a = (s.emit (.hostRead r (s.rd64 R.planSrc) n)).ddrWrite 0 (slice b0 0 n))) →
        c = a.eccFound 0 n ecc → d = (if c.badRead 0 n then c.ueReport 0 n else c) → b = d.memRead 0 n →
        exec (.stagingDone data unplaced ecc) s = .next (
          match plainIf (d.badRead 0 256) 0x02 <|> d.checkImage b n (d.unread b n) unplaced with
          | none => State.stageResult (State.setF { d with plan := { d.plan with
              staged := some (imageOf b n) } } R.planStatus 3 0 (if (imageOf b n).amend then 3 else 4)) 0x00
          | some r => d.stageFailed r)) ∧
      (∀ r, s.plan.source = some r → s.inD3 r = false → exec (.stagingDone none unplaced ecc) s =
        .next ((s.emit (.hostRead r (s.rd64 R.planSrc) n)).stageFailed (0x11, 0, 0))) ∧
      (∀ r, s.plan.source = some r → s.inD3 r = true → exec (.stagingDone data unplaced ecc) s = .next s)) ∧
    (∀ im c d x lost, s.plan.staged = some im → s.planState = 5 → s.plan.loaded = false → c = s.eccFound 0 n ecc →
      d = (if c.badRead 0 n then c.ueReport 0 n else c) →
      lost = (if d.badRead 0 n then some ((d.badSect (d.memRead 0 n) n).getD (0, 0)) else none) →
      x = forEach im.scheduled (fun p (y : State) => y.setShadow p (scheduleBank (im.body Sect.schedule p))) d →
      exec (.amendmentLoad ecc) s = .next { x with plan := { x.plan with
        loaded := true, failed := lost, saved := im.scheduled.flatMap (fun p =>
          (d.listed (shadowSpan p).1 (shadowSpan p).2).map (fun k => (k, d.rd k))) } }) ∧
    (s.planState = 6 → s.plan.loaded = false → ∀ c, c = s.eccFound 0 n ecc →
      (c.badRead 0 n = false → exec (.rebuildDone ecc) s = .next { c with plan := { c.plan with loaded := true } }) ∧
      (c.badRead 0 n = true → exec (.rebuildDone ecc) s = .next ((c.ueReport 0 n).enterFault Src.memUeCtrl).planNone)) ∧
    (s.planState ≠ 2 → ∀ data unplaced, exec (.stagingDone data unplaced ecc) s = .next s) ∧
    (s.planState ≠ 5 ∨ s.plan.loaded = true ∨ s.plan.staged = none → exec (.amendmentLoad ecc) s = .next s) ∧
    (s.planState ≠ 6 ∨ s.plan.loaded = true → exec (.rebuildDone ecc) s = .next s))

/-- The window of COMMIT_AMEND (R55): in STAGED_AMEND the command is accepted exactly when PLAN.TARGET lies 2 to 65,536
ticks after the current tick, modulo 2^32; otherwise it completes with LATE and the amendment stays in STAGED_AMEND. -/
def Obligations.AmendmentsCommitInTheirWindow : Prop :=
  ∀ (s w : State) (req : Requester) (hall : Bool) (im : Image) (d : Int), Sound s → Reaches s req R.planCtl →
    w = s.setBit R.planCtl 7 hall → w.planState = 3 → w.plan.staged = some im → s.mirrorOwns = false →
    d = (if (s.rdN R.planTarget + 4294967296 - s.now % 4294967296) % 4294967296 < 2147483648
      then ((s.rdN R.planTarget + 4294967296 - s.now % 4294967296) % 4294967296 : Nat)
      else ((s.rdN R.planTarget + 4294967296 - s.now % 4294967296) % 4294967296 : Nat) - 4294967296) →
    (2 ≤ d → d ≤ 65536 → ∃ t, exec (.commitAmend req hall) s = .next t ∧ t.planState = 5 ∧ t.getF R.planStatus 23 16 = 0x00) ∧
    (d < 2 ∨ 65536 < d → ∃ t, exec (.commitAmend req hall) s = .next t ∧ t.planState = 3 ∧ t.plan.staged = some im ∧
      t.getF R.planStatus 23 16 = 0x06)

/-- LANDING (R72, R81, R281): when the next landing can take effect, its cut-off, the seals before it and the treads of the
tick that ends come first; then the tick is counted, the swap set is applied, the board is compared, actions and panes
follow, and the edges leave; a phase waiting for the TIME edge after it applies last. CUT_OFF (R81, R88): the swap-type
entries join, and requests of the tick whose verification missed the cut-off are failed with TICK_OVERRUN. SHADOW_VERIFY
(R75): the requests of its shadow that have no outcome take that of the shadow's check. Step 1 of a landing (R70, R72):
TICK.NOW takes the number of the tick, and the tick runs. -/
def Obligations.LandingTakesItsFiveSteps : Prop :=
  (∀ (s : State) (ue : Option Nat) (work : List Nat),
    (s.canLand = true → ∀ (t : Nat) (a b b1 c d e f g : State), t = s.nextTick → a = (if s.cutDue then s.cutOff t [] else s) →
      b = a.sealsBefore (a.landingAt t) (2 * a.im.pgs.length + 2) → b1 = b.untilSrc (b.landingAt t) →
      c = forEach b1.im.ports (fun p (x : State) => x.settlePort p) b1 →
      d = ((c.landCount t work).landSwaps t c.fcr.c4Raised (!c.running) ue).landBoard →
      e = (if c.planState = 7 ∧ d.planState = 6 then d.replanPanes else d) →
      f = (if e.rdn.takeoverDue && e.role == 3 then e.takeover ue else e) →
      g = (((f.landActs (if !c.running then [t] else (List.range (t - c.now)).map (fun i => c.now + 1 + i))).landHandover).landStalls) →
      exec (.landing ue work) s = .next (State.phaseEdge ((g.landEdges t).settleHeld.powerLand))) ∧
    (s.canLand = false → exec (.landing ue work) s = .next s) ∧
    (∀ unverified a b bad late x, s.canLand = true → s.cutDue = true → a = s.untilSrc (s.cutoffAt s.nextTick) →
      b = (if a.holds then a else a.actsJoin s.nextTick) → late = b.amendUnverified s.nextTick unverified →
      bad = (fun (r : SwapReq) => r.tick == s.nextTick && r.verified.isNone && unverified.contains r.kind) →
      x = (if b.tick.reqs.any bad || late.isSome then (b.hwSet R.tickOvrCause 2).raise Src.tickOverrun [] else b) →
      exec (.cutOff unverified) s = .next { x with
        tick := { x.tick with cutTick := some s.nextTick
                              reqs := x.tick.reqs.map (fun r => if bad r then { r with verified := some false } else r) }
        plan := { x.plan with failed := if x.plan.failed.isSome then x.plan.failed else late } }) ∧
    (∀ unverified, s.canLand = false ∨ s.cutDue = false → exec (.cutOff unverified) s = .next s) ∧
    (∀ k, exec (.shadowVerify k) s = .next { s with tick := { s.tick with reqs := s.tick.reqs.map (fun r =>
      if r.kind = k ∧ r.verified = none then { r with verified := some (s.shadowOk k) } else r) } })) ∧
  (∀ (s : State) (t : Nat) (work : List Nat), Sound s → t < 18446744073709551616 → (s.running = false ∨ t = s.now + 1) →
    (s.landCount t work).now = t ∧ (s.landCount t work).running = true)

/-- Tick actions (R78, R80, R84) of entries that no mirror, amendment or hall snapshot owns: a write of the word at offset
0xC takes the four words its requester holds, arms the entry and evaluates it; one of another word is held and disarms it; a
write of an owned entry is dropped and counted. An armed entry that is not swap-type and has d = 0 fires at its instant,
with the entries whose instants come before it; another one is evaluated at once. What the evaluation of a once-only entry
does whose instant of the current tick has come (R79, R80, R82): a good entry is FIRED, or FIRED_LATE and counted when an
edge was at its instant before, and its unit acts; a bad one is CHECK, counted and raised. -/
def Obligations.TickActionsArmAndFire : Prop :=
  (∀ (s : State) (i : Nat), i < 4096 →
    (∀ req v w, Reaches s req (R.tickAct i) →
      (s.mirrorOwns = false → s.actCovered i = false → s.actOwned i = false →
        exec (.tickActionArm req i v) s = .next (State.actArm (s.setWide ((s.wideOf req).release (R.tickAct i))) i
          ((List.range 3).map ((s.wideOf req).word (R.tickAct i)) ++ [v])) ∧
        (w < 3 → exec (.tickActionDisarm req i w v) s =
          .next (((s.setWide ((s.wideOf req).hold (R.tickAct i) w v)).setActNext i none).setActSt i 0))) ∧
      (∀ c ∈ [Instr.tickActionArm req i v, .tickActionDisarm req i w v],
        (s.mirrorOwns = true → exec c s = .next (s.inc R.rdnOwnedDrop)) ∧
        (s.mirrorOwns = false → s.actCovered i = true → exec c s = .next (s.inc R.planConflict)) ∧
        (s.mirrorOwns = false → s.actCovered i = false → s.actOwned i = true → exec c s = .next (s.inc R.tickSwapConflict)))) ∧
    (s.actSt i = 1 → isSwapAct (actCode (s.actBytes i)) = false → s.running = true → s.holds = false →
      (tickDiff (s.actNext i) s.now ≠ 0 → exec (.tickActionFire i) s = .next (s.actEval i)) ∧
      (tickDiff (s.actNext i) s.now = 0 → exec (.tickActionFire i) s =
        .next (s.firesTo (s.landingNow + ofNs (actOfs (s.actBytes i))) s.armedActs.length))) ∧
    (s.actSt i ≠ 1 → exec (.tickActionFire i) s = .next s)) ∧
  (∀ (s : State) (i : Nat), s.actSt i = 1 → isSwapAct (actCode (s.actBytes i)) = false → s.running = true →
    s.holds = false → tickDiff (s.actNext i) s.now = 0 → actRepeat (s.actBytes i) = 0 →
    s.landingNow + ofNs (actOfs (s.actBytes i)) ≤ s.srcNow →
    (s.actOk (s.actBytes i) = true → s.passed (s.landingNow + ofNs (actOfs (s.actBytes i))) = false →
      s.actEval i = (s.setActSt i 2).doAction (actCode (s.actBytes i)) (actArg (s.actBytes i)) false) ∧
    (s.actOk (s.actBytes i) = true → s.passed (s.landingNow + ofNs (actOfs (s.actBytes i))) = true →
      s.actEval i = ((s.setActSt i 3).inc R.tickActLate).doAction (actCode (s.actBytes i)) (actArg (s.actBytes i)) true) ∧
    (s.actOk (s.actBytes i) = false →
      s.actEval i = ((s.setActSt i 5).inc R.tickActCheck).raise Src.tickActCheck []))

/-- The serial frames of the tick bus. TICK_FRAME_SEND (R94, R98, R104, R106) with the tick running: a source sends the
frame of the next landing on its D ports at L(T-1) + 4 us, with GO or ABORT when a group waits, and after a step that missed
ticks at once, with STEP and ABORT; a follower in HOLDOVER that has no frame for the landing sends its own.
TICK_FRAME_RECEIVE (R94, R96, R97) by a follower: a whole frame that fits its plan is relayed and taken; one that is not
whole, or does not fit, is relayed and counts as failed, the latter with USTOR_CFG in SEEKING. STATUS frames (R105, R106). A
follower sends its frame upstream at L(T-1) + 0.5 us without followers, at once when all of them have reported, and at
L(T-1) + 3.5 us otherwise: READY, PENDING and what is unlocked of itself and its followers, HALL_ID, the tick, its index and
the locked devices below. A whole STATUS frame of the hall is recorded for its D port; any other changes nothing. The
landing edges of the parent (R96, R97, R99). An edge whose TICK frame has come is compared by the state of the bus, and its
frame is used up; one without a frame ends the run of good ones. Four good ones in SEEKING begin calibration. The fourth
missing edge leaves CALIBRATING for SEEKING and LOCKED for HOLDOVER, with USTOR_LOSS, a recalibration ending there; in any
other state it ends the run of good ones. A follower that has not locked within 1 s of its first plan raises USTOR_NO_LOCK,
once. Calibration of the one-way delay (R95). While CALIBRATING or recalibrating a pulse leaves at L(n) + period / 2, or at
once before the tick runs; in LOCKED a recalibration begins 2^20 ticks after the last. The parent returns a pulse on the D
port it came on. A round trip of at most 2,048 ns counts; the sixteenth in a row sets TICK.HALL_DELAY to half of their mean
less 1,024 ns and leaves CALIBRATING for LOCKED, and a recalibration completes with OK, in HOLDOVER with RELOCKING; a longer
or missing one starts the run of sixteen anew. -/
def Obligations.TickBusFollowsFramesEdgesAndPulses : Prop :=
  (∀ s : State, s.hasPlan = true → s.timeRuns = true →
    (s.running = true → ∀ u, u = s.untilSrc (s.landingNow + ofUs 4) →
      (s.isSource = true → s.tick.missedTo = none →
        (∀ go w, u.sourceVerdict s.nextTick = some go →
          w = { u with tick := { u.tick with verdict := some (s.nextTick, go) } } →
          exec .tickFrameSend s = .next (w.sendDown (w.tickFrame s.nextTick [false, go, !go, false]))) ∧
        (u.sourceVerdict s.nextTick = none → exec .tickFrameSend s =
          .next (u.sendDown (u.tickFrame s.nextTick [false, false, false, false])))) ∧
      (s.isSource = true → s.tick.missedTo.isSome = true →
        ∀ w, w = { s with tick := { s.tick with verdict := some (s.nextTick, false) } } →
        exec .tickFrameSend s = .next (w.sendDown (w.tickFrame s.nextTick [false, false, true, true]))) ∧
      (s.isSource = false → s.bus = 4 → s.tick.frameTick ≠ s.nextTick →
        exec .tickFrameSend s = .next (u.sendDown (u.tickFrame s.nextTick [true])))) ∧
    (s.follows = true → ∀ b, b.length = 16 → ∀ x, x = s.sendDown (s.relayed b) →
      (ustorOk b = true → beAt b 0 1 = 1 → s.frameFits b = true → exec (.tickFrameReceive b) s = .next (x.acceptFrame b)) ∧
      (ustorOk b = true → beAt b 0 1 = 1 → s.frameFits b = false → exec (.tickFrameReceive b) s =
        .next ((if s.bus = 1 then x.raise Src.ustorCfg [] else x).frameFailed false)) ∧
      (ustorOk b = false → exec (.tickFrameReceive b) s = .next (x.frameFailed true)) ∧
      (ustorOk b = true → beAt b 0 1 ≠ 1 → exec (.tickFrameReceive b) s = .next s))) ∧
  (∀ s : State,
    (s.follows = true → s.running = true → ∀ cs u,
      cs = [s.tick.child0, s.tick.child1].filter (fun c => c.present) →
      u = (if cs.isEmpty then s.untilSrc (s.landingNow + ofNs 500)
        else if cs.all (fun c => c.target == s.nextTick) then s else s.untilSrc (s.landingNow + ofNs 3500)) →
      exec .statusFrameSend s = .next (u.emit (.ustor 0 (ustorFrame (
        [2, flagByte [(u.hallVote s.nextTick).1, (u.hallVote s.nextTick).2, u.bit R.tickStatus 7 || cs.any (fun c => c.unlocked)]] ++
        beBytes 2 u.im.tick.hallId ++ beBytes 8 s.nextTick ++
        [BitVec.ofNat 8 u.im.tick.devIndex, BitVec.ofNat 8 u.lockedBelow]))))) ∧
    (∀ d1 b f c, s.hasPlan = true → s.timeRuns = true → f = b.getD 1 0 →
      c = Child.mk true (beAt b 4 8) (f.getLsbD 0) (f.getLsbD 1) (beAt b 13 1) (f.getLsbD 2) 0 →
      ((d1 = true → s.getF R.tickStatus 1 0 ≠ 0) → ustorOk b = true → beAt b 0 1 = 2 → beAt b 2 2 = s.im.tick.hallId →
        exec (.statusFrameReceive d1 b) s = .next { s with tick := if d1 then { s.tick with child1 := c }
          else { s.tick with child0 := c } }) ∧
      ((d1 = true ∧ s.getF R.tickStatus 1 0 = 0) ∨ ustorOk b = false ∨ beAt b 0 1 ≠ 2 ∨ beAt b 2 2 ≠ s.im.tick.hallId →
        exec (.statusFrameReceive d1 b) s = .next s))) ∧
  (∀ s : State, s.follows = true →
    (∀ sub t x, s.tick.nextEdge = some t → x = s.edgeAt t (s.srcNow + ofPs80 (sub % 10) - s.hallDelay) →
      exec (.ustorEdgeReceive sub) s = .next { x with tick := { x.tick with nextEdge := none } }) ∧
    (∀ sub, s.tick.nextEdge = none →
      exec (.ustorEdgeReceive sub) s = .next { s with tick := { s.tick with goodRun := 0 } }) ∧
    (∀ t est x, s.bus = 1 → x = { s with tick := { s.tick with goodRun := s.tick.goodRun + 1 } } →
      (s.tick.goodRun < 3 → s.edgeAt t est = x) ∧
      (3 ≤ s.tick.goodRun → s.edgeAt t est =
        State.setBus (State.calStart { x with tick := { x.tick with goodRun := 0 } } false false) 2)) ∧
    (∀ w, w = { s with tick := { s.tick with goodRun := 0, badCrc := 0, badFrames := 0, nextEdge := none, calOut := false } } →
      (s.bus = 2 → exec .ustorEdgeMissing s = .next ((w.setBus 1).raise Src.ustorLoss [])) ∧
      (s.bus = 3 → exec .ustorEdgeMissing s =
        .next (((if s.tick.recal then w.recalEnd 0x0B else w).setBus 4).raise Src.ustorLoss [])) ∧
      (s.bus = 4 → exec .ustorEdgeMissing s = .next { w with tick := { w.tick with recal := false } }) ∧
      (s.bus ∉ [2, 3, 4] → exec .ustorEdgeMissing s = .next w)) ∧
    (∀ t, s.tick.lockBy = some t → s.tick.everLocked = false → s.bus = 1 ∨ s.bus = 2 →
      exec .ustorNoLock s = .next (State.raise { s.untilClock t with tick := { s.tick with lockBy := none } } Src.ustorNoLock [])) ∧
    (s.tick.lockBy = none ∨ s.tick.everLocked = true → exec .ustorNoLock s = .next s)) ∧
  (∀ s : State,
    (∀ a u, s.follows = true → (s.bus = 3 → s.tick.recal = false → s.now < s.tick.calAt + 2 ^ 20 → a = s) →
      (s.bus = 3 → s.tick.recal = false → s.tick.calAt + 2 ^ 20 ≤ s.now → a = s.calStart true false) →
      (s.bus ≠ 3 ∨ s.tick.recal = true → a = s) →
      u = (if a.running then a.untilSrc (a.landingNow + a.period / 2) else a) →
      (a.bus = 2 ∨ a.tick.recal = true → a.tick.calOut = false → exec .calPulseSend s =
        .next (State.emit { u with tick := { u.tick with calOut := true, calTicks := u.tick.calTicks + 1 } } (.calPulse 0))) ∧
      (a.tick.calOut = true ∨ (a.bus ≠ 2 ∧ a.tick.recal = false) → exec .calPulseSend s = .next a)) ∧
    (∀ d1, s.hasPlan = true → s.timeRuns = true → s.dPorts.contains (1 + d1.toNat) = true →
      exec (.calPulseReturn d1) s = .next (s.emit (.calPulse (1 + d1.toNat)))) ∧
    (s.follows = true → s.bus = 2 ∨ s.tick.recal = true → s.tick.calOut = true →
      (∀ trip x, trip ≤ 25600 → x = { s with tick := { s.tick with
          calOut := false, calCount := s.tick.calCount + 1, calSum := s.tick.calSum + 80 * trip } } →
        (s.tick.calCount = 15 → exec (.calPulseArrive trip) s = .next x.calDone) ∧
        (s.tick.calCount ≠ 15 → exec (.calPulseArrive trip) s = .next x.calExpire)) ∧
      (∀ x, x = { s with tick := { s.tick with calOut := false, calCount := 0, calSum := 0 } } →
        exec .calPulseTimeout s = .next x.calExpire ∧
        (∀ trip, 25600 < trip → exec (.calPulseArrive trip) s = .next x.calExpire))) ∧
    (s.follows = false ∨ (s.bus ≠ 2 ∧ s.tick.recal = false) ∨ s.tick.calOut = false →
      exec .calPulseTimeout s = .next s ∧ ∀ trip, exec (.calPulseArrive trip) s = .next s) ∧
    (∀ x, x = s.wrN R.tickHallDelay ((s.tick.calSum - 16384000) / 32) →
      (s.bus = 2 → s.calDone = State.setBus { x with tick := { x.tick with calAt := x.now } } 3) ∧
      (s.bus = 4 → s.calDone = (x.recalEnd 0x00).setBus 5) ∧
      (s.bus ≠ 2 → s.bus ≠ 4 → s.calDone = x.recalEnd 0x00)) ∧
    (s.tick.calTicks < 256 → s.calExpire = s))

/-- The TICK commands (R95, R100) that reach TICK.CTL, in every state. PROMOTE makes a follower in HOLDOVER the tick source
of its subtree; RESYNC of a follower in HOLDOVER that is AHEAD waits for the landing of its source, and RECAL of a LOCKED
one begins a recalibration, both to complete later; everything else completes with STATE. -/
def Obligations.TickCommandsTakeEffect : Prop :=
  ∀ (s : State) (req : Requester), Reaches s req R.tickCtl →
    (s.follows = true → s.bus = 4 → exec (.promote req) s = .next (State.result (State.setBus (State.setBit (State.setF
      (State.setF { s with tick := { s.tick with resync := false, recal := false, nextEdge := none, parentUnlocked := false } }
        R.tickStatus 1 0 1) R.tickStatus 23 16 0) R.tickStatus 8 false) 0) R.tickStatus 0x00)) ∧
    (s.follows = false ∨ s.bus ≠ 4 → exec (.promote req) s = .next (s.result R.tickStatus 0x02)) ∧
    (s.follows = true → s.bus = 4 → s.bit R.tickStatus 8 = true →
      exec (.resync req) s = .next (State.defer { s with tick := { s.tick with resync := true, recal := false } } R.tickStatus)) ∧
    (s.follows = false ∨ s.bus ≠ 4 ∨ s.bit R.tickStatus 8 = false →
      exec (.resync req) s = .next (s.result R.tickStatus 0x02)) ∧
    (s.follows = true → s.bus = 3 → exec (.recal req) s = .next (State.defer { s with tick := { s.tick with
      calCount := 0, calSum := 0, calTicks := 0, calOut := false, recal := true, recalCmd := true } } R.tickCtl)) ∧
    (s.follows = false ∨ s.bus ≠ 3 → exec (.recal req) s = .next (s.result R.tickStatus 0x02))

/-- Reference samples (R112, R124 to R127): while the TIME domain runs, a sample of the kind that time base n of the plan
has goes to its servo, a PTP one with its interval, a PPS one over a second and a 10 MHz one over a millisecond, and a step
it makes has its consequences; a sample of another kind has no effect. A reference that is lost (R112, R135, R140).
REFERENCE_LOSS of a running time base, LOSS_MS after its last sample: it leaves its state as R112 says, and the PPS input it
uses is no longer PRESENT. ANNOUNCE_TIMEOUT of a foreign record, at the end of its announceReceiptTimeout: the record is
dropped; a selected one makes the best of the rest the selected one, and with none left PORT is 0xFF and a time base in
LOCKED or REFUSED loses its reference. A landing that lies before either instant comes first. -/
def Obligations.ReferenceSamplesReachTheServo : Prop :=
  (∀ (s : State) (n : Nat), n < 8 → s.im.hasTb n = true → s.timeRuns = true →
    (∀ o log,
      ((s.im.timeBase n).ref = 0 → exec (.servoSample n (.ptp o log)) s =
        .next (s.afterStep (s.sample n o (pow2Frac log).1 (pow2Frac log).2))) ∧
      ((s.im.timeBase n).ref ≠ 0 → exec (.servoSample n (.ptp o log)) s = .next s)) ∧
    (∀ o,
      ((s.im.timeBase n).ref = 1 ∨ (s.im.timeBase n).ref = 2 →
        exec (.servoSample n (.pps o)) s = .next (s.afterStep (s.sample n o 1 1))) ∧
      ((s.im.timeBase n).ref ≠ 1 → (s.im.timeBase n).ref ≠ 2 → exec (.servoSample n (.pps o)) s = .next s)) ∧
    (∀ k sub,
      ((s.im.timeBase n).ref = 3 → (s.tb n).ref10mStop = false → s.pps.last0.isSome = true →
        exec (.servoSample n (.tenMhz k sub)) s =
          .next (s.afterStep (s.sample n (toQ16 (s.sincePps n sub - ofNs (k * 1000000))) 1 1000))) ∧
      ((s.im.timeBase n).ref ≠ 3 ∨ (s.tb n).ref10mStop = true ∨ s.pps.last0 = none →
        exec (.servoSample n (.tenMhz k sub)) s = .next s))) ∧
  (∀ (s : State) (n : Nat),
    (n < 8 → s.im.hasTb n = true → s.tbOn n = true → ∀ t, t = (s.tb n).lastSample + ofMs (s.inForce (R.tsuTbLossMs n)).toNat →
      (s.reachClock t = none → exec (.referenceLoss n) s = .next s) ∧
      (∀ u, s.reachClock t = some u →
        ((s.im.timeBase n).ref = 1 ∨ (s.im.timeBase n).ref = 3 →
          exec (.referenceLoss n) s = .next ((u.loseReference n).setPpsLast 0 none)) ∧
        ((s.im.timeBase n).ref = 2 → exec (.referenceLoss n) s = .next ((u.loseReference n).setPpsLast 1 none)) ∧
        ((s.im.timeBase n).ref ∉ [1, 2, 3] → exec (.referenceLoss n) s = .next (u.loseReference n)))) ∧
    (s.tbOn n = false → exec (.referenceLoss n) s = .next s) ∧
    (∀ k f, (s.tb n).foreign[k]? = some f →
      (s.reachClock (s.announceDue n f) = none → exec (.announceTimeout n k) s = .next s) ∧
      (∀ u w gone, s.reachClock (s.announceDue n f) = some u →
        w = u.setTb n { u.tb n with foreign := (u.tb n).foreign.eraseIdx k } →
        gone = ((u.tb n).selected == some f.source && u.getF (R.tsuTbStatus n) 23 16 == f.port) →
        (gone = false → exec (.announceTimeout n k) s = .next w) ∧
        (gone = true → (u.tb n).foreign.eraseIdx k ≠ [] → exec (.announceTimeout n k) s = .next (w.selectMaster n)) ∧
        (gone = true → (u.tb n).foreign.eraseIdx k = [] → ∀ x,
          x = (w.setTb n { w.tb n with selected := none, twoStep := none }).setF (R.tsuTbStatus n) 23 16 0xFF →
          (u.tbState n = 3 ∨ u.tbState n = 5 → exec (.announceTimeout n k) s = .next (x.loseReference n)) ∧
          (u.tbState n ≠ 3 → u.tbState n ≠ 5 → exec (.announceTimeout n k) s = .next x)))) ∧
    (∀ k, (s.tb n).foreign[k]? = none → exec (.announceTimeout n k) s = .next s))

/-- The TSU commands (R116, R117, R120 to R122) that reach TSU.TB[n].CTL of a running time base, in every state. ACCEPT in
REFUSED applies the refused correction and leaves REFUSED; SET in FREE, not on the source of a running tick, loads SET_TIME;
ADJ_PHASE under host-assisted SERVO puts the host's phase to the threshold; EPOCH_NEXT requests the shadow epoch for the
next landing unless it is requested; each of these has the consequences of its step and RESULT OK. Everything else completes
with STATE. The commands of a time base that does not run complete with STATE. A write of ADJ_FREQ that reaches its register
is stored, and sets FREQ, saturated at 1,024,000,000, under host-assisted SERVO (R127). A read of the first word of TIME by
a function, or a work entry of one, that has the whole of BAR0 answers that word of the count and latches the other three
for its reader (R6, R130). -/
def Obligations.TimeBaseCommandsTakeEffect : Prop :=
  (∀ (s : State) (req : Requester) (n : Nat), n < 8 → s.tbOn n = true → Reaches s req (R.tsuTbCtl n) →
    (s.tbState n = 5 → ∀ u, u = (s.applyCorr n (signed 64 (s.rd64 (R.tsuTbRefusedOfs n)))).leaveRefused n →
      exec (.accept req n) s =
        .next ((s.afterStep (u.setTb n { u.tb n with asked := true })).result (R.tsuTbStatus n) 0x00)) ∧
    (s.tbState n ≠ 5 → exec (.accept req n) s = .next (s.result (R.tsuTbStatus n) 0x02)) ∧
    (s.tbState n = 1 → (s.isSrc n && s.running) = false → exec (.tsuSet req n) s =
      .next ((s.afterStep (s.loadCount n (timeOfWords 16 (s.rd (R.tsuTbSetTime n)) (s.rd (R.tsuTbSetTime n + 4))
        (s.rd (R.tsuTbSetTime n + 8)) (s.rd (R.tsuTbSetTime n + 12))))).result (R.tsuTbStatus n) 0x00)) ∧
    (s.tbState n ≠ 1 ∨ (s.isSrc n && s.running) = true →
      exec (.tsuSet req n) s = .next (s.result (R.tsuTbStatus n) 0x02)) ∧
    (s.hostServo n = true → exec (.adjPhase req n) s =
      .next ((s.afterStep (s.tryCorr n (signed 64 (s.rd64 (R.tsuTbAdjPhase n))))).result (R.tsuTbStatus n) 0x00)) ∧
    (s.hostServo n = false → exec (.adjPhase req n) s = .next (s.result (R.tsuTbStatus n) 0x02)) ∧
    (s.requested (.epoch n) = false →
      exec (.epochNext req n) s = .next ((s.afterStep (s.requestNext (.epoch n))).result (R.tsuTbStatus n) 0x00)) ∧
    (s.requested (.epoch n) = true → exec (.epochNext req n) s = .next (s.result (R.tsuTbStatus n) 0x02))) ∧
  (∀ (s : State) (req : Requester) (n : Nat), n < 8 →
    (s.tbOn n = false → Reaches s req (R.tsuTbCtl n) →
      ∀ c ∈ [Instr.accept req n, .tsuSet req n, .adjPhase req n, .epochNext req n],
        exec c s = .next (s.result (R.tsuTbStatus n) 0x02)) ∧
    (∀ v, Reaches s req (R.tsuTbAdjFreq n) →
      (s.hostServo n = true → s.tbOn n = true → exec (.adjFreqWrite req n v) s = .next ((s.wr (R.tsuTbAdjFreq n) v).wrN
        (R.tsuTbFreq n) (unsigned 32 (saturate 1024000000 (signed 32 v.toNat))))) ∧
      (s.hostServo n = false ∨ s.tbOn n = false →
        exec (.adjFreqWrite req n v) s = .next (s.wr (R.tsuTbAdjFreq n) v))) ∧
    (∀ ws, ws = timeWords 16 (s.tb n).count → 6 ≤ s.boot.stage → s.clockStopped (R.tsuTbTime n) = false →
      (s.acting req).vfNum = 0 → exec (.timeReadCapture req n) s = .next (State.answer (s.setWide { s.wideOf req with
        latchReg := some (R.tsuTbTime n), latched := ws.drop 1 }) req ws.head?)))

/-- The combination of a correction c with the remaining slew r of the tick source (R118): when c + r is at most 0 it is the
new SLEW_REM and no step occurs; otherwise SLEW_REM is 0 and the time base steps by c + r. The threshold of R116 is applied
to c alone. -/
def Obligations.CorrectionsCombineWithTheSlew : Prop :=
  ∀ (s : State) (n : Nat) (c r d : Int), s.isSrc n = true → r = (s.tb n).slewRem → r ≤ 0 → d = ofQ16 c →
    (d + r ≤ 0 → s.applyCorr n c =
      (if r = 0 ∧ d < 0 then (s.setSlew n (d + r)).raise (Src.tbSlew n) [Cu.tb n] else s.setSlew n (d + r))) ∧
    (0 < d + r → s.applyCorr n c = (s.setSlew n 0).stepTb n (d + r)) ∧
    ((c.natAbs : Int) ≤ s.stepLimit n → s.tryCorr n c = s.applyCorr n c) ∧
    (s.stepLimit n < (c.natAbs : Int) → s.tryCorr n c = s.refuseCorr n c)

/-- Pulses of the timing pins and own messages of the time bases, while the TIME domain runs (R117, R133, R136, R140 to
R142, R317). A rising edge of a PPS input is captured by every running time base; one that stays high and lies a second
after the last valid one becomes the last valid one, has the 10 MHz edges looked at on input 0, and is a sample of the time
bases it feeds; any other counts in FAULTS and raises PPS_IN_FAULT. A PPS output that is on rises at the next whole second
for WIDTH_US, unless a landing comes first. An own request is offered at once the first time and an interval after the one
before. A slew that no landing interrupts runs until nothing of it is left. -/
def Obligations.TimeBasesPulseAndCapture : Prop :=
  ∀ s : State, s.timeRuns = true →
    (∀ i sub high edges on capt c spaced, i < 2 → on = (List.range 8).filter s.tbOn →
      capt = (fun (n : Nat) => if i = 0 then R.tsuTbPps0Capt n else R.tsuTbPps1Capt n) →
      c = forEach on (fun n (x : State) => x.wrWords (capt n) (timeWords 16 ((x.tb n).count + ofPs80 (sub % 10)))) s →
      spaced = (s.ppsLast i).all (fun t => decide ((s.clock + ofPs80 (sub % 10) - t - oneSec).natAbs ≤ (ofMs 1).natAbs)) →
      (high = false ∨ spaced = false → exec (.ppsInputEdge i sub high edges) s =
        .next (((c.hwSet (R.tsuPpsInSt i) 1).incF (R.tsuPpsInSt i) 31 16).raise (Src.ppsInFault i) [])) ∧
      (high = true → spaced = true → ∀ a b, a = c.setPpsLast i (some (s.clock + ofPs80 (sub % 10))) →
        b = (if i = 0 then (forEach on (fun n (x : State) => x.setTb n { x.tb n with
          pps0At := (x.tb n).count + ofPs80 (sub % 10) }) a).ref10m edges (s.ppsLast 0).isNone else a) →
        exec (.ppsInputEdge i sub high edges) s = .next (s.afterStep (forEach
          (on.filter (fun n => s.im.hasTb n && (s.im.timeBase n).ref == 1 + i))
          (fun n (x : State) => x.sample n (x.ppsOffset i ((s.tb n).count + ofPs80 (sub % 10))) 1 1) b)))) ∧
    (∀ n d u us, n < 8 → s.tbOn n = true → d = latency (s.rd (R.tsuTbPpsOutDelay n)) →
      u = s.untilTb n (((s.tb n).count - d) / oneSec * oneSec + oneSec + d) → us = s.getF (R.tsuTbPpsOut n) 18 0 →
      (s.bit (R.tsuTbPpsOut n) 31 = true →
        ((s.running && decide (s.landingAt s.nextTick ≤ u.srcNow)) = false → exec (.ppsOutputEdge n) s =
          .next ((u.setTb n { u.tb n with ppsUntil := u.clock + ofUs us }).emit (.ppsEdge n us))) ∧
        ((s.running && decide (s.landingAt s.nextTick ≤ u.srcNow)) = true → exec (.ppsOutputEdge n) s = .next s)) ∧
      (s.bit (R.tsuTbPpsOut n) 31 = false → exec (.ppsOutputEdge n) s = .next s)) ∧
    (∀ n p,
      (s.sendsPtp n p = true → (s.peer n p).sentAt = none → exec (.ptpMessageSend n p) s = .next (s.ptpRequest n p)) ∧
      (∀ t u, s.sendsPtp n p = true → (s.peer n p).sentAt = some t → s.reachClock (t + s.ptpInterval n) = some u →
        exec (.ptpMessageSend n p) s = .next (u.ptpRequest n p)) ∧
      (s.sendsPtp n p = false → exec (.ptpMessageSend n p) s = .next s)) ∧
    (∀ n u, n < 8 → (s.tb n).slewRem < 0 → 0 < s.tbSlew n → u = s.edges (ceilDiv (-(s.tb n).slewRem) (s.tbSlew n)) →
      ((s.running && decide (s.landingAt s.nextTick ≤ u.srcNow)) = false → exec (.slewComplete n) s = .next u) ∧
      ((s.running && decide (s.landingAt s.nextTick ≤ u.srcNow)) = true → exec (.slewComplete n) s = .next s)) ∧
    (∀ n, 0 ≤ (s.tb n).slewRem → exec (.slewComplete n) s = .next s)

/-- What arrives on a port (R124, R133, R135, R136, R155, R192, R262, R281, R411, R416): a landing or a seal that is due
takes effect first, and then every frame goes through the receive path of its port, whichever row names it, when it is the
message or mirror frame that row names; a row whose message it is not has no effect. -/
def Obligations.ArrivalsTakeTheReceivePath : Prop :=
  ∀ (s : State) (p : Nat) (x : RxIn) (t : State), t = s.landFirst.arrive p x →
    exec (.frameReceive p x) s = .next t ∧
    (∀ e ∈ [([0x0, 0x8], Instr.ptpSyncReceive p x), ([0xB], .ptpAnnounceReceive p x), ([0x2], .pdelayReqReceive p x),
        ([0x3, 0xA], .pdelayRespReceive p x), ([0x9], .delayRespReceive p x)],
      ((∃ m ∈ e.1, rxMsg x = some m) → exec e.2 s = .next t) ∧
      ((∀ m ∈ e.1, rxMsg x ≠ some m) → exec e.2 s = .next s)) ∧
    (∀ e ∈ [(1, Instr.heartbeatReceive p x), (2, .epochData p x), (3, .epochTrailer p x)],
      (rxMirror x = e.1 → s.isMirrorPort p = true → exec e.2 s = .next t) ∧
      (rxMirror x ≠ e.1 ∨ s.isMirrorPort p = false → exec e.2 s = .next s))

/-- The link state machine of a port (R151, R154). TRAINING to ALIGNING when its lanes have a clock, signal and lock;
ALIGNING or FAULT to UP when the conditions held for UP_QUAL_MS, in ALIGNING from at most 500 ms after its entry on, with
STATUS.FEC and verification started; ALIGNING to TRAINING after 500 ms; UP to FAULT on a fault longer than DOWN_HOLD_US, a
shorter one showing in STATUS; FAULT to TRAINING after a CDR loss; RETRAIN to TRAINING from UP and FAULT with OK, and STATE
from any other state. A landing that lies before an instant comes first. A link state is entered at the instant it is shown
(R151): PRT.P[p].STATUS.LINK reads it, and its other fields, every other register and DDR4 stay. -/
def Obligations.LinkStatesFollowTheirEvents : Prop :=
  (∀ (s : State) (p : Nat), s.portUsed p = true →
    (s.link p = 1 → s.lanesClocked p = true → exec (.linkAligning p) s = .next (State.linkTo (forEach (s.portLanes p)
      (fun l (x : State) => ((x.setBit (R.prtLStatus l) 0 true).setBit (R.prtLStatus l) 1 true).setBit (R.prtLStatus l) 2
        (s.port p).lt) s) p 2)) ∧
    (s.link p ≠ 1 ∨ s.lanesClocked p = false → exec (.linkAligning p) s = .next s) ∧
    (∀ (start : Nat) t, s.link p = 4 ∨ (s.link p = 2 ∧ start ≤ 500000000) → s.lanesClocked p = true →
      t = (s.port p).since + ofNs start + ofMs (max 1 (s.getF (R.prtPLinkTmr p) 15 0)) →
      (∀ u, s.reachClock t = some u → exec (.linkUp p start) s =
        .next ((((u.setF (R.prtPStatus p) 18 14 3).linkTo p 3).startVerify p).emitFault u p)) ∧
      (s.reachClock t = none → exec (.linkUp p start) s = .next s)) ∧
    (∀ start : Nat, (s.link p ≠ 4 ∧ s.link p ≠ 2) ∨ (s.link p = 2 ∧ 500000000 < start) ∨ s.lanesClocked p = false →
      exec (.linkUp p start) s = .next s) ∧
    (s.link p = 2 →
      (∀ u, s.reachClock ((s.port p).since + ofMs 500) = some u → exec (.alignTimeout p) s = .next (u.linkLeave p 1)) ∧
      (s.reachClock ((s.port p).since + ofMs 500) = none → exec (.alignTimeout p) s = .next s)) ∧
    (s.link p ≠ 2 → exec (.alignTimeout p) s = .next s) ∧
    (∀ st ns x, x = s.setF (R.prtPStatus p) 18 14 st →
      (s.link p = 3 → s.getF (R.prtPLinkTmr p) 31 16 * 1000 < ns → exec (.linkFault p st ns) s = .next (x.linkLeave p 4)) ∧
      (s.link p = 4 ∨ (s.link p = 3 ∧ ns ≤ s.getF (R.prtPLinkTmr p) 31 16 * 1000) →
        exec (.linkFault p st ns) s = .next (x.emitFault s p)) ∧
      (s.link p ≠ 3 → s.link p ≠ 4 → exec (.linkFault p st ns) s = .next s)) ∧
    (∀ l, (s.link p = 4 → (s.portLanes p).contains l = true →
        exec (.cdrLossTimeout p l) s = .next ((s.setBit (R.prtLStatus l) 1 false).linkLeave p 1)) ∧
      (s.link p ≠ 4 → exec (.cdrLossTimeout p l) s = .next s)) ∧
    (∀ req, Reaches s req (R.prtPCtl p) →
      (s.link p = 3 ∨ s.link p = 4 → exec (.retrain req p) s = .next ((s.linkLeave p 1).result (R.prtPStatus p) 0x00)) ∧
      (s.link p ≠ 3 → s.link p ≠ 4 →
        exec (.retrain req p) s = .next (s.result (R.prtPStatus p) 0x02)))) ∧
  (∀ (s : State) (p st hi lo : Nat), Sound s → st < 8 → 3 ≤ lo → lo ≤ hi → hi < 32 →
    (s.linkTo p st).link p = st ∧ (s.linkTo p st).getF (R.prtPStatus p) hi lo = s.getF (R.prtPStatus p) hi lo ∧
    (∀ k, k ≠ R.prtPStatus p → (s.linkTo p st).rd k = s.rd k) ∧ (s.linkTo p st).mem = s.mem)

/-- The timers of a port (R153, R167, R216, R224). VERIFY_TIMER in UP while verification runs and the port carries traffic
sends the next Verify mPacket until VERIFY_TRIES are used, and then fails with MM_VERIFY_FAIL. TREAD_START lets the next
tread take effect at its instant. MM_HOLD_ASSERT lets the treads that are due take effect, and asserts the hold HOLD_ADV
before a tread with HOLD that is next. A landing that lies before an instant comes first. Transmission (R153, R163, R169,
R217, R219, R300). TX_SELECT of a port of the plan, when the line is free or while a frame is on it: what is due in its
treads and queues comes first; on a free line the best express frame that is eligible starts, else a preempted frame that
may continue does, else the best eligible frame outside a hold; with a frame on the line an eligible express frame preempts
it. TX_LAUNCH of a selected frame launches it where what it was selected under still holds, with what the packet buffer's
ECC found, and selects anew where it does not. TX_END ends what was launched at the instant its last octet passes. -/
def Obligations.FramesAreSelectedLaunchedAndEnded : Prop :=
  (∀ (s : State) (p : Nat),
    (∀ t, s.link p = 3 → s.getF (R.prtPStatus p) 23 20 = 2 → s.portCarries p = true →
      t = (s.port p).since + ofMs ((s.port p).verifies * s.verifyMs p) →
      (∀ u, s.reachClock t = some u →
        ((s.port p).verifies < u.getF (R.prtPMmCfg p) 19 16 → exec (.verifyTimer p) s =
          .next ((u.setPort p { u.port p with verifies := (s.port p).verifies + 1 }).emit (.mPacket p false))) ∧
        (u.getF (R.prtPMmCfg p) 19 16 ≤ (s.port p).verifies → exec (.verifyTimer p) s = .next
          (((u.setF (R.prtPStatus p) 23 20 4).settlePreempt p).raise (Src.mmVerifyFail (s.portGallery p)) [Cu.port p]))) ∧
      (s.reachClock t = none → exec (.verifyTimer p) s = .next s)) ∧
    (s.link p ≠ 3 ∨ s.getF (R.prtPStatus p) 23 20 ≠ 2 ∨ s.portCarries p = false → exec (.verifyTimer p) s = .next s) ∧
    (s.running = true → s.portUsed p = true →
      (∀ t, s.nextTreadAt p = some t → exec (.treadStart p) s = .next ((s.untilSrc t).settlePort p)) ∧
      (s.nextTreadAt p = none → exec (.treadStart p) s = .next (s.settlePort p)) ∧
      (∀ u, u = s.settlePort p →
        (∀ t d rest t0, u.treadsAhead p = (t, d) :: rest → t0 = t - ofNs (u.rdN (R.prtPHoldAdv p)) →
          (d.hold = true → t0 < u.landingAt u.nextTick →
            exec (.mmHoldAssert p) s = .next (((u.untilSrc t0).settleLine p).assertHold p)) ∧
          (d.hold = false ∨ u.landingAt u.nextTick ≤ t0 → exec (.mmHoldAssert p) s = .next u)) ∧
        (u.treadsAhead p = [] → exec (.mmHoldAssert p) s = .next u))) ∧
    (s.running = false ∨ s.portUsed p = false → exec (.treadStart p) s = .next s ∧ exec (.mmHoldAssert p) s = .next s)) ∧
  (∀ (s : State) (p : Nat),
    (∀ w a b ok fast, s.portUsed p = true → s.holds = false → s.coreRuns = true →
      w = (if (s.port p).line.isNone then s.untilClock (s.port p).freeAt else s) →
      a = (((w.settlePort p).ripen p).noteBlocked p).flushPort p →
      (a.portCarries p = false → exec (.txSelect p) s = .next a) ∧
      (a.portCarries p = true → b = a.countDefer p → ok = (b.heads p).filter (b.eligible p) →
        fast = b.bestOf p (ok.filter (fun f => b.express p f.tc)) →
        (∀ l, (b.port p).line = some l → exec (.txSelect p) s = .next (if fast.isSome then b.preemptNow p else b)) ∧
        ((b.port p).line = none →
          (∀ f, fast = some f → exec (.txSelect p) s = .next (b.startFrame p f)) ∧
          (∀ l, fast = none → (b.port p).preempted = some l →
            exec (.txSelect p) s = .next (if b.mayContinue p l then b.startRest p l else b)) ∧
          (∀ f, fast = none → (b.port p).preempted = none → b.bestOf p ok = some f →
            exec (.txSelect p) s = .next (if b.holding p then b else b.startFrame p f)) ∧
          (fast = none → (b.port p).preempted = none → b.bestOf p ok = none → exec (.txSelect p) s = .next b)))) ∧
    (s.portUsed p = false ∨ s.holds = true ∨ s.coreRuns = false → exec (.txSelect p) s = .next s) ∧
    (∀ u, u = s.settlePort p →
      (∀ l k, (u.port p).line = some l → l.launched = false → s.coreRuns = true →
        (u.mayLaunch p l (ofPs80 (k % 10)) = true →
          exec (.txLaunch p k none) s = .next (u.launch p k l) ∧
          exec (.txLaunch p k (some false)) s = .next ((u.bufCe (u.bufGallery p l.frame)).launch p k l) ∧
          exec (.txLaunch p k (some true)) s = .next (u.discardUe p l)) ∧
        (u.mayLaunch p l (ofPs80 (k % 10)) = false → ∀ ue, exec (.txLaunch p k ue) s = .next (u.unselect p))) ∧
      (∀ l x, (u.port p).line = some l → l.launched = true → x = u.untilClock (u.lineEnd p l) →
        exec (.txEnd p none) s = .next (x.lineOver p) ∧
        exec (.txEnd p (some false)) s = .next ((x.bufCe (x.bufGallery p l.frame)).lineOver p) ∧
        exec (.txEnd p (some true)) s = .next (x.stompUe p l)) ∧
      ((∀ l, (u.port p).line = some l → l.launched = true ∨ s.coreRuns = false) →
        ∀ k ue, exec (.txLaunch p k ue) s = .next u) ∧
      ((∀ l, (u.port p).line = some l → l.launched = false) → ∀ ue, exec (.txEnd p ue) s = .next u)))

/-- The timers of a stream and of the node table, and the supervision frame of a pair (R191, R193, R196, R197).
TWIN_RESET_TIMER and PATH_DOWN of a handle that is due at the next landing let that landing take effect; at it the recovery
function of a handle that has not passed a frame for its reset time starts anew with TWIN_RESET, and a path that is due sets
its PATH_DOWN with PATH_LOSS. A node that was silent for FORGET_MS is forgotten. The supervision frame of a pair with SUP_EN
and a MAC becomes ready at once the first time and LIFE_CHECK_MS after the one before: it takes the next number of its pair
and counts in SUP_TX. The STR commands (R185, R192, R208) that reach STR.CMD, in every state; SH is written with them.
RECOV_RESET of a stream with a recovery function in hardware mode starts it anew, CONTAIN and RELEASE set and end the
containment of the handle, each with OK; everything else completes with STATE. -/
def Obligations.StreamTimersAndCommandsAct : Prop :=
  (∀ s : State,
    (∀ sh r, s.stream? sh = some r →
      (s.twinDue r s.nextTick = true → exec (.twinResetTimer sh) s = .next (s.landNow none [])) ∧
      (s.twinDue r s.nextTick = false → exec (.twinResetTimer sh) s = .next s) ∧
      (s.pathsDue r s.nextTick ≠ (false, false) → exec (.pathDown sh) s = .next (s.landNow none [])) ∧
      (s.pathsDue r s.nextTick = (false, false) → exec (.pathDown sh) s = .next s)) ∧
    (∀ sh, s.stream? sh = none → exec (.twinResetTimer sh) s = .next s ∧ exec (.pathDown sh) s = .next s) ∧
    (∀ r x, s.twinDue r s.now = true → x = s.resetHandle r.sh →
      s.twinTimer r = (x.setHandle r.sh { x.handle r.sh with lastPass := none }).raise
        (Src.twinReset (s.home r.sh)) [Cu.gallery (s.home r.sh)]) ∧
    (∀ r a b, s.pathsDue r s.now = (a, b) → a = true ∨ b = true →
      s.pathTimer r = (s.setHandle r.sh { s.handle r.sh with
        pathDownA := (s.handle r.sh).pathDownA || a, pathDownB := (s.handle r.sh).pathDownB || b }).raise
        (Src.pathLoss (s.home r.sh)) [Cu.gallery (s.home r.sh)]) ∧
    (∀ pair mac n t, s.node? pair mac = some n → t = n.seen + ofMs (s.getF (R.strRpForget pair) 15 0) →
      (∀ u, s.reachClock t = some u → exec (.nodeForget pair mac) s = .next { u with str := { u.str with
        nodes := u.str.nodes.filter (fun m => m.pair != pair || m.mac != mac) } }) ∧
      (s.reachClock t = none → exec (.nodeForget pair mac) s = .next s)) ∧
    (∀ pair mac, s.node? pair mac = none → exec (.nodeForget pair mac) s = .next s) ∧
    (∀ p at', at' = Tab.get (fun _ => none) s.str.supAt p →
      (s.pairOf p = some p → s.bit (R.strRpCtl p) 0 = true → s.rd64 (R.strRpMac p) % 2 ^ 48 ≠ 0 →
        (at' = none → exec (.supervisionSend p) s = .next (s.supervise p)) ∧
        (∀ t u, at' = some t → s.reachClock (t + ofMs (s.getF (R.strRpCtl p) 31 16)) = some u →
          exec (.supervisionSend p) s = .next (u.supervise p)) ∧
        (∀ t, at' = some t → s.reachClock (t + ofMs (s.getF (R.strRpCtl p) 31 16)) = none →
          exec (.supervisionSend p) s = .next s)) ∧
      (s.pairOf p ≠ some p ∨ s.bit (R.strRpCtl p) 0 = false ∨ s.rd64 (R.strRpMac p) % 2 ^ 48 = 0 →
        exec (.supervisionSend p) s = .next s) ∧
      (s.supervise p).str.supSeq =
        Tab.put (fun _ => 0) s.str.supSeq p ((Tab.get (fun _ => 0) s.str.supSeq p + 1) % 65536) ∧
      (s.supervise p).tx.ready.length = s.tx.ready.length + 1)) ∧
  (∀ (s w : State) (req : Requester) (sh : Nat), Reaches s req R.strCmd → w = s.setF R.strCmd 31 16 sh →
    (∀ r, w.stream? (sh % 65536) = some r →
      (r.recovery ≠ 0 → w.hostTwin (w.home r.sh) = false →
        exec (.recovReset req sh) s = .next ((w.resetHandle (sh % 65536)).result R.strStatus 0x00)) ∧
      (r.recovery = 0 ∨ w.hostTwin (w.home r.sh) = true →
        exec (.recovReset req sh) s = .next (w.result R.strStatus 0x02)) ∧
      ((w.handle r.sh).contained = false → exec (.contain req sh) s =
        .next ((w.setHandle (sh % 65536) { w.handle (sh % 65536) with contained := true }).result R.strStatus 0x00)) ∧
      ((w.handle r.sh).contained = true → exec (.strRelease req sh) s =
        .next ((w.setHandle (sh % 65536) { w.handle (sh % 65536) with contained := false }).result R.strStatus 0x00)) ∧
      ((w.handle r.sh).contained = true → exec (.contain req sh) s = .next (w.result R.strStatus 0x02)) ∧
      ((w.handle r.sh).contained = false → exec (.strRelease req sh) s = .next (w.result R.strStatus 0x02))) ∧
    (w.stream? (sh % 65536) = none → exec (.recovReset req sh) s = .next (w.result R.strStatus 0x02) ∧
      exec (.contain req sh) s = .next (w.result R.strStatus 0x02) ∧
      exec (.strRelease req sh) s = .next (w.result R.strStatus 0x02)))

/-- The window selectors (R210, R236, R264). A write of STR.SEL takes the handle it names and shows its record in the
window: W_STATE, the ticks of its last passes and its eleven counters, a handle outside the plan showing its initial record;
CLEAR clears the counters. A write of SCH.RD_SEL takes the port it names and shows its active bank, zeros after its treads.
A write of PRZ.IN_SEL takes the handle it names and shows its input record; CLEAR clears its counters. -/
def Obligations.WindowSelectorsShowTheirUnit : Prop :=
  ∀ (s : State) (req : Requester) (v : Reg),
    (Reaches s req R.strSel → ∀ sh h a b, sh = fld v 15 0 → h = (if (s.stream? sh).isSome then s.handle sh else handleInit sh) →
      a = ((((s.wrN R.strSel sh).wr R.strWState (s.strStateWord sh)).wrN R.strWLastPass h.shownPass).wrN R.strWLastA
        (h.lastA.getD 0)).wrN R.strWLastB (h.lastB.getD 0) →
      b = forEach [(R.strWPassed, h.passed), (R.strWDiscarded, h.discarded), (R.strWOutOfOrder, h.outOfOrder),
        (R.strWRogue, h.rogue), (R.strWLost, h.lost), (R.strWResets, h.resets), (R.strWPassA, h.passA),
        (R.strWPassB, h.passB), (R.strWTagless, h.tagless), (R.strWPoliced, h.policed),
        (R.strWContainDrop, h.containDrop)] (fun e x => x.wr64 e.1 e.2) a →
      (v.getLsbD 16 = false → exec (.strSelWrite req v) s = .next b) ∧
      (v.getLsbD 16 = true → exec (.strSelWrite req v) s = .next (b.setHandle sh (b.handle sh).cleared))) ∧
    (Reaches s req R.schRdSel → ∀ p, p = fld v 6 0 → exec (.rdSelWrite req v) s = .next ((s.wrN R.schRdSel p).wrWords
      R.schActiveWin (wordsOf 2054 ((s.bank p).take (bankSize (bankCount (s.bank p))))))) ∧
    (Reaches s req R.przInSel → ∀ sh x cls w a b, sh = fld v 15 0 → x = s.sin sh →
      cls = ((s.inputRec? sh).map (fun r => r.dest)).getD 0 →
      w = (if cls = 1 then x.synch.getD 0 else 0) * 2 ^ 24 + (if (s.inputRec? sh).isSome then s.rowOf sh else 0) * 2 ^ 20 +
        x.tb * 2 ^ 12 + x.cur.isSome.toNat * 2 ^ 11 + cls * 2 ^ 9 + (s.inputRec? sh).isSome.toNat * 2 ^ 8 →
      a = (((((s.wrN R.przInSel sh).wrN R.przWIn w).wrN R.przWPathOfs (unsigned 32 (if (s.inputRec? sh).isSome then
        s.pathOfsOf sh else 0))).wrN R.przWConfrev (x.confRev.getD 0)).wrN R.przWLastCnt x.lastCnt).wrWords
        R.przWLastT (timeWords 16 (x.lastT * (2 ^ 16 : Nat))) →
      b = forEach (List.range 18) (fun i y => y.wr64 (R.przWFrames + 8 * i) (Tab.get (fun _ => 0) x.cnt i)) a →
      (v.getLsbD 16 = false → exec (.inSelWrite req v) s = .next b) ∧
      (v.getLsbD 16 = true → exec (.inSelWrite req v) s = .next (b.setSin sh { b.sin sh with cnt := [] })))

/-- The SCH commands (R230 to R235) that reach SCH.P[p].CTL, in every state. Of a port of the plan whose shadow the host
has: COMMIT_AT in hardware mode requests a swap at the tick SCH.P[p].TARGET names, or at the next one when that lies within
the late window, and ends DISCARDED with SWAP_DISCARD beyond it; COMMIT_NEXT in host-assisted mode requests one at the next
landing. WITHDRAW before the cut-off takes the request of a command back, which leaves WITHDRAWN. Everything else completes
with STATE. -/
def Obligations.BankCommandsTakeEffect : Prop :=
  ∀ (s : State) (req : Requester) (p : Nat) (mine : SwapReq → Bool), Reaches s req (R.schPCtl p) →
    mine = (fun r => decide (r.kind = .bank p) && r.byCommand) →
    (s.portUsed p = true → s.bankFree p = true →
      (s.hostSwap p = false →
        (∀ t late, s.joinTick (s.rdN (R.schPTarget p)) = some (t, late) → exec (.commitAt req p) s = .next (State.result
          ((s.addReq ⟨.bank p, t, late, false, none, true⟩).settleOwned p) (R.schPStatus p) 0x00)) ∧
        (s.joinTick (s.rdN (R.schPTarget p)) = none → exec (.commitAt req p) s =
          .next (State.result ((s.setF (R.schPStatus p) 2 0 4).raise Src.swapDiscard []) (R.schPStatus p) 0x00))) ∧
      (s.hostSwap p = true → exec (.commitNext req p) s = .next (State.result
        ((s.addReq ⟨.bank p, s.openTick, false, false, none, true⟩).settleOwned p) (R.schPStatus p) 0x00))) ∧
    (s.portUsed p = false ∨ s.bankFree p = false ∨ s.hostSwap p = true →
      exec (.commitAt req p) s = .next (s.result (R.schPStatus p) 0x02)) ∧
    (s.portUsed p = false ∨ s.bankFree p = false ∨ s.hostSwap p = false →
      exec (.commitNext req p) s = .next (s.result (R.schPStatus p) 0x02)) ∧
    (s.mirrorOwns = false → s.tick.reqs.any (fun r => mine r && decide (s.openTick ≤ r.tick)) = true → exec (.withdraw req p) s =
      .next (State.result (((s.dropReqs mine).setF (R.schPStatus p) 2 0 5).settleOwned p) (R.schPStatus p) 0x00)) ∧
    (s.mirrorOwns = true ∨ s.tick.reqs.any (fun r => mine r && decide (s.openTick ≤ r.tick)) = false →
      exec (.withdraw req p) s = .next (s.result (R.schPStatus p) 0x02))

/-- The PRZ input commands (R250, R265) that reach PRZ.IN_CMD, in every state; SH is written with them. Of a stream that
feeds a prism input: SET_PATH_OFS with IN_ARG from -10,000,000 to 10,000,000 ns, SET_REORDER, where more than 8 places act
as 8, and BREAK wait for the next landing with OK; at it the offset is set and the stream breaks, the window is set and the
sequences below it close, and the stream breaks. A larger offset completes with CHECK, and a handle that feeds no prism
input with STATE. -/
def Obligations.PrismInputCommandsWaitForTheLanding : Prop :=
  ∀ (s w : State) (req : Requester) (sh : Nat), Reaches s req R.przInCmd → w = s.setF R.przInCmd 31 16 sh →
    ((w.inputRec? sh).isSome = true →
      (∀ v, v = signed 32 (w.rdN R.przInArg) →
        (-10000000 ≤ v → v ≤ 10000000 → exec (.setPathOfs req sh) s =
          .next ((w.setSin sh { w.sin sh with cmds := (w.sin sh).cmds ++ [.pathOfs v] }).result R.przInStatus 0x00)) ∧
        (v < -10000000 ∨ 10000000 < v → exec (.setPathOfs req sh) s = .next (w.result R.przInStatus 0x03))) ∧
      exec (.setReorder req sh) s = .next ((w.setSin sh { w.sin sh with
        cmds := (w.sin sh).cmds ++ [.reorder (min 8 (w.getF R.przInArg 3 0))] }).result R.przInStatus 0x00) ∧
      exec (.przBreak req sh) s =
        .next ((w.setSin sh { w.sin sh with cmds := (w.sin sh).cmds ++ [.brk] }).result R.przInStatus 0x00)) ∧
    ((w.inputRec? sh).isNone = true → exec (.setPathOfs req sh) s = .next (w.result R.przInStatus 0x02) ∧
      exec (.setReorder req sh) s = .next (w.result R.przInStatus 0x02) ∧
      exec (.przBreak req sh) s = .next (w.result R.przInStatus 0x02)) ∧
    (∀ v, s.applyIn sh (.pathOfs v) = (s.setSin sh { s.sin sh with pathOfs := some v }).breakStream sh) ∧
    (∀ n q, (s.sin sh).cur = some q → s.applyIn sh (.reorder n) = ((s.setSin sh { s.sin sh with
      row := some n, cur := some (q.close (q.newest - n)).2 }).cntIn sh In.gap (q.close (q.newest - n)).1).evalStream sh) ∧
    (∀ n, (s.sin sh).cur = none → s.applyIn sh (.reorder n) = s.setSin sh { s.sin sh with row := some n }) ∧
    s.applyIn sh .brk = s.breakStream sh

/-- Pane groups (R88, R281, R282, R295). PANE_SEAL of a group of the plan whose next pane is not held back: it seals at its
seal instant, the outputs in `uncomputed` being decided and not computed, or, when the seal work goes on, at its deadline,
by the next PANE_SEAL; a landing that lies before the instant comes first. CONTAIN and RELEASE of a group of the plan that
is not so already wait for the next landing with OK, what waits for it counting; everything else completes with STATE. -/
def Obligations.PanesSealAndGroupsAreContained : Prop :=
  ∀ s : State,
    (∀ g r uncomputed slow, s.pg? g = some r → s.paneBarred (s.group g).nextSeal = false →
      (∀ u, s.reach (s.sealTime g r) = some u →
        ((u.group g).slow.isSome = true → exec (.paneSeal g uncomputed slow) s = .next (u.sealNext g (u.sealKind g))) ∧
        ((u.group g).slow = none →
          exec (.paneSeal g uncomputed false) s = .next (u.sealNext g { sealPlain with uncomputed := uncomputed }) ∧
          exec (.paneSeal g uncomputed true) s = .next (u.sealSlow g uncomputed))) ∧
      (s.reach (s.sealTime g r) = none → exec (.paneSeal g uncomputed slow) s = .next s)) ∧
    (∀ g uncomputed slow, s.pg? g = none ∨ s.paneBarred (s.group g).nextSeal = true →
      exec (.paneSeal g uncomputed slow) s = .next s) ∧
    (∀ w req g held, Reaches s req R.przPgCmd → w = s.setF R.przPgCmd 15 8 g → g < 256 →
      held = (w.group g).cmd.getD (w.bit (R.przPgStatus g) 17) →
      (w.im.has Sect.paneGroup g = true → held = false →
        exec (.pgContain req g) s = .next ((w.setGroup g { w.group g with cmd := some true }).result R.przPgCmdStatus 0x00)) ∧
      (w.im.has Sect.paneGroup g = true → held = true →
        exec (.pgRelease req g) s = .next ((w.setGroup g { w.group g with cmd := some false }).result R.przPgCmdStatus 0x00)) ∧
      (w.im.has Sect.paneGroup g = false ∨ held = true → exec (.pgContain req g) s = .next (w.result R.przPgCmdStatus 0x02)) ∧
      (w.im.has Sect.paneGroup g = false ∨ held = false →
        exec (.pgRelease req g) s = .next (w.result R.przPgCmdStatus 0x02)))

/-- The commands of GOOSE control blocks that reach TXE.CMD, in every state (R306, R307, R308, R313). LOAD_PENDING begins to
read a template, COMMIT of a block that runs with a ready template makes it active (before a frame of the block selected on
that edge), ENABLE and DISABLE wait for the next landing; ENABLE for a port with LANES 0 completes with CHECK and everything
else with STATE. TEMPLATE_LOAD_DONE of a load in flight reads the template and ends the load, but in D3hot; GCB_FRAME_DUE of
a block that runs makes its due instant come, after a landing that lies before it. The interval before due instant k of a
GOOSE control block in hardware mode (R310), in ns: T1_US doubled k - 1 times up to T0_MS for the STEPS steps of its curve,
of which 0 counts as 1 and more than 8 as 8, and T0_MS past them. -/
def Obligations.GooseBlocksLoadCommitAndSend : Prop :=
  (∀ (s : State) (i : Nat), i < 4096 →
    (∀ w req, Reaches s req R.txeCmd → w = (s.setF R.txeCmd 15 12 0).setF R.txeCmd 27 16 i →
      ((w.gcb i).loading = none → w.gcbMirrored i = false →
        exec (.loadPending req i) s = .next (State.settleTxeBusy (State.setGcb
          (w.setBit (R.txeGcbStatus i) 3 false) i { w.gcb i with loading := some (w.newLoad req (w.gcbPort i)) })
          |>.defer (R.txeGcbCfg i))) ∧
      ((w.gcb i).loading.isSome = true ∨ w.gcbMirrored i = true →
        exec (.loadPending req i) s = .next (w.result R.txeStatus 0x02)) ∧
      (w.gcbRuns i = true → w.bit (R.txeGcbStatus i) 3 = true → w.gcbMirrored i = false →
        exec (.gcbCommit req i) s = .next ((w.gcbCommitFirst i false).result R.txeStatus 0x00)) ∧
      (w.gcbRuns i = false ∨ w.bit (R.txeGcbStatus i) 3 = false ∨ w.gcbMirrored i = true →
        exec (.gcbCommit req i) s = .next (w.result R.txeStatus 0x02)) ∧
      (w.gcbOn i = false → w.bit (R.txeGcbStatus i) 3 = true → w.gcbMirrored i = false →
        ((w.portRec (w.getF (R.txeGcbCfg i) 6 0)).lanes ≠ 0 →
          exec (.gcbEnable req i) s = .next ((w.setGcb i { w.gcb i with enReq := true }).result R.txeStatus 0x00)) ∧
        ((w.portRec (w.getF (R.txeGcbCfg i) 6 0)).lanes = 0 →
          exec (.gcbEnable req i) s = .next (w.result R.txeStatus 0x03))) ∧
      (w.gcbOn i = true ∨ w.bit (R.txeGcbStatus i) 3 = false ∨ w.gcbMirrored i = true →
        exec (.gcbEnable req i) s = .next (w.result R.txeStatus 0x02)) ∧
      (w.gcbOn i = true → w.gcbMirrored i = false → exec (.gcbDisable req i) s =
        .next ((w.setGcb i { w.gcb i with disReq := true }).result R.txeStatus 0x00)) ∧
      (w.gcbOn i = false ∨ w.gcbMirrored i = true →
        exec (.gcbDisable req i) s = .next (w.result R.txeStatus 0x02))) ∧
    (∀ l bytes, (s.gcb i).loading = some l →
      (s.inD3 l.req = false → exec (.templateLoadDone 0 i bytes) s =
        .next ((s.emit (.hostRead l.req l.addr l.len)).gcbLoaded i l bytes)) ∧
      (s.inD3 l.req = true → exec (.templateLoadDone 0 i bytes) s = .next s)) ∧
    (∀ bytes, (s.gcb i).loading = none → exec (.templateLoadDone 0 i bytes) s = .next s) ∧
    (s.gcbRuns i = true →
      (∀ u, s.reach (s.gcb i).due = some u → exec (.gcbFrameDue i) s = .next (u.gcbDue i)) ∧
      (s.reach (s.gcb i).due = none → exec (.gcbFrameDue i) s = .next s)) ∧
    (s.gcbRuns i = false → exec (.gcbFrameDue i) s = .next s)) ∧
  (∀ (s : State) (i k steps t1 t0 : Nat), 1 ≤ k → (s.gcb i).flat = false →
    t1 = (s.inForce (R.txeGcbT1Us i)).toNat % 16777216 → t0 = (s.inForce (R.txeGcbT0Ms i)).toNat % 65536 →
    steps = max 1 (min 8 ((s.inForce (R.txeGcbCfg i)).toNat / 65536 % 16)) →
    (k ≤ steps → s.gcbInterval i k = min (t1 * 1000 * 2 ^ (k - 1)) (t0 * 1000000)) ∧
    (steps < k → s.gcbInterval i k = t0 * 1000000))

/-- SV publishers (R315, R316). The commands that reach TXE.CMD, in every state: LOAD of a disabled publisher begins to read
its template, ENABLE and DISABLE wait for the next landing, and everything else completes with STATE. TEMPLATE_LOAD_DONE of
a load in flight reads the template and ends the load, but in D3hot. A value slot of a tick up to the next one is read and
kept for its frame. A frame is ready at its last grid instant, after a landing that lies before it: with the values of its
slot it goes to its ports, and it counts as an underrun when they were not read (with SVP_UNDERRUN) or when none of its
ports carries traffic. -/
def Obligations.PublishersLoadReadAndSend : Prop :=
  ∀ (s : State) (n : Nat),
    (∀ w req, Reaches s req R.txeCmd → w = (s.setF R.txeCmd 15 12 1).setF R.txeCmd 27 16 n →
      (n < 64 → w.svpOn n = false → (w.svp n).loading = none → exec (.svpLoad req n) s = .next (State.settleTxeBusy (State.setSvp
        (w.setBit (R.txeSvpStatus n) 1 false) n { w.svp n with loading := some (w.newLoad req (fld (w.svpCfg n) 6 0)) })
        |>.defer (R.txeSvpCfg n))) ∧
      (64 ≤ n ∨ w.svpOn n = true ∨ (w.svp n).loading.isSome = true →
        exec (.svpLoad req n) s = .next (w.result R.txeStatus 0x02)) ∧
      (n < 64 → w.svpOn n = false → w.bit (R.txeSvpStatus n) 1 = true →
        exec (.svpEnable req n) s = .next ((w.setSvp n { w.svp n with enReq := true }).result R.txeStatus 0x00)) ∧
      (64 ≤ n ∨ w.svpOn n = true ∨ w.bit (R.txeSvpStatus n) 1 = false →
        exec (.svpEnable req n) s = .next (w.result R.txeStatus 0x02)) ∧
      (n < 64 → w.svpOn n = true → exec (.svpDisable req n) s =
        .next ((w.setSvp n { w.svp n with disReq := true }).result R.txeStatus 0x00)) ∧
      (64 ≤ n ∨ w.svpOn n = false → exec (.svpDisable req n) s = .next (w.result R.txeStatus 0x02))) ∧
    (∀ l bytes, n < 64 → (s.svp n).loading = some l →
      (s.inD3 l.req = false → exec (.templateLoadDone 1 n bytes) s =
        .next ((s.emit (.hostRead l.req l.addr l.len)).svpLoaded n l bytes)) ∧
      (s.inD3 l.req = true → exec (.templateLoadDone 1 n bytes) s = .next s)) ∧
    (∀ bytes, 64 ≤ n ∨ (s.svp n).loading = none → exec (.templateLoadDone 1 n bytes) s = .next s) ∧
    (∀ f values, (n < 64 → s.svpOn n = true → (s.svp n).next ≤ f → f / max 1 (s.svpPerTick n) ≤ s.now + 1 →
        s.inD3 (s.svpFunc n) = false →
        exec (.svpSlotRead n f values) s = .next ((s.emit (.hostRead (s.svpFunc n) (s.svpSlotAt n f) (s.svpSlot n))).setSvp n
          { s.svp n with slots := (s.svp n).slots.filter (fun e => e.1 != f) ++ [(f, values)] })) ∧
      (64 ≤ n ∨ s.svpOn n = false ∨ f < (s.svp n).next ∨ s.now + 1 < f / max 1 (s.svpPerTick n) ∨
        s.inD3 (s.svpFunc n) = true → exec (.svpSlotRead n f values) s = .next s)) ∧
    (∀ f j, f = max (s.svp n).next (s.now * s.svpPerTick n) → j = f - s.now * s.svpPerTick n →
      (n < 64 → s.svpOn n = true → s.running = true → j < s.svpPerTick n →
        (∀ u w got, s.reach (s.gridAt s.now (j * s.svpAsdus n + s.svpAsdus n - 1) (fld (s.svpCfg n) 31 16) * 65536) = some u →
          w = u.setSvp n { s.svp n with next := f + 1, slots := (s.svp n).slots.filter (fun e => decide (f < e.1)) } →
          got = ((s.svp n).slots.find? (fun e => e.1 == f)).bind (·.2) →
          ((s.txPorts (fld (s.svpCfg n) 6 0)).any s.portCarries = true →
            (∀ v, got = some v → exec (.svpFrameReady n) s = .next (w.enqueue ⟨0, .svp n, s.txPorts (fld (s.svpCfg n) 6 0),
              fld (s.svpCfg n) 10 8, false, w.svpBytes n s.now j v, none, s.pairOf (fld (s.svpCfg n) 6 0), none, true,
              none, true⟩)) ∧
            (got = none → exec (.svpFrameReady n) s = .next ((w.inc (R.txeSvpUnderrun n)).raise Src.svpUnderrun []))) ∧
          ((s.txPorts (fld (s.svpCfg n) 6 0)).any s.portCarries = false →
            exec (.svpFrameReady n) s = .next (w.inc (R.txeSvpUnderrun n)))) ∧
        (s.reach (s.gridAt s.now (j * s.svpAsdus n + s.svpAsdus n - 1) (fld (s.svpCfg n) 31 16) * 65536) = none →
          exec (.svpFrameReady n) s = .next s)) ∧
      (64 ≤ n ∨ s.svpOn n = false ∨ s.running = false ∨ s.svpPerTick n ≤ j → exec (.svpFrameReady n) s = .next s))

/-- Doorbells (R322, R331 to R334, R343), while BAR2 answers. Through the function that owns the queue: TAIL crosses into
CORE and takes a tail at most the queue's size from HEAD, which lets the next entry be fetched, and counts and raises any
other and stops the queue; CANCEL has its effect; INVAL reaches, in ring order, each of its indices that lies between HEAD
and TAIL without a completion, marks a fetch in flight of such an index stale, and lets the next entry be fetched; those of
a queue that a mirror owns are dropped and counted; CR_HEAD reports the head of the queue's ring. Through any other
function, and of a queue that is not in the plan, a doorbell is dropped and counted. While BAR2 does not answer, a doorbell
does nothing. A head report (R331, R358): one at most the ring's size behind its tail is taken, and what waits for slots on
the queues of the ring is written; any other sets LAP of the ring and raises QM_CR_LAP with its head unchanged.
CR_HEAD_WRITE is such a report, by the owner of the ring; by another requester, and of a ring that is not in the plan, it is
dropped and counted. -/
def Obligations.DoorbellsAndHeadReports : Prop :=
  (∀ (s : State) (req : Requester) (q : Nat) (v : Reg) (tag : Nat) (tags : List Nat),
    (s.barOpen = true →
      (∀ x, s.sq? q = some x → req.owns x.func x.vf = true →
        (s.qMirrored q = false →
          (∀ u, u = (s.cross (Xing.tail q) 9).2 →
            (idxDist (fld v 15 0) (u.qHead q) ≤ u.qSize q →
              exec (.tail req q v) s = .next ((u.setF (R.qmQTail q) 15 0 (fld v 15 0)).issueFetch q)) ∧
            (u.qSize q < idxDist (fld v 15 0) (u.qHead q) → exec (.tail req q v) s =
              .next ((((u.inc (R.qmQLapErr q)).raise Src.qmLap []).stopQueue q 2).settleStop q))) ∧
          exec (.cancel req q v tag) s = .next (s.cancelEntry q (fld v 15 0) tag) ∧
          (∀ c n live u, c = fld v 31 16 → (c = 0 ∨ s.qSize q < c → n = s.qSize q) → (c ≠ 0 → c ≤ s.qSize q → n = c) →
            live = ((idxFrom (fld v 15 0) n).zip (tags ++ List.replicate n 0)).filter (fun e =>
              decide (idxDist e.1 (s.qHead q) < idxDist (s.qTail q) (s.qHead q)) && !(s.queue q).done.contains e.1) →
            u = s.setQueue q { s.queue q with
              fetching := (s.queue q).fetching.map (fun f => (f.1, f.2 || live.any (fun e => e.1 == f.1))) } →
            exec (.inval req q v tags) s = .next ((forEach live (fun e x => x.invalOne q e.1 e.2) u).issueFetch q))) ∧
        (s.qMirrored q = true → exec (.tail req q v) s = .next (s.inc R.rdnOwnedDrop) ∧
          exec (.cancel req q v tag) s = .next (s.inc R.rdnOwnedDrop) ∧
          exec (.inval req q v tags) s = .next (s.inc R.rdnOwnedDrop)) ∧
        exec (.crHead req q v) s = .next (s.reportHead (s.qRing q) (fld v 15 0))) ∧
      ((∀ x, s.sq? q = some x → req.owns x.func x.vf = false) →
        exec (.tail req q v) s = .next (s.inc R.qmDbDrop) ∧ exec (.crHead req q v) s = .next (s.inc R.qmDbDrop) ∧
        exec (.cancel req q v tag) s = .next (s.inc R.qmDbDrop) ∧
        exec (.inval req q v tags) s = .next (s.inc R.qmDbDrop))) ∧
    (s.barOpen = false → exec (.tail req q v) s = .next s ∧ exec (.crHead req q v) s = .next s ∧
      exec (.cancel req q v tag) s = .next s ∧ exec (.inval req q v tags) s = .next s)) ∧
  (∀ (s : State) (req : Requester) (r i : Nat) (v : Reg), 6 ≤ s.boot.stage → s.clockStopped (R.qmCrHead i) = false →
    i = s.qmIndex req true r →
    (∀ o, s.qmOwner true i = some o → s.qmMay req o.1 o.2 = true →
      (idxDist (s.crTail i) (fld v 15 0) ≤ s.crSize i → exec (.crHeadWrite req r v) s =
        .next (forEach (s.queuesOf i) (fun q x => x.drainQueue q) (s.setF (R.qmCrHead i) 15 0 (fld v 15 0)))) ∧
      (s.crSize i < idxDist (s.crTail i) (fld v 15 0) → exec (.crHeadWrite req r v) s =
        .next ((s.hwSet (R.qmCrStatus i) 0).raise Src.qmCrLap []))) ∧
    ((∀ o, s.qmOwner true i = some o → s.qmMay req o.1 o.2 = false) → exec (.crHeadWrite req r v) s =
      .next (s.inc (if isMgmt (s.acting req) then R.topMgtWrDrop else R.qmForeignWr))))

/-- TX_FETCH_DONE of a transmit queue that is RUN or HELD, its function awake and no read of it failed (R299, R349), uses
its oldest cached entry: with a completion slot, an entry that passes its checks has its frame read and is ready with it;
one that fails them completes with CHECK, unread; one whose frame read failed is failed, for its turn. Without a slot it
waits. With no entry, or otherwise, nothing happens. An A-ring in the same states (R319, R321, R322): its oldest cached
entry past its window completes with LATE; one beyond the run-ahead depth waits; with a completion slot, one that fails its
checks completes with CHECK, one posted as cancelled with CANCELLED, one without room in the store waits, one whose frame
read failed is failed, and the others bind with their frame, whose octets count in the store; without a slot it waits.
RA_WINDOW_EXPIRY of a bound entry past its window takes it off its line, and it completes with LATE and RA_LATE; of any
other entry it does nothing. -/
def Obligations.TransmitEntriesAreUsedInOrder : Prop :=
  (∀ (s : State) (q : Nat) (frame : Option (List Byte)),
    (∀ r e u, s.sq? q = some r → s.oldestCached q = some e → r.kind = 0 → s.qState q = 1 ∨ s.qState q = 2 →
      s.inD3 (s.qOwner q) = false → s.readFailed q = false → u = s.reserve (s.qRing r.qid) 1 →
      (s.canReserve (s.qRing q) 1 = true →
        (s.txOk r.port e.bytes = false →
          exec (.txFetchDone q frame) s = .next (u.complete r.qid e.idx (leAt e.bytes 0xA 2) 0x03 0)) ∧
        (∀ b f, s.txOk r.port e.bytes = true → frame = some b →
          f = s.hostFrame r e.idx (slice b 0 (leAt e.bytes 8 2)) ((leAt e.bytes 0xC 1).testBit 0) true →
          exec (.txFetchDone q frame) s = .next (State.enqueue ((u.readFrame r.qid e.bytes).setEntry r.qid
            { e with stage := .ready, left := f.ports.length, slot := true }) f)) ∧
        (s.txOk r.port e.bytes = true → frame = none →
          exec (.txFetchDone q frame) s = .next ((u.readFrame r.qid e.bytes).failRead r.qid e))) ∧
      (s.canReserve (s.qRing q) 1 = false → exec (.txFetchDone q frame) s = .next (s.stall (s.qRing q)))) ∧
    (s.sq? q = none ∨ s.oldestCached q = none ∨ s.inD3 (s.qOwner q) = true ∨ s.readFailed q = true ∨
      (s.qState q ≠ 1 ∧ s.qState q ≠ 2) ∨ (∀ r, s.sq? q = some r → r.kind ≠ 0 ∧ r.kind ≠ 2) →
      exec (.txFetchDone q frame) s = .next s)) ∧
  (∀ (s : State) (q : Nat),
    (∀ r e fr b u x, s.sq? q = some r → s.oldestCached q = some e → r.kind = 2 → s.qState q = 1 ∨ s.qState q = 2 →
      s.inD3 (s.qOwner q) = false → s.readFailed q = false → b = e.bytes → u = R.txeGRaUsed (s.portGallery r.port) →
      x = s.reserve (s.qRing r.qid) 1 →
      (s.canReserve (s.qRing q) 1 = true →
        (s.aqExpired b = true → exec (.txFetchDone q fr) s = .next (s.aqLateEntry r.qid e)) ∧
        (s.aqExpired b = false → (s.aqDepth r.qid : Int) < tickDiff (aqTarget b) s.now →
          exec (.txFetchDone q fr) s = .next s) ∧
        (s.aqExpired b = false → tickDiff (aqTarget b) s.now ≤ (s.aqDepth r.qid : Int) →
          (s.aqOk r.port b = false →
            exec (.txFetchDone q fr) s = .next (x.complete r.qid e.idx (leAt b 0xA 2) 0x03 0)) ∧
          (s.aqOk r.port b = true →
            (leAt b 0x15 1 = 1 → exec (.txFetchDone q fr) s = .next (x.complete r.qid e.idx (leAt b 0xA 2) 0x07 0)) ∧
            (leAt b 0x15 1 ≠ 1 →
              (1048576 < s.rdN u + leAt b 8 2 → exec (.txFetchDone q fr) s = .next s) ∧
              (s.rdN u + leAt b 8 2 ≤ 1048576 →
                (fr = none → exec (.txFetchDone q fr) s = .next ((x.readFrame r.qid b).failRead r.qid e)) ∧
                (∀ fb f, fr = some fb →
                  f = s.hostFrame r e.idx (slice fb 0 (leAt b 8 2)) ((leAt b 0x16 1).testBit 0) false →
                  exec (.txFetchDone q fr) s = .next (State.enqueue (State.setEntry
                    (((x.readFrame r.qid b).inc (R.txeAqBound r.qid)).wrN u (s.rdN u + leAt b 8 2)) r.qid
                    { e with stage := .bound, left := f.ports.length, slot := true }) f))))))) ∧
      (s.canReserve (s.qRing q) 1 = false → exec (.txFetchDone q fr) s = .next (s.stall (s.qRing q)))) ∧
    (∀ i e, s.entry? q i = some e →
      (e.stage = .bound → s.qKind q = 2 → s.aqExpired e.bytes = true →
        exec (.raWindowExpiry q i) s = .next (((s.unline (.host q i)).aqExpire q e).settleStop q)) ∧
      (e.stage ≠ .bound ∨ s.qKind q ≠ 2 ∨ s.aqExpired e.bytes = false → exec (.raWindowExpiry q i) s = .next s)) ∧
    (∀ i, s.entry? q i = none → exec (.raWindowExpiry q i) s = .next s))

/-- DESC_FETCH_DONE (R328, R335, R341): a read that room in the cache allowed is issued first. With no fetch in flight
nothing follows. What comes for an index that became stale, complete or cached, or when the queue may not fetch, is
discarded. Else the entry joins the cache in ring order and FETCHED passes it: with a failed read as failed, to complete in
its turn; on an A-ring unless it lies beyond the run-ahead depth or has no room in the store; and the next read is issued.
RX_FRAME_DELIVER (R338, R347, R349): the oldest waiting frame of a running receive queue goes to the next entry in ring
order: with CHECK for a bad entry, with NO_RESOURCE where the buffer is too small, or written to its buffer, followed by its
stamp and twin trailers, with OK; without a slot it waits, and otherwise nothing happens. -/
def Obligations.ReceiveQueuesFetchAndDeliver : Prop :=
  ∀ (s : State) (q : Nat),
    (∀ data x, x = s.issueFetch q →
      ((x.queue q).fetching = none → exec (.descFetchDone q data) s = .next x) ∧
      (∀ i stale y, (x.queue q).fetching = some (i, stale) → y = x.setQueue q { x.queue q with fetching := none } →
        (stale = true ∨ (y.queue q).done.contains i = true ∨ (y.entry? q i).isSome = true ∨ y.mayFetch q = false →
          exec (.descFetchDone q data) s = .next (y.issueFetch q)) ∧
        (stale = false → (y.queue q).done.contains i = false → (y.entry? q i).isSome = false → y.mayFetch q = true →
          (data = none → exec (.descFetchDone q data) s = .next (((State.setF (y.setQueue q { y.queue q with
            entries := insertEntry (y.qHead q) ⟨i, [], .failed, 0, [], 0, none, false⟩ (y.queue q).entries })
            (R.qmQFetched q) 15 0 (i + 1)).settleFailed q).settleStop q)) ∧
          (∀ d b z, data = some d → b = slice d 0 (entrySize (y.qKind q)) →
            z = State.setF (y.setQueue q { y.queue q with
              entries := insertEntry (y.qHead q) ⟨i, b, .cached, 0, [], 0, none, false⟩ (y.queue q).entries })
              (R.qmQFetched q) 15 0 (i + 1) →
            (y.qKind q ≠ 2 → exec (.descFetchDone q data) s = .next (z.issueFetch q)) ∧
            (y.qKind q = 2 →
              ((y.aqDepth q : Int) < tickDiff (aqTarget b) y.now ∨
                1048576 < y.rdN (R.txeGRaUsed (y.qGallery q)) + leAt b 8 2 → exec (.descFetchDone q data) s = .next y) ∧
              (tickDiff (aqTarget b) y.now ≤ (y.aqDepth q : Int) →
                y.rdN (R.txeGRaUsed (y.qGallery q)) + leAt b 8 2 ≤ 1048576 →
                exec (.descFetchDone q data) s = .next ((z.aqLateFront q).issueFetch q))))))) ∧
    (∀ e f rest, s.rxNext q = some e → (s.queue q).rxWait = f :: rest → s.qKind q = 1 → s.qState q = 1 →
      s.inD3 (s.qOwner q) = false →
      (s.canReserve (s.qRing q) 1 = false → exec (.rxFrameDeliver q) s = .next (s.stall (s.qRing q))) ∧
      (∀ u w ts tail trl, s.canReserve (s.qRing q) 1 = true → u = s.reserve (s.qRing q) 1 →
        w = u.setQueue q { u.queue q with rxWait := rest } → ts = ((s.queue q).rxTs && !f.stamp.isEmpty) →
        (ts = true → tail = f.stamp ++ f.twin) → (ts = false → tail = f.twin) → trl = (f.bytes.length + 7) / 8 * 8 →
        (rxOk e.bytes = false → exec (.rxFrameDeliver q) s =
          .next ((u.complete q e.idx (leAt e.bytes 0xA 2) 0x03 0).rxStarve q)) ∧
        (rxOk e.bytes = true →
          (leAt e.bytes 8 2 < trl + tail.length → exec (.rxFrameDeliver q) s =
            .next (w.complete q e.idx (leAt e.bytes 0xA 2) 0x0D (rxInfo f.bytes.length false f.tick))) ∧
          (trl + tail.length ≤ leAt e.bytes 8 2 → exec (.rxFrameDeliver q) s =
            .next (State.complete ((w.dataWrite (s.qOwner q) (leAt e.bytes 0 8) f.bytes).dataWrite (s.qOwner q)
              (leAt e.bytes 0 8 + trl) tail) q e.idx (leAt e.bytes 0xA 2) 0x00 (rxInfo f.bytes.length ts f.tick)))))) ∧
    (s.rxNext q = none ∨ (s.queue q).rxWait = [] ∨ s.qKind q ≠ 1 ∨ s.qState q ≠ 1 ∨ s.inD3 (s.qOwner q) = true →
      exec (.rxFrameDeliver q) s = .next s)

/-- The oldest cached entry of a work queue that is RUN, its function awake, no read of it failed and the CORE clock
running, issues (R339, R340, R349), a fenced one only once every earlier entry has its completion. With its slot reserved,
an entry that fails a check completes with CHECK and the reason in INFO, and one that passes has the effect of its operation
and completes: NOP, CSR_WRITE and ACT_WRITE with OK, CSR_READ with the value read, CSR_CMD with the RESULT of the command
its write issues; an access to a stopped clock completes with TIMEOUT. Without a slot it waits. A row of another operation,
and one of a queue in another state, does nothing. -/
def Obligations.WorkEntriesIssueAndComplete : Prop :=
  ∀ (s : State) (q : Nat),
    (∀ e e1 s1 b, s.oldestCached q = some e → b = e.bytes → s.qKind q = 3 → s.qState q = 1 → s.inD3 (s.qOwner q) = false →
      s.readFailed q = false → s.coreRuns = true → e1 = { e with stage := .issued, slot := true } →
      s1 = (s.reserve (s.qRing q) 1).setEntry q e1 →
      (workClean b = false ∨ workFence b = false ∨ e.idx = s.qHead q →
        (s.canReserve (s.qRing q) 1 = true →
          (s.workReason q b ≠ 0 → ∀ c ∈ [Instr.nop q, .csrWrite q, .csrRead q, .csrCmd q, .actWrite q],
            exec c s = .next (s1.workDone q e1 0x03 (s.workReason q b * 4294967296))) ∧
          (s.workReason q b = 0 →
            (workOp b = 0 → exec (.nop q) s = .next (s1.workDone q e1 0x00 0)) ∧
            (workOp b = 1 → s1.workStopped q (workArg b) = false →
              exec (.csrWrite q) s = .next ((s1.busWrite (.wq q) (workArg b) (workData b)).workDone q e1 0x00 0)) ∧
            (workOp b = 2 → s1.workStopped q (workArg b) = false → ∀ x, x = s1.busRead (.wq q) (workArg b) →
              exec (.csrRead q) s = .next (x.2.workDone q e1 0x00 (x.1.getD 0).toNat)) ∧
            (workOp b = 3 → s1.workStopped q (workArg b) = false →
              exec (.csrCmd q) s = .next (State.settleStop (State.answerCmds (State.busWrite
                { s1 with csrWait := s1.csrWait ++ [(issuing, q, e1.idx)] } (.wq q) (workArg b) (workData b)) issuing 0x00) q)) ∧
            (workOp b = 4 → s1.clockStopped (R.tickAct (workArg b)) = false → ∀ a, a = R.tickAct (workArg b) →
              exec (.actWrite q) s = .next (State.workDone ((((s1.busWrite (.wq q) a (workWord b 0)).busWrite (.wq q) (a + 4)
                (workWord b 1)).busWrite (.wq q) (a + 8) (workWord b 2)).busWrite (.wq q) (a + 12) (workWord b 3))
                q e1 0x00 0)) ∧
            (workOp b = 1 → s1.workStopped q (workArg b) = true → exec (.csrWrite q) s = .next (s1.workTimeout q e1 0)) ∧
            (workOp b = 2 → s1.workStopped q (workArg b) = true →
              exec (.csrRead q) s = .next (s1.workTimeout q e1 0xFFFFFFFF)) ∧
            (workOp b = 3 → s1.workStopped q (workArg b) = true → exec (.csrCmd q) s = .next (s1.workTimeout q e1 0)) ∧
            (workOp b = 4 → s1.clockStopped (R.tickAct (workArg b)) = true → exec (.actWrite q) s =
              .next ((s1.csrTimeout (R.tickAct (workArg b))).workDone q e1 0x0B 0)))) ∧
        (s.canReserve (s.qRing q) 1 = false → ∀ c ∈ [Instr.nop q, .csrWrite q, .csrRead q, .csrCmd q, .actWrite q],
          s.workReason q b ≠ 0 ∨ (c, workOp b) ∈ [(Instr.nop q, 0), (.csrWrite q, 1), (.csrRead q, 2), (.csrCmd q, 3),
            (.actWrite q, 4)] → exec c s = .next (s.stall (s.qRing q)))) ∧
      (workClean b = true → workFence b = true → e.idx ≠ s.qHead q →
        ∀ c ∈ [Instr.nop q, .csrWrite q, .csrRead q, .csrCmd q, .actWrite q], exec c s = .next s) ∧
      (s.workReason q b = 0 → (workOp b ≠ 0 → exec (.nop q) s = .next s) ∧ (workOp b ≠ 1 → exec (.csrWrite q) s = .next s) ∧
        (workOp b ≠ 2 → exec (.csrRead q) s = .next s) ∧ (workOp b ≠ 3 → exec (.csrCmd q) s = .next s) ∧
        (workOp b ≠ 4 → exec (.actWrite q) s = .next s))) ∧
    (s.oldestCached q = none ∨ s.qKind q ≠ 3 ∨ s.qState q ≠ 1 ∨ s.inD3 (s.qOwner q) = true ∨ s.readFailed q = true ∨
      s.coreRuns = false →
      ∀ c ∈ [Instr.nop q, .csrWrite q, .csrRead q, .csrCmd q, .actWrite q], exec c s = .next s)

/-- The commands of QM.CMD on a submission queue (R352 to R355), while BAR0 answers and CORE runs, with INDEX and RING
written. By a requester that may act on it, of a queue no mirror owns: each in the states that allow it, with OK, STOP's
RESULT coming when the queue is STOPPED; and with STATE in every other. By a requester that may not, it is counted and
completes with STATE; of a queue that is not in the plan or that a mirror owns it completes with STATE. QUEUE_STOPPED writes
what a queue of the plan still has to write and lets it reach STOPPED. The commands of QM.CMD on a completion ring (R352,
R358), while BAR0 answers and CORE runs, with INDEX and RING written: ENABLE of a disabled ring with a valid base, DISABLE
of an enabled one once every queue that names it is OFF, RESET_IDX of a disabled one, each with OK by a requester that may
act on the ring; every other of its commands completes with STATE. By a requester that may not, a command is counted and
completes with STATE, and of a ring that is not in the plan with STATE. -/
def Obligations.QueueAndRingCommandsTakeEffect : Prop :=
  (∀ (s w : State) (req : Requester) (index i : Nat), 6 ≤ s.boot.stage → s.clockStopped R.qmCmd = false →
    w = (s.setBit R.qmCmd 15 false).setF R.qmCmd 31 16 index → i = w.qmIndex req false index →
    (∀ o, w.qmOwner false i = some o → w.qmMay req o.1 o.2 = true → w.qMirrored i = false →
      (w.qState i = 0 → w.qBaseOk i = true → w.crEnabled (w.qRing i) = true → exec (.qmEnable req false index) s =
        .next ((((w.takeCfg i).setF (R.qmQStatus i) 2 0 1).issueFetch i).result R.qmStatus 0x00)) ∧
      (w.qState i ≠ 0 ∨ w.qBaseOk i = false ∨ w.crEnabled (w.qRing i) = false →
        exec (.qmEnable req false index) s = .next (w.result R.qmStatus 0x02)) ∧
      (w.qState i = 1 → exec (.qmHold req false index) s = .next ((w.setF (R.qmQStatus i) 2 0 2).result R.qmStatus 0x00)) ∧
      (w.qState i ≠ 1 → exec (.qmHold req false index) s = .next (w.result R.qmStatus 0x02)) ∧
      (w.qState i = 2 → exec (.qmRelease req false index) s = .next ((w.setF (R.qmQStatus i) 2 0 1).result R.qmStatus 0x00)) ∧
      (w.qState i ≠ 2 → exec (.qmRelease req false index) s = .next (w.result R.qmStatus 0x02)) ∧
      (w.qState i = 1 ∨ w.qState i = 2 → exec (.qmStop req false index) s = .next (State.settleStop (State.stopQueue
        (((w.setQueue i { w.queue i with stopCmd := true }).setBit R.qmStatus 0 true).defer (R.qmQCfg i)) i 1) i)) ∧
      (w.qState i ≠ 1 → w.qState i ≠ 2 → exec (.qmStop req false index) s = .next (w.result R.qmStatus 0x02)) ∧
      (w.qState i = 4 → exec (.resume req false index) s = .next (State.result (State.issueFetch (State.setF (State.setF
        (w.takeCfg i) (R.qmQFetched i) 15 0 (w.qHead i)) (R.qmQStatus i) 2 0 1) i) R.qmStatus 0x00)) ∧
      (w.qState i ≠ 4 → exec (.resume req false index) s = .next (w.result R.qmStatus 0x02)) ∧
      (w.qState i = 4 → exec (.qmDisable req false index) s = .next ((w.setF (R.qmQStatus i) 2 0 0).result R.qmStatus 0x00)) ∧
      (w.qState i ≠ 4 → exec (.qmDisable req false index) s = .next (w.result R.qmStatus 0x02)) ∧
      (w.qState i = 0 → exec (.resetIdx req false index) s = .next ((w.clearIdx i).result R.qmStatus 0x00)) ∧
      (w.qState i ≠ 0 → exec (.resetIdx req false index) s = .next (w.result R.qmStatus 0x02))) ∧
    (∀ c ∈ [Instr.qmEnable req false index, .qmHold req false index, .qmRelease req false index, .qmStop req false index,
        .resume req false index, .qmDisable req false index, .resetIdx req false index],
      (∀ o, w.qmOwner false i = some o → w.qmMay req o.1 o.2 = false →
        exec c s = .next ((w.inc R.qmForeignWr).result R.qmStatus 0x02)) ∧
      (∀ o, w.qmOwner false i = some o → w.qmMay req o.1 o.2 = true → w.qMirrored i = true →
        exec c s = .next (w.result R.qmStatus 0x02)) ∧
      (w.qmOwner false i = none → exec c s = .next (w.result R.qmStatus 0x02))) ∧
    (∀ q, (s.qExists q = true → exec (.queueStopped q) s = .next (s.drainQueue q)) ∧
      (s.qExists q = false → exec (.queueStopped q) s = .next s))) ∧
  (∀ (s w : State) (req : Requester) (index i : Nat), 6 ≤ s.boot.stage → s.clockStopped R.qmCmd = false →
    w = (s.setBit R.qmCmd 15 true).setF R.qmCmd 31 16 index → i = w.qmIndex req true index →
    (∀ o, w.qmOwner true i = some o → w.qmMay req o.1 o.2 = true →
      (w.crEnabled i = false → baseOk (w.rd64 (R.qmCrBase i)) (w.crSize i * 16) = true →
        exec (.qmEnable req true index) s = .next ((w.setBit (R.qmCrInfo i) 16 true).result R.qmStatus 0x00)) ∧
      (w.crEnabled i = true ∨ baseOk (w.rd64 (R.qmCrBase i)) (w.crSize i * 16) = false →
        exec (.qmEnable req true index) s = .next (w.result R.qmStatus 0x02)) ∧
      (w.crEnabled i = true → (w.queuesOf i).all (fun q => w.qState q == 0) = true →
        exec (.qmDisable req true index) s = .next ((w.setBit (R.qmCrInfo i) 16 false).result R.qmStatus 0x00)) ∧
      (w.crEnabled i = false ∨ (w.queuesOf i).all (fun q => w.qState q == 0) = false →
        exec (.qmDisable req true index) s = .next (w.result R.qmStatus 0x02)) ∧
      (w.crEnabled i = false → exec (.resetIdx req true index) s =
        .next (((w.setF (R.qmCrHead i) 15 0 0).setF (R.qmCrTail i) 15 0 0).result R.qmStatus 0x00)) ∧
      (w.crEnabled i = true → exec (.resetIdx req true index) s = .next (w.result R.qmStatus 0x02)) ∧
      (∀ c ∈ [Instr.qmHold req true index, .qmRelease req true index, .qmStop req true index, .resume req true index],
        exec c s = .next (w.result R.qmStatus 0x02))) ∧
    (∀ c ∈ [Instr.qmEnable req true index, .qmHold req true index, .qmRelease req true index, .qmStop req true index,
        .resume req true index, .qmDisable req true index, .resetIdx req true index],
      (∀ o, w.qmOwner true i = some o → w.qmMay req o.1 o.2 = false →
        exec c s = .next ((w.inc R.qmForeignWr).result R.qmStatus 0x02)) ∧
      (w.qmOwner true i = none → exec c s = .next (w.result R.qmStatus 0x02))))

/-- A completion record (R345, R346): 16 octets that name TAG, STATUS, QID, PHASE, AMEND and INFO, little-endian, with zeros
in the rest and the CRC-16 of the first fourteen last; PHASE is 1 minus bit LOG2_SIZE of the ring's TAIL, so it is 1 on the
first lap and changes with every lap. -/
def Obligations.RecordsNameTheirEntry : Prop :=
  ∀ (s : State) (r tag status qid info : Nat) (amend : Bool) (b : List Byte), tag < 65536 → status < 256 → qid < 4096 →
    info < 281474976710656 → b = recordBytes tag status qid (s.crPhase r) info amend →
    b.length = 16 ∧ leAt b 0 2 = tag ∧ leAt b 2 1 = status ∧ leAt b 3 1 = 0 ∧
    leAt b 4 2 = qid + s.crPhase r * 4096 + amend.toNat * 8192 ∧ leAt b 6 6 = info ∧ leAt b 12 2 = 0 ∧
    leAt b 14 2 = (crc16 (b.take 14)).toNat ∧
    s.crPhase r = 1 - ((s.crTail r).testBit (s.getF (R.qmCrInfo r) 3 0)).toNat

/-- PHASE (R346): 1 minus bit LOG2_SIZE of the ring's TAIL at the write. The first lap from index 0 writes 1, each later lap
inverts it, and the wrap of the counter at 65,536, a whole and even number of laps, keeps it so. -/
def Obligations.PhaseInvertsWithEveryLap : Prop :=
  ∀ (s : State) (r : Nat), s.getF (R.qmCrInfo r) 3 0 ≤ 15 →
    s.crPhase r = 1 - ((s.crTail r).testBit (s.getF (R.qmCrInfo r) 3 0)).toNat ∧
    (s.crTail r < s.crSize r → s.crPhase r = 1) ∧
    (∀ t : State, t.getF (R.qmCrInfo r) 3 0 = s.getF (R.qmCrInfo r) 3 0 → t.crTail r = (s.crTail r + s.crSize r) % 65536 →
      t.crPhase r = 1 - s.crPhase r)

/-- The commands of a DMA channel (R74, R371, R373, R378) that reach DMA.CH[c].CTL, in every state. ENABLE of an OFF channel
with a ring of its own empties its sets; COMMIT of an IDLE or RUN one arms a shadow that passes its check, swaps it at once
while the channel is IDLE and SWAP_AT is COUNT, and asks for the next landing when it is LANDING; STOP stops an IDLE channel
at once and a RUN one at its next boundary; CLEAR of a STOPPED one returns it to IDLE with its trigger dropped; DISABLE of
an IDLE or STOPPED one empties its sets. A failed check completes with CHECK, and a command in any other state, or that
would change a shadow a swap request owns, with STATE. A doorbell write (R372, R384) is a trigger, after the deadline of a
pane run on that edge: it is ignored, and counted, unless TRIGGER is DOORBELL, the channel is IDLE or RUN and its active set
is not empty; it merges, and is counted, while one is pending; else it is pending, and an IDLE channel tries to start its
run. A run starts with a completion slot, waits for one without, and a trigger that finds no set is ignored and counted. -/
def Obligations.DmaCommandsTakeEffect : Prop :=
  (∀ (s : State) (req : Requester) (c st : Nat), c < 256 → Reaches s req (R.dmaChCtl c) → st = R.dmaChStatus c →
    (s.chState c = 0 → s.requested (.dmaSet c) = false →
      (s.chRingOk c = true →
        (∀ next, (s.chGroup c = none → next = 0) → (∀ g r, s.chGroup c = some (g, r) → next = (s.group g).nextSeal) →
          exec (.dmaEnable req c) s = .next (State.result (State.setF (State.setChan (s.emptySets c) c
            { (s.emptySets c).chan c with nextPane := next }) st 2 0 1) st 0x00))) ∧
      (s.chRingOk c = false → exec (.dmaEnable req c) s = .next (s.result st 0x03))) ∧
    (s.chState c ≠ 0 ∨ s.requested (.dmaSet c) = true → exec (.dmaEnable req c) s = .next (s.result st 0x02)) ∧
    (s.chState c = 1 ∨ s.chState c = 2 → s.armed c = false →
      (s.swapAtLanding c = false → s.requested (.dmaSet c) = false → s.chSetOk c (s.shadowSet c) = true →
        (s.chState c = 1 → exec (.dmaCommit req c) s = .next (((s.setBit st 8 true).swapSets c).result st 0x00)) ∧
        (s.chState c = 2 → exec (.dmaCommit req c) s = .next ((s.setBit st 8 true).result st 0x00))) ∧
      (s.swapAtLanding c = true → s.chSetOk c (s.shadowSet c) = true →
        exec (.dmaCommit req c) s = .next (((s.setBit st 8 true).requestNext (.dmaSet c)).result st 0x00)) ∧
      (s.swapAtLanding c = true ∨ s.requested (.dmaSet c) = false → s.chSetOk c (s.shadowSet c) = false →
        exec (.dmaCommit req c) s = .next (s.result st 0x03)) ∧
      (s.swapAtLanding c = false → s.requested (.dmaSet c) = true → exec (.dmaCommit req c) s = .next (s.result st 0x02))) ∧
    ((s.chState c ≠ 1 ∧ s.chState c ≠ 2) ∨ s.armed c = true → exec (.dmaCommit req c) s = .next (s.result st 0x02)) ∧
    (s.chState c = 1 → exec (.dmaStop req c) s = .next ((s.setF st 2 0 4).result st 0x00)) ∧
    (s.chState c = 2 → exec (.dmaStop req c) s = .next ((s.result st 0x00).stopRun c)) ∧
    (s.chState c ≠ 1 → s.chState c ≠ 2 → exec (.dmaStop req c) s = .next (s.result st 0x02)) ∧
    (s.chState c = 4 → exec (.dmaClear req c) s = .next (State.enterIdle (State.result (State.showSet (State.setChan
      (s.setBit st 9 false) c { s.chan c with pendLate := false }) (R.dmaChActive c) ((s.chan c).loaded.getD [])) st 0x00) c)) ∧
    (s.chState c ≠ 4 → exec (.dmaClear req c) s = .next (s.result st 0x02)) ∧
    (s.chState c = 1 ∨ s.chState c = 4 → s.requested (.dmaSet c) = false → exec (.dmaDisable req c) s =
      .next ((((s.emptySets c).setBit st 9 false).setF st 2 0 0).result st 0x00)) ∧
    ((s.chState c ≠ 1 ∧ s.chState c ≠ 4) ∨ s.requested (.dmaSet c) = true →
      exec (.dmaDisable req c) s = .next (s.result st 0x02))) ∧
  (∀ (s u : State) (req : Requester) (c : Nat) (x : ChanSt), c < 256 → Reaches s req (R.dmaChDb c) →
    (∀ r, (s.chan c).run = some r → s.isPaneCh c = true → r.phase = .move → r.deadline ≤ s.srcNow → u = s.missDeadline c r) →
    ((∀ r, (s.chan c).run = some r → s.isPaneCh c = false ∨ r.phase ≠ .move ∨ s.srcNow < r.deadline) → u = s) → x = u.chan c →
    (u.getF (R.dmaChCfg c) 3 2 ≠ 0 ∨ (u.chState c ≠ 1 ∧ u.chState c ≠ 2) ∨ setEmpty x.loaded = true →
      exec (.dmaDoorbell req c) s = .next (u.inc (R.dmaChTrigIgnored c))) ∧
    (u.getF (R.dmaChCfg c) 3 2 = 0 → u.chState c = 1 ∨ u.chState c = 2 → setEmpty x.loaded = false →
      (u.trigPend c = true → exec (.dmaDoorbell req c) s = .next ((u.setChan c x).inc (R.dmaChTrigMerged c))) ∧
      (u.trigPend c = false → u.chState c = 2 → exec (.dmaDoorbell req c) s =
        .next ((u.setBit (R.dmaChStatus c) 9 true).setChan c { x with pendLate := false, pendAt := u.srcNow })) ∧
      (u.trigPend c = false → u.chState c = 1 → exec (.dmaDoorbell req c) s =
        .next (State.tryStart ((u.setBit (R.dmaChStatus c) 9 true).setChan c { x with pendLate := false, pendAt := u.srcNow }) c))) ∧
    (∀ w : State, (setEmpty (w.chan c).loaded = true → w.tryStart c = w.ignoreTrigger c) ∧
      (setEmpty (w.chan c).loaded = false → w.canReserve (w.chRing c) 1 = false → w.tryStart c = w.stall (w.chRing c))))

/-- The bursts of a run (R362 to R366, R374, R378, R379). DMA_BURST_ISSUE lets a waiting trigger start first; of a pane run
it begins the next pane where none is under way; a next burst with room and its turn is put in flight. DMA_READ_DONE of a
burst in flight hands its data over and writes what is next in order, and a failed read ends the run with HOST_RD_ERR;
DMA_DESC_FETCH_DONE of a fetching run, its function awake, goes on with the descriptor, checked at its point of use, or ends
the run with HOST_RD_ERR or CHECK; DMA_WRITE_RESPONSE takes an answered write off the list, and one with an error amends a
run that was reported or ends the one that moves. Without such a run, burst or write nothing happens. DMA_RUN_DEADLINE
(R384): a pane run that moves at its deadline, after a landing that lies before it, misses it: TICK_OVERRUN is raised with
DMA as its cause; a run with a pane under way and none to follow ends there, completing with OK and ABANDONED. Of any other
run, and without one, nothing happens. -/
def Obligations.DmaRunsMoveTheirBursts : Prop :=
  (∀ (s : State) (c : Nat),
    (∀ u, (s.chState c = 1 ∧ s.trigPend c = true → u = s.tryStart c) → (s.chState c ≠ 1 ∨ s.trigPend c = false → u = s) →
      ((u.chan c).run = none → exec (.dmaBurstIssue c) s = .next u) ∧
      (∀ r, (u.chan c).run = some r →
        (∀ g p, u.chGroup c = some (g, p) → u.isPaneCh c = true → r.pane = none → r.phase = .move →
          exec (.dmaBurstIssue c) s = .next ((u.nextPaneOf c g (r.panes.length + 1)).issueBurst c)) ∧
        (u.chGroup c = none ∨ u.isPaneCh c = false ∨ r.pane.isSome = true ∨ r.phase ≠ .move →
          exec (.dmaBurstIssue c) s = .next (u.issueBurst c)))) ∧
    (∀ r, (s.chan c).run = some r →
      (∀ b, s.nextBurst c r = some b → s.burstRoom c b.len = true → s.burstTurn c = true →
        s.issueBurst c = ((s.addBurst c r b).served c).flushBursts c 1) ∧
      (s.nextBurst c r = none ∨ s.burstTurn c = false → s.issueBurst c = s)) ∧
    (∀ n data ecc,
      (∀ r b, (s.chan c).run = some r → r.bursts[n]? = some b → b.data = none →
        (∀ g p t, s.isPaneCh c = true → s.chGroup c = some (g, p) → r.pane = some t →
          exec (.dmaReadDone c n data ecc) s = .next (s.paneRead c g p n b t ecc)) ∧
        (s.isPaneCh c = false → ∀ u x, u = (if dDstDdr r.cur then
            s.eccFound b.dst b.len (ecc.filter (fun e => !covers b.dst b.len e.1)) else s) →
          x = (if dSrcDdr r.cur then u.ddrRead b.src b.len ecc else (u, data.map (fun d => slice d 0 b.len))) →
          (∀ d, x.2 = some d → exec (.dmaReadDone c n data ecc) s = .next (((x.1.setRun c { r with
            bursts := r.bursts.mapIdx (fun i y => if i = n then { y with data := some d } else y) }).flushBursts c
            r.bursts.length).settleRun c)) ∧
          (x.2 = none → exec (.dmaReadDone c n data ecc) s = .next ((((x.1.freeBurst b.len).failRun c
            { r with bursts := r.bursts.eraseIdx n } 0x04).flushBursts c r.bursts.length).settleRun c)))) ∧
      ((s.chan c).run = none ∨ (∀ r, (s.chan c).run = some r → r.bursts[n]? = none ∨
        (r.bursts[n]?).all (fun b => b.data.isSome) = true) → exec (.dmaReadDone c n data ecc) s = .next s)) ∧
    (∀ data,
      (∀ r r1, (s.chan c).run = some r → r.phase = .fetch → s.inD3 (s.chFunc c) = false → r1 = { r with hop := r.hop + 1 } →
        (data = none → exec (.dmaDescFetchDone c data) s = .next (s.failRun c r1 0x04)) ∧
        (∀ d, data = some d → s.setOk true (slice d 0 64) = false →
          exec (.dmaDescFetchDone c data) s = .next (s.failRun c r1 0x03)) ∧
        (∀ d r2, data = some d → s.setOk true (slice d 0 64) = true → r2 = { r1 with
            cur := slice d 0 64, ofs := 0, done := 0, crc := 0xFFFFFFFF#32, sum := 0, phase := .move, chkWritten := false } →
          exec (.dmaDescFetchDone c data) s = .next (((s.wrN (R.dmaChCurHop c) r1.hop).setRun c r2).showLive c r2))) ∧
      ((s.chan c).run = none ∨ s.inD3 (s.chFunc c) = true ∨ (∀ r, (s.chan c).run = some r → r.phase ≠ .fetch) →
        exec (.dmaDescFetchDone c data) s = .next s)) ∧
    (∀ n err,
      (∀ w v u x, (s.chan c).unanswered[n]? = some w →
        v = s.setChan c { s.chan c with unanswered := (s.chan c).unanswered.eraseIdx n } →
        u = (if w.len = 0 then v else v.freeBurst w.len) →
        (err = false → x = u) →
        (err = true → (∀ p, (s.chan c).past.find? (fun p => p.run == w.run) = some p → x = u.amendRun c p) ∧
          ((s.chan c).past.find? (fun p => p.run == w.run) = none →
            (∀ r, (u.chan c).run = some r →
              (r.id ≠ w.run → x = u) ∧
              (r.id = w.run → r.phase = .await → x = u.setRun c { r with status := 0x0C, chkDue := none }) ∧
              (r.id = w.run → r.phase ≠ .await → x = u.failRun c r 0x05)) ∧
            ((u.chan c).run = none → x = u))) →
        ∀ y, y = (x.freePast c).tryAwait c →
          (∀ r, (y.chan c).run = some r →
            (r.phase = .barrier → exec (.dmaWriteResponse c n err) s = .next ((y.passBarrier c r).tryDrain c)) ∧
            (r.phase ≠ .barrier → exec (.dmaWriteResponse c n err) s = .next (y.tryDrain c))) ∧
          ((y.chan c).run = none → exec (.dmaWriteResponse c n err) s = .next y)) ∧
      ((s.chan c).unanswered[n]? = none → exec (.dmaWriteResponse c n err) s = .next s))) ∧
  (∀ (s : State) (c : Nat),
    (∀ r, (s.chan c).run = some r → s.isPaneCh c = true → r.phase = .move →
      (∀ u, s.reach r.deadline = some u → exec (.dmaRunDeadline c) s = .next (u.missDeadline c r) ∧
        (∀ t, r.pane = some t → r.panes = [] → u.missDeadline c r =
          State.finishRun (State.panePast (forEach r.bursts (fun b x => x.freeBurst b.len)
            ((((u.hwSet R.tickOvrCause 3).raise Src.tickOverrun []).inc (R.dmaChPaneAbandon c)).dropPane c)) c t) c
            { r with bursts := [], pane := none, panes := [], abandoned := true, dropped := r.dropped + 1 } 0x00 false)) ∧
      (s.reach r.deadline = none → exec (.dmaRunDeadline c) s = .next s)) ∧
    ((s.chan c).run = none ∨ s.isPaneCh c = false ∨ (∀ r, (s.chan c).run = some r → r.phase ≠ .move) →
      exec (.dmaRunDeadline c) s = .next s))

/-- Circular buffers (R368): octet i of a transfer from a stands at base + ((a - base + i) mod 2^w), base being a with its
low w bits cleared, however often that wraps; and the next burst of a copy run, which is what its channel issues, ends at
the wrap point, as well as at every 4,096-octet boundary, of its source and of its destination: its octets are contiguous at
both. -/
def Obligations.CircularBuffersWrap : Prop :=
  (∀ a w i, 0 < w → circAt a w i = (a - a % 2 ^ w) + ((a - (a - a % 2 ^ w)) + i) % 2 ^ w) ∧
  (∀ (s : State) (c : Nat) (r : DmaRun), s.isPaneCh c = false → s.nextBurst c r = s.copyBurst c r) ∧
  (∀ (s : State) (c : Nat) (r : DmaRun) (b : DmaBurst), s.copyBurst c r = some b →
    (leAt r.cur 0x28 1 = 0 ∨ 12 ≤ leAt r.cur 0x28 1) → (leAt r.cur 0x29 1 = 0 ∨ 12 ≤ leAt r.cur 0x29 1) →
    0 < b.len ∧ ∀ i, i < b.len → circAt (leAt r.cur 0 8) (leAt r.cur 0x28 1) (r.ofs + i) = b.src + i ∧
      circAt (leAt r.cur 8 8) (leAt r.cur 0x29 1) (r.ofs + i) = b.dst + i ∧
      b.src / 4096 = (b.src + i) / 4096 ∧ b.dst / 4096 = (b.dst + i) / 4096)

/-- PATROL_SCRUB of a READY channel that is mapped (R392, R393, R395): when its next read is due, after a landing that lies
before it, the channel wakes, its next block is read and the walk goes on; of any other channel nothing happens. A read that
finds nothing changes nothing; a correctable error is handled as such; an uncorrectable one of a mapped block marks the
block, counts in UE and raises the source of its region. -/
def Obligations.PatrolScrubWalksTheChannel : Prop :=
  ∀ (s : State) (c : Nat) (find : Option Bool),
    (c < 16 → s.getF (R.memChStatus c) 2 0 = 2 → s.scrubBlocks c ≠ 0 →
      (∀ u, s.reachClock (s.scrubAt c) = some u → exec (.patrolScrub c find) s =
        .next (((u.wake (148 + c)).scrubRead c find).scrubOn c)) ∧
      (s.reachClock (s.scrubAt c) = none → exec (.patrolScrub c find) s = .next s)) ∧
    (16 ≤ c ∨ s.getF (R.memChStatus c) 2 0 ≠ 2 ∨ s.scrubBlocks c = 0 → exec (.patrolScrub c find) s = .next s) ∧
    (∀ a, s.flatOf c (64 * (s.scrub c).next) = some a → s.ddr.bad.contains (a / 64) = false →
      s.scrubRead c none = s ∧ s.scrubRead c (some false) = s.correctable c ∧
      (∀ y, y = State.inc { s with ddr := { s.ddr with bad := a / 64 :: s.ddr.bad } } (R.memChUe c) →
        s.scrubRead c (some true) = y.raise (y.ueSource (a / 64)) (y.ueUnits (a / 64))))

/-- The pair line (R401 to R406). PAIR_PEER_IN going high sets PEER_IN, and with a contest a SECONDARY claimant or holder
yields and a PRIMARY keeps the line, either way counted and raised; going low clears it, starts the guard time, and is the
peer's release for a STANDBY; the guard's end on a free line is where a waiting claim is made; a claim that stood 100 ns on
a free line is the grant; and a handover without a commit report by L(h + HB_TICKS) ends with the line let go. An edge to
the level the line has, an instant not yet reached, or that a landing lies before, and one whose state has gone change
nothing. -/
def Obligations.PairLineIsFollowed : Prop :=
  ∀ s : State,
    (s.rdn.peerIn = false → ∀ w, w = State.setBit { s with rdn := { s.rdn with peerIn := true } } R.rdnStatus 19 true →
      (w.hasPair = false ∨ (w.role ≠ 2 ∧ w.role ≠ 3) → exec .peerInAssert s = .next w) ∧
      (w.hasPair = true → w.role = 2 ∨ w.role = 3 → exec .peerInAssert s = .next (State.settleHeld (State.raise (State.inc
        (if w.secondary then (w.setRole 1).cutGates else w) R.rdnContests) Src.pairContest [])))) ∧
    (s.rdn.peerIn = true → exec .peerInAssert s = .next s ∧ exec .guardExpiry s = .next s ∧ exec .claimConfirm s = .next s) ∧
    (s.rdn.peerIn = true → exec .peerInDeassert s = .next (State.setBit { s with rdn := { s.rdn with
      peerIn := false, freeSince := s.clock, peerReleased := s.rdn.peerReleased || s.role == 1 } } R.rdnStatus 19 false)) ∧
    (s.rdn.peerIn = false → exec .peerInDeassert s = .next s ∧
      (∀ u, s.reachClock (s.rdn.freeSince + s.guardSpan) = some u → exec .guardExpiry s = .next u.tryClaim) ∧
      (s.reachClock (s.rdn.freeSince + s.guardSpan) = none → exec .guardExpiry s = .next s) ∧
      (s.role = 2 →
        (∀ u, s.reachClock (max s.rdn.claimAt s.rdn.freeSince + ofNs 100) = some u → exec .claimConfirm s =
          .next { u.setRole 3 with rdn := { (u.setRole 3).rdn with takeoverDue := true, snaps := [], sending := none } }) ∧
        (s.reachClock (max s.rdn.claimAt s.rdn.freeSince + ofNs 100) = none → exec .claimConfirm s = .next s))) ∧
    (s.role ≠ 2 → exec .claimConfirm s = .next s) ∧
    (∀ h, s.rdn.handoverAt = some h →
      (s.role = 4 → h + s.getF R.rdnHbTicks 10 0 ≤ s.now →
        exec .handoverTimeout s = .next (s.writeHeld (fun _ _ => true) true).endRelease) ∧
      (s.role ≠ 4 ∨ s.now < h + s.getF R.rdnHbTicks 10 0 → exec .handoverTimeout s = .next s)) ∧
    (s.rdn.handoverAt = none → exec .handoverTimeout s = .next s)

/-- The commands of RDN.CTL (R405, R406, R423) that reach it, in every state: HANDOVER by an ACTIVE device whose peer is a
STANDBY without a fault, CLAIM by a STANDBY that may claim on a free line, RELEASE by a claimant or holder of a pair, and
RESYNC by a STANDBY, which drops its epoch, each with OK, and in every other state with STATE. -/
def Obligations.PairCommandsTakeEffect : Prop :=
  ∀ (s : State) (req : Requester), Reaches s req R.rdnCtl →
    (s.role = 3 → s.hasPair = true → s.bit R.rdnStatus 20 = true → s.getF R.rdnStatus 23 21 = 1 →
      s.rdn.hbFlags.getLsbD 3 = false →
      exec (.handover req) s = .next (State.result { s with rdn := { s.rdn with handoverReq := true } } R.rdnStatus 0x00)) ∧
    (s.role ≠ 3 ∨ s.hasPair = false ∨ s.bit R.rdnStatus 20 = false ∨ s.getF R.rdnStatus 23 21 ≠ 1 ∨
      s.rdn.hbFlags.getLsbD 3 = true → exec (.handover req) s = .next (s.result R.rdnStatus 0x02)) ∧
    (s.mayClaim = true → s.lineFree = true → ∀ u, u = State.tryClaim { s with rdn := { s.rdn with claimCmd := true } } →
      exec (.claim req) s = .next (u.result R.rdnStatus 0x00)) ∧
    (s.mayClaim = false ∨ s.lineFree = false → exec (.claim req) s = .next (s.result R.rdnStatus 0x02)) ∧
    (s.hasPair = true → s.role = 2 ∨ s.role = 3 →
      exec (.rdnRelease req) s = .next (s.giveUp.settleHeld.result R.rdnStatus 0x00)) ∧
    (s.hasPair = false ∨ (s.role ≠ 2 ∧ s.role ≠ 3) → exec (.rdnRelease req) s = .next (s.result R.rdnStatus 0x02)) ∧
    (s.role = 1 → ∀ u, u = (s.wr64 R.rdnCommitted (2 ^ 64 - 1)).setBit R.rdnStatus 16 true →
      exec (.rdnResync req) s = .next (State.result { u with rdn := { u.rdn with inDone := none } } R.rdnStatus 0x00)) ∧
    (s.role ≠ 1 → exec (.rdnResync req) s = .next (s.result R.rdnStatus 0x02))

/-- The mirror (R410, R412, R415). The heartbeat of L(n) + 2 us leaves on the mirror ports of a pair once in every tick; the
epoch being sent leaves from L(n + 1) + 10 us, its data frames before its trailer, and EPOCH_TX counts it; a device that is
neither ACTIVE nor RELEASING drops it. After a landing that lies before the instant, and nothing before the instant. -/
def Obligations.MirrorSendsItsFrames : Prop :=
  ∀ s : State,
    (s.hasPair = true → s.rdn.hbTick ≠ some s.now →
      (∀ u w, s.reach (s.landingNow + ofUs 2) = some u → w = { u with rdn := { u.rdn with hbTick := some s.now } } →
        exec .heartbeatSend s = .next (w.sendMirror .heartbeat 6 4 (w.heartbeat false))) ∧
      (s.reach (s.landingNow + ofUs 2) = none → exec .heartbeatSend s = .next s)) ∧
    (s.hasPair = false ∨ s.rdn.hbTick = some s.now → exec .heartbeatSend s = .next s) ∧
    (∀ n base stream full final, s.rdn.sending = some (n, base, stream, full, final) →
      (s.role = 3 ∨ s.role = 4 →
        (∀ u sl data v w, s.reach (s.landingAt (n + 1) + ofUs 10) = some u →
          sl = slices ((u.mirrorPorts.map (fun p => (u.portRec p).mtu - 42)).foldl min 16384) stream.length stream →
          data = ((List.range sl.length).zip sl).map (fun e => u.epochData n e.1 e.2) →
          v = forEach data (fun c x => x.sendMirror .epoch 10 8 c) u →
          w = v.sendMirror .epoch 10 8 (v.epochTrailer n base stream full final data) →
          exec .epochSend s = .next (State.inc { w with rdn := { w.rdn with sending := none } } R.rdnEpochTx)) ∧
        (s.reach (s.landingAt (n + 1) + ofUs 10) = none → exec .epochSend s = .next s)) ∧
      (s.role ≠ 3 → s.role ≠ 4 → exec .epochSend s = .next { s with rdn := { s.rdn with sending := none } })) ∧
    (s.rdn.sending = none → exec .epochSend s = .next s)

/-- The management watchdog (R424): a write of MGT.WDOG that reaches it sets TIMEOUT_MS, clears EXPIRED where its bit is 1,
and starts the time anew. Once a full plan was committed, not in NONE and not again before a write once it has expired,
TIMEOUT_MS after the last write, but 10 ms at least, EXPIRED is set, MGT_WDOG is raised, and with WDOG_FO the grant or claim
is given up; before that instant, or with a landing before it, nothing happens. -/
def Obligations.WatchdogRunsFromTheLastWrite : Prop :=
  ∀ (s : State),
    (∀ req v w, Reaches s req R.mgtWdog → w = (if rbit v 30 then (s.setF R.mgtWdog 15 0 (fld v 15 0)).setBit R.mgtWdog 30 false
        else s.setF R.mgtWdog 15 0 (fld v 15 0)) →
      exec (.kick req v) s = .next { w with rdn := { w.rdn with wdogSince := s.clock } }) ∧
    (s.plan.everCommitted = true → s.planState ≠ 0 → s.bit R.mgtWdog 30 = false →
      (∀ u w, s.reachClock (s.rdn.wdogSince + ofMs (max 10 (s.getF R.mgtWdog 15 0))) = some u →
        w = (u.hwSet R.mgtWdog 30).raise Src.mgtWdog [] →
        (w.bit R.rdnCtl 9 = true → exec .mgtWdog s = .next w.giveUp.settleHeld) ∧
        (w.bit R.rdnCtl 9 = false → exec .mgtWdog s = .next w)) ∧
      (s.reachClock (s.rdn.wdogSince + ofMs (max 10 (s.getF R.mgtWdog 15 0))) = none → exec .mgtWdog s = .next s)) ∧
    (s.plan.everCommitted = false ∨ s.planState = 0 ∨ s.bit R.mgtWdog 30 = true → exec .mgtWdog s = .next s)

/-- A raise (R430, R434 to R436, R439, R483) of a source without an injection on its edge: the first of its edge sets LIVE
and STICKY, counts in RAISES and reacts with the reaction in force of its source; one that merges on its way, or with an
earlier one of its edge, has no reaction beyond the containment of its units. The reaction of class C0 is none; C1 raises
the group's event; C2 contains the units it names as well; C3 gives up the grant or claim as well; C4 enters the fault state
as well; when the grant ends with it, the gates of the actuation frames under way close. -/
def Obligations.RaisesReactByClass : Prop :=
  ∀ (s : State) (src : Nat) (units : List Nat),
    (∀ w o, w = s.setBit (R.fcrGLive (src / 32)) (src % 32) true →
      s.fcr.injNow.find? (fun e => e.1 == src) = none →
      (s.fcr.raisedNow.any (fun e => e.1 == src) = false →
        o = (State.noteRaise { w with fcr := { w.fcr with raisedNow := (src, units) :: w.fcr.raisedNow } } src).cross
          (Xing.source src) 13 →
        (o.1 = false → s.raise src units = o.2.react 0 (s.reactionOf src) src units) ∧
        (o.1 = true → s.raise src units = o.2.react (s.reactionOf src) (s.reactionOf src) src units)) ∧
      (s.fcr.raisedNow.any (fun e => e.1 == src) = true → s.raise src units =
        State.react { w with fcr := { w.fcr with raisedNow := (src, units) :: w.fcr.raisedNow } } (s.reactionOf src)
          (s.reactionOf src) src units)) ∧
    (∀ hi x y, hi ≤ 4 → (hi = 0 → x = s) → (hi = 1 → x = s.event (Evt.fault (src / 32))) →
      (hi = 2 ∨ hi = 3 ∨ hi = 4 → y = units.foldl State.contain (s.event (Evt.fault (src / 32)))) →
      (hi = 2 → x = y) → (hi = 3 → x = y.giveUp) → (hi = 4 → x = (y.enterFault src).giveUp) →
      s.react 0 hi src units = if s.granted && !x.granted then x.cutGates else x)

/-- The commands of FCR.CTL (R442) that reach it, in every state: RELEASE of a latched device and UNCONTAIN of a contained
unit wait for the next landing and complete with OK, and complete with STATE otherwise. INJ_WRITE (R443, R444, R484): every
bit set in a write of a group's INJ injects its source, in ascending order; a reserved source has none. A source detected on
the edge is detected first. The first injection of a source on an edge counts its raise and reacts with the injected class,
none with SILENT; on an edge on which its detector found something it sets COINCIDE and the stronger class is reached; a
further one has no effect. -/
def Obligations.CollectorCommandsAndInjections : Prop :=
  (∀ (s w : State) (req : Requester) (arg : Nat), Reaches s req R.fcrCtl → w = s.setF R.fcrCtl 31 16 arg →
    (w.latched = true → exec (.fcrRelease req arg) s =
      .next (State.result { w with fcr := { w.fcr with releasing := true } } R.fcrStatus 0x00)) ∧
    (w.latched = false → exec (.fcrRelease req arg) s = .next (w.result R.fcrStatus 0x02)) ∧
    (w.contained (arg % 65536) = true → exec (.uncontain req arg) s =
      .next (State.result { w with fcr := { w.fcr with ending := arg % 65536 :: w.fcr.ending } } R.fcrStatus 0x00)) ∧
    (w.contained (arg % 65536) = false → exec (.uncontain req arg) s = .next (w.result R.fcrStatus 0x02))) ∧
  (∀ (s : State) (req : Requester) (k : Nat) (v : Reg) (real : List (Nat × List Nat)),
    (k < 20 → Reaches s req (R.fcrGInj k) → exec (.injWrite req k v real) s = .next
      (forEach ((List.range 32).filter (fun b => v.getLsbD b)) (fun b x =>
        x.inject (32 * k + b) ((real.find? (fun e => e.1 == b)).map (·.2))) s).settleHeld) ∧
    (20 ≤ k → exec (.injWrite req k v real) s = .next s) ∧
    (∀ src us, (srcAssigned src = false → s.inject src none = s ∧ s.inject src (some us) = s) ∧
      (srcAssigned src = true → s.inject src none = s.injectBit src ∧
        (s.detects src = true → s.inject src (some us) = (s.detect src us).injectBit src) ∧
        (s.detects src = false → s.inject src (some us) = s.injectBit src))) ∧
    (∀ src b c o w, 32 * k + b = src → b < 32 →
      (s.bit (R.fcrGInjCfg k) 3 = true → c = 0) → (s.bit (R.fcrGInjCfg k) 3 = false → c = s.injClass src) →
      o = (s.noteRaise src).cross (Xing.source src) 13 → w = { o.2 with fcr := { o.2.fcr with injNow := (src, c) :: o.2.fcr.injNow } } →
      (s.fcr.injNow.any (fun e => e.1 == src) = true → s.injectBit src = s) ∧
      (s.fcr.injNow.any (fun e => e.1 == src) = false → s.fcr.raisedNow.filter (fun e => e.1 == src) = [] →
        (o.1 = true → s.injectBit src = w.react c c src (injUnits src)) ∧
        (o.1 = false → s.injectBit src = w.react 0 c src (injUnits src))) ∧
      (∀ found x, s.fcr.injNow.any (fun e => e.1 == src) = false → found = s.fcr.raisedNow.filter (fun e => e.1 == src) → found ≠ [] →
        x = s.hwSet (R.fcrGCoincide k) b → s.injectBit src = State.react { x with fcr := { x.fcr with
          injNow := (src, s.bothClass src) :: x.fcr.injNow } } (s.reactionOf src) (s.bothClass src) src (found.flatMap (·.2)))))

/-- Vectors (R447, R448, R449, R498). A vector with events pending, its function awake, fires when its count is reached,
else at its instant, after a landing that lies before it; else nothing happens. Removing the mask of a vector of the table,
or enabling the function, sends what waits in the PBA. FLUSH_MOD of a function that is awake fires each of its pending
vectors, and of any other number or function does nothing. A muted vector that fires sets its PBA bit, and any other sends
its message. -/
def Obligations.VectorsFireAndFlush : Prop :=
  ∀ (s : State) (fn : Requester) (v : Nat) (x : VecSt), x = s.vec (vecKey fn v) →
    (x.pending ≠ 0 → s.inD3 fn = false →
      (max 1 (fld (s.modOf fn v) 23 16) ≤ x.pending → exec (.vectorFire fn v) s = .next (s.fireVec fn v)) ∧
      (x.pending < max 1 (fld (s.modOf fn v) 23 16) →
        (∀ t u, s.vecDue fn v = some t → s.reachClock t = some u → exec (.vectorFire fn v) s = .next (u.fireVec fn v)) ∧
        (∀ t, s.vecDue fn v = some t → s.reachClock t = none → exec (.vectorFire fn v) s = .next s) ∧
        (s.vecDue fn v = none → exec (.vectorFire fn v) s = .next s))) ∧
    (x.pending = 0 ∨ s.inD3 fn = true → exec (.vectorFire fn v) s = .next s) ∧
    (s.vecMuted fn v = true → s.fireVec fn v = s.setVec (vecKey fn v) { x with pending := 0, since := 0, pba := true }) ∧
    (s.vecMuted fn v = false → s.fireVec fn v = (s.setVec (vecKey fn v) { x with pending := 0, since := 0 }).sendVec fn v) ∧
    (v < (if fn.vfNum = 0 then 2048 else 64) → exec (.msixUnmask fn (some v)) s =
      .next ((s.setVec (vecKey fn v) { x with masked := false }).sendPba fn [v])) ∧
    ((if fn.vfNum = 0 then 2048 else 64) ≤ v → exec (.msixUnmask fn (some v)) s = .next s) ∧
    (∀ w, w = { s with fcr := { s.fcr with msixOff := s.fcr.msixOff.filter (· != fn.fnKey) } } →
      exec (.msixUnmask fn none) s = .next (w.sendPba fn (w.vecsOf fn))) ∧
    (∀ req f y, Reaches s req R.pwrFlushMod → f = fld y 2 0 →
      (f = 0 ∨ f = 1 ∨ f = 7 → s.inD3 (requesterOf f 0) = false → exec (.flushMod req y) s = .next (s.fireAll f)) ∧
      ((f ≠ 0 ∧ f ≠ 1 ∧ f ≠ 7) ∨ s.inD3 (requesterOf f 0) = true → exec (.flushMod req y) s = .next s))

/-- Resets (R357, R451 to R454, R516). PORST_N or SYSRST_N low for fewer than 25 AON cycles does nothing. A warm reset,
while PORST_N is not low and the device was not shut down, returns what lies outside the AON domain to its reset state and
starts the boot, keeping the contents of DDR4, fuses and SPI NOR; PORST_N low keeps fuses and SPI NOR alone and stops the
clocks, and its release starts the boot with the straps read and the fuses sensed, each field whose copies disagree raised;
the reset of one of the two links brings it down and resets its function, with its configuration; a function-level reset
resets the function alone. -/
def Obligations.ResetsReturnTheirDomains : Prop :=
  ∀ s : State,
    (∀ n, (25 ≤ n → s.boot.stage ≠ 0 → exec (.warmReset n) s = .next (s.warm 1)) ∧
      (n < 25 ∨ s.boot.stage = 0 → exec (.warmReset n) s = .next s) ∧
      (∀ u, 25 ≤ n → u = s.carry 0 →
        exec (.porstAssert n) s = .next { u with pwr := { u.pwr with stopped := [0, 1, 2, 3] } }) ∧
      (n < 25 → exec (.porstAssert n) s = .next s)) ∧
    (∀ t, t = s.warm 1 → t.boot.stage = 1 ∧ t.mem = s.mem ∧ t.pending = s.pending ∧
      t.boot.fuses = s.boot.fuses ∧ t.boot.nor = s.boot.nor ∧ t.ddr.bad = s.ddr.bad ∧ t.queues = [] ∧ t.dma = State.reset.dma ∧
      t.plan = State.reset.plan ∧ t.tick = State.reset.tick ∧ t.tbs = State.reset.tbs) ∧
    (∀ t n, t = s.carry n → t.boot.stage = n ∧ t.regs = [] ∧ t.mem = [] ∧ t.pending = s.pending ∧
      t.boot.fuses = s.boot.fuses ∧ t.boot.nor = s.boot.nor ∧ t.plan = State.reset.plan ∧ t.tbs = State.reset.tbs) ∧
    (∀ straps u, u = ((s.carry 1).setF R.secBootStatus 30 24 straps).showPair (straps.testBit 2) →
      exec (.powerOnReset straps) s =
        .next (forEach (List.range u.boot.fuses.splits) (fun _ (x : State) => x.raise Src.fuseErr []) u.senseFuses)) ∧
    (∀ h, (h < 2 → exec (.linkReset h) s = .next (forEach (s.family h) (fun fn (x : State) => x.resetConfig fn)
        ((s.setPcie h 0).flrAll h 0))) ∧
      (2 ≤ h → exec (.linkReset h) s = .next s)) ∧
    (∀ func vf, exec (.functionLevelReset func vf) s = .next (s.flrAll func vf))

/-- The boot (R387, R455, R458 to R461, R466 to R468): stage 3, after stage 2, reads and verifies the next firmware copy,
and passes when it is accepted or was the last; stage 4 derives CDI from UDS, FWID, version and key slot, the DeviceID and
Alias keys and the Alias certificate, and locks UDS, or raises FUSE_ERR without them; stage 5 takes the outcome of every
channel's training, a FAILED one raised and the scrub of a READY one begun; stage 6 starts the firmware unless the device is
in RECOVERY, without CDI and DeviceID key, and loads a plan where BOOT_SRC says so. In any other stage each does nothing. -/
def Obligations.BootStagesFollow : Prop :=
  ∀ s : State,
    (∀ u r, s.boot.stage = 1 ∨ s.boot.stage = 2 → u = (if s.boot.stage = 1 then s.stageTwo else s) →
      r = u.tryCopies u.boot.toTry →
      exec .fwCopyVerify s = .next (if r.2 then { r.1 with boot := { r.1.boot with stage := 3, toTry := [] } } else r.1)) ∧
    (s.boot.stage ≠ 1 → s.boot.stage ≠ 2 → exec .fwCopyVerify s = .next s) ∧
    (s.boot.stage = 3 →
      (∀ v cdi device own, s.boot.fuses.udsOk = true → v = s.rdN R.secFwSecVersion →
        cdi = Config.hmacSha384 s.udsRead (s.fwid ++ leBytes 4 v ++ leBytes 1 (s.getF R.secKeys 9 8)) →
        device = deriveKey s.udsRead "OT-1280 DeviceID" → own = deriveKey cdi "OT-1280 Alias" →
        exec .diceDerive s = .next { s with boot := { s.boot with
          stage := 4, udsLocked := true, cdi := cdi, deviceKey := some device, aliasKey := some own,
          aliasCert := Config.aliasCertificate device.scalar (slice (Config.sha384 own.point) 0 20) own.point v s.fwid } }) ∧
      (s.boot.fuses.udsOk = false → exec .diceDerive s = .next (State.raise (State.setBit
        { s with boot := { s.boot with stage := 4 } } R.secBootStatus 2 true) Src.fuseErr []))) ∧
    (s.boot.stage ≠ 3 → exec .diceDerive s = .next s) ∧
    (∀ outcome, (s.boot.stage = 4 → ∀ (f : Nat → State → State) (t : State),
        (∀ c x, fld (outcome.getD c 0) 2 0 = 2 → f c x =
          (x.wr (R.memChStatus c) (outcome.getD c 0 &&& 0xFFFF01E7#32)).setScrub c ⟨0, x.clock, x.scrubHours⟩) →
        (∀ c x, fld (outcome.getD c 0) 2 0 = 3 → f c x =
          (x.wr (R.memChStatus c) (outcome.getD c 0 &&& 0xFFFF01E7#32)).raise Src.memTrain [Cu.ch c]) →
        (∀ c x, fld (outcome.getD c 0) 2 0 ≠ 2 → fld (outcome.getD c 0) 2 0 ≠ 3 → f c x = x.wr (R.memChStatus c) 0) →
        t = forEach (List.range 16) f s → exec (.ddrTrain outcome) s = .next { t with boot := { t.boot with stage := 5 } }) ∧
      (s.boot.stage ≠ 4 → exec (.ddrTrain outcome) s = .next s)) ∧
    (∀ unplaced ecc,
      (s.boot.stage = 5 → s.getF R.secBootStatus 1 0 ≠ 2 →
        exec (.fwStart unplaced ecc) s = .next (s.startFirmware unplaced ecc)) ∧
      (s.boot.stage ≠ 5 ∨ s.getF R.secBootStatus 1 0 = 2 → exec (.fwStart unplaced ecc) s = .next s) ∧
      (∀ t : State, t = { s with boot := { s.boot with stage := 6, cdi := [], deviceKey := none } } →
        (2 ≤ s.getF R.secBootStatus 25 24 → s.startFirmware unplaced ecc = t) ∧
        (s.getF R.secBootStatus 25 24 < 2 → s.startFirmware unplaced ecc = t.bootPlan unplaced ecc)))

/-- SEC commands (R463 to R465) that reach SEC.CMD, in every state. Of the management plane, while SEC is not busy:
ROLLBACK_SET fuses a rollback value above the one that stands and no higher than 64, the running firmware and the plan
carry; REVOKE fuses the revocation of a slot that neither the firmware nor the plan uses and that is not the last usable
one; KEY_WRITE fuses KEY_STAGE into a blank slot that is not revoked. A value that stands already completes with OK, any
other request with CHECK or STATE as R463 and R464 say, and while SEC is busy with STATE; a command of another requester is
dropped and counted. -/
def Obligations.SecurityCommandsProgramFuses : Prop :=
  ∀ (s : State) (req : Requester) (f : FuseSt), Reaches s req R.secCmd → f = s.boot.fuses →
    (isMgmt (s.acting req) = false → ∀ c ∈ [Instr.rollbackSet req, .revoke req, .keyWrite req, .secCmdReserved req],
      exec c s = .next (s.inc R.secCmdDrop)) ∧
    (isMgmt (s.acting req) = true → s.bit R.secStatus 0 = true →
      ∀ c ∈ [Instr.rollbackSet req, .revoke req, .keyWrite req], exec c s = .next (s.result R.secStatus 0x02)) ∧
    (isMgmt (s.acting req) = true → s.bit R.secStatus 0 = false →
      (∀ v m, v = s.getF R.secArg 6 0 → m = BitVec.ofNat 64 (2 ^ v - 1) →
        (v ≤ s.rollback → exec (.rollbackSet req) s = .next (s.result R.secStatus 0x00)) ∧
        (s.rollback < v → 64 < v ∨ s.rdN R.secFwSecVersion < v ∨ (s.hasPlan = true ∧ s.im.secVersion < v) →
          exec (.rollbackSet req) s = .next (s.result R.secStatus 0x03)) ∧
        (s.rollback < v → v ≤ 64 → v ≤ s.rdN R.secFwSecVersion → (s.hasPlan = true → v ≤ s.im.secVersion) →
          exec (.rollbackSet req) s = .next ((s.program { f with
            rollback1 := f.rollback1 ||| m, rollback2 := f.rollback2 ||| m }).result R.secStatus 0x00))) ∧
      (∀ k m left, k = s.getF R.secArg 1 0 → m = BitVec.ofNat 4 (2 ^ k) →
        left = (List.range 4).filter (fun j => s.slotUsable j && !s.revoked j) →
        (s.revoked k = true → exec (.revoke req) s = .next (s.result R.secStatus 0x02)) ∧
        (s.revoked k = false → k = s.getF R.secKeys 9 8 ∨ (s.hasPlan = true ∧ k = s.im.keySlot) ∨ left = [k] →
          exec (.revoke req) s = .next (s.result R.secStatus 0x03)) ∧
        (s.revoked k = false → k ≠ s.getF R.secKeys 9 8 → (s.hasPlan = true → k ≠ s.im.keySlot) → left ≠ [k] →
          exec (.revoke req) s = .next ((s.program { f with
            revoke1 := f.revoke1 ||| m, revoke2 := f.revoke2 ||| m }).result R.secStatus 0x00)) ∧
        (allZero (f.keyHash1.getD k []) = true → allZero (f.keyHash2.getD k []) = true → s.revoked k = false →
          exec (.keyWrite req) s = .next ((s.program { f with
            keyHash1 := f.keyHash1.set k (s.rdBytes R.secKeyStage 12),
            keyHash2 := f.keyHash2.set k (s.rdBytes R.secKeyStage 12) }).result R.secStatus 0x00)) ∧
        (allZero (f.keyHash1.getD k []) = false ∨ allZero (f.keyHash2.getD k []) = false ∨ s.revoked k = true →
          exec (.keyWrite req) s = .next (s.result R.secStatus 0x02))))

/-- Management services (R459, R472, R473, R476): a request that waits on a road, while the firmware runs, or on PF7's
mailbox in RECOVERY. One of a wrong length or an unknown code is answered with CHECK by whichever row takes it; one of
another row's code is left; one of the row's code on a road that does not serve it is answered with CHECK, in RECOVERY and
other than FW_LOAD with STATE, and else is done and answered with the same OPCODE and TAG, its status and its body. Without
a request or a server nothing happens. What the requests do (R473, R475, R477): the reading requests change nothing;
SET_MG_VIEW sets an override of a board entry and CLEAR_MG_VIEW ends it; FW_WRITE, FW_VERIFY and FW_ACTIVATE act on the copy
that does not run, the last only after a verification without an error; FW_LOAD serves in RECOVERY only; PLAN_WRITE fills
the staging area, PLAN_SLOT_WRITE the plan slot; SYS_RESET resets 10 ms later; SET_NET sets the addresses. An argument
outside its range answers CHECK, and a state that does not allow the request STATE. -/
def Obligations.RequestsAreServedAndAnswered : Prop :=
  (∀ (s : State) (r : Road) (msg : List Byte),
    ∀ p ∈ [(0x01, Instr.getInfo r msg), (0x02, .getSensors r msg), (0x03, .getBoard r msg), (0x04, .setMgView r msg),
        (0x05, .clearMgView r msg), (0x10, .fwWrite r msg), (0x11, .fwVerify r msg), (0x12, .fwActivate r msg),
        (0x13, .fwLoad r msg), (0x14, .sysReset r msg), (0x20, .planWrite r msg), (0x21, .planSlotWrite r msg),
        (0x30, .getLog r msg), (0x40, .setNet r msg)],
      (∀ b n, s.requestOn r msg = some (b, n) → s.fwRuns = true ∨ (s.inRecovery = true ∧ r = .mailbox 2) →
        (n < 8 ∨ 4096 < n ∨ leAt b 4 2 ≠ n ∨ opcodes.contains (leAt b 0 2) = false →
          exec p.2 s = .next (s.reply r b 0x03 [])) ∧
        (8 ≤ n → n ≤ 4096 → leAt b 4 2 = n → opcodes.contains (leAt b 0 2) = true →
          (leAt b 0 2 ≠ p.1 → exec p.2 s = .next s) ∧
          (leAt b 0 2 = p.1 →
            (roadServes r p.1 = false → exec p.2 s = .next (s.reply r b 0x03 [])) ∧
            (roadServes r p.1 = true → s.inRecovery = true → p.1 ≠ 0x13 → exec p.2 s = .next (s.reply r b 0x02 [])) ∧
            (roadServes r p.1 = true → s.inRecovery = false ∨ p.1 = 0x13 → exec p.2 s =
              .next ((s.doRequest p.1 b).1.reply r b (s.doRequest p.1 b).2.1 (s.doRequest p.1 b).2.2))))) ∧
      (s.requestOn r msg = none ∨ (s.fwRuns = false ∧ (s.inRecovery = false ∨ r ≠ .mailbox 2)) → exec p.2 s = .next s)) ∧
  (∀ (s : State) (b d : List Byte) (u o : Nat), u = leAt b 8 2 → o = leAt b 8 4 → d = b.drop 12 →
    (∀ op, op = 0x01 ∨ op = 0x02 ∨ op = 0x03 ∨ op = 0x30 → (s.doRequest op b).1 = s ∧ (s.doRequest op b).2.1 = 0x00) ∧
    (231 < u → s.doRequest 0x04 b = (s, 0x03, []) ∧ s.doRequest 0x05 b = (s, 0x03, [])) ∧
    (u ≤ 231 → s.hasPlan = false → s.doRequest 0x04 b = (s, 0x02, []) ∧ s.doRequest 0x05 b = (s, 0x02, [])) ∧
    (u ≤ 231 → s.hasPlan = true → s.doRequest 0x04 b = (s.overrideView u (leAt b 10 1 % 16), 0x00, []) ∧
      s.doRequest 0x05 b = ({ s with mgt := { s.mgt with overrides := s.mgt.overrides.filter (· != u) } }, 0x00, [])) ∧
    (∀ c, c = s.getF R.secBootStatus 1 0 →
      (2 ≤ c → s.doRequest 0x10 b = (s, 0x02, []) ∧ s.doRequest 0x11 b = (s, 0x02, []) ∧ s.doRequest 0x12 b = (s, 0x02, [])) ∧
      (c < 2 →
        (d.length ≤ 4064 → o + d.length ≤ 4194304 →
          s.doRequest 0x10 b = (s.norWrite (0x100000 + (1 - c) * 0x400000 + o) d, 0x00, [])) ∧
        (4064 < d.length ∨ 4194304 < o + d.length → s.doRequest 0x10 b = (s, 0x03, [])) ∧
        (∀ e, e = s.fwCode (s.norRead (0x100000 + (1 - c) * 0x400000) 4194304) →
          s.doRequest 0x11 b = ({ s with boot := { s.boot with lastVerify := some e } }, 0x00, leBytes 1 e)) ∧
        (s.boot.lastVerify ≠ some 0 → s.doRequest 0x12 b = (s, 0x02, [])) ∧
        (∀ e, s.boot.lastVerify = some 0 → e = beBytes 4 0x4F544244 ++ leBytes 4 (1 - c) →
          s.doRequest 0x12 b = (s.norWrite 0 (e ++ leBytes 4 (crc32c e).toNat), 0x00, [])))) ∧
    (s.inRecovery = false → s.doRequest 0x13 b = (s, 0x02, [])) ∧
    (s.planState = 0 ∨ s.planState = 1 ∨ s.planState = 3 ∨ s.planState = 4 → s.getF (R.memChStatus 0) 2 0 = 2 →
      (o + d.length ≤ 16777216 → s.doRequest 0x20 b = (s.ddrWrite o d, 0x00, [])) ∧
      (16777216 < o + d.length → s.doRequest 0x20 b = (s, 0x03, []))) ∧
    (s.planState ≠ 0 → s.planState ≠ 1 → s.planState ≠ 3 → s.planState ≠ 4 → s.doRequest 0x20 b = (s, 0x02, [])) ∧
    (o + d.length ≤ 16777216 → s.doRequest 0x21 b = (s.norWrite (0x1000000 + o) d, 0x00, [])) ∧
    (16777216 < o + d.length → s.doRequest 0x21 b = (s, 0x03, [])) ∧
    s.doRequest 0x14 b = ({ s with boot := { s.boot with resetAt := some (s.clock + ofMs 10) } }, 0x00, []) ∧
    s.doRequest 0x40 b = ({ s with mgt := { s.mgt with net := slice b 8 12 } }, 0x00, []))

/-- SPDM, MCTP and the SGMII port (R462, R469 to R471, R474), while the firmware runs. A request that the binding's
connection state allows is answered and moves it on, GET_VERSION starting it anew; one it does not allow, and every request
without an identity, is answered with an error. The endpoint of a binding takes the EID it is given and answers. A port that
is enabled and has an address answers an ARP request for it and an echo request, and serves a datagram to port 41,280.
Anything else, and anything while the firmware does not run, does nothing. -/
def Obligations.AttestationFollowsItsConnection : Prop :=
  ∀ (s : State) (smbus : Bool) (msg : List Byte),
    (∀ p ∈ [(0, 1, Instr.getVersion smbus msg), (1, max 2 (s.spdmState smbus), .getCapabilities smbus msg),
        (2, max 3 (s.spdmState smbus), .negotiateAlgorithms smbus msg), (3, s.spdmState smbus, .getDigests smbus msg),
        (3, s.spdmState smbus, .getCertificate smbus msg), (3, s.spdmState smbus, .challenge smbus msg),
        (3, s.spdmState smbus, .getMeasurements smbus msg)],
      (s.fwRuns = true → s.bit R.secBootStatus 2 = false → p.1 ≤ s.spdmState smbus → ∀ t : State,
        t = { s with mgt := { s.mgt with spdm := Tab.put (fun _ => 0) s.mgt.spdm smbus.toNat p.2.1 } } →
        exec p.2.2 s = .next (t.emit (.mgtMessage smbus.toNat (Config.spdmReply (t.spdmContext (s.spdmState smbus)) msg)))) ∧
      (s.fwRuns = true → s.bit R.secBootStatus 2 = true ∨ s.spdmState smbus < p.1 →
        exec p.2.2 s = .next (s.emit (.mgtMessage smbus.toNat (Config.spdmError msg)))) ∧
      (s.fwRuns = false → exec p.2.2 s = .next s)) ∧
    (∀ eid, (s.fwRuns = true → exec (.setEndpointId smbus eid) s = .next (State.emit
        { s with mgt := { s.mgt with eid := Tab.put (fun _ => 0) s.mgt.eid smbus.toNat (eid % 256) } }
        (.mgtMessage smbus.toNat (Config.mctpReply smbus (eid % 256))))) ∧
      (s.fwRuns = false → exec (.setEndpointId smbus eid) s = .next s)) ∧
    (∀ b, (s.fwRuns = true → s.bit R.secBootStatus 27 = true → s.mgtIp ≠ 0 →
        (beAt b 12 2 = 0x0806 → beAt b 20 2 = 1 → beAt b 38 4 = s.mgtIp → exec (.mgtPortReceive b) s = .next (s.emit (.mgtMessage 2
          (slice b 6 6 ++ beBytes 6 Config.mgtMac ++ slice b 12 8 ++ beBytes 2 2 ++ beBytes 6 Config.mgtMac ++
            beBytes 4 s.mgtIp ++ slice b 22 10)))) ∧
        (beAt b 12 2 = 0x0800 → beAt b 14 1 = 0x45 → beAt b 30 4 = s.mgtIp →
          (∀ (ip : Nat → List Byte) rest, beAt b 23 1 = 1 → beAt b 34 2 = 0x0800 → rest = slice b 38 (beAt b 16 2 - 24) →
            (∀ ck, ip ck = slice b 14 10 ++ beBytes 2 ck ++ slice b 30 4 ++ slice b 26 4) →
            exec (.mgtPortReceive b) s = .next (s.emit (.mgtMessage 2 (slice b 6 6 ++ beBytes 6 Config.mgtMac ++ slice b 12 2 ++
              ip (ipCheck (ip 0)) ++ [0, 0] ++ beBytes 2 (ipCheck rest) ++ rest)))) ∧
          (beAt b 23 1 = 17 → beAt b 36 2 = 41280 → exec (.mgtPortReceive b) s =
            .next (s.serve (.sgmii (slice b 0 42)) (slice b 42 (beAt b 38 2 - 8)) none)) ∧
          ((beAt b 23 1 ≠ 1 ∨ beAt b 34 2 ≠ 0x0800) → (beAt b 23 1 ≠ 17 ∨ beAt b 36 2 ≠ 41280) →
            exec (.mgtPortReceive b) s = .next s)) ∧
        ((beAt b 12 2 ≠ 0x0806 ∨ beAt b 20 2 ≠ 1 ∨ beAt b 38 4 ≠ s.mgtIp) →
          (beAt b 12 2 ≠ 0x0800 ∨ beAt b 14 1 ≠ 0x45 ∨ beAt b 30 4 ≠ s.mgtIp) → exec (.mgtPortReceive b) s = .next s)) ∧
      (s.fwRuns = false ∨ s.bit R.secBootStatus 27 = false ∨ s.mgtIp = 0 → exec (.mgtPortReceive b) s = .next s))

/-- Management resets, sensors and views (R28, R476, R478 to R480). RESTART, and a fault of running firmware, start a
management reset; it is done when nothing keeps the processor from running, after MGT_SRAM_UE with the copies read and
verified anew, RECOVERY following when neither is accepted. A sample, while the device is not in PORST or was shut down,
shows in TEMP, VOLT and CURR; its alarms follow their limits, TEMP_WARN up from 115 degrees and down below 110, TEMP_CRIT
with the shutdown from 130. A write of TOP.USB_MG by PF7 is an override of an entry below 232 while a plan is in force, by
the management processor a view where no override stands, and by anyone else, or otherwise, dropped and counted. -/
def Obligations.ManagementRestartsAndSamples : Prop :=
  ∀ s : State,
    (∀ req, Reaches s req R.mgtCtl →
      exec (.restart req) s = .next (((s.mgtStart false).setBit R.mgtCtlStatus 0 true).defer R.mgtCtlStatus)) ∧
    (∀ sram, (s.fwRuns = true → exec (.mgtFwFault sram) s =
        .next ((s.mgtStart sram).raise (if sram = true then Src.mgtSramUe else Src.mgtFwFault) [])) ∧
      (s.fwRuns = false → exec (.mgtFwFault sram) s = .next s)) ∧
    (s.pwr.mgtReset = true → s.pwr.mgtRom = false → s.pwr.stopped.contains 3 = false →
      (s.pwr.mgtReload = false → exec .mgtRestartDone s = .next s.mgtUp) ∧
      (∀ a t, s.pwr.mgtReload = true → a = s.tryCopies s.copyOrder →
        t = (if a.2 then a.1 else (a.1.tryCopies (s.copyOrder.drop 1)).1) →
        (t.getF R.secBootStatus 1 0 = 2 →
          exec .mgtRestartDone s = .next { t with pwr := { t.pwr with mgtReload := false, mgtRom := true } }) ∧
        (t.getF R.secBootStatus 1 0 ≠ 2 → exec .mgtRestartDone s = .next t.mgtUp))) ∧
    (s.pwr.mgtReset = false ∨ s.pwr.mgtRom = true ∨ s.pwr.stopped.contains 3 = true → exec .mgtRestartDone s = .next s) ∧
    (∀ t : State, t = { s with pwr := { s.pwr with mgtReset := false, mgtReload := false, mgtRom := false } } →
      (t.bit R.mgtCtlStatus 0 = false → s.mgtUp = t) ∧
      (t.bit R.mgtCtlStatus 0 = true →
        s.mgtUp = (t.setBit R.mgtCtlStatus 0 false).finish R.mgtCtlStatus R.mgtCtlStatus 0x00)) ∧
    (∀ temps rails amps,
      (s.boot.stage = 0 → s.boot.shutdown = false → exec (.sensorSample temps rails amps) s = .next s) ∧
      (s.boot.stage ≠ 0 ∨ s.boot.shutdown = true → ∀ top t u v w,
        top = (temps.take 16).foldl max (temps.headD 0) →
        t = ((forEach (List.range 16) (fun i (x : State) => x.wrN (R.mgtTemp i) (unsigned 12 (temps.getD i 0))) s).wrN R.mgtTempMax
          (unsigned 12 top)).wrN R.mgtCurr (amps % 65536) →
        u = forEach (List.range 9) (fun r (x : State) => (x.wrN (R.mgtVolt r) ((rails.getD r (0, 0)).1 % 65536)).condition
          (Src.voltAlarm r) [] (railOut r (rails.getD r (0, 0)).1 && decide (10000 ≤ (rails.getD r (0, 0)).2))) t →
        v = State.condition { u with pwr := { u.pwr with
          railOut := (List.range 9).any (fun r => railOut r (rails.getD r (0, 0)).1) } } Src.currAlarm []
          (decide (u.getF R.mgtCurrLimit 15 0 < amps)) →
        (460 ≤ top → w = v.condition Src.tempWarn [] true) → (top < 440 → w = v.condition Src.tempWarn [] false) →
        (440 ≤ top → top < 460 → w = v) →
        (520 ≤ top → signed 12 (s.getF R.mgtTempMax 11 0) < 520 → s.boot.shutdown = false →
          exec (.sensorSample temps rails amps) s = .next (w.raise Src.tempCrit []).shutDown) ∧
        (top < 520 ∨ 520 ≤ signed 12 (s.getF R.mgtTempMax 11 0) ∨ s.boot.shutdown = true →
          exec (.sensorSample temps rails amps) s = .next w))) ∧
    (∀ req u v,
      (6 ≤ s.boot.stage → (s.acting req).vfNum = 0 → s.clockStopped (R.topUsbMg u) = false →
        (u < 232 → s.hasPlan = true →
          (∀ b, req = .pf7 b → exec (.mgViewWrite req u v) s = .next (s.overrideView u (fld v 3 0))) ∧
          (req = .mgmt → s.mgt.overrides.contains u = true → exec (.mgViewWrite req u v) s = .next s) ∧
          (req = .mgmt → s.mgt.overrides.contains u = false →
            exec (.mgViewWrite req u v) s = .next (s.setMgView u (fld v 3 0)))) ∧
        (232 ≤ u ∨ s.hasPlan = false → exec (.mgViewWrite req u v) s = .next (s.inc R.topUsbWrDrop)) ∧
        ((∀ b, req ≠ .pf7 b) → req ≠ .mgmt → exec (.mgViewWrite req u v) s = .next (s.inc R.topUsbWrDrop))) ∧
      (s.boot.stage < 6 ∨ (s.acting req).vfNum ≠ 0 → exec (.mgViewWrite req u v) s = .next s) ∧
      (6 ≤ s.boot.stage → (s.acting req).vfNum = 0 → s.clockStopped (R.topUsbMg u) = true →
        exec (.mgViewWrite req u v) s = .next (s.csrTimeout (R.topUsbMg u))))

/-- Clocks (R151, R154, R482, R518, R519). PLL_UNLOCK of a PLL that has lock stops its domains and shows it, for CORE with
the grant given up and for another with its source while the collector runs; PLL_RESTART of one that stands restarts them:
CORE and PRZ rebuild the plan, TIME steps every base by the interval in whole 40 ns, MGT resets its processor, the source
ending. The loss of SYSOSC puts AON on its internal oscillator and every PLL out of lock, and its return ends the source.
The loss of a gallery's reference clock takes the lock of its lanes and of its ports' alignment, a port that is UP with
DOWN_HOLD_US 0 going to FAULT; its return brings its ports to TRAINING. -/
def Obligations.ClocksStopAndRestart : Prop :=
  ∀ s : State,
    (∀ i, (3 < i ∨ s.pwr.stopped.contains i = true → exec (.pllUnlock i) s = .next s) ∧
      (∀ t, i ≤ 3 → s.pwr.stopped.contains i = false →
        t = State.setBit { s with pwr := { s.pwr with stopped := i :: s.pwr.stopped } } R.pwrClkStatus i false →
        (i = 0 → exec (.pllUnlock i) s = .next t.giveUp.settleHeld) ∧
        (i ≠ 0 → t.coreRuns = true → exec (.pllUnlock i) s = .next (t.condition (Src.pllUnlockCore + i) [] true)) ∧
        (i ≠ 0 → t.coreRuns = false → exec (.pllUnlock i) s = .next t))) ∧
    (∀ i ns, (s.pwr.stopped.contains i = false → exec (.pllRestart i ns) s = .next s) ∧
      (∀ t u, s.pwr.stopped.contains i = true → t = State.setBit { s with pwr := { s.pwr with
          stopped := s.pwr.stopped.filter (· != i) } } R.pwrClkStatus i true →
        u = (if t.coreRuns = true then t.condition (Src.pllUnlockCore + i) [] false else t) →
        (i = 0 → exec (.pllRestart i ns) s = .next (State.rebuildPlan (State.condition (forEach s.pwr.stopped
          (fun k (x : State) => x.condition (Src.pllUnlockCore + k) [] true) t) Src.pllUnlockCore [] false))) ∧
        (i = 1 → exec (.pllRestart i ns) s = .next u.rebuildPlan) ∧
        (i = 2 → exec (.pllRestart i ns) s = .next (forEach ((List.range 8).filter u.tbOn)
          (fun n (x : State) => x.afterStep (x.applyCorr n (((ns + 20) / 40 * 40 : Nat) * 65536))) u)) ∧
        (3 ≤ i → exec (.pllRestart i ns) s = .next (u.mgtStart false)))) ∧
    exec .sysoscLoss s = .next (((((State.condition { s with pwr := { s.pwr with internalOsc := true } }
      Src.sysoscLoss [] true).pllLost 1).pllLost 2).pllLost 3).pllLost 0) ∧
    exec .sysclkRestore s = .next (State.condition { s with pwr := { s.pwr with internalOsc := false } } Src.sysoscLoss [] false) ∧
    (∀ g, (8 ≤ g → exec (.refclkLoss g) s = .next s) ∧
      (∀ (t : State) (f : Nat → State → State), g < 8 →
        t = forEach (List.range 16) (fun l (x : State) => x.setBit (R.prtLStatus (16 * g + l)) 1 false)
          (s.condition (Src.refclkLoss g) [Cu.gallery g] true) →
        (∀ p x y, y = x.setF (R.prtPStatus p) 18 14 0 →
          f p x = if y.link p = 3 ∧ y.getF (R.prtPLinkTmr p) 31 16 = 0 then y.linkLeave p 4 else y) →
        exec (.refclkLoss g) s = .next (forEach (t.im.ports.filter (fun p => t.portGallery p == g)) f t))) ∧
    (∀ g, (8 ≤ g ∨ s.isLive (Src.refclkLoss g) = false → exec (.refclkRestore g) s = .next s) ∧
      (∀ t, g < 8 → s.isLive (Src.refclkLoss g) = true → t = s.condition (Src.refclkLoss g) [Cu.gallery g] false →
        exec (.refclkRestore g) s = .next (forEach (t.im.ports.filter (fun p => t.portGallery p == g && t.link p != 0))
          (fun p (x : State) => x.linkLeave p 1) t)))

/-- Power (R24, R492, R495, R496, R499), in every state. A woken entry is in P0, its group's PWR.SEL with it; a link enters
L1 from L0 while nothing of it is pending or due and returns from it; its link state follows the link, PCIE_LINK_DOWN with
it; LTR carries the latency of its register, rounded up; D3hot sets the function's bit, with PM_PME for what is pending, and
the return to D0 clears it, and PME_Status when that is written, writes what was held, fires what is pending and issues the
reads that waited; PM_PME is repeated while PME_Status stands with PME_En. Anything else does nothing. -/
def Obligations.PowerStatesChange : Prop :=
  ∀ s : State,
    (∀ u, (256 ≤ u ∨ s.powerState u = 0 → exec (.powerWake u) s = .next s) ∧
      (∀ t, u < 256 → s.powerState u ≠ 0 → t = s.setPower u 0 →
        (t.wakeGroupOf u = none → exec (.powerWake u) s = .next t) ∧
        (∀ g, t.wakeGroupOf u = some g → exec (.powerWake u) s = .next (t.settleSel g)))) ∧
    (∀ h, h < 2 →
      (∀ x : Nat, (s.pcie h = 1 → s.linkPending h = false → s.linkDue h (ofNs (x + 2000)) = false →
          exec (.l1Entry h x) s = .next (s.setPcie h 2)) ∧
        (s.pcie h ≠ 1 ∨ s.linkPending h = true ∨ s.linkDue h (ofNs (x + 2000)) = true → exec (.l1Entry h x) s = .next s)) ∧
      (s.pcie h = 2 → exec (.l1Exit h) s = .next (s.setPcie h 1)) ∧ (s.pcie h ≠ 2 → exec (.l1Exit h) s = .next s) ∧
      (s.boot.stage ≠ 0 → s.pcie h = 0 → exec (.pcieLinkUp h) s = .next (s.setPcie h 1)) ∧
      (s.boot.stage = 0 ∨ s.pcie h ≠ 0 → exec (.pcieLinkUp h) s = .next s) ∧
      (s.pcie h ≠ 0 → exec (.pcieLinkLost h) s = .next (s.setPcie h 0)) ∧
      (s.pcie h = 0 → exec (.pcieLinkLost h) s = .next s ∧ exec (.ltrSend h) s = .next s) ∧
      (s.pcie h ≠ 0 → s.getF (R.pwrLtr h) 29 0 = 0 → exec (.ltrSend h) s = .next (s.emit (.ltr h none))) ∧
      (s.pcie h ≠ 0 → s.getF (R.pwrLtr h) 29 0 ≠ 0 →
        exec (.ltrSend h) s = .next (s.emit (.ltr h (some (ltrRound (s.getF (R.pwrLtr h) 29 0) 5 1)))))) ∧
    (∀ h x, 2 ≤ h → ∀ c ∈ [Instr.l1Entry h x, .l1Exit h, .pcieLinkUp h, .pcieLinkLost h, .ltrSend h], exec c s = .next s) ∧
    (∀ func f b, func = 0 ∨ func = 1 ∨ func = 7 → f = requesterOf func 0 → b = Requester.d3Bit f →
      (∀ (pmeEn : Bool) t, t = State.setBit { s with pwr := { s.pwr with
          pmeEn := (if pmeEn = true then [b] else []) ++ s.pwr.pmeEn.filter (· != b) } } R.pwrD3 b true →
        (s.inD3 f = false → ((s.family func).any (fun fn =>
            (s.vecsOf fn).any (fun v => decide (0 < (s.vec (vecKey fn v)).pending)))) = true →
          exec (.d3hotEntry func pmeEn) s = .next (t.setPme f)) ∧
        (s.inD3 f = true ∨ ((s.family func).any (fun fn =>
            (s.vecsOf fn).any (fun v => decide (0 < (s.vec (vecKey fn v)).pending)))) = false →
          exec (.d3hotEntry func pmeEn) s = .next t)) ∧
      (∀ (pmeEn clear : Bool) mine t u, mine = s.pwr.held.filter (fun h => s.crOwner h.ring == f) →
        t = State.setBit { s with pwr := { s.pwr with
          held := s.pwr.held.filter (fun h => s.crOwner h.ring != f),
          pmeEn := (if pmeEn = true then [b] else []) ++ s.pwr.pmeEn.filter (· != b) } } R.pwrD3 b false →
        u = forEach mine (fun h (x : State) => x.finishRecord h) (if clear = true then t.setBit R.pwrD3 (8 + b) false else t) →
        exec (.d0Return func pmeEn clear) s = .next (((forEach (mine.filterMap (fun h => h.idx.map (fun _ => h.qid)))
          (fun q (x : State) => x.drainQueue q) u).fireAll func).readsResume f)) ∧
      (s.bit R.pwrD3 (8 + b) = true → s.pwr.pmeEn.contains b = true → exec (.pmeResend func) s = .next (s.emit (.pme f))) ∧
      (s.bit R.pwrD3 (8 + b) = false ∨ s.pwr.pmeEn.contains b = false → exec (.pmeResend func) s = .next s)) ∧
    (∀ func pmeEn clear, func ≠ 0 → func ≠ 1 → func ≠ 7 →
      ∀ c ∈ [Instr.d3hotEntry func pmeEn, .d0Return func pmeEn clear, .pmeResend func], exec c s = .next s)
end

