-- ==== Sys2Proof/Laws/State.lean ====
section
/-! SUPPORT. What each named update of State leaves alone, field by field. -/

namespace Sys2Proof.Machine

/-! ### wr -/

@[simp] theorem State.wr_pending (s : State) (k : Nat) (v : Reg) : (s.wr k v).pending = s.pending := rfl
@[simp] theorem State.wr_stale (s : State) (k : Nat) (v : Reg) : (s.wr k v).stale = s.stale := rfl
@[simp] theorem State.wr_mem (s : State) (k : Nat) (v : Reg) : (s.wr k v).mem = s.mem := rfl
@[simp] theorem State.wr_plan (s : State) (k : Nat) (v : Reg) : (s.wr k v).plan = s.plan := rfl
@[simp] theorem State.wr_tick (s : State) (k : Nat) (v : Reg) : (s.wr k v).tick = s.tick := rfl
@[simp] theorem State.wr_tbs (s : State) (k : Nat) (v : Reg) : (s.wr k v).tbs = s.tbs := rfl
@[simp] theorem State.wr_peers (s : State) (k : Nat) (v : Reg) : (s.wr k v).peers = s.peers := rfl
@[simp] theorem State.wr_pps (s : State) (k : Nat) (v : Reg) : (s.wr k v).pps = s.pps := rfl
@[simp] theorem State.wr_queues (s : State) (k : Nat) (v : Reg) : (s.wr k v).queues = s.queues := rfl
@[simp] theorem State.wr_slots (s : State) (k : Nat) (v : Reg) : (s.wr k v).slots = s.slots := rfl
@[simp] theorem State.wr_stalled (s : State) (k : Nat) (v : Reg) : (s.wr k v).stalled = s.stalled := rfl
@[simp] theorem State.wr_csrWait (s : State) (k : Nat) (v : Reg) : (s.wr k v).csrWait = s.csrWait := rfl
@[simp] theorem State.wr_tx (s : State) (k : Nat) (v : Reg) : (s.wr k v).tx = s.tx := rfl
@[simp] theorem State.wr_prz (s : State) (k : Nat) (v : Reg) : (s.wr k v).prz = s.prz := rfl
@[simp] theorem State.wr_dma (s : State) (k : Nat) (v : Reg) : (s.wr k v).dma = s.dma := rfl
@[simp] theorem State.wr_str (s : State) (k : Nat) (v : Reg) : (s.wr k v).str = s.str := rfl
@[simp] theorem State.wr_ddr (s : State) (k : Nat) (v : Reg) : (s.wr k v).ddr = s.ddr := rfl
@[simp] theorem State.wr_fcr (s : State) (k : Nat) (v : Reg) : (s.wr k v).fcr = s.fcr := rfl
@[simp] theorem State.wr_rdn (s : State) (k : Nat) (v : Reg) : (s.wr k v).rdn = s.rdn := rfl
@[simp] theorem State.wr_pwr (s : State) (k : Nat) (v : Reg) : (s.wr k v).pwr = s.pwr := rfl
@[simp] theorem State.wr_boot (s : State) (k : Nat) (v : Reg) : (s.wr k v).boot = s.boot := rfl
@[simp] theorem State.wr_mgt (s : State) (k : Nat) (v : Reg) : (s.wr k v).mgt = s.mgt := rfl
@[simp] theorem State.wr_wide (s : State) (k : Nat) (v : Reg) : (s.wr k v).wide = s.wide := rfl
@[simp] theorem State.wr_clock (s : State) (k : Nat) (v : Reg) : (s.wr k v).clock = s.clock := rfl
@[simp] theorem State.wr_out (s : State) (k : Nat) (v : Reg) : (s.wr k v).out = s.out := rfl

/-! ### wrN -/

@[simp] theorem State.wrN_pending (s : State) (k v : Nat) : (s.wrN k v).pending = s.pending := rfl
@[simp] theorem State.wrN_stale (s : State) (k v : Nat) : (s.wrN k v).stale = s.stale := rfl
@[simp] theorem State.wrN_mem (s : State) (k v : Nat) : (s.wrN k v).mem = s.mem := rfl
@[simp] theorem State.wrN_plan (s : State) (k v : Nat) : (s.wrN k v).plan = s.plan := rfl
@[simp] theorem State.wrN_tick (s : State) (k v : Nat) : (s.wrN k v).tick = s.tick := rfl
@[simp] theorem State.wrN_tbs (s : State) (k v : Nat) : (s.wrN k v).tbs = s.tbs := rfl
@[simp] theorem State.wrN_peers (s : State) (k v : Nat) : (s.wrN k v).peers = s.peers := rfl
@[simp] theorem State.wrN_pps (s : State) (k v : Nat) : (s.wrN k v).pps = s.pps := rfl
@[simp] theorem State.wrN_queues (s : State) (k v : Nat) : (s.wrN k v).queues = s.queues := rfl
@[simp] theorem State.wrN_slots (s : State) (k v : Nat) : (s.wrN k v).slots = s.slots := rfl
@[simp] theorem State.wrN_stalled (s : State) (k v : Nat) : (s.wrN k v).stalled = s.stalled := rfl
@[simp] theorem State.wrN_csrWait (s : State) (k v : Nat) : (s.wrN k v).csrWait = s.csrWait := rfl
@[simp] theorem State.wrN_tx (s : State) (k v : Nat) : (s.wrN k v).tx = s.tx := rfl
@[simp] theorem State.wrN_prz (s : State) (k v : Nat) : (s.wrN k v).prz = s.prz := rfl
@[simp] theorem State.wrN_dma (s : State) (k v : Nat) : (s.wrN k v).dma = s.dma := rfl
@[simp] theorem State.wrN_str (s : State) (k v : Nat) : (s.wrN k v).str = s.str := rfl
@[simp] theorem State.wrN_ddr (s : State) (k v : Nat) : (s.wrN k v).ddr = s.ddr := rfl
@[simp] theorem State.wrN_fcr (s : State) (k v : Nat) : (s.wrN k v).fcr = s.fcr := rfl
@[simp] theorem State.wrN_rdn (s : State) (k v : Nat) : (s.wrN k v).rdn = s.rdn := rfl
@[simp] theorem State.wrN_pwr (s : State) (k v : Nat) : (s.wrN k v).pwr = s.pwr := rfl
@[simp] theorem State.wrN_boot (s : State) (k v : Nat) : (s.wrN k v).boot = s.boot := rfl
@[simp] theorem State.wrN_mgt (s : State) (k v : Nat) : (s.wrN k v).mgt = s.mgt := rfl
@[simp] theorem State.wrN_wide (s : State) (k v : Nat) : (s.wrN k v).wide = s.wide := rfl
@[simp] theorem State.wrN_clock (s : State) (k v : Nat) : (s.wrN k v).clock = s.clock := rfl
@[simp] theorem State.wrN_out (s : State) (k v : Nat) : (s.wrN k v).out = s.out := rfl

/-! ### setF -/

@[simp] theorem State.setF_pending (s : State) (k hi lo v : Nat) : (s.setF k hi lo v).pending = s.pending := rfl
@[simp] theorem State.setF_stale (s : State) (k hi lo v : Nat) : (s.setF k hi lo v).stale = s.stale := rfl
@[simp] theorem State.setF_mem (s : State) (k hi lo v : Nat) : (s.setF k hi lo v).mem = s.mem := rfl
@[simp] theorem State.setF_plan (s : State) (k hi lo v : Nat) : (s.setF k hi lo v).plan = s.plan := rfl
@[simp] theorem State.setF_tick (s : State) (k hi lo v : Nat) : (s.setF k hi lo v).tick = s.tick := rfl
@[simp] theorem State.setF_tbs (s : State) (k hi lo v : Nat) : (s.setF k hi lo v).tbs = s.tbs := rfl
@[simp] theorem State.setF_peers (s : State) (k hi lo v : Nat) : (s.setF k hi lo v).peers = s.peers := rfl
@[simp] theorem State.setF_pps (s : State) (k hi lo v : Nat) : (s.setF k hi lo v).pps = s.pps := rfl
@[simp] theorem State.setF_queues (s : State) (k hi lo v : Nat) : (s.setF k hi lo v).queues = s.queues := rfl
@[simp] theorem State.setF_slots (s : State) (k hi lo v : Nat) : (s.setF k hi lo v).slots = s.slots := rfl
@[simp] theorem State.setF_stalled (s : State) (k hi lo v : Nat) : (s.setF k hi lo v).stalled = s.stalled := rfl
@[simp] theorem State.setF_csrWait (s : State) (k hi lo v : Nat) : (s.setF k hi lo v).csrWait = s.csrWait := rfl
@[simp] theorem State.setF_tx (s : State) (k hi lo v : Nat) : (s.setF k hi lo v).tx = s.tx := rfl
@[simp] theorem State.setF_prz (s : State) (k hi lo v : Nat) : (s.setF k hi lo v).prz = s.prz := rfl
@[simp] theorem State.setF_dma (s : State) (k hi lo v : Nat) : (s.setF k hi lo v).dma = s.dma := rfl
@[simp] theorem State.setF_str (s : State) (k hi lo v : Nat) : (s.setF k hi lo v).str = s.str := rfl
@[simp] theorem State.setF_ddr (s : State) (k hi lo v : Nat) : (s.setF k hi lo v).ddr = s.ddr := rfl
@[simp] theorem State.setF_fcr (s : State) (k hi lo v : Nat) : (s.setF k hi lo v).fcr = s.fcr := rfl
@[simp] theorem State.setF_rdn (s : State) (k hi lo v : Nat) : (s.setF k hi lo v).rdn = s.rdn := rfl
@[simp] theorem State.setF_pwr (s : State) (k hi lo v : Nat) : (s.setF k hi lo v).pwr = s.pwr := rfl
@[simp] theorem State.setF_boot (s : State) (k hi lo v : Nat) : (s.setF k hi lo v).boot = s.boot := rfl
@[simp] theorem State.setF_mgt (s : State) (k hi lo v : Nat) : (s.setF k hi lo v).mgt = s.mgt := rfl
@[simp] theorem State.setF_wide (s : State) (k hi lo v : Nat) : (s.setF k hi lo v).wide = s.wide := rfl
@[simp] theorem State.setF_clock (s : State) (k hi lo v : Nat) : (s.setF k hi lo v).clock = s.clock := rfl
@[simp] theorem State.setF_out (s : State) (k hi lo v : Nat) : (s.setF k hi lo v).out = s.out := rfl

/-! ### setBit -/

@[simp] theorem State.setBit_pending (s : State) (k i : Nat) (b : Bool) : (s.setBit k i b).pending = s.pending := rfl
@[simp] theorem State.setBit_stale (s : State) (k i : Nat) (b : Bool) : (s.setBit k i b).stale = s.stale := rfl
@[simp] theorem State.setBit_mem (s : State) (k i : Nat) (b : Bool) : (s.setBit k i b).mem = s.mem := rfl
@[simp] theorem State.setBit_plan (s : State) (k i : Nat) (b : Bool) : (s.setBit k i b).plan = s.plan := rfl
@[simp] theorem State.setBit_tick (s : State) (k i : Nat) (b : Bool) : (s.setBit k i b).tick = s.tick := rfl
@[simp] theorem State.setBit_tbs (s : State) (k i : Nat) (b : Bool) : (s.setBit k i b).tbs = s.tbs := rfl
@[simp] theorem State.setBit_peers (s : State) (k i : Nat) (b : Bool) : (s.setBit k i b).peers = s.peers := rfl
@[simp] theorem State.setBit_pps (s : State) (k i : Nat) (b : Bool) : (s.setBit k i b).pps = s.pps := rfl
@[simp] theorem State.setBit_queues (s : State) (k i : Nat) (b : Bool) : (s.setBit k i b).queues = s.queues := rfl
@[simp] theorem State.setBit_slots (s : State) (k i : Nat) (b : Bool) : (s.setBit k i b).slots = s.slots := rfl
@[simp] theorem State.setBit_stalled (s : State) (k i : Nat) (b : Bool) : (s.setBit k i b).stalled = s.stalled := rfl
@[simp] theorem State.setBit_csrWait (s : State) (k i : Nat) (b : Bool) : (s.setBit k i b).csrWait = s.csrWait := rfl
@[simp] theorem State.setBit_tx (s : State) (k i : Nat) (b : Bool) : (s.setBit k i b).tx = s.tx := rfl
@[simp] theorem State.setBit_prz (s : State) (k i : Nat) (b : Bool) : (s.setBit k i b).prz = s.prz := rfl
@[simp] theorem State.setBit_dma (s : State) (k i : Nat) (b : Bool) : (s.setBit k i b).dma = s.dma := rfl
@[simp] theorem State.setBit_str (s : State) (k i : Nat) (b : Bool) : (s.setBit k i b).str = s.str := rfl
@[simp] theorem State.setBit_ddr (s : State) (k i : Nat) (b : Bool) : (s.setBit k i b).ddr = s.ddr := rfl
@[simp] theorem State.setBit_fcr (s : State) (k i : Nat) (b : Bool) : (s.setBit k i b).fcr = s.fcr := rfl
@[simp] theorem State.setBit_rdn (s : State) (k i : Nat) (b : Bool) : (s.setBit k i b).rdn = s.rdn := rfl
@[simp] theorem State.setBit_pwr (s : State) (k i : Nat) (b : Bool) : (s.setBit k i b).pwr = s.pwr := rfl
@[simp] theorem State.setBit_boot (s : State) (k i : Nat) (b : Bool) : (s.setBit k i b).boot = s.boot := rfl
@[simp] theorem State.setBit_mgt (s : State) (k i : Nat) (b : Bool) : (s.setBit k i b).mgt = s.mgt := rfl
@[simp] theorem State.setBit_wide (s : State) (k i : Nat) (b : Bool) : (s.setBit k i b).wide = s.wide := rfl
@[simp] theorem State.setBit_clock (s : State) (k i : Nat) (b : Bool) : (s.setBit k i b).clock = s.clock := rfl
@[simp] theorem State.setBit_out (s : State) (k i : Nat) (b : Bool) : (s.setBit k i b).out = s.out := rfl

/-! ### memPut -/

@[simp] theorem State.memPut_pending (s : State) (a : Nat) (b : Byte) : (s.memPut a b).pending = s.pending := rfl
@[simp] theorem State.memPut_regs (s : State) (a : Nat) (b : Byte) : (s.memPut a b).regs = s.regs := rfl
@[simp] theorem State.memPut_stale (s : State) (a : Nat) (b : Byte) : (s.memPut a b).stale = s.stale := rfl
@[simp] theorem State.memPut_plan (s : State) (a : Nat) (b : Byte) : (s.memPut a b).plan = s.plan := rfl
@[simp] theorem State.memPut_tick (s : State) (a : Nat) (b : Byte) : (s.memPut a b).tick = s.tick := rfl
@[simp] theorem State.memPut_tbs (s : State) (a : Nat) (b : Byte) : (s.memPut a b).tbs = s.tbs := rfl
@[simp] theorem State.memPut_peers (s : State) (a : Nat) (b : Byte) : (s.memPut a b).peers = s.peers := rfl
@[simp] theorem State.memPut_pps (s : State) (a : Nat) (b : Byte) : (s.memPut a b).pps = s.pps := rfl
@[simp] theorem State.memPut_queues (s : State) (a : Nat) (b : Byte) : (s.memPut a b).queues = s.queues := rfl
@[simp] theorem State.memPut_slots (s : State) (a : Nat) (b : Byte) : (s.memPut a b).slots = s.slots := rfl
@[simp] theorem State.memPut_stalled (s : State) (a : Nat) (b : Byte) : (s.memPut a b).stalled = s.stalled := rfl
@[simp] theorem State.memPut_csrWait (s : State) (a : Nat) (b : Byte) : (s.memPut a b).csrWait = s.csrWait := rfl
@[simp] theorem State.memPut_tx (s : State) (a : Nat) (b : Byte) : (s.memPut a b).tx = s.tx := rfl
@[simp] theorem State.memPut_prz (s : State) (a : Nat) (b : Byte) : (s.memPut a b).prz = s.prz := rfl
@[simp] theorem State.memPut_dma (s : State) (a : Nat) (b : Byte) : (s.memPut a b).dma = s.dma := rfl
@[simp] theorem State.memPut_str (s : State) (a : Nat) (b : Byte) : (s.memPut a b).str = s.str := rfl
@[simp] theorem State.memPut_ddr (s : State) (a : Nat) (b : Byte) : (s.memPut a b).ddr = s.ddr := rfl
@[simp] theorem State.memPut_fcr (s : State) (a : Nat) (b : Byte) : (s.memPut a b).fcr = s.fcr := rfl
@[simp] theorem State.memPut_rdn (s : State) (a : Nat) (b : Byte) : (s.memPut a b).rdn = s.rdn := rfl
@[simp] theorem State.memPut_pwr (s : State) (a : Nat) (b : Byte) : (s.memPut a b).pwr = s.pwr := rfl
@[simp] theorem State.memPut_boot (s : State) (a : Nat) (b : Byte) : (s.memPut a b).boot = s.boot := rfl
@[simp] theorem State.memPut_mgt (s : State) (a : Nat) (b : Byte) : (s.memPut a b).mgt = s.mgt := rfl
@[simp] theorem State.memPut_wide (s : State) (a : Nat) (b : Byte) : (s.memPut a b).wide = s.wide := rfl
@[simp] theorem State.memPut_clock (s : State) (a : Nat) (b : Byte) : (s.memPut a b).clock = s.clock := rfl
@[simp] theorem State.memPut_out (s : State) (a : Nat) (b : Byte) : (s.memPut a b).out = s.out := rfl

/-! ### emit -/

@[simp] theorem State.emit_pending (s : State) (e : Emission) : (s.emit e).pending = s.pending := rfl
@[simp] theorem State.emit_regs (s : State) (e : Emission) : (s.emit e).regs = s.regs := rfl
@[simp] theorem State.emit_stale (s : State) (e : Emission) : (s.emit e).stale = s.stale := rfl
@[simp] theorem State.emit_mem (s : State) (e : Emission) : (s.emit e).mem = s.mem := rfl
@[simp] theorem State.emit_plan (s : State) (e : Emission) : (s.emit e).plan = s.plan := rfl
@[simp] theorem State.emit_tick (s : State) (e : Emission) : (s.emit e).tick = s.tick := rfl
@[simp] theorem State.emit_tbs (s : State) (e : Emission) : (s.emit e).tbs = s.tbs := rfl
@[simp] theorem State.emit_peers (s : State) (e : Emission) : (s.emit e).peers = s.peers := rfl
@[simp] theorem State.emit_pps (s : State) (e : Emission) : (s.emit e).pps = s.pps := rfl
@[simp] theorem State.emit_queues (s : State) (e : Emission) : (s.emit e).queues = s.queues := rfl
@[simp] theorem State.emit_slots (s : State) (e : Emission) : (s.emit e).slots = s.slots := rfl
@[simp] theorem State.emit_stalled (s : State) (e : Emission) : (s.emit e).stalled = s.stalled := rfl
@[simp] theorem State.emit_csrWait (s : State) (e : Emission) : (s.emit e).csrWait = s.csrWait := rfl
@[simp] theorem State.emit_tx (s : State) (e : Emission) : (s.emit e).tx = s.tx := rfl
@[simp] theorem State.emit_prz (s : State) (e : Emission) : (s.emit e).prz = s.prz := rfl
@[simp] theorem State.emit_dma (s : State) (e : Emission) : (s.emit e).dma = s.dma := rfl
@[simp] theorem State.emit_str (s : State) (e : Emission) : (s.emit e).str = s.str := rfl
@[simp] theorem State.emit_ddr (s : State) (e : Emission) : (s.emit e).ddr = s.ddr := rfl
@[simp] theorem State.emit_fcr (s : State) (e : Emission) : (s.emit e).fcr = s.fcr := rfl
@[simp] theorem State.emit_rdn (s : State) (e : Emission) : (s.emit e).rdn = s.rdn := rfl
@[simp] theorem State.emit_pwr (s : State) (e : Emission) : (s.emit e).pwr = s.pwr := rfl
@[simp] theorem State.emit_boot (s : State) (e : Emission) : (s.emit e).boot = s.boot := rfl
@[simp] theorem State.emit_mgt (s : State) (e : Emission) : (s.emit e).mgt = s.mgt := rfl
@[simp] theorem State.emit_wide (s : State) (e : Emission) : (s.emit e).wide = s.wide := rfl
@[simp] theorem State.emit_clock (s : State) (e : Emission) : (s.emit e).clock = s.clock := rfl

/-! ### setTb -/

@[simp] theorem State.setTb_pending (s : State) (n : Nat) (t : TbSt) : (s.setTb n t).pending = s.pending := rfl
@[simp] theorem State.setTb_regs (s : State) (n : Nat) (t : TbSt) : (s.setTb n t).regs = s.regs := rfl
@[simp] theorem State.setTb_stale (s : State) (n : Nat) (t : TbSt) : (s.setTb n t).stale = s.stale := rfl
@[simp] theorem State.setTb_mem (s : State) (n : Nat) (t : TbSt) : (s.setTb n t).mem = s.mem := rfl
@[simp] theorem State.setTb_plan (s : State) (n : Nat) (t : TbSt) : (s.setTb n t).plan = s.plan := rfl
@[simp] theorem State.setTb_tick (s : State) (n : Nat) (t : TbSt) : (s.setTb n t).tick = s.tick := rfl
@[simp] theorem State.setTb_peers (s : State) (n : Nat) (t : TbSt) : (s.setTb n t).peers = s.peers := rfl
@[simp] theorem State.setTb_pps (s : State) (n : Nat) (t : TbSt) : (s.setTb n t).pps = s.pps := rfl
@[simp] theorem State.setTb_queues (s : State) (n : Nat) (t : TbSt) : (s.setTb n t).queues = s.queues := rfl
@[simp] theorem State.setTb_slots (s : State) (n : Nat) (t : TbSt) : (s.setTb n t).slots = s.slots := rfl
@[simp] theorem State.setTb_stalled (s : State) (n : Nat) (t : TbSt) : (s.setTb n t).stalled = s.stalled := rfl
@[simp] theorem State.setTb_csrWait (s : State) (n : Nat) (t : TbSt) : (s.setTb n t).csrWait = s.csrWait := rfl
@[simp] theorem State.setTb_tx (s : State) (n : Nat) (t : TbSt) : (s.setTb n t).tx = s.tx := rfl
@[simp] theorem State.setTb_prz (s : State) (n : Nat) (t : TbSt) : (s.setTb n t).prz = s.prz := rfl
@[simp] theorem State.setTb_dma (s : State) (n : Nat) (t : TbSt) : (s.setTb n t).dma = s.dma := rfl
@[simp] theorem State.setTb_str (s : State) (n : Nat) (t : TbSt) : (s.setTb n t).str = s.str := rfl
@[simp] theorem State.setTb_ddr (s : State) (n : Nat) (t : TbSt) : (s.setTb n t).ddr = s.ddr := rfl
@[simp] theorem State.setTb_fcr (s : State) (n : Nat) (t : TbSt) : (s.setTb n t).fcr = s.fcr := rfl
@[simp] theorem State.setTb_rdn (s : State) (n : Nat) (t : TbSt) : (s.setTb n t).rdn = s.rdn := rfl
@[simp] theorem State.setTb_pwr (s : State) (n : Nat) (t : TbSt) : (s.setTb n t).pwr = s.pwr := rfl
@[simp] theorem State.setTb_boot (s : State) (n : Nat) (t : TbSt) : (s.setTb n t).boot = s.boot := rfl
@[simp] theorem State.setTb_mgt (s : State) (n : Nat) (t : TbSt) : (s.setTb n t).mgt = s.mgt := rfl
@[simp] theorem State.setTb_wide (s : State) (n : Nat) (t : TbSt) : (s.setTb n t).wide = s.wide := rfl
@[simp] theorem State.setTb_clock (s : State) (n : Nat) (t : TbSt) : (s.setTb n t).clock = s.clock := rfl
@[simp] theorem State.setTb_out (s : State) (n : Nat) (t : TbSt) : (s.setTb n t).out = s.out := rfl

/-! ### setPeer -/

@[simp] theorem State.setPeer_pending (s : State) (n p : Nat) (x : PeerDelay) : (s.setPeer n p x).pending = s.pending := rfl
@[simp] theorem State.setPeer_regs (s : State) (n p : Nat) (x : PeerDelay) : (s.setPeer n p x).regs = s.regs := rfl
@[simp] theorem State.setPeer_stale (s : State) (n p : Nat) (x : PeerDelay) : (s.setPeer n p x).stale = s.stale := rfl
@[simp] theorem State.setPeer_mem (s : State) (n p : Nat) (x : PeerDelay) : (s.setPeer n p x).mem = s.mem := rfl
@[simp] theorem State.setPeer_plan (s : State) (n p : Nat) (x : PeerDelay) : (s.setPeer n p x).plan = s.plan := rfl
@[simp] theorem State.setPeer_tick (s : State) (n p : Nat) (x : PeerDelay) : (s.setPeer n p x).tick = s.tick := rfl
@[simp] theorem State.setPeer_tbs (s : State) (n p : Nat) (x : PeerDelay) : (s.setPeer n p x).tbs = s.tbs := rfl
@[simp] theorem State.setPeer_pps (s : State) (n p : Nat) (x : PeerDelay) : (s.setPeer n p x).pps = s.pps := rfl
@[simp] theorem State.setPeer_queues (s : State) (n p : Nat) (x : PeerDelay) : (s.setPeer n p x).queues = s.queues := rfl
@[simp] theorem State.setPeer_slots (s : State) (n p : Nat) (x : PeerDelay) : (s.setPeer n p x).slots = s.slots := rfl
@[simp] theorem State.setPeer_stalled (s : State) (n p : Nat) (x : PeerDelay) : (s.setPeer n p x).stalled = s.stalled := rfl
@[simp] theorem State.setPeer_csrWait (s : State) (n p : Nat) (x : PeerDelay) : (s.setPeer n p x).csrWait = s.csrWait := rfl
@[simp] theorem State.setPeer_tx (s : State) (n p : Nat) (x : PeerDelay) : (s.setPeer n p x).tx = s.tx := rfl
@[simp] theorem State.setPeer_prz (s : State) (n p : Nat) (x : PeerDelay) : (s.setPeer n p x).prz = s.prz := rfl
@[simp] theorem State.setPeer_dma (s : State) (n p : Nat) (x : PeerDelay) : (s.setPeer n p x).dma = s.dma := rfl
@[simp] theorem State.setPeer_str (s : State) (n p : Nat) (x : PeerDelay) : (s.setPeer n p x).str = s.str := rfl
@[simp] theorem State.setPeer_ddr (s : State) (n p : Nat) (x : PeerDelay) : (s.setPeer n p x).ddr = s.ddr := rfl
@[simp] theorem State.setPeer_fcr (s : State) (n p : Nat) (x : PeerDelay) : (s.setPeer n p x).fcr = s.fcr := rfl
@[simp] theorem State.setPeer_rdn (s : State) (n p : Nat) (x : PeerDelay) : (s.setPeer n p x).rdn = s.rdn := rfl
@[simp] theorem State.setPeer_pwr (s : State) (n p : Nat) (x : PeerDelay) : (s.setPeer n p x).pwr = s.pwr := rfl
@[simp] theorem State.setPeer_boot (s : State) (n p : Nat) (x : PeerDelay) : (s.setPeer n p x).boot = s.boot := rfl
@[simp] theorem State.setPeer_mgt (s : State) (n p : Nat) (x : PeerDelay) : (s.setPeer n p x).mgt = s.mgt := rfl
@[simp] theorem State.setPeer_wide (s : State) (n p : Nat) (x : PeerDelay) : (s.setPeer n p x).wide = s.wide := rfl
@[simp] theorem State.setPeer_clock (s : State) (n p : Nat) (x : PeerDelay) : (s.setPeer n p x).clock = s.clock := rfl
@[simp] theorem State.setPeer_out (s : State) (n p : Nat) (x : PeerDelay) : (s.setPeer n p x).out = s.out := rfl

/-! ### setReserved -/

@[simp] theorem State.setReserved_pending (s : State) (r n : Nat) : (s.setReserved r n).pending = s.pending := rfl
@[simp] theorem State.setReserved_regs (s : State) (r n : Nat) : (s.setReserved r n).regs = s.regs := rfl
@[simp] theorem State.setReserved_stale (s : State) (r n : Nat) : (s.setReserved r n).stale = s.stale := rfl
@[simp] theorem State.setReserved_mem (s : State) (r n : Nat) : (s.setReserved r n).mem = s.mem := rfl
@[simp] theorem State.setReserved_plan (s : State) (r n : Nat) : (s.setReserved r n).plan = s.plan := rfl
@[simp] theorem State.setReserved_tick (s : State) (r n : Nat) : (s.setReserved r n).tick = s.tick := rfl
@[simp] theorem State.setReserved_tbs (s : State) (r n : Nat) : (s.setReserved r n).tbs = s.tbs := rfl
@[simp] theorem State.setReserved_peers (s : State) (r n : Nat) : (s.setReserved r n).peers = s.peers := rfl
@[simp] theorem State.setReserved_pps (s : State) (r n : Nat) : (s.setReserved r n).pps = s.pps := rfl
@[simp] theorem State.setReserved_queues (s : State) (r n : Nat) : (s.setReserved r n).queues = s.queues := rfl
@[simp] theorem State.setReserved_stalled (s : State) (r n : Nat) : (s.setReserved r n).stalled = s.stalled := rfl
@[simp] theorem State.setReserved_csrWait (s : State) (r n : Nat) : (s.setReserved r n).csrWait = s.csrWait := rfl
@[simp] theorem State.setReserved_tx (s : State) (r n : Nat) : (s.setReserved r n).tx = s.tx := rfl
@[simp] theorem State.setReserved_prz (s : State) (r n : Nat) : (s.setReserved r n).prz = s.prz := rfl
@[simp] theorem State.setReserved_dma (s : State) (r n : Nat) : (s.setReserved r n).dma = s.dma := rfl
@[simp] theorem State.setReserved_str (s : State) (r n : Nat) : (s.setReserved r n).str = s.str := rfl
@[simp] theorem State.setReserved_ddr (s : State) (r n : Nat) : (s.setReserved r n).ddr = s.ddr := rfl
@[simp] theorem State.setReserved_fcr (s : State) (r n : Nat) : (s.setReserved r n).fcr = s.fcr := rfl
@[simp] theorem State.setReserved_rdn (s : State) (r n : Nat) : (s.setReserved r n).rdn = s.rdn := rfl
@[simp] theorem State.setReserved_pwr (s : State) (r n : Nat) : (s.setReserved r n).pwr = s.pwr := rfl
@[simp] theorem State.setReserved_boot (s : State) (r n : Nat) : (s.setReserved r n).boot = s.boot := rfl
@[simp] theorem State.setReserved_mgt (s : State) (r n : Nat) : (s.setReserved r n).mgt = s.mgt := rfl
@[simp] theorem State.setReserved_wide (s : State) (r n : Nat) : (s.setReserved r n).wide = s.wide := rfl
@[simp] theorem State.setReserved_clock (s : State) (r n : Nat) : (s.setReserved r n).clock = s.clock := rfl
@[simp] theorem State.setReserved_out (s : State) (r n : Nat) : (s.setReserved r n).out = s.out := rfl

/-! ### addReq -/

@[simp] theorem State.addReq_pending (s : State) (r : SwapReq) : (s.addReq r).pending = s.pending := rfl
@[simp] theorem State.addReq_regs (s : State) (r : SwapReq) : (s.addReq r).regs = s.regs := rfl
@[simp] theorem State.addReq_stale (s : State) (r : SwapReq) : (s.addReq r).stale = s.stale := rfl
@[simp] theorem State.addReq_mem (s : State) (r : SwapReq) : (s.addReq r).mem = s.mem := rfl
@[simp] theorem State.addReq_plan (s : State) (r : SwapReq) : (s.addReq r).plan = s.plan := rfl
@[simp] theorem State.addReq_tbs (s : State) (r : SwapReq) : (s.addReq r).tbs = s.tbs := rfl
@[simp] theorem State.addReq_peers (s : State) (r : SwapReq) : (s.addReq r).peers = s.peers := rfl
@[simp] theorem State.addReq_pps (s : State) (r : SwapReq) : (s.addReq r).pps = s.pps := rfl
@[simp] theorem State.addReq_queues (s : State) (r : SwapReq) : (s.addReq r).queues = s.queues := rfl
@[simp] theorem State.addReq_slots (s : State) (r : SwapReq) : (s.addReq r).slots = s.slots := rfl
@[simp] theorem State.addReq_stalled (s : State) (r : SwapReq) : (s.addReq r).stalled = s.stalled := rfl
@[simp] theorem State.addReq_csrWait (s : State) (r : SwapReq) : (s.addReq r).csrWait = s.csrWait := rfl
@[simp] theorem State.addReq_tx (s : State) (r : SwapReq) : (s.addReq r).tx = s.tx := rfl
@[simp] theorem State.addReq_prz (s : State) (r : SwapReq) : (s.addReq r).prz = s.prz := rfl
@[simp] theorem State.addReq_dma (s : State) (r : SwapReq) : (s.addReq r).dma = s.dma := rfl
@[simp] theorem State.addReq_str (s : State) (r : SwapReq) : (s.addReq r).str = s.str := rfl
@[simp] theorem State.addReq_ddr (s : State) (r : SwapReq) : (s.addReq r).ddr = s.ddr := rfl
@[simp] theorem State.addReq_fcr (s : State) (r : SwapReq) : (s.addReq r).fcr = s.fcr := rfl
@[simp] theorem State.addReq_rdn (s : State) (r : SwapReq) : (s.addReq r).rdn = s.rdn := rfl
@[simp] theorem State.addReq_pwr (s : State) (r : SwapReq) : (s.addReq r).pwr = s.pwr := rfl
@[simp] theorem State.addReq_boot (s : State) (r : SwapReq) : (s.addReq r).boot = s.boot := rfl
@[simp] theorem State.addReq_mgt (s : State) (r : SwapReq) : (s.addReq r).mgt = s.mgt := rfl
@[simp] theorem State.addReq_wide (s : State) (r : SwapReq) : (s.addReq r).wide = s.wide := rfl
@[simp] theorem State.addReq_clock (s : State) (r : SwapReq) : (s.addReq r).clock = s.clock := rfl
@[simp] theorem State.addReq_out (s : State) (r : SwapReq) : (s.addReq r).out = s.out := rfl

/-! ### setActNext -/

@[simp] theorem State.setActNext_pending (s : State) (i : Nat) (t : Option Reg) : (s.setActNext i t).pending = s.pending := rfl
@[simp] theorem State.setActNext_regs (s : State) (i : Nat) (t : Option Reg) : (s.setActNext i t).regs = s.regs := rfl
@[simp] theorem State.setActNext_stale (s : State) (i : Nat) (t : Option Reg) : (s.setActNext i t).stale = s.stale := rfl
@[simp] theorem State.setActNext_mem (s : State) (i : Nat) (t : Option Reg) : (s.setActNext i t).mem = s.mem := rfl
@[simp] theorem State.setActNext_plan (s : State) (i : Nat) (t : Option Reg) : (s.setActNext i t).plan = s.plan := rfl
@[simp] theorem State.setActNext_tbs (s : State) (i : Nat) (t : Option Reg) : (s.setActNext i t).tbs = s.tbs := rfl
@[simp] theorem State.setActNext_peers (s : State) (i : Nat) (t : Option Reg) : (s.setActNext i t).peers = s.peers := rfl
@[simp] theorem State.setActNext_pps (s : State) (i : Nat) (t : Option Reg) : (s.setActNext i t).pps = s.pps := rfl
@[simp] theorem State.setActNext_queues (s : State) (i : Nat) (t : Option Reg) : (s.setActNext i t).queues = s.queues := rfl
@[simp] theorem State.setActNext_slots (s : State) (i : Nat) (t : Option Reg) : (s.setActNext i t).slots = s.slots := rfl
@[simp] theorem State.setActNext_stalled (s : State) (i : Nat) (t : Option Reg) : (s.setActNext i t).stalled = s.stalled := rfl
@[simp] theorem State.setActNext_csrWait (s : State) (i : Nat) (t : Option Reg) : (s.setActNext i t).csrWait = s.csrWait := rfl
@[simp] theorem State.setActNext_tx (s : State) (i : Nat) (t : Option Reg) : (s.setActNext i t).tx = s.tx := rfl
@[simp] theorem State.setActNext_prz (s : State) (i : Nat) (t : Option Reg) : (s.setActNext i t).prz = s.prz := rfl
@[simp] theorem State.setActNext_dma (s : State) (i : Nat) (t : Option Reg) : (s.setActNext i t).dma = s.dma := rfl
@[simp] theorem State.setActNext_str (s : State) (i : Nat) (t : Option Reg) : (s.setActNext i t).str = s.str := rfl
@[simp] theorem State.setActNext_ddr (s : State) (i : Nat) (t : Option Reg) : (s.setActNext i t).ddr = s.ddr := rfl
@[simp] theorem State.setActNext_fcr (s : State) (i : Nat) (t : Option Reg) : (s.setActNext i t).fcr = s.fcr := rfl
@[simp] theorem State.setActNext_rdn (s : State) (i : Nat) (t : Option Reg) : (s.setActNext i t).rdn = s.rdn := rfl
@[simp] theorem State.setActNext_pwr (s : State) (i : Nat) (t : Option Reg) : (s.setActNext i t).pwr = s.pwr := rfl
@[simp] theorem State.setActNext_boot (s : State) (i : Nat) (t : Option Reg) : (s.setActNext i t).boot = s.boot := rfl
@[simp] theorem State.setActNext_mgt (s : State) (i : Nat) (t : Option Reg) : (s.setActNext i t).mgt = s.mgt := rfl
@[simp] theorem State.setActNext_wide (s : State) (i : Nat) (t : Option Reg) : (s.setActNext i t).wide = s.wide := rfl
@[simp] theorem State.setActNext_clock (s : State) (i : Nat) (t : Option Reg) : (s.setActNext i t).clock = s.clock := rfl
@[simp] theorem State.setActNext_out (s : State) (i : Nat) (t : Option Reg) : (s.setActNext i t).out = s.out := rfl

/-! ### setGcb -/

@[simp] theorem State.setGcb_pending (s : State) (i : Nat) (g : GcbSt) : (s.setGcb i g).pending = s.pending := rfl
@[simp] theorem State.setGcb_regs (s : State) (i : Nat) (g : GcbSt) : (s.setGcb i g).regs = s.regs := rfl
@[simp] theorem State.setGcb_stale (s : State) (i : Nat) (g : GcbSt) : (s.setGcb i g).stale = s.stale := rfl
@[simp] theorem State.setGcb_mem (s : State) (i : Nat) (g : GcbSt) : (s.setGcb i g).mem = s.mem := rfl
@[simp] theorem State.setGcb_plan (s : State) (i : Nat) (g : GcbSt) : (s.setGcb i g).plan = s.plan := rfl
@[simp] theorem State.setGcb_tick (s : State) (i : Nat) (g : GcbSt) : (s.setGcb i g).tick = s.tick := rfl
@[simp] theorem State.setGcb_tbs (s : State) (i : Nat) (g : GcbSt) : (s.setGcb i g).tbs = s.tbs := rfl
@[simp] theorem State.setGcb_peers (s : State) (i : Nat) (g : GcbSt) : (s.setGcb i g).peers = s.peers := rfl
@[simp] theorem State.setGcb_pps (s : State) (i : Nat) (g : GcbSt) : (s.setGcb i g).pps = s.pps := rfl
@[simp] theorem State.setGcb_queues (s : State) (i : Nat) (g : GcbSt) : (s.setGcb i g).queues = s.queues := rfl
@[simp] theorem State.setGcb_slots (s : State) (i : Nat) (g : GcbSt) : (s.setGcb i g).slots = s.slots := rfl
@[simp] theorem State.setGcb_stalled (s : State) (i : Nat) (g : GcbSt) : (s.setGcb i g).stalled = s.stalled := rfl
@[simp] theorem State.setGcb_csrWait (s : State) (i : Nat) (g : GcbSt) : (s.setGcb i g).csrWait = s.csrWait := rfl
@[simp] theorem State.setGcb_prz (s : State) (i : Nat) (g : GcbSt) : (s.setGcb i g).prz = s.prz := rfl
@[simp] theorem State.setGcb_dma (s : State) (i : Nat) (g : GcbSt) : (s.setGcb i g).dma = s.dma := rfl
@[simp] theorem State.setGcb_str (s : State) (i : Nat) (g : GcbSt) : (s.setGcb i g).str = s.str := rfl
@[simp] theorem State.setGcb_ddr (s : State) (i : Nat) (g : GcbSt) : (s.setGcb i g).ddr = s.ddr := rfl
@[simp] theorem State.setGcb_fcr (s : State) (i : Nat) (g : GcbSt) : (s.setGcb i g).fcr = s.fcr := rfl
@[simp] theorem State.setGcb_rdn (s : State) (i : Nat) (g : GcbSt) : (s.setGcb i g).rdn = s.rdn := rfl
@[simp] theorem State.setGcb_pwr (s : State) (i : Nat) (g : GcbSt) : (s.setGcb i g).pwr = s.pwr := rfl
@[simp] theorem State.setGcb_boot (s : State) (i : Nat) (g : GcbSt) : (s.setGcb i g).boot = s.boot := rfl
@[simp] theorem State.setGcb_mgt (s : State) (i : Nat) (g : GcbSt) : (s.setGcb i g).mgt = s.mgt := rfl
@[simp] theorem State.setGcb_wide (s : State) (i : Nat) (g : GcbSt) : (s.setGcb i g).wide = s.wide := rfl
@[simp] theorem State.setGcb_clock (s : State) (i : Nat) (g : GcbSt) : (s.setGcb i g).clock = s.clock := rfl
@[simp] theorem State.setGcb_out (s : State) (i : Nat) (g : GcbSt) : (s.setGcb i g).out = s.out := rfl

/-! ### setSvp -/

@[simp] theorem State.setSvp_pending (s : State) (n : Nat) (x : SvpSt) : (s.setSvp n x).pending = s.pending := rfl
@[simp] theorem State.setSvp_regs (s : State) (n : Nat) (x : SvpSt) : (s.setSvp n x).regs = s.regs := rfl
@[simp] theorem State.setSvp_stale (s : State) (n : Nat) (x : SvpSt) : (s.setSvp n x).stale = s.stale := rfl
@[simp] theorem State.setSvp_mem (s : State) (n : Nat) (x : SvpSt) : (s.setSvp n x).mem = s.mem := rfl
@[simp] theorem State.setSvp_plan (s : State) (n : Nat) (x : SvpSt) : (s.setSvp n x).plan = s.plan := rfl
@[simp] theorem State.setSvp_tick (s : State) (n : Nat) (x : SvpSt) : (s.setSvp n x).tick = s.tick := rfl
@[simp] theorem State.setSvp_tbs (s : State) (n : Nat) (x : SvpSt) : (s.setSvp n x).tbs = s.tbs := rfl
@[simp] theorem State.setSvp_peers (s : State) (n : Nat) (x : SvpSt) : (s.setSvp n x).peers = s.peers := rfl
@[simp] theorem State.setSvp_pps (s : State) (n : Nat) (x : SvpSt) : (s.setSvp n x).pps = s.pps := rfl
@[simp] theorem State.setSvp_queues (s : State) (n : Nat) (x : SvpSt) : (s.setSvp n x).queues = s.queues := rfl
@[simp] theorem State.setSvp_slots (s : State) (n : Nat) (x : SvpSt) : (s.setSvp n x).slots = s.slots := rfl
@[simp] theorem State.setSvp_stalled (s : State) (n : Nat) (x : SvpSt) : (s.setSvp n x).stalled = s.stalled := rfl
@[simp] theorem State.setSvp_csrWait (s : State) (n : Nat) (x : SvpSt) : (s.setSvp n x).csrWait = s.csrWait := rfl
@[simp] theorem State.setSvp_prz (s : State) (n : Nat) (x : SvpSt) : (s.setSvp n x).prz = s.prz := rfl
@[simp] theorem State.setSvp_dma (s : State) (n : Nat) (x : SvpSt) : (s.setSvp n x).dma = s.dma := rfl
@[simp] theorem State.setSvp_str (s : State) (n : Nat) (x : SvpSt) : (s.setSvp n x).str = s.str := rfl
@[simp] theorem State.setSvp_ddr (s : State) (n : Nat) (x : SvpSt) : (s.setSvp n x).ddr = s.ddr := rfl
@[simp] theorem State.setSvp_fcr (s : State) (n : Nat) (x : SvpSt) : (s.setSvp n x).fcr = s.fcr := rfl
@[simp] theorem State.setSvp_rdn (s : State) (n : Nat) (x : SvpSt) : (s.setSvp n x).rdn = s.rdn := rfl
@[simp] theorem State.setSvp_pwr (s : State) (n : Nat) (x : SvpSt) : (s.setSvp n x).pwr = s.pwr := rfl
@[simp] theorem State.setSvp_boot (s : State) (n : Nat) (x : SvpSt) : (s.setSvp n x).boot = s.boot := rfl
@[simp] theorem State.setSvp_mgt (s : State) (n : Nat) (x : SvpSt) : (s.setSvp n x).mgt = s.mgt := rfl
@[simp] theorem State.setSvp_wide (s : State) (n : Nat) (x : SvpSt) : (s.setSvp n x).wide = s.wide := rfl
@[simp] theorem State.setSvp_clock (s : State) (n : Nat) (x : SvpSt) : (s.setSvp n x).clock = s.clock := rfl
@[simp] theorem State.setSvp_out (s : State) (n : Nat) (x : SvpSt) : (s.setSvp n x).out = s.out := rfl

/-! ### setBank -/

@[simp] theorem State.setBank_pending (s : State) (p : Nat) (b : List Byte) : (s.setBank p b).pending = s.pending := rfl
@[simp] theorem State.setBank_regs (s : State) (p : Nat) (b : List Byte) : (s.setBank p b).regs = s.regs := rfl
@[simp] theorem State.setBank_stale (s : State) (p : Nat) (b : List Byte) : (s.setBank p b).stale = s.stale := rfl
@[simp] theorem State.setBank_mem (s : State) (p : Nat) (b : List Byte) : (s.setBank p b).mem = s.mem := rfl
@[simp] theorem State.setBank_plan (s : State) (p : Nat) (b : List Byte) : (s.setBank p b).plan = s.plan := rfl
@[simp] theorem State.setBank_tick (s : State) (p : Nat) (b : List Byte) : (s.setBank p b).tick = s.tick := rfl
@[simp] theorem State.setBank_tbs (s : State) (p : Nat) (b : List Byte) : (s.setBank p b).tbs = s.tbs := rfl
@[simp] theorem State.setBank_peers (s : State) (p : Nat) (b : List Byte) : (s.setBank p b).peers = s.peers := rfl
@[simp] theorem State.setBank_pps (s : State) (p : Nat) (b : List Byte) : (s.setBank p b).pps = s.pps := rfl
@[simp] theorem State.setBank_queues (s : State) (p : Nat) (b : List Byte) : (s.setBank p b).queues = s.queues := rfl
@[simp] theorem State.setBank_slots (s : State) (p : Nat) (b : List Byte) : (s.setBank p b).slots = s.slots := rfl
@[simp] theorem State.setBank_stalled (s : State) (p : Nat) (b : List Byte) : (s.setBank p b).stalled = s.stalled := rfl
@[simp] theorem State.setBank_csrWait (s : State) (p : Nat) (b : List Byte) : (s.setBank p b).csrWait = s.csrWait := rfl
@[simp] theorem State.setBank_prz (s : State) (p : Nat) (b : List Byte) : (s.setBank p b).prz = s.prz := rfl
@[simp] theorem State.setBank_dma (s : State) (p : Nat) (b : List Byte) : (s.setBank p b).dma = s.dma := rfl
@[simp] theorem State.setBank_str (s : State) (p : Nat) (b : List Byte) : (s.setBank p b).str = s.str := rfl
@[simp] theorem State.setBank_ddr (s : State) (p : Nat) (b : List Byte) : (s.setBank p b).ddr = s.ddr := rfl
@[simp] theorem State.setBank_fcr (s : State) (p : Nat) (b : List Byte) : (s.setBank p b).fcr = s.fcr := rfl
@[simp] theorem State.setBank_rdn (s : State) (p : Nat) (b : List Byte) : (s.setBank p b).rdn = s.rdn := rfl
@[simp] theorem State.setBank_pwr (s : State) (p : Nat) (b : List Byte) : (s.setBank p b).pwr = s.pwr := rfl
@[simp] theorem State.setBank_boot (s : State) (p : Nat) (b : List Byte) : (s.setBank p b).boot = s.boot := rfl
@[simp] theorem State.setBank_mgt (s : State) (p : Nat) (b : List Byte) : (s.setBank p b).mgt = s.mgt := rfl
@[simp] theorem State.setBank_wide (s : State) (p : Nat) (b : List Byte) : (s.setBank p b).wide = s.wide := rfl
@[simp] theorem State.setBank_clock (s : State) (p : Nat) (b : List Byte) : (s.setBank p b).clock = s.clock := rfl
@[simp] theorem State.setBank_out (s : State) (p : Nat) (b : List Byte) : (s.setBank p b).out = s.out := rfl

/-! ### setChan -/

@[simp] theorem State.setChan_pending (s : State) (c : Nat) (x : ChanSt) : (s.setChan c x).pending = s.pending := rfl
@[simp] theorem State.setChan_regs (s : State) (c : Nat) (x : ChanSt) : (s.setChan c x).regs = s.regs := rfl
@[simp] theorem State.setChan_stale (s : State) (c : Nat) (x : ChanSt) : (s.setChan c x).stale = s.stale := rfl
@[simp] theorem State.setChan_mem (s : State) (c : Nat) (x : ChanSt) : (s.setChan c x).mem = s.mem := rfl
@[simp] theorem State.setChan_plan (s : State) (c : Nat) (x : ChanSt) : (s.setChan c x).plan = s.plan := rfl
@[simp] theorem State.setChan_tick (s : State) (c : Nat) (x : ChanSt) : (s.setChan c x).tick = s.tick := rfl
@[simp] theorem State.setChan_tbs (s : State) (c : Nat) (x : ChanSt) : (s.setChan c x).tbs = s.tbs := rfl
@[simp] theorem State.setChan_peers (s : State) (c : Nat) (x : ChanSt) : (s.setChan c x).peers = s.peers := rfl
@[simp] theorem State.setChan_pps (s : State) (c : Nat) (x : ChanSt) : (s.setChan c x).pps = s.pps := rfl
@[simp] theorem State.setChan_queues (s : State) (c : Nat) (x : ChanSt) : (s.setChan c x).queues = s.queues := rfl
@[simp] theorem State.setChan_slots (s : State) (c : Nat) (x : ChanSt) : (s.setChan c x).slots = s.slots := rfl
@[simp] theorem State.setChan_stalled (s : State) (c : Nat) (x : ChanSt) : (s.setChan c x).stalled = s.stalled := rfl
@[simp] theorem State.setChan_csrWait (s : State) (c : Nat) (x : ChanSt) : (s.setChan c x).csrWait = s.csrWait := rfl
@[simp] theorem State.setChan_tx (s : State) (c : Nat) (x : ChanSt) : (s.setChan c x).tx = s.tx := rfl
@[simp] theorem State.setChan_prz (s : State) (c : Nat) (x : ChanSt) : (s.setChan c x).prz = s.prz := rfl
@[simp] theorem State.setChan_str (s : State) (c : Nat) (x : ChanSt) : (s.setChan c x).str = s.str := rfl
@[simp] theorem State.setChan_ddr (s : State) (c : Nat) (x : ChanSt) : (s.setChan c x).ddr = s.ddr := rfl
@[simp] theorem State.setChan_fcr (s : State) (c : Nat) (x : ChanSt) : (s.setChan c x).fcr = s.fcr := rfl
@[simp] theorem State.setChan_rdn (s : State) (c : Nat) (x : ChanSt) : (s.setChan c x).rdn = s.rdn := rfl
@[simp] theorem State.setChan_pwr (s : State) (c : Nat) (x : ChanSt) : (s.setChan c x).pwr = s.pwr := rfl
@[simp] theorem State.setChan_boot (s : State) (c : Nat) (x : ChanSt) : (s.setChan c x).boot = s.boot := rfl
@[simp] theorem State.setChan_mgt (s : State) (c : Nat) (x : ChanSt) : (s.setChan c x).mgt = s.mgt := rfl
@[simp] theorem State.setChan_wide (s : State) (c : Nat) (x : ChanSt) : (s.setChan c x).wide = s.wide := rfl
@[simp] theorem State.setChan_clock (s : State) (c : Nat) (x : ChanSt) : (s.setChan c x).clock = s.clock := rfl
@[simp] theorem State.setChan_out (s : State) (c : Nat) (x : ChanSt) : (s.setChan c x).out = s.out := rfl

/-! ### setSin -/

@[simp] theorem State.setSin_pending (s : State) (h : Nat) (x : StreamIn) : (s.setSin h x).pending = s.pending := rfl
@[simp] theorem State.setSin_regs (s : State) (h : Nat) (x : StreamIn) : (s.setSin h x).regs = s.regs := rfl
@[simp] theorem State.setSin_stale (s : State) (h : Nat) (x : StreamIn) : (s.setSin h x).stale = s.stale := rfl
@[simp] theorem State.setSin_mem (s : State) (h : Nat) (x : StreamIn) : (s.setSin h x).mem = s.mem := rfl
@[simp] theorem State.setSin_plan (s : State) (h : Nat) (x : StreamIn) : (s.setSin h x).plan = s.plan := rfl
@[simp] theorem State.setSin_tick (s : State) (h : Nat) (x : StreamIn) : (s.setSin h x).tick = s.tick := rfl
@[simp] theorem State.setSin_tbs (s : State) (h : Nat) (x : StreamIn) : (s.setSin h x).tbs = s.tbs := rfl
@[simp] theorem State.setSin_peers (s : State) (h : Nat) (x : StreamIn) : (s.setSin h x).peers = s.peers := rfl
@[simp] theorem State.setSin_pps (s : State) (h : Nat) (x : StreamIn) : (s.setSin h x).pps = s.pps := rfl
@[simp] theorem State.setSin_queues (s : State) (h : Nat) (x : StreamIn) : (s.setSin h x).queues = s.queues := rfl
@[simp] theorem State.setSin_slots (s : State) (h : Nat) (x : StreamIn) : (s.setSin h x).slots = s.slots := rfl
@[simp] theorem State.setSin_stalled (s : State) (h : Nat) (x : StreamIn) : (s.setSin h x).stalled = s.stalled := rfl
@[simp] theorem State.setSin_csrWait (s : State) (h : Nat) (x : StreamIn) : (s.setSin h x).csrWait = s.csrWait := rfl
@[simp] theorem State.setSin_tx (s : State) (h : Nat) (x : StreamIn) : (s.setSin h x).tx = s.tx := rfl
@[simp] theorem State.setSin_dma (s : State) (h : Nat) (x : StreamIn) : (s.setSin h x).dma = s.dma := rfl
@[simp] theorem State.setSin_str (s : State) (h : Nat) (x : StreamIn) : (s.setSin h x).str = s.str := rfl
@[simp] theorem State.setSin_ddr (s : State) (h : Nat) (x : StreamIn) : (s.setSin h x).ddr = s.ddr := rfl
@[simp] theorem State.setSin_fcr (s : State) (h : Nat) (x : StreamIn) : (s.setSin h x).fcr = s.fcr := rfl
@[simp] theorem State.setSin_rdn (s : State) (h : Nat) (x : StreamIn) : (s.setSin h x).rdn = s.rdn := rfl
@[simp] theorem State.setSin_pwr (s : State) (h : Nat) (x : StreamIn) : (s.setSin h x).pwr = s.pwr := rfl
@[simp] theorem State.setSin_boot (s : State) (h : Nat) (x : StreamIn) : (s.setSin h x).boot = s.boot := rfl
@[simp] theorem State.setSin_mgt (s : State) (h : Nat) (x : StreamIn) : (s.setSin h x).mgt = s.mgt := rfl
@[simp] theorem State.setSin_wide (s : State) (h : Nat) (x : StreamIn) : (s.setSin h x).wide = s.wide := rfl
@[simp] theorem State.setSin_clock (s : State) (h : Nat) (x : StreamIn) : (s.setSin h x).clock = s.clock := rfl
@[simp] theorem State.setSin_out (s : State) (h : Nat) (x : StreamIn) : (s.setSin h x).out = s.out := rfl

/-! ### setHandle -/

@[simp] theorem State.setHandle_pending (s : State) (h : Nat) (x : HandleSt) : (s.setHandle h x).pending = s.pending := rfl
@[simp] theorem State.setHandle_regs (s : State) (h : Nat) (x : HandleSt) : (s.setHandle h x).regs = s.regs := rfl
@[simp] theorem State.setHandle_stale (s : State) (h : Nat) (x : HandleSt) : (s.setHandle h x).stale = s.stale := rfl
@[simp] theorem State.setHandle_mem (s : State) (h : Nat) (x : HandleSt) : (s.setHandle h x).mem = s.mem := rfl
@[simp] theorem State.setHandle_plan (s : State) (h : Nat) (x : HandleSt) : (s.setHandle h x).plan = s.plan := rfl
@[simp] theorem State.setHandle_tick (s : State) (h : Nat) (x : HandleSt) : (s.setHandle h x).tick = s.tick := rfl
@[simp] theorem State.setHandle_tbs (s : State) (h : Nat) (x : HandleSt) : (s.setHandle h x).tbs = s.tbs := rfl
@[simp] theorem State.setHandle_peers (s : State) (h : Nat) (x : HandleSt) : (s.setHandle h x).peers = s.peers := rfl
@[simp] theorem State.setHandle_pps (s : State) (h : Nat) (x : HandleSt) : (s.setHandle h x).pps = s.pps := rfl
@[simp] theorem State.setHandle_queues (s : State) (h : Nat) (x : HandleSt) : (s.setHandle h x).queues = s.queues := rfl
@[simp] theorem State.setHandle_slots (s : State) (h : Nat) (x : HandleSt) : (s.setHandle h x).slots = s.slots := rfl
@[simp] theorem State.setHandle_stalled (s : State) (h : Nat) (x : HandleSt) : (s.setHandle h x).stalled = s.stalled := rfl
@[simp] theorem State.setHandle_csrWait (s : State) (h : Nat) (x : HandleSt) : (s.setHandle h x).csrWait = s.csrWait := rfl
@[simp] theorem State.setHandle_tx (s : State) (h : Nat) (x : HandleSt) : (s.setHandle h x).tx = s.tx := rfl
@[simp] theorem State.setHandle_prz (s : State) (h : Nat) (x : HandleSt) : (s.setHandle h x).prz = s.prz := rfl
@[simp] theorem State.setHandle_dma (s : State) (h : Nat) (x : HandleSt) : (s.setHandle h x).dma = s.dma := rfl
@[simp] theorem State.setHandle_ddr (s : State) (h : Nat) (x : HandleSt) : (s.setHandle h x).ddr = s.ddr := rfl
@[simp] theorem State.setHandle_fcr (s : State) (h : Nat) (x : HandleSt) : (s.setHandle h x).fcr = s.fcr := rfl
@[simp] theorem State.setHandle_rdn (s : State) (h : Nat) (x : HandleSt) : (s.setHandle h x).rdn = s.rdn := rfl
@[simp] theorem State.setHandle_pwr (s : State) (h : Nat) (x : HandleSt) : (s.setHandle h x).pwr = s.pwr := rfl
@[simp] theorem State.setHandle_boot (s : State) (h : Nat) (x : HandleSt) : (s.setHandle h x).boot = s.boot := rfl
@[simp] theorem State.setHandle_mgt (s : State) (h : Nat) (x : HandleSt) : (s.setHandle h x).mgt = s.mgt := rfl
@[simp] theorem State.setHandle_wide (s : State) (h : Nat) (x : HandleSt) : (s.setHandle h x).wide = s.wide := rfl
@[simp] theorem State.setHandle_clock (s : State) (h : Nat) (x : HandleSt) : (s.setHandle h x).clock = s.clock := rfl
@[simp] theorem State.setHandle_out (s : State) (h : Nat) (x : HandleSt) : (s.setHandle h x).out = s.out := rfl

/-! ### setPort -/

@[simp] theorem State.setPort_pending (s : State) (p : Nat) (x : PortSt) : (s.setPort p x).pending = s.pending := rfl
@[simp] theorem State.setPort_regs (s : State) (p : Nat) (x : PortSt) : (s.setPort p x).regs = s.regs := rfl
@[simp] theorem State.setPort_stale (s : State) (p : Nat) (x : PortSt) : (s.setPort p x).stale = s.stale := rfl
@[simp] theorem State.setPort_mem (s : State) (p : Nat) (x : PortSt) : (s.setPort p x).mem = s.mem := rfl
@[simp] theorem State.setPort_plan (s : State) (p : Nat) (x : PortSt) : (s.setPort p x).plan = s.plan := rfl
@[simp] theorem State.setPort_tick (s : State) (p : Nat) (x : PortSt) : (s.setPort p x).tick = s.tick := rfl
@[simp] theorem State.setPort_tbs (s : State) (p : Nat) (x : PortSt) : (s.setPort p x).tbs = s.tbs := rfl
@[simp] theorem State.setPort_peers (s : State) (p : Nat) (x : PortSt) : (s.setPort p x).peers = s.peers := rfl
@[simp] theorem State.setPort_pps (s : State) (p : Nat) (x : PortSt) : (s.setPort p x).pps = s.pps := rfl
@[simp] theorem State.setPort_queues (s : State) (p : Nat) (x : PortSt) : (s.setPort p x).queues = s.queues := rfl
@[simp] theorem State.setPort_slots (s : State) (p : Nat) (x : PortSt) : (s.setPort p x).slots = s.slots := rfl
@[simp] theorem State.setPort_stalled (s : State) (p : Nat) (x : PortSt) : (s.setPort p x).stalled = s.stalled := rfl
@[simp] theorem State.setPort_csrWait (s : State) (p : Nat) (x : PortSt) : (s.setPort p x).csrWait = s.csrWait := rfl
@[simp] theorem State.setPort_prz (s : State) (p : Nat) (x : PortSt) : (s.setPort p x).prz = s.prz := rfl
@[simp] theorem State.setPort_dma (s : State) (p : Nat) (x : PortSt) : (s.setPort p x).dma = s.dma := rfl
@[simp] theorem State.setPort_str (s : State) (p : Nat) (x : PortSt) : (s.setPort p x).str = s.str := rfl
@[simp] theorem State.setPort_ddr (s : State) (p : Nat) (x : PortSt) : (s.setPort p x).ddr = s.ddr := rfl
@[simp] theorem State.setPort_fcr (s : State) (p : Nat) (x : PortSt) : (s.setPort p x).fcr = s.fcr := rfl
@[simp] theorem State.setPort_rdn (s : State) (p : Nat) (x : PortSt) : (s.setPort p x).rdn = s.rdn := rfl
@[simp] theorem State.setPort_pwr (s : State) (p : Nat) (x : PortSt) : (s.setPort p x).pwr = s.pwr := rfl
@[simp] theorem State.setPort_boot (s : State) (p : Nat) (x : PortSt) : (s.setPort p x).boot = s.boot := rfl
@[simp] theorem State.setPort_mgt (s : State) (p : Nat) (x : PortSt) : (s.setPort p x).mgt = s.mgt := rfl
@[simp] theorem State.setPort_wide (s : State) (p : Nat) (x : PortSt) : (s.setPort p x).wide = s.wide := rfl
@[simp] theorem State.setPort_clock (s : State) (p : Nat) (x : PortSt) : (s.setPort p x).clock = s.clock := rfl
@[simp] theorem State.setPort_out (s : State) (p : Nat) (x : PortSt) : (s.setPort p x).out = s.out := rfl

/-! ### setVec -/

@[simp] theorem State.setVec_pending (s : State) (k : Nat) (v : VecSt) : (s.setVec k v).pending = s.pending := rfl
@[simp] theorem State.setVec_regs (s : State) (k : Nat) (v : VecSt) : (s.setVec k v).regs = s.regs := rfl
@[simp] theorem State.setVec_stale (s : State) (k : Nat) (v : VecSt) : (s.setVec k v).stale = s.stale := rfl
@[simp] theorem State.setVec_mem (s : State) (k : Nat) (v : VecSt) : (s.setVec k v).mem = s.mem := rfl
@[simp] theorem State.setVec_plan (s : State) (k : Nat) (v : VecSt) : (s.setVec k v).plan = s.plan := rfl
@[simp] theorem State.setVec_tick (s : State) (k : Nat) (v : VecSt) : (s.setVec k v).tick = s.tick := rfl
@[simp] theorem State.setVec_tbs (s : State) (k : Nat) (v : VecSt) : (s.setVec k v).tbs = s.tbs := rfl
@[simp] theorem State.setVec_peers (s : State) (k : Nat) (v : VecSt) : (s.setVec k v).peers = s.peers := rfl
@[simp] theorem State.setVec_pps (s : State) (k : Nat) (v : VecSt) : (s.setVec k v).pps = s.pps := rfl
@[simp] theorem State.setVec_queues (s : State) (k : Nat) (v : VecSt) : (s.setVec k v).queues = s.queues := rfl
@[simp] theorem State.setVec_slots (s : State) (k : Nat) (v : VecSt) : (s.setVec k v).slots = s.slots := rfl
@[simp] theorem State.setVec_stalled (s : State) (k : Nat) (v : VecSt) : (s.setVec k v).stalled = s.stalled := rfl
@[simp] theorem State.setVec_csrWait (s : State) (k : Nat) (v : VecSt) : (s.setVec k v).csrWait = s.csrWait := rfl
@[simp] theorem State.setVec_tx (s : State) (k : Nat) (v : VecSt) : (s.setVec k v).tx = s.tx := rfl
@[simp] theorem State.setVec_prz (s : State) (k : Nat) (v : VecSt) : (s.setVec k v).prz = s.prz := rfl
@[simp] theorem State.setVec_dma (s : State) (k : Nat) (v : VecSt) : (s.setVec k v).dma = s.dma := rfl
@[simp] theorem State.setVec_str (s : State) (k : Nat) (v : VecSt) : (s.setVec k v).str = s.str := rfl
@[simp] theorem State.setVec_ddr (s : State) (k : Nat) (v : VecSt) : (s.setVec k v).ddr = s.ddr := rfl
@[simp] theorem State.setVec_rdn (s : State) (k : Nat) (v : VecSt) : (s.setVec k v).rdn = s.rdn := rfl
@[simp] theorem State.setVec_pwr (s : State) (k : Nat) (v : VecSt) : (s.setVec k v).pwr = s.pwr := rfl
@[simp] theorem State.setVec_boot (s : State) (k : Nat) (v : VecSt) : (s.setVec k v).boot = s.boot := rfl
@[simp] theorem State.setVec_mgt (s : State) (k : Nat) (v : VecSt) : (s.setVec k v).mgt = s.mgt := rfl
@[simp] theorem State.setVec_wide (s : State) (k : Nat) (v : VecSt) : (s.setVec k v).wide = s.wide := rfl
@[simp] theorem State.setVec_clock (s : State) (k : Nat) (v : VecSt) : (s.setVec k v).clock = s.clock := rfl
@[simp] theorem State.setVec_out (s : State) (k : Nat) (v : VecSt) : (s.setVec k v).out = s.out := rfl

/-! ### setScrub -/

@[simp] theorem State.setScrub_pending (s : State) (c : Nat) (x : ScrubSt) : (s.setScrub c x).pending = s.pending := rfl
@[simp] theorem State.setScrub_regs (s : State) (c : Nat) (x : ScrubSt) : (s.setScrub c x).regs = s.regs := rfl
@[simp] theorem State.setScrub_stale (s : State) (c : Nat) (x : ScrubSt) : (s.setScrub c x).stale = s.stale := rfl
@[simp] theorem State.setScrub_mem (s : State) (c : Nat) (x : ScrubSt) : (s.setScrub c x).mem = s.mem := rfl
@[simp] theorem State.setScrub_plan (s : State) (c : Nat) (x : ScrubSt) : (s.setScrub c x).plan = s.plan := rfl
@[simp] theorem State.setScrub_tick (s : State) (c : Nat) (x : ScrubSt) : (s.setScrub c x).tick = s.tick := rfl
@[simp] theorem State.setScrub_tbs (s : State) (c : Nat) (x : ScrubSt) : (s.setScrub c x).tbs = s.tbs := rfl
@[simp] theorem State.setScrub_peers (s : State) (c : Nat) (x : ScrubSt) : (s.setScrub c x).peers = s.peers := rfl
@[simp] theorem State.setScrub_pps (s : State) (c : Nat) (x : ScrubSt) : (s.setScrub c x).pps = s.pps := rfl
@[simp] theorem State.setScrub_queues (s : State) (c : Nat) (x : ScrubSt) : (s.setScrub c x).queues = s.queues := rfl
@[simp] theorem State.setScrub_slots (s : State) (c : Nat) (x : ScrubSt) : (s.setScrub c x).slots = s.slots := rfl
@[simp] theorem State.setScrub_stalled (s : State) (c : Nat) (x : ScrubSt) : (s.setScrub c x).stalled = s.stalled := rfl
@[simp] theorem State.setScrub_csrWait (s : State) (c : Nat) (x : ScrubSt) : (s.setScrub c x).csrWait = s.csrWait := rfl
@[simp] theorem State.setScrub_tx (s : State) (c : Nat) (x : ScrubSt) : (s.setScrub c x).tx = s.tx := rfl
@[simp] theorem State.setScrub_prz (s : State) (c : Nat) (x : ScrubSt) : (s.setScrub c x).prz = s.prz := rfl
@[simp] theorem State.setScrub_dma (s : State) (c : Nat) (x : ScrubSt) : (s.setScrub c x).dma = s.dma := rfl
@[simp] theorem State.setScrub_str (s : State) (c : Nat) (x : ScrubSt) : (s.setScrub c x).str = s.str := rfl
@[simp] theorem State.setScrub_fcr (s : State) (c : Nat) (x : ScrubSt) : (s.setScrub c x).fcr = s.fcr := rfl
@[simp] theorem State.setScrub_rdn (s : State) (c : Nat) (x : ScrubSt) : (s.setScrub c x).rdn = s.rdn := rfl
@[simp] theorem State.setScrub_pwr (s : State) (c : Nat) (x : ScrubSt) : (s.setScrub c x).pwr = s.pwr := rfl
@[simp] theorem State.setScrub_boot (s : State) (c : Nat) (x : ScrubSt) : (s.setScrub c x).boot = s.boot := rfl
@[simp] theorem State.setScrub_mgt (s : State) (c : Nat) (x : ScrubSt) : (s.setScrub c x).mgt = s.mgt := rfl
@[simp] theorem State.setScrub_wide (s : State) (c : Nat) (x : ScrubSt) : (s.setScrub c x).wide = s.wide := rfl
@[simp] theorem State.setScrub_clock (s : State) (c : Nat) (x : ScrubSt) : (s.setScrub c x).clock = s.clock := rfl
@[simp] theorem State.setScrub_out (s : State) (c : Nat) (x : ScrubSt) : (s.setScrub c x).out = s.out := rfl

/-! ### setGroup -/

@[simp] theorem State.setGroup_pending (s : State) (g : Nat) (x : PgSt) : (s.setGroup g x).pending = s.pending := rfl
@[simp] theorem State.setGroup_stale (s : State) (g : Nat) (x : PgSt) : (s.setGroup g x).stale = s.stale := rfl
@[simp] theorem State.setGroup_mem (s : State) (g : Nat) (x : PgSt) : (s.setGroup g x).mem = s.mem := rfl
@[simp] theorem State.setGroup_plan (s : State) (g : Nat) (x : PgSt) : (s.setGroup g x).plan = s.plan := rfl
@[simp] theorem State.setGroup_tick (s : State) (g : Nat) (x : PgSt) : (s.setGroup g x).tick = s.tick := rfl
@[simp] theorem State.setGroup_tbs (s : State) (g : Nat) (x : PgSt) : (s.setGroup g x).tbs = s.tbs := rfl
@[simp] theorem State.setGroup_peers (s : State) (g : Nat) (x : PgSt) : (s.setGroup g x).peers = s.peers := rfl
@[simp] theorem State.setGroup_pps (s : State) (g : Nat) (x : PgSt) : (s.setGroup g x).pps = s.pps := rfl
@[simp] theorem State.setGroup_queues (s : State) (g : Nat) (x : PgSt) : (s.setGroup g x).queues = s.queues := rfl
@[simp] theorem State.setGroup_slots (s : State) (g : Nat) (x : PgSt) : (s.setGroup g x).slots = s.slots := rfl
@[simp] theorem State.setGroup_stalled (s : State) (g : Nat) (x : PgSt) : (s.setGroup g x).stalled = s.stalled := rfl
@[simp] theorem State.setGroup_csrWait (s : State) (g : Nat) (x : PgSt) : (s.setGroup g x).csrWait = s.csrWait := rfl
@[simp] theorem State.setGroup_tx (s : State) (g : Nat) (x : PgSt) : (s.setGroup g x).tx = s.tx := rfl
@[simp] theorem State.setGroup_dma (s : State) (g : Nat) (x : PgSt) : (s.setGroup g x).dma = s.dma := rfl
@[simp] theorem State.setGroup_str (s : State) (g : Nat) (x : PgSt) : (s.setGroup g x).str = s.str := rfl
@[simp] theorem State.setGroup_ddr (s : State) (g : Nat) (x : PgSt) : (s.setGroup g x).ddr = s.ddr := rfl
@[simp] theorem State.setGroup_fcr (s : State) (g : Nat) (x : PgSt) : (s.setGroup g x).fcr = s.fcr := rfl
@[simp] theorem State.setGroup_rdn (s : State) (g : Nat) (x : PgSt) : (s.setGroup g x).rdn = s.rdn := rfl
@[simp] theorem State.setGroup_pwr (s : State) (g : Nat) (x : PgSt) : (s.setGroup g x).pwr = s.pwr := rfl
@[simp] theorem State.setGroup_boot (s : State) (g : Nat) (x : PgSt) : (s.setGroup g x).boot = s.boot := rfl
@[simp] theorem State.setGroup_mgt (s : State) (g : Nat) (x : PgSt) : (s.setGroup g x).mgt = s.mgt := rfl
@[simp] theorem State.setGroup_wide (s : State) (g : Nat) (x : PgSt) : (s.setGroup g x).wide = s.wide := rfl
@[simp] theorem State.setGroup_clock (s : State) (g : Nat) (x : PgSt) : (s.setGroup g x).clock = s.clock := rfl
@[simp] theorem State.setGroup_out (s : State) (g : Nat) (x : PgSt) : (s.setGroup g x).out = s.out := rfl

/-! ### setWide -/

@[simp] theorem State.setWide_pending (s : State) (x : WideSt) : (s.setWide x).pending = s.pending := rfl
@[simp] theorem State.setWide_regs (s : State) (x : WideSt) : (s.setWide x).regs = s.regs := rfl
@[simp] theorem State.setWide_stale (s : State) (x : WideSt) : (s.setWide x).stale = s.stale := rfl
@[simp] theorem State.setWide_mem (s : State) (x : WideSt) : (s.setWide x).mem = s.mem := rfl
@[simp] theorem State.setWide_plan (s : State) (x : WideSt) : (s.setWide x).plan = s.plan := rfl
@[simp] theorem State.setWide_tick (s : State) (x : WideSt) : (s.setWide x).tick = s.tick := rfl
@[simp] theorem State.setWide_tbs (s : State) (x : WideSt) : (s.setWide x).tbs = s.tbs := rfl
@[simp] theorem State.setWide_peers (s : State) (x : WideSt) : (s.setWide x).peers = s.peers := rfl
@[simp] theorem State.setWide_pps (s : State) (x : WideSt) : (s.setWide x).pps = s.pps := rfl
@[simp] theorem State.setWide_queues (s : State) (x : WideSt) : (s.setWide x).queues = s.queues := rfl
@[simp] theorem State.setWide_slots (s : State) (x : WideSt) : (s.setWide x).slots = s.slots := rfl
@[simp] theorem State.setWide_stalled (s : State) (x : WideSt) : (s.setWide x).stalled = s.stalled := rfl
@[simp] theorem State.setWide_csrWait (s : State) (x : WideSt) : (s.setWide x).csrWait = s.csrWait := rfl
@[simp] theorem State.setWide_tx (s : State) (x : WideSt) : (s.setWide x).tx = s.tx := rfl
@[simp] theorem State.setWide_prz (s : State) (x : WideSt) : (s.setWide x).prz = s.prz := rfl
@[simp] theorem State.setWide_dma (s : State) (x : WideSt) : (s.setWide x).dma = s.dma := rfl
@[simp] theorem State.setWide_str (s : State) (x : WideSt) : (s.setWide x).str = s.str := rfl
@[simp] theorem State.setWide_ddr (s : State) (x : WideSt) : (s.setWide x).ddr = s.ddr := rfl
@[simp] theorem State.setWide_fcr (s : State) (x : WideSt) : (s.setWide x).fcr = s.fcr := rfl
@[simp] theorem State.setWide_rdn (s : State) (x : WideSt) : (s.setWide x).rdn = s.rdn := rfl
@[simp] theorem State.setWide_pwr (s : State) (x : WideSt) : (s.setWide x).pwr = s.pwr := rfl
@[simp] theorem State.setWide_boot (s : State) (x : WideSt) : (s.setWide x).boot = s.boot := rfl
@[simp] theorem State.setWide_mgt (s : State) (x : WideSt) : (s.setWide x).mgt = s.mgt := rfl
@[simp] theorem State.setWide_clock (s : State) (x : WideSt) : (s.setWide x).clock = s.clock := rfl
@[simp] theorem State.setWide_out (s : State) (x : WideSt) : (s.setWide x).out = s.out := rfl

/-! ### What the updates change -/

@[simp] theorem State.wr_regs (s : State) (k : Nat) (v : Reg) : (s.wr k v).regs = Tab.put regReset s.regs k v := rfl
@[simp] theorem State.memPut_mem (s : State) (a : Nat) (b : Byte) : (s.memPut a b).mem = Tab.put memInit s.mem a b := rfl
@[simp] theorem State.emit_out (s : State) (e : Emission) : (s.emit e).out = e :: s.out := rfl
@[simp] theorem State.setTb_tbs (s : State) (n : Nat) (t : TbSt) : (s.setTb n t).tbs = s.tbs.set n t := rfl
@[simp] theorem State.setChan_chans (s : State) (c : Nat) (x : ChanSt) : (s.setChan c x).dma.chans = Tab.put chanInit s.dma.chans c x := rfl
@[simp] theorem State.setPort_ports (s : State) (p : Nat) (x : PortSt) :
    (s.setPort p x).tx.ports = Tab.put portInit s.tx.ports p x := rfl
@[simp] theorem State.setVec_vecs (s : State) (k : Nat) (v : VecSt) : (s.setVec k v).fcr.vecs = Tab.put vecInit s.fcr.vecs k v := rfl
@[simp] theorem State.setScrub_scrub (s : State) (c : Nat) (x : ScrubSt) : (s.setScrub c x).ddr.scrub = Tab.put scrubInit s.ddr.scrub c x := rfl
@[simp] theorem State.addReq_reqs (s : State) (r : SwapReq) : (s.addReq r).tick.reqs = s.tick.reqs ++ [r] := rfl

end Sys2Proof.Machine
end

