-- ==== Sys2Proof/Laws/Tab.lean ====
section
/-! SUPPORT. Laws of the sparse array, of the register file and of DDR4: a write is read back, leaves every other place
alone, and keeps the canonical form. -/

namespace Sys2Proof.Machine

/-! ### The array -/

theorem Tab.get_put_of_ne {α : Type} [DecidableEq α] (d : Nat → α) (t : Tab α) (k j : Nat) (v : α) (h : j ≠ k) :
    Tab.get d (Tab.put d t k v) j = Tab.get d t j := by
  induction t with
  | nil =>
    unfold Tab.put
    split
    · rfl
    · simp [Tab.get, Ne.symm h]
  | cons e t ih =>
    obtain ⟨i, w⟩ := e
    unfold Tab.put
    split
    · split
      · rfl
      · simp [Tab.get, Ne.symm h]
    · split
      · next hk =>
        subst hk
        split
        · simp [Tab.get, Ne.symm h]
        · simp [Tab.get, Ne.symm h]
      · simp [Tab.get, ih]

theorem Tab.get_of_wfFrom {α : Type} [DecidableEq α] (d : Nat → α) (t : Tab α) (lo k : Nat)
    (h : Tab.wfFrom d lo t = true) (hk : k < lo) : Tab.get d t k = d k := by
  induction t generalizing lo with
  | nil => rfl
  | cons e t ih =>
    obtain ⟨i, w⟩ := e
    simp only [Tab.wfFrom, Bool.and_eq_true, decide_eq_true_eq] at h
    have hne : i ≠ k := by omega
    simp only [Tab.get, hne, if_false]
    exact ih (i + 1) h.2 (by omega)

theorem Tab.get_put_self_from {α : Type} [DecidableEq α] (d : Nat → α) (t : Tab α) (lo k : Nat) (v : α)
    (h : Tab.wfFrom d lo t = true) : Tab.get d (Tab.put d t k v) k = v := by
  induction t generalizing lo with
  | nil =>
    unfold Tab.put
    split
    · next hv => simp [Tab.get, hv]
    · simp [Tab.get]
  | cons e t ih =>
    obtain ⟨i, w⟩ := e
    have hw := h
    simp only [Tab.wfFrom, Bool.and_eq_true, decide_eq_true_eq] at h
    unfold Tab.put
    split
    · next hlt =>
      split
      · next hv =>
        have hne : i ≠ k := by omega
        simp only [Tab.get, hne, if_false]
        rw [Tab.get_of_wfFrom d t (i + 1) k h.2 (by omega), hv]
      · simp [Tab.get]
    · split
      · next hk =>
        subst hk
        split
        · next hv => rw [Tab.get_of_wfFrom d t (k + 1) k h.2 (by omega), hv]
        · simp [Tab.get]
      · next hne =>
        have hne' : i ≠ k := fun x => hne x.symm
        simp only [Tab.get, hne', if_false]
        exact ih (i + 1) h.2

theorem Tab.wfFrom_mono {α : Type} [DecidableEq α] (d : Nat → α) (t : Tab α) (lo lo' : Nat) (h : Tab.wfFrom d lo t = true)
    (hl : lo' ≤ lo) : Tab.wfFrom d lo' t = true := by
  cases t with
  | nil => rfl
  | cons e t =>
    simp only [Tab.wfFrom, Bool.and_eq_true, decide_eq_true_eq] at h ⊢
    exact ⟨⟨by omega, h.1.2⟩, h.2⟩

theorem Tab.put_wfFrom {α : Type} [DecidableEq α] (d : Nat → α) (t : Tab α) (lo k : Nat) (v : α)
    (h : Tab.wfFrom d lo t = true) : Tab.wfFrom d (min lo k) (Tab.put d t k v) = true := by
  induction t generalizing lo with
  | nil =>
    unfold Tab.put
    split
    · rfl
    · next hv => simp [Tab.wfFrom, hv, Nat.min_le_right]
  | cons e t ih =>
    obtain ⟨i, w⟩ := e
    have hw := h
    simp only [Tab.wfFrom, Bool.and_eq_true, decide_eq_true_eq, Bool.not_eq_true', decide_eq_false_iff_not] at h
    unfold Tab.put
    split
    · next hlt =>
      split
      · exact Tab.wfFrom_mono d _ lo _ hw (Nat.min_le_left _ _)
      · next hv =>
        simp only [Tab.wfFrom, Bool.and_eq_true, decide_eq_true_eq, Bool.not_eq_true', decide_eq_false_iff_not]
        exact ⟨⟨Nat.min_le_right _ _, hv⟩, ⟨by omega, h.1.2⟩, h.2⟩
    · split
      · next hk =>
        subst hk
        split
        · exact Tab.wfFrom_mono d _ (k + 1) _ h.2 (by omega)
        · next hv =>
          simp only [Tab.wfFrom, Bool.and_eq_true, decide_eq_true_eq, Bool.not_eq_true', decide_eq_false_iff_not]
          exact ⟨⟨Nat.min_le_right _ _, hv⟩, h.2⟩
      · next hge hne =>
        simp only [Tab.wfFrom, Bool.and_eq_true, decide_eq_true_eq, Bool.not_eq_true', decide_eq_false_iff_not]
        refine ⟨⟨by omega, h.1.2⟩, ?_⟩
        exact Tab.wfFrom_mono d _ _ _ (ih (i + 1) h.2) (by omega)

theorem Tab.put_wf {α : Type} [DecidableEq α] (d : Nat → α) (t : Tab α) (k : Nat) (v : α) (h : Tab.wf d t = true) :
    Tab.wf d (Tab.put d t k v) = true := by
  have := Tab.put_wfFrom d t 0 k v h
  simpa [Tab.wf] using this

theorem Tab.get_put_self {α : Type} [DecidableEq α] (d : Nat → α) (t : Tab α) (k : Nat) (v : α) (h : Tab.wf d t = true) :
    Tab.get d (Tab.put d t k v) k = v := Tab.get_put_self_from d t 0 k v h

theorem Tab.filter_wfFrom {α : Type} [DecidableEq α] (d : Nat → α) (t : Tab α) (p : Nat × α → Bool) (lo : Nat)
    (h : Tab.wfFrom d lo t = true) : Tab.wfFrom d lo (t.filter p) = true := by
  induction t generalizing lo with
  | nil => rfl
  | cons e t ih =>
    obtain ⟨i, w⟩ := e
    simp only [Tab.wfFrom, Bool.and_eq_true, decide_eq_true_eq] at h
    unfold List.filter
    split
    · simp only [Tab.wfFrom, Bool.and_eq_true, decide_eq_true_eq]
      exact ⟨h.1, ih (i + 1) h.2⟩
    · exact Tab.wfFrom_mono d _ (i + 1) _ (ih (i + 1) h.2) (by omega)

/-! ### Registers -/

/-- A register written reads the value written. -/
theorem State.rd_wr_self (s : State) (k : Nat) (v : Reg) (h : Sound s) : (s.wr k v).rd k = v :=
  Tab.get_put_self regReset s.regs k v h.1

/-- A write leaves every other register as it was. -/
theorem State.rd_wr_of_ne (s : State) (k j : Nat) (v : Reg) (h : j ≠ k) : (s.wr k v).rd j = s.rd j :=
  Tab.get_put_of_ne regReset s.regs k j v h

/-- A register write keeps the canonical form. -/
theorem State.wr_sound (s : State) (k : Nat) (v : Reg) (h : Sound s) : Sound (s.wr k v) :=
  ⟨Tab.put_wf regReset s.regs k v h.1, h.2⟩

/-- A register that changes only in a field keeps the rest. -/
theorem State.rd_setF_of_ne (s : State) (k j hi lo v : Nat) (h : j ≠ k) : (s.setF k hi lo v).rd j = s.rd j :=
  State.rd_wr_of_ne s k j _ h

theorem State.rd_setBit_of_ne (s : State) (k j i : Nat) (b : Bool) (h : j ≠ k) : (s.setBit k i b).rd j = s.rd j :=
  State.rd_wr_of_ne s k j _ h

theorem State.rd_wrN_of_ne (s : State) (k j v : Nat) (h : j ≠ k) : (s.wrN k v).rd j = s.rd j :=
  State.rd_wr_of_ne s k j _ h

theorem State.rd_inc_of_ne (s : State) (k j : Nat) (h : j ≠ k) : (s.inc k).rd j = s.rd j :=
  State.rd_wr_of_ne s k j _ h

/-! ### DDR4 -/

/-- An octet written reads the value written. -/
theorem State.memGet_memPut_self (s : State) (a : Nat) (b : Byte) (h : Sound s) : (s.memPut a b).memGet a = b :=
  Tab.get_put_self memInit s.mem a b h.2.1

/-- A write leaves every other octet as it was. -/
theorem State.memGet_memPut_of_ne (s : State) (a c : Nat) (b : Byte) (h : c ≠ a) :
    (s.memPut a b).memGet c = s.memGet c := Tab.get_put_of_ne memInit s.mem a c b h

/-- An octet write keeps the canonical form. -/
theorem State.memPut_sound (s : State) (a : Nat) (b : Byte) (h : Sound s) : Sound (s.memPut a b) :=
  ⟨h.1, Tab.put_wf memInit s.mem a b h.2.1, h.2.2⟩

/-- A write of several octets keeps the canonical form. -/
theorem State.memWrite_sound (l : List Byte) (s : State) (a : Nat) (h : Sound s) : Sound (s.memWrite a l) := by
  induction l generalizing s a with
  | nil => exact h
  | cons b l ih => exact ih (s.memPut a b) (a + 1) (State.memPut_sound s a b h)

end Sys2Proof.Machine
end

