-- ==== Sys2Proof/Laws/Command.lean ====
section
/-! SUPPORT. What the operations every command shares do: the gate of BAR0 and the RESULT of a command. -/

namespace Sys2Proof.Machine

/-! ### The gate -/

theorem Reaches.gate {s : State} {r : Requester} {k : Nat} (h : Reaches s r k) : s.gateWrite r k = .pass := by
  obtain ⟨h1, h2, h3, h4⟩ := h
  unfold State.gateWrite
  have h5 : ¬ s.boot.stage < 6 := by omega
  simp only [h5, false_and, if_false, h2, h3]
  cases hm : isMgmt (s.acting r) <;> simp_all

/-- A write that reaches its register has its effect. -/
theorem guarded_of_reaches {s : State} {r : Requester} {k : Nat} (h : Reaches s r k) (f : State → State) :
    s.guarded r k f = f s := by
  unfold State.guarded
  rw [h.gate]

/-- A virtual function has no such register (R358). -/
theorem guarded_of_vf {s : State} {r : Requester} {k : Nat} (h1 : 6 ≤ s.boot.stage) (h2 : s.clockStopped k = false)
    (h3 : (s.acting r).vfNum ≠ 0) (f : State → State) : s.guarded r k f = s := by
  have h5 : ¬ s.boot.stage < 6 := by omega
  unfold State.guarded State.gateWrite
  simp [h5, h2, h3]

/-- The management plane's write outside its blocks is dropped and counted (R16). -/
theorem guarded_of_dropped {s : State} {r : Requester} {k : Nat} (h1 : 6 ≤ s.boot.stage) (h2 : s.clockStopped k = false)
    (h3 : (s.acting r).vfNum = 0) (h4 : isMgmt (s.acting r) = true) (h6 : mgmtMayWrite (blockOf k) = false)
    (f : State → State) : s.guarded r k f = s.inc R.topMgtWrDrop := by
  have h5 : ¬ s.boot.stage < 6 := by omega
  unfold State.guarded State.gateWrite
  simp [h5, h2, h3, h4, h6]

/-- Before the firmware runs nothing answers but the mailbox of RECOVERY (R456, R459). -/
theorem guarded_of_boot {s : State} {r : Requester} {k : Nat} (h1 : s.boot.stage < 6)
    (h2 : s.romServes (s.acting r) k = false) (f : State → State) : s.guarded r k f = s := by
  unfold State.guarded State.gateWrite
  simp [h1, h2]

/-- A write of a register whose clock is stopped times out (R489). -/
theorem guarded_of_stopped {s : State} {r : Requester} {k : Nat} (h1 : 6 ≤ s.boot.stage) (h2 : s.clockStopped k = true)
    (f : State → State) : s.guarded r k f = s.csrTimeout k := by
  have h5 : ¬ s.boot.stage < 6 := by omega
  unfold State.guarded State.gateWrite
  simp [h5, h2]

/-! ### No entry in the middle of its issue -/

@[simp] theorem State.wr_quiet (s : State) (k : Nat) (v : Reg) : (s.wr k v).quiet = s.quiet := rfl
@[simp] theorem State.wrN_quiet (s : State) (k v : Nat) : (s.wrN k v).quiet = s.quiet := rfl
@[simp] theorem State.setF_quiet (s : State) (k hi lo v : Nat) : (s.setF k hi lo v).quiet = s.quiet := rfl
@[simp] theorem State.setBit_quiet (s : State) (k i : Nat) (b : Bool) : (s.setBit k i b).quiet = s.quiet := rfl
@[simp] theorem State.inc_quiet (s : State) (k : Nat) : (s.inc k).quiet = s.quiet := rfl
@[simp] theorem State.wr64_quiet (s : State) (k v : Nat) : (s.wr64 k v).quiet = s.quiet := rfl
@[simp] theorem State.emit_quiet (s : State) (e : Emission) : (s.emit e).quiet = s.quiet := rfl
@[simp] theorem State.addReq_quiet (s : State) (r : SwapReq) : (s.addReq r).quiet = s.quiet := rfl
@[simp] theorem State.settleOwned_quiet (s : State) (p : Nat) : (s.settleOwned p).quiet = s.quiet := rfl
@[simp] theorem State.noteResult_quiet (s : State) (k code : Nat) : (s.noteResult k code).quiet = s.quiet := by
  unfold State.noteResult
  split <;> rfl

/-- With no entry in the middle of its issue no entry is answered. -/
theorem answerCmds_of_quiet {s : State} (h : s.quiet = true) (code : Nat) : s.answerCmds issuing code = s := by
  have h1 : s.csrWait.filter (fun w => w.1 == issuing) = [] := by
    rw [List.filter_eq_nil_iff]
    intro w hw
    have := List.all_eq_true.mp h w hw
    simpa using this
  have h2 : s.csrWait.filter (fun w => w.1 != issuing) = s.csrWait := by
    rw [List.filter_eq_self]
    exact List.all_eq_true.mp h
  unfold State.answerCmds
  simp only [h1, h2, forEach, List.foldl_nil]

/-- A command that finishes as it is issued leaves its RESULT. -/
theorem result_of_quiet {s : State} (h : s.quiet = true) (k code : Nat) : s.result k code = s.noteResult k code := by
  unfold State.result
  exact answerCmds_of_quiet (by simpa using h) code

/-- A command that goes on as a job of its own keeps no entry waiting when none issued it. -/
theorem defer_of_quiet {s : State} (h : s.quiet = true) (j : Nat) : s.defer j = s := by
  have : s.csrWait.map (fun w => if w.1 = issuing then (j, w.2) else w) = s.csrWait := by
    rw [List.map_congr_left (g := id)]
    · simp
    · intro w hw
      have := List.all_eq_true.mp h w hw
      have h1 : w.1 ≠ issuing := by simpa using this
      simp [h1]
  unfold State.defer
  rw [this]

end Sys2Proof.Machine
end

