-- ==== Sys2Proof/Laws/Keeps.lean ====
section
/-! SUPPORT. What every operation of the machine keeps, and the steps of its proof. -/

namespace Sys2Proof.Machine

set_option linter.unusedTactic false
set_option linter.unreachableTactic false

/-- What every operation keeps: the canonical form of registers and DDR4, no entry left in the middle of its issue, the queue of
waiting commands, and what has left the device. With `m` false DDR4 is left alone altogether. -/
structure Keeps (m : Bool) (s t : State) : Prop where
  regs : Registers.wf s.regs = true → Registers.wf t.regs = true
  mem : Memory.wf s.mem = true → Memory.wf t.mem = true
  quiet : s.quiet = true → t.quiet = true
  queue : t.pending = s.pending
  out : ∃ l, t.out = l ++ s.out
  ddr : m = false → t.mem = s.mem

theorem Keeps.refl (m : Bool) (s : State) : Keeps m s s := ⟨id, id, id, rfl, ⟨[], rfl⟩, fun _ => rfl⟩

theorem Keeps.trans {m : Bool} {s t u : State} (h : Keeps m s t) (k : Keeps m t u) : Keeps m s u := by
  refine ⟨fun x => k.regs (h.regs x), fun x => k.mem (h.mem x), fun x => k.quiet (h.quiet x), k.queue.trans h.queue, ?_,
    fun x => (k.ddr x).trans (h.ddr x)⟩
  obtain ⟨a, ha⟩ := h.out
  obtain ⟨b, hb⟩ := k.out
  exact ⟨b ++ a, by rw [hb, ha, List.append_assoc]⟩

theorem Keeps.weaken {m : Bool} {s t : State} (h : Keeps false s t) : Keeps m s t :=
  ⟨h.regs, h.mem, h.quiet, h.queue, h.out, fun _ => h.ddr rfl⟩

theorem Keeps.sound {m : Bool} {s t : State} (h : Keeps m s t) (k : Sound s) : Sound t := ⟨h.regs k.1, h.mem k.2.1, h.quiet k.2.2⟩

/-- A change of anything but registers, DDR4, waiting entries, the queue and the record of what left. -/
theorem Keeps.core {m : Bool} {s0 s t : State} (h : Keeps m s0 s) (h1 : t.regs = s.regs) (h2 : t.mem = s.mem)
    (h3 : t.csrWait = s.csrWait) (h4 : t.pending = s.pending) (h5 : t.out = s.out) : Keeps m s0 t := by
  refine h.trans ⟨?_, ?_, ?_, h4, ⟨[], h5⟩, fun _ => h2⟩
  · rw [h1]; exact id
  · rw [h2]; exact id
  · unfold State.quiet; rw [h3]; exact id

/-- A state with the registers, DDR4, waiting entries, queue and record of `s`, and the rest given. -/
def State.rest (s : State) (stale' : List (Nat × Reg)) (plan' : PlanSt) (tick' : TickSt) (tbs' : List TbSt) (peers' :
    Tab PeerDelay) (pps' : PpsSt) (queues' : Tab QueueSt) (slots' : Tab Nat) (stalled' : List Nat) (tx' : TxSt) (prz'
    : PrzSt) (dma' : DmaSt) (str' : StrSt) (ddr' : MemSt) (fcr' : FcrSt) (rdn' : RdnSt) (pwr' : PwrSt) (boot' :
    BootSt) (mgt' : MgtSt) (wide' : List WideSt) (clock' : Time) : State := ⟨s.pending, s.regs,
    stale', s.mem, plan', tick', tbs', peers', pps', queues', slots', stalled', s.csrWait, tx', prz', dma', str',
    ddr', fcr', rdn', pwr', boot', mgt', wide', clock', s.out⟩

/-- The same with no entry waiting. -/
def State.restDrop (s : State) (stale' : List (Nat × Reg)) (plan' : PlanSt) (tick' : TickSt) (tbs' : List TbSt)
    (peers' : Tab PeerDelay) (pps' : PpsSt) (queues' : Tab QueueSt) (slots' : Tab Nat) (stalled' : List Nat) (tx' :
    TxSt) (prz' : PrzSt) (dma' : DmaSt) (str' : StrSt) (ddr' : MemSt) (fcr' : FcrSt) (rdn' : RdnSt) (pwr' :
    PwrSt) (boot' : BootSt) (mgt' : MgtSt) (wide' : List WideSt) (clock' : Time) : State :=
    ⟨s.pending, s.regs, stale', s.mem, plan', tick', tbs', peers', pps', queues', slots', stalled', [], tx', prz',
    dma', str', ddr', fcr', rdn', pwr', boot', mgt', wide', clock', s.out⟩

theorem State.rest_eq (s : State) (stale' : List (Nat × Reg)) (plan' : PlanSt) (tick' : TickSt) (tbs' : List TbSt)
    (peers' : Tab PeerDelay) (pps' : PpsSt) (queues' : Tab QueueSt) (slots' : Tab Nat) (stalled' : List Nat) (tx' :
    TxSt) (prz' : PrzSt) (dma' : DmaSt) (str' : StrSt) (ddr' : MemSt) (fcr' : FcrSt) (rdn' : RdnSt) (pwr' :
    PwrSt) (boot' : BootSt) (mgt' : MgtSt) (wide' : List WideSt) (clock' : Time) : (⟨s.pending,
    s.regs, stale', s.mem, plan', tick', tbs', peers', pps', queues', slots', stalled', s.csrWait, tx', prz', dma',
    str', ddr', fcr', rdn', pwr', boot', mgt', wide', clock', s.out⟩ : State) = s.rest stale' plan' tick'
    tbs' peers' pps' queues' slots' stalled' tx' prz' dma' str' ddr' fcr' rdn' pwr' boot' mgt' wide' clock'
    := rfl

theorem State.rest_keeps {m : Bool} {s0 s : State} {stale' : List (Nat × Reg)} {plan' : PlanSt} {tick' : TickSt} {tbs'
    : List TbSt} {peers' : Tab PeerDelay} {pps' : PpsSt} {queues' : Tab QueueSt} {slots' : Tab Nat} {stalled' : List
    Nat} {tx' : TxSt} {prz' : PrzSt} {dma' : DmaSt} {str' : StrSt} {ddr' : MemSt} {fcr' : FcrSt} {rdn' : RdnSt}
    {pwr' : PwrSt} {boot' : BootSt} {mgt' : MgtSt} {wide' : List WideSt} {clock' : Time} (h : Keeps
    m s0 s) : Keeps m s0 (s.rest stale' plan' tick' tbs' peers' pps' queues' slots' stalled' tx' prz' dma' str' ddr'
    fcr' rdn' pwr' boot' mgt' wide' clock') :=
  h.core rfl rfl rfl rfl rfl

theorem State.restDrop_eq (s : State) (stale' : List (Nat × Reg)) (plan' : PlanSt) (tick' : TickSt) (tbs' : List TbSt)
    (peers' : Tab PeerDelay) (pps' : PpsSt) (queues' : Tab QueueSt) (slots' : Tab Nat) (stalled' : List Nat) (tx' :
    TxSt) (prz' : PrzSt) (dma' : DmaSt) (str' : StrSt) (ddr' : MemSt) (fcr' : FcrSt) (rdn' : RdnSt) (pwr' :
    PwrSt) (boot' : BootSt) (mgt' : MgtSt) (wide' : List WideSt) (clock' : Time) : (⟨s.pending,
    s.regs, stale', s.mem, plan', tick', tbs', peers', pps', queues', slots', stalled', [], tx', prz', dma', str',
    ddr', fcr', rdn', pwr', boot', mgt', wide', clock', s.out⟩ : State) = s.restDrop stale' plan' tick'
    tbs' peers' pps' queues' slots' stalled' tx' prz' dma' str' ddr' fcr' rdn' pwr' boot' mgt' wide' clock'
    := rfl

theorem State.restDrop_keeps {m : Bool} {s0 s : State} {stale' : List (Nat × Reg)} {plan' : PlanSt} {tick' : TickSt}
    {tbs' : List TbSt} {peers' : Tab PeerDelay} {pps' : PpsSt} {queues' : Tab QueueSt} {slots' : Tab Nat} {stalled' :
    List Nat} {tx' : TxSt} {prz' : PrzSt} {dma' : DmaSt} {str' : StrSt} {ddr' : MemSt} {fcr' : FcrSt} {rdn' :
    RdnSt} {pwr' : PwrSt} {boot' : BootSt} {mgt' : MgtSt} {wide' : List WideSt} {clock' : Time} (h
    : Keeps m s0 s) : Keeps m s0 (s.restDrop stale' plan' tick' tbs' peers' pps' queues' slots' stalled' tx' prz' dma'
    str' ddr' fcr' rdn' pwr' boot' mgt' wide' clock') :=
  h.trans ⟨id, id, fun _ => rfl, rfl, ⟨[], rfl⟩, fun _ => rfl⟩

@[simp] theorem Answer.state_next (x s : State) : Answer.state (.next x) s = x := rfl

theorem Keeps.ite {m : Bool} {s0 a b : State} {c : Prop} [Decidable c] (ha : Keeps m s0 a) (hb : Keeps m s0 b) :
    Keeps m s0 (if c then a else b) := by
  split
  · exact ha
  · exact hb

theorem id_keeps {m : Bool} {s0 s : State} (h : Keeps m s0 s) : Keeps m s0 (id s) := h

theorem forEach_keeps {α : Type} {m : Bool} {s0 s : State} {l : List α} {f : α → State → State} (h : Keeps m s0 s)
    (hf : ∀ a y, Keeps m s0 y → Keeps m s0 (f a y)) : Keeps m s0 (forEach l f s) := by
  unfold forEach
  induction l generalizing s with
  | nil => exact h
  | cons a l ih => exact ih (hf a s h)

theorem foldl_keeps {α : Type} {m : Bool} {s0 s : State} {l : List α} {f : State → α → State} (h : Keeps m s0 s)
    (hf : ∀ y a, Keeps m s0 y → Keeps m s0 (f y a)) : Keeps m s0 (List.foldl f s l) := by
  induction l generalizing s with
  | nil => exact h
  | cons a l ih => exact ih (hf s a h)

theorem State.wr_keeps {m : Bool} {s0 s : State} {k : Nat} {v : Reg} (h : Keeps m s0 s) : Keeps m s0 (s.wr k v) :=
  h.trans ⟨fun x => Tab.put_wf regReset s.regs k v x, id, id, rfl, ⟨[], rfl⟩, fun _ => rfl⟩

theorem State.memPut_keeps {s0 s : State} {a : Nat} {b : Byte} (h : Keeps true s0 s) : Keeps true s0 (s.memPut a b) :=
  h.trans ⟨id, fun x => Tab.put_wf memInit s.mem a b x, id, rfl, ⟨[], rfl⟩, fun x => nomatch x⟩

theorem State.emit_keeps {m : Bool} {s0 s : State} {e : Emission} (h : Keeps m s0 s) : Keeps m s0 (s.emit e) :=
  h.trans ⟨id, id, id, rfl, ⟨[e], rfl⟩, fun _ => rfl⟩

theorem State.defer_keeps {m : Bool} {s0 s : State} {j : Nat} (h : Keeps m s0 s) : Keeps m s0 (s.defer j) := by
  refine h.trans ⟨id, id, fun x => ?_, rfl, ⟨[], rfl⟩, fun _ => rfl⟩
  rw [defer_of_quiet x]
  exact x

end Sys2Proof.Machine
end

