-- ==== Sys2Proof/Laws/KeepsOps.lean ====
section
/-! SUPPORT. Every operation of the line side keeps it: registers, clock, rings, board, swaps, prism, panes, time and transmission. -/

namespace Sys2Proof.Machine

set_option linter.unusedTactic false
set_option linter.unreachableTactic false

/-! ### Ops -/

theorem State.wrN_keeps {md : Bool} {orig : State} {s : State} {k : Nat} {v : Nat} (hkeep : Keeps md orig s) :
    Keeps md orig (State.wrN s k v) := by
  unfold State.wrN
  try dsimp only
  repeat' (first | with_reducible assumption | with_reducible apply State.wr_keeps)

theorem State.setF_keeps {md : Bool} {orig : State} {s : State} {k : Nat} {hi : Nat} {lo : Nat} {v : Nat} (hkeep :
    Keeps md orig s) :
    Keeps md orig (State.setF s k hi lo v) := by
  unfold State.setF
  try dsimp only
  repeat' (first | with_reducible assumption | with_reducible apply State.wr_keeps)

theorem State.setBit_keeps {md : Bool} {orig : State} {s : State} {k : Nat} {i : Nat} {b : Bool} (hkeep : Keeps md
    orig s) :
    Keeps md orig (State.setBit s k i b) := by
  unfold State.setBit
  try dsimp only
  repeat' (first | with_reducible assumption | with_reducible apply State.wr_keeps)

theorem State.hwSet_keeps {md : Bool} {orig : State} {s : State} {k : Nat} {i : Nat} (hkeep : Keeps md orig s) :
    Keeps md orig (State.hwSet s k i) := by
  unfold State.hwSet
  try dsimp only
  repeat' (first
    | with_reducible assumption | with_reducible apply State.setBit_keeps | with_reducible apply Keeps.ite
    | with_reducible apply State.rest_keeps | rw [State.rest_eq] | split)

theorem State.wr64_keeps {md : Bool} {orig : State} {s : State} {k : Nat} {v : Nat} (hkeep : Keeps md orig s) :
    Keeps md orig (State.wr64 s k v) := by
  unfold State.wr64
  try dsimp only
  repeat' (first | with_reducible assumption | with_reducible apply State.wrN_keeps)

theorem State.wrWords_keeps {md : Bool} {orig : State} {s : State} {k : Nat} {l : List Reg} (hkeep : Keeps md orig s) :
    Keeps md orig (State.wrWords s k l) := by
  induction l generalizing s k with
  | nil =>
    unfold State.wrWords
    try dsimp only
    repeat' (first
      | (with_reducible assumption)
      | fail
      | with_reducible apply State.wr_keeps
      | split)
  | cons x l ih =>
    unfold State.wrWords
    try dsimp only
    repeat' (first | with_reducible assumption | with_reducible apply ih | with_reducible apply State.wr_keeps | split)

theorem State.incBy_keeps {md : Bool} {orig : State} {s : State} {k : Nat} {n : Nat} (hkeep : Keeps md orig s) :
    Keeps md orig (State.incBy s k n) := by
  unfold State.incBy
  try dsimp only
  repeat' (first | with_reducible assumption | with_reducible apply State.wrN_keeps)

theorem State.inc_keeps {md : Bool} {orig : State} {s : State} {k : Nat} (hkeep : Keeps md orig s) :
    Keeps md orig (State.inc s k) := by
  unfold State.inc
  try dsimp only
  repeat' (first | with_reducible assumption | with_reducible apply State.incBy_keeps)

theorem State.inc64By_keeps {md : Bool} {orig : State} {s : State} {k : Nat} {n : Nat} (hkeep : Keeps md orig s) :
    Keeps md orig (State.inc64By s k n) := by
  unfold State.inc64By
  try dsimp only
  repeat' (first | with_reducible assumption | with_reducible apply State.wr64_keeps)

theorem State.inc64_keeps {md : Bool} {orig : State} {s : State} {k : Nat} (hkeep : Keeps md orig s) :
    Keeps md orig (State.inc64 s k) := by
  unfold State.inc64
  try dsimp only
  repeat' (first | with_reducible assumption | with_reducible apply State.inc64By_keeps)

theorem State.incF_keeps {md : Bool} {orig : State} {s : State} {k : Nat} {hi : Nat} {lo : Nat} (hkeep : Keeps md orig
    s) :
    Keeps md orig (State.incF s k hi lo) := by
  unfold State.incF
  try dsimp only
  repeat' (first | with_reducible assumption | with_reducible apply State.setF_keeps)

theorem State.wrLater_keeps {md : Bool} {orig : State} {s : State} {k : Nat} {v : Reg} (hkeep : Keeps md orig s) :
    Keeps md orig (State.wrLater s k v) := by
  unfold State.wrLater
  try dsimp only
  repeat' (first
    | with_reducible assumption | with_reducible apply State.wr_keeps | with_reducible apply Keeps.ite
    | with_reducible apply State.rest_keeps | rw [State.rest_eq] | split)

theorem State.memWrite_keeps {orig : State} {s : State} {a : Nat} {l : List Byte} (hkeep : Keeps true orig s) :
    Keeps true orig (State.memWrite s a l) := by
  induction l generalizing s a with
  | nil =>
    unfold State.memWrite
    try dsimp only
    repeat' (first
      | (with_reducible assumption)
      | fail
      | with_reducible apply State.memPut_keeps
      | split)
  | cons x l ih =>
    unfold State.memWrite
    try dsimp only
    repeat' (first
      | with_reducible assumption | with_reducible apply ih | with_reducible apply State.memPut_keeps | split)

/-! ### Ports -/

theorem State.setPort_keeps {md : Bool} {orig : State} {s : State} {p : Nat} {x : PortSt} (hkeep : Keeps md orig s) :
    Keeps md orig (State.setPort s p x) := by
  unfold State.setPort
  try dsimp only
  repeat' (first | with_reducible assumption | with_reducible apply State.rest_keeps | rw [State.rest_eq])

theorem State.settlePreempt_keeps {md : Bool} {orig : State} {s : State} {p : Nat} (hkeep : Keeps md orig s) :
    Keeps md orig (State.settlePreempt s p) := by
  unfold State.settlePreempt
  try dsimp only
  repeat' (first
    | with_reducible assumption | with_reducible apply State.setBit_keeps | with_reducible apply Keeps.ite | split)

theorem State.setPower_keeps {md : Bool} {orig : State} {s : State} {u : Nat} {st : Nat} (hkeep : Keeps md orig s) :
    Keeps md orig (State.setPower s u st) := by
  unfold State.setPower
  try dsimp only
  repeat' (first
    | with_reducible assumption | with_reducible apply State.setF_keeps | with_reducible apply Keeps.ite
    | with_reducible apply State.rest_keeps | rw [State.rest_eq] | split)

theorem State.settleSel_keeps {md : Bool} {orig : State} {s : State} {g : Nat} (hkeep : Keeps md orig s) :
    Keeps md orig (State.settleSel s g) := by
  unfold State.settleSel
  try dsimp only
  repeat' (first
    | with_reducible assumption | (intro _; intros) | with_reducible apply State.setF_keeps
    | with_reducible refine foldl_keeps ?_ ?_)

theorem State.wake_keeps {md : Bool} {orig : State} {s : State} {u : Nat} (hkeep : Keeps md orig s) :
    Keeps md orig (State.wake s u) := by
  unfold State.wake
  try dsimp only
  repeat' (first
    | with_reducible assumption | with_reducible apply State.settleSel_keeps
    | with_reducible apply State.setPower_keeps | with_reducible apply Keeps.ite
    | with_reducible apply State.rest_keeps | rw [State.rest_eq] | split)

theorem State.wakePort_keeps {md : Bool} {orig : State} {s : State} {p : Nat} (hkeep : Keeps md orig s) :
    Keeps md orig (State.wakePort s p) := by
  unfold State.wakePort
  try dsimp only
  repeat' (first | with_reducible assumption | with_reducible apply State.wake_keeps)

theorem State.preemptNow_keeps {md : Bool} {orig : State} {s : State} {p : Nat} (hkeep : Keeps md orig s) :
    Keeps md orig (State.preemptNow s p) := by
  unfold State.preemptNow
  try dsimp only
  repeat' (first
    | with_reducible assumption | with_reducible apply State.setPort_keeps | with_reducible apply Keeps.ite
    | with_reducible apply State.rest_keeps | rw [State.rest_eq] | split)

theorem State.markOverrun_keeps {md : Bool} {orig : State} {s : State} {p : Nat} {l : LineSt} (hkeep : Keeps md orig
    s) :
    Keeps md orig (State.markOverrun s p l) := by
  unfold State.markOverrun
  try dsimp only
  repeat' (first
    | with_reducible assumption | with_reducible apply State.setPort_keeps | with_reducible apply State.inc_keeps
    | with_reducible apply State.rest_keeps | rw [State.rest_eq])

theorem State.unline_keeps {md : Bool} {orig : State} {s : State} {src : TxSrc} (hkeep : Keeps md orig s) :
    Keeps md orig (State.unline s src) := by
  unfold State.unline
  try dsimp only
  repeat' (first
    | with_reducible assumption | (intro _; intros) | with_reducible apply State.setPort_keeps
    | with_reducible refine forEach_keeps ?_ ?_ | with_reducible apply Keeps.ite
    | with_reducible apply State.rest_keeps | rw [State.rest_eq] | split)

/-! ### Flags -/

theorem State.contain_keeps {md : Bool} {orig : State} {s : State} {u : Nat} (hkeep : Keeps md orig s) :
    Keeps md orig (State.contain s u) := by
  unfold State.contain
  try dsimp only
  repeat' (first
    | with_reducible assumption | with_reducible apply Keeps.ite | with_reducible apply State.rest_keeps
    | rw [State.rest_eq] | split)

theorem State.cross_keeps {md : Bool} {orig : State} {s : State} {k : Nat} {b : Nat} (hkeep : Keeps md orig s) :
    Keeps md orig (State.cross s k b).2 := by
  unfold State.cross
  try dsimp only
  repeat' (first
    | with_reducible assumption | with_reducible apply State.hwSet_keeps | with_reducible apply State.wrN_keeps
    | with_reducible apply Keeps.ite | with_reducible apply State.rest_keeps | rw [State.rest_eq] | split)

theorem State.setVec_keeps {md : Bool} {orig : State} {s : State} {k : Nat} {v : VecSt} (hkeep : Keeps md orig s) :
    Keeps md orig (State.setVec s k v) := by
  unfold State.setVec
  try dsimp only
  repeat' (first | with_reducible assumption | with_reducible apply State.rest_keeps | rw [State.rest_eq])

theorem State.bumpVec_keeps {md : Bool} {orig : State} {s : State} {k : Nat} (hkeep : Keeps md orig s) :
    Keeps md orig (State.bumpVec s k) := by
  unfold State.bumpVec
  try dsimp only
  repeat' (first
    | with_reducible assumption | with_reducible apply State.setVec_keeps | with_reducible apply Keeps.ite
    | with_reducible apply State.rest_keeps | rw [State.rest_eq] | split)

theorem State.event_keeps {md : Bool} {orig : State} {s : State} {e : Nat} (hkeep : Keeps md orig s) :
    Keeps md orig (State.event s e) := by
  unfold State.event
  try dsimp only
  repeat' (first
    | with_reducible assumption | with_reducible apply State.bumpVec_keeps | with_reducible apply State.cross_keeps
    | with_reducible apply State.hwSet_keeps | with_reducible apply Keeps.ite | split)

theorem State.setRole_keeps {md : Bool} {orig : State} {s : State} {r : Nat} (hkeep : Keeps md orig s) :
    Keeps md orig (State.setRole s r) := by
  unfold State.setRole
  try dsimp only
  repeat' (first
    | with_reducible assumption | with_reducible apply State.event_keeps | with_reducible apply State.setBit_keeps
    | with_reducible apply State.setF_keeps | with_reducible apply Keeps.ite | with_reducible apply State.rest_keeps
    | rw [State.rest_eq] | split)

theorem State.noteRaise_keeps {md : Bool} {orig : State} {s : State} {src : Nat} (hkeep : Keeps md orig s) :
    Keeps md orig (State.noteRaise s src) := by
  unfold State.noteRaise
  try dsimp only
  repeat' (first
    | with_reducible assumption | with_reducible apply State.inc_keeps | with_reducible apply State.hwSet_keeps)

theorem State.enterFault_keeps {md : Bool} {orig : State} {s : State} {src : Nat} (hkeep : Keeps md orig s) :
    Keeps md orig (State.enterFault s src) := by
  unfold State.enterFault
  try dsimp only
  repeat' (first
    | with_reducible assumption | with_reducible apply State.setRole_keeps | with_reducible apply State.event_keeps
    | with_reducible apply State.inc_keeps | with_reducible apply State.setBit_keeps
    | with_reducible apply State.setF_keeps | with_reducible apply State.wrN_keeps | with_reducible apply Keeps.ite
    | with_reducible apply State.rest_keeps | rw [State.rest_eq] | split)

theorem State.reactLow_keeps {md : Bool} {orig : State} {s : State} {lo : Nat} {hi : Nat} {src : Nat} {units : List
    Nat} (hkeep : Keeps md orig s) :
    Keeps md orig (State.reactLow s lo hi src units) := by
  unfold State.reactLow
  try dsimp only
  repeat' (first
    | with_reducible assumption | (intro _; intros) | with_reducible apply State.enterFault_keeps
    | with_reducible apply State.event_keeps | with_reducible apply State.contain_keeps
    | with_reducible refine foldl_keeps ?_ ?_ | with_reducible apply Keeps.ite | split)

theorem State.takeRaise_keeps {md : Bool} {orig : State} {s : State} {src : Nat} {units : List Nat} (hkeep : Keeps md
    orig s) :
    Keeps md orig (State.takeRaise s src units).2 := by
  unfold State.takeRaise
  try dsimp only
  repeat' (first
    | with_reducible assumption | with_reducible apply State.noteRaise_keeps | with_reducible apply State.cross_keeps
    | with_reducible apply State.hwSet_keeps | with_reducible apply State.setBit_keeps
    | with_reducible apply Keeps.ite | with_reducible apply State.rest_keeps | rw [State.rest_eq] | split)

theorem State.raiseLow_keeps {md : Bool} {orig : State} {s : State} {src : Nat} {units : List Nat} (hkeep : Keeps md
    orig s) :
    Keeps md orig (State.raiseLow s src units) := by
  unfold State.raiseLow
  try dsimp only
  repeat' (first
    | with_reducible assumption | with_reducible apply State.takeRaise_keeps
    | with_reducible apply State.reactLow_keeps)

theorem State.cutGates_keeps {md : Bool} {orig : State} {s : State} (hkeep : Keeps md orig s) :
    Keeps md orig (State.cutGates s) := by
  unfold State.cutGates
  try dsimp only
  repeat' (first
    | with_reducible assumption | (intro _; intros) | with_reducible apply State.raiseLow_keeps
    | with_reducible apply State.markOverrun_keeps | with_reducible apply State.preemptNow_keeps
    | with_reducible refine forEach_keeps ?_ ?_ | with_reducible apply Keeps.ite
    | with_reducible apply State.rest_keeps | rw [State.rest_eq] | split)

theorem State.giveUp_keeps {md : Bool} {orig : State} {s : State} (hkeep : Keeps md orig s) :
    Keeps md orig (State.giveUp s) := by
  unfold State.giveUp
  try dsimp only
  repeat' (first
    | with_reducible assumption | with_reducible apply State.cutGates_keeps
    | with_reducible apply State.raiseLow_keeps | with_reducible apply State.setRole_keeps
    | with_reducible apply State.inc_keeps | with_reducible apply State.setBit_keeps | with_reducible apply Keeps.ite
    | split)

theorem State.react_keeps {md : Bool} {orig : State} {s : State} {lo : Nat} {hi : Nat} {src : Nat} {units : List Nat}
    (hkeep : Keeps md orig s) :
    Keeps md orig (State.react s lo hi src units) := by
  unfold State.react
  try dsimp only
  repeat' (first
    | with_reducible assumption | with_reducible apply State.giveUp_keeps | with_reducible apply State.cutGates_keeps
    | with_reducible apply State.reactLow_keeps | with_reducible apply Keeps.ite | split)

theorem State.detect_keeps {md : Bool} {orig : State} {s : State} {src : Nat} {units : List Nat} (hkeep : Keeps md
    orig s) :
    Keeps md orig (State.detect s src units) := by
  unfold State.detect
  try dsimp only
  repeat' (first
    | with_reducible assumption | with_reducible apply State.react_keeps | with_reducible apply State.takeRaise_keeps)

theorem State.raise_keeps {md : Bool} {orig : State} {s : State} {src : Nat} {units : List Nat} (hkeep : Keeps md orig
    s) :
    Keeps md orig (State.raise s src units) := by
  unfold State.raise
  try dsimp only
  repeat' (first | with_reducible assumption | with_reducible apply State.detect_keeps)

theorem State.condition_keeps {md : Bool} {orig : State} {s : State} {src : Nat} {units : List Nat} {holds : Bool}
    (hkeep : Keeps md orig s) :
    Keeps md orig (State.condition s src units holds) := by
  unfold State.condition
  try dsimp only
  repeat' (first
    | with_reducible assumption | with_reducible apply State.detect_keeps | with_reducible apply State.setBit_keeps
    | with_reducible apply Keeps.ite | split)

/-! ### Clock -/

theorem State.setTb_keeps {md : Bool} {orig : State} {s : State} {n : Nat} {t : TbSt} (hkeep : Keeps md orig s) :
    Keeps md orig (State.setTb s n t) := by
  unfold State.setTb
  try dsimp only
  repeat' (first | with_reducible assumption | with_reducible apply State.rest_keeps | rw [State.rest_eq])

theorem State.advTb_keeps {md : Bool} {orig : State} {s : State} {k : Nat} {n : Nat} (hkeep : Keeps md orig s) :
    Keeps md orig (State.advTb s k n) := by
  unfold State.advTb
  try dsimp only
  repeat' (first
    | with_reducible assumption | with_reducible apply State.setTb_keeps | with_reducible apply State.setBit_keeps
    | with_reducible apply Keeps.ite | with_reducible apply State.rest_keeps | rw [State.rest_eq] | split)

theorem State.newEdge_keeps {md : Bool} {orig : State} {s : State} (hkeep : Keeps md orig s) :
    Keeps md orig (State.newEdge s) := by
  unfold State.newEdge
  try dsimp only
  repeat' (first | with_reducible assumption | with_reducible apply State.rest_keeps | rw [State.rest_eq])

theorem State.edges_keeps {md : Bool} {orig : State} {s : State} {k : Nat} (hkeep : Keeps md orig s) :
    Keeps md orig (State.edges s k) := by
  unfold State.edges
  try dsimp only
  repeat' (first
    | with_reducible assumption | (intro _; intros) | with_reducible apply State.newEdge_keeps
    | with_reducible apply State.advTb_keeps | with_reducible refine forEach_keeps ?_ ?_
    | with_reducible apply Keeps.ite | with_reducible apply State.rest_keeps | rw [State.rest_eq] | split)

theorem State.untilTb_keeps {md : Bool} {orig : State} {s : State} {n : Nat} {t : Time} (hkeep : Keeps md orig s) :
    Keeps md orig (State.untilTb s n t) := by
  unfold State.untilTb
  try dsimp only
  repeat' (first | with_reducible assumption | with_reducible apply State.edges_keeps)

theorem State.untilClock_keeps {md : Bool} {orig : State} {s : State} {t : Time} (hkeep : Keeps md orig s) :
    Keeps md orig (State.untilClock s t) := by
  unfold State.untilClock
  try dsimp only
  repeat' (first | with_reducible assumption | with_reducible apply State.edges_keeps)

theorem State.setBase_keeps {md : Bool} {orig : State} {s : State} {tick : Nat} {t : Time} (hkeep : Keeps md orig s) :
    Keeps md orig (State.setBase s tick t) := by
  unfold State.setBase
  try dsimp only
  repeat' (first
    | with_reducible assumption | with_reducible apply State.wrWords_keeps | with_reducible apply State.wr64_keeps)

theorem State.setDelta_keeps {md : Bool} {orig : State} {s : State} {d : Time} (hkeep : Keeps md orig s) :
    Keeps md orig (State.setDelta s d) := by
  unfold State.setDelta
  try dsimp only
  repeat' (first
    | with_reducible assumption | with_reducible apply State.wr_keeps | with_reducible apply State.rest_keeps
    | rw [State.rest_eq])

theorem State.untilSrc_keeps {md : Bool} {orig : State} {s : State} {t : Time} (hkeep : Keeps md orig s) :
    Keeps md orig (State.untilSrc s t) := by
  unfold State.untilSrc
  try dsimp only
  repeat' (first | with_reducible assumption | with_reducible apply State.untilTb_keeps)

/-! ### Rings -/

theorem State.setQueue_keeps {md : Bool} {orig : State} {s : State} {q : Nat} {x : QueueSt} (hkeep : Keeps md orig s) :
    Keeps md orig (State.setQueue s q x) := by
  unfold State.setQueue
  try dsimp only
  repeat' (first
    | with_reducible assumption | with_reducible apply State.setF_keeps | with_reducible apply Keeps.ite
    | with_reducible apply State.rest_keeps | rw [State.rest_eq] | split)

theorem State.setEntry_keeps {md : Bool} {orig : State} {s : State} {q : Nat} {e : Entry} (hkeep : Keeps md orig s) :
    Keeps md orig (State.setEntry s q e) := by
  unfold State.setEntry
  try dsimp only
  repeat' (first
    | with_reducible assumption | with_reducible apply State.setQueue_keeps | with_reducible apply Keeps.ite
    | with_reducible apply State.rest_keeps | rw [State.rest_eq] | split)

theorem State.dropEntry_keeps {md : Bool} {orig : State} {s : State} {q : Nat} {i : Nat} (hkeep : Keeps md orig s) :
    Keeps md orig (State.dropEntry s q i) := by
  unfold State.dropEntry
  try dsimp only
  repeat' (first
    | with_reducible assumption | with_reducible apply State.setQueue_keeps | with_reducible apply State.rest_keeps
    | rw [State.rest_eq])

theorem State.setReserved_keeps {md : Bool} {orig : State} {s : State} {r : Nat} {n : Nat} (hkeep : Keeps md orig s) :
    Keeps md orig (State.setReserved s r n) := by
  unfold State.setReserved
  try dsimp only
  repeat' (first | with_reducible assumption | with_reducible apply State.rest_keeps | rw [State.rest_eq])

theorem State.reserve_keeps {md : Bool} {orig : State} {s : State} {r : Nat} {n : Nat} (hkeep : Keeps md orig s) :
    Keeps md orig (State.reserve s r n) := by
  unfold State.reserve
  try dsimp only
  repeat' (first | with_reducible assumption | with_reducible apply State.setReserved_keeps)

theorem State.unreserve_keeps {md : Bool} {orig : State} {s : State} {r : Nat} {n : Nat} (hkeep : Keeps md orig s) :
    Keeps md orig (State.unreserve s r n) := by
  unfold State.unreserve
  try dsimp only
  repeat' (first | with_reducible assumption | with_reducible apply State.setReserved_keeps)

theorem State.stall_keeps {md : Bool} {orig : State} {s : State} {r : Nat} (hkeep : Keeps md orig s) :
    Keeps md orig (State.stall s r) := by
  unfold State.stall
  try dsimp only
  repeat' (first
    | with_reducible assumption | with_reducible apply State.inc_keeps | with_reducible apply Keeps.ite
    | with_reducible apply State.rest_keeps | rw [State.rest_eq] | split)

theorem State.dataWrite_keeps {md : Bool} {orig : State} {s : State} {f : Requester} {a : Nat} {b : List Byte} (hkeep
    : Keeps md orig s) :
    Keeps md orig (State.dataWrite s f a b) := by
  unfold State.dataWrite
  try dsimp only
  repeat' (first | with_reducible assumption | with_reducible apply State.emit_keeps)

theorem State.putRecord_keeps {md : Bool} {orig : State} {s : State} {r : Nat} {tag : Nat} {status : Nat} {qid : Nat}
    {info : Nat} {amend : Bool} (hkeep : Keeps md orig s) :
    Keeps md orig (State.putRecord s r tag status qid info amend) := by
  unfold State.putRecord
  try dsimp only
  repeat' (first
    | with_reducible assumption | with_reducible apply State.event_keeps | with_reducible apply State.emit_keeps
    | with_reducible apply State.inc_keeps | with_reducible apply State.setF_keeps)

theorem State.publishHead_keeps {md : Bool} {orig : State} {s : State} {q : Nat} {l : Nat} (hkeep : Keeps md orig s) :
    Keeps md orig (State.publishHead s q l) := by
  induction l generalizing s q with
  | zero =>
    unfold State.publishHead
    try dsimp only
    repeat' (first
      | (with_reducible assumption)
      | fail
      | with_reducible apply State.setQueue_keeps
      | with_reducible apply State.setF_keeps
      | with_reducible apply Keeps.ite
      | with_reducible apply State.rest_keeps
      | rw [State.rest_eq]
      | split)
  | succ n ih =>
    unfold State.publishHead
    try dsimp only
    repeat' (first
      | with_reducible assumption | with_reducible apply ih | with_reducible apply State.setQueue_keeps
      | with_reducible apply State.setF_keeps | with_reducible apply Keeps.ite
      | with_reducible apply State.rest_keeps | rw [State.rest_eq] | split)

theorem State.setPme_keeps {md : Bool} {orig : State} {s : State} {r : Requester} (hkeep : Keeps md orig s) :
    Keeps md orig (State.setPme s r) := by
  unfold State.setPme
  try dsimp only
  repeat' (first
    | with_reducible assumption | with_reducible apply State.emit_keeps | with_reducible apply State.setBit_keeps
    | with_reducible apply Keeps.ite | split)

theorem State.finishRecord_keeps {md : Bool} {orig : State} {s : State} {h : HeldWrite} (hkeep : Keeps md orig s) :
    Keeps md orig (State.finishRecord s h) := by
  unfold State.finishRecord
  try dsimp only
  repeat' (first
    | with_reducible assumption | with_reducible apply State.publishHead_keeps
    | with_reducible apply State.putRecord_keeps | with_reducible apply State.unreserve_keeps
    | with_reducible apply State.setQueue_keeps | with_reducible apply State.event_keeps
    | with_reducible apply State.inc_keeps | with_reducible apply Keeps.ite | with_reducible apply State.rest_keeps
    | rw [State.rest_eq] | split)

theorem State.record_keeps {md : Bool} {orig : State} {s : State} {h : HeldWrite} (hkeep : Keeps md orig s) :
    Keeps md orig (State.record s h) := by
  unfold State.record
  try dsimp only
  repeat' (first
    | with_reducible assumption | with_reducible apply State.finishRecord_keeps
    | with_reducible apply State.setPme_keeps | with_reducible apply Keeps.ite
    | with_reducible apply State.rest_keeps | rw [State.rest_eq] | split)

theorem State.drainAborts_keeps {md : Bool} {orig : State} {s : State} {q : Nat} {l : List (Nat × Nat)} (hkeep : Keeps
    md orig s) :
    Keeps md orig (State.drainAborts s q l) := by
  induction l generalizing s q with
  | nil =>
    unfold State.drainAborts
    try dsimp only
    repeat' (first
      | (with_reducible assumption)
      | fail
      | with_reducible apply State.record_keeps
      | with_reducible apply State.stall_keeps
      | with_reducible apply State.reserve_keeps
      | with_reducible apply State.setQueue_keeps
      | with_reducible apply Keeps.ite
      | with_reducible apply State.rest_keeps
      | rw [State.rest_eq]
      | split)
  | cons x l ih =>
    unfold State.drainAborts
    try dsimp only
    repeat' (first
      | with_reducible assumption | with_reducible apply ih | with_reducible apply State.record_keeps
      | with_reducible apply State.stall_keeps | with_reducible apply State.reserve_keeps
      | with_reducible apply State.setQueue_keeps | with_reducible apply Keeps.ite
      | with_reducible apply State.rest_keeps | rw [State.rest_eq] | split)

theorem State.freeRunAhead_keeps {md : Bool} {orig : State} {s : State} {q : Nat} {e : Entry} (hkeep : Keeps md orig
    s) :
    Keeps md orig (State.freeRunAhead s q e) := by
  unfold State.freeRunAhead
  try dsimp only
  repeat' (first
    | with_reducible assumption | with_reducible apply State.wrN_keeps | with_reducible apply Keeps.ite | split)

theorem State.endBinding_keeps {md : Bool} {orig : State} {s : State} {q : Nat} {e : Entry} {status : Nat} (hkeep :
    Keeps md orig s) :
    Keeps md orig (State.endBinding s q e status) := by
  unfold State.endBinding
  try dsimp only
  repeat' (first
    | with_reducible assumption | with_reducible apply Keeps.ite | with_reducible apply State.rest_keeps
    | rw [State.rest_eq] | split)

theorem State.discardEntry_keeps {md : Bool} {orig : State} {s : State} {q : Nat} {e : Entry} (hkeep : Keeps md orig
    s) :
    Keeps md orig (State.discardEntry s q e) := by
  unfold State.discardEntry
  try dsimp only
  repeat' (first
    | with_reducible assumption | with_reducible apply State.endBinding_keeps
    | with_reducible apply State.freeRunAhead_keeps | with_reducible apply State.unreserve_keeps
    | with_reducible apply State.dropEntry_keeps | with_reducible apply State.unline_keeps
    | with_reducible apply Keeps.ite | with_reducible apply State.rest_keeps | rw [State.rest_eq] | split)

theorem State.stopQueue_keeps {md : Bool} {orig : State} {s : State} {q : Nat} {cause : Nat} (hkeep : Keeps md orig s) :
    Keeps md orig (State.stopQueue s q cause) := by
  unfold State.stopQueue
  try dsimp only
  repeat' (first
    | with_reducible assumption | (intro _; intros) | with_reducible apply State.discardEntry_keeps
    | with_reducible apply State.drainAborts_keeps | with_reducible apply State.setQueue_keeps
    | with_reducible apply State.raise_keeps | with_reducible apply State.inc_keeps
    | with_reducible apply State.setF_keeps | with_reducible refine forEach_keeps ?_ ?_
    | with_reducible apply Keeps.ite | with_reducible apply State.rest_keeps | rw [State.rest_eq] | split)

theorem State.settleFailed_keeps {md : Bool} {orig : State} {s : State} {q : Nat} (hkeep : Keeps md orig s) :
    Keeps md orig (State.settleFailed s q) := by
  unfold State.settleFailed
  try dsimp only
  repeat' (first
    | with_reducible assumption | with_reducible apply State.stopQueue_keeps
    | with_reducible apply State.record_keeps | with_reducible apply State.stall_keeps
    | with_reducible apply State.reserve_keeps | with_reducible apply State.dropEntry_keeps
    | with_reducible apply Keeps.ite | with_reducible apply State.rest_keeps | rw [State.rest_eq] | split)

theorem State.complete_keeps {md : Bool} {orig : State} {s : State} {q : Nat} {i : Nat} {tag : Nat} {status : Nat}
    {info : Nat} (hkeep : Keeps md orig s) :
    Keeps md orig (State.complete s q i tag status info) := by
  unfold State.complete
  try dsimp only
  repeat' (first
    | with_reducible assumption | with_reducible apply State.settleFailed_keeps
    | with_reducible apply State.record_keeps | with_reducible apply State.dropEntry_keeps
    | with_reducible apply State.rest_keeps | rw [State.rest_eq])

theorem State.answerCmds_keeps {md : Bool} {orig s : State} {j : Nat} {code : Nat} (hkeep : Keeps md orig s) :
    Keeps md orig (s.answerCmds j code) := by
  unfold State.answerCmds
  dsimp only
  refine forEach_keeps (hkeep.trans ⟨id, id, fun x => ?_, rfl, ⟨[], rfl⟩, fun _ => rfl⟩) ?_
  · unfold State.quiet at x ⊢
    rw [List.all_eq_true] at x ⊢
    intro w hw
    exact x w (List.mem_filter.mp hw).1
  · intro a y hy
    split
    · exact State.complete_keeps hy
    · exact hy

/-- After the entries in the middle of their issue are answered none is. -/
theorem State.answerCmds_clears (s : State) (code : Nat) : (s.answerCmds issuing code).quiet = true := by
  unfold State.answerCmds
  dsimp only
  have h0 : State.quiet { s with csrWait := s.csrWait.filter (fun w => w.1 != issuing) } = true := by
    unfold State.quiet
    rw [List.all_eq_true]
    intro w hw
    exact (List.mem_filter.mp hw).2
  refine (forEach_keeps (m := true) (Keeps.refl _ _) ?_).quiet h0
  intro a y hy
  split
  · exact State.complete_keeps hy
  · exact hy

theorem State.noteResult_keeps {md : Bool} {orig : State} {s : State} {k : Nat} {code : Nat} (hkeep : Keeps md orig s) :
    Keeps md orig (State.noteResult s k code) := by
  unfold State.noteResult
  try dsimp only
  repeat' (first
    | with_reducible assumption | with_reducible apply Answer.state_keeps | with_reducible apply State.inc_keeps
    | with_reducible apply State.setF_keeps | with_reducible apply Keeps.ite | split)

theorem State.result_keeps {md : Bool} {orig : State} {s : State} {k : Nat} {code : Nat} (hkeep : Keeps md orig s) :
    Keeps md orig (State.result s k code) := by
  unfold State.result
  try dsimp only
  repeat' (first
    | with_reducible assumption | with_reducible apply State.noteResult_keeps
    | with_reducible apply State.answerCmds_keeps)

theorem State.finish_keeps {md : Bool} {orig : State} {s : State} {j : Nat} {k : Nat} {code : Nat} (hkeep : Keeps md
    orig s) :
    Keeps md orig (State.finish s j k code) := by
  unfold State.finish
  try dsimp only
  repeat' (first
    | with_reducible assumption | with_reducible apply State.noteResult_keeps
    | with_reducible apply State.answerCmds_keeps)

theorem State.stopDone_keeps {md : Bool} {orig : State} {s : State} {q : Nat} (hkeep : Keeps md orig s) :
    Keeps md orig (State.stopDone s q) := by
  unfold State.stopDone
  try dsimp only
  repeat' (first
    | with_reducible assumption | with_reducible apply State.finish_keeps | with_reducible apply State.setQueue_keeps
    | with_reducible apply State.setBit_keeps | with_reducible apply Keeps.ite
    | with_reducible apply State.rest_keeps | rw [State.rest_eq] | split)

theorem State.settleStop_keeps {md : Bool} {orig : State} {s : State} {q : Nat} (hkeep : Keeps md orig s) :
    Keeps md orig (State.settleStop s q) := by
  unfold State.settleStop
  try dsimp only
  repeat' (first
    | with_reducible assumption | with_reducible apply State.stopDone_keeps | with_reducible apply State.setF_keeps
    | with_reducible apply Keeps.ite | split)

/-! ### Board -/

theorem State.compareEntry_keeps {md : Bool} {orig : State} {s : State} {u : Nat} (hkeep : Keeps md orig s) :
    Keeps md orig (State.compareEntry s u) := by
  unfold State.compareEntry
  try dsimp only
  repeat' (first
    | with_reducible assumption | with_reducible apply State.wrN_keeps | with_reducible apply Keeps.ite | split)

theorem State.compareBoard_keeps {md : Bool} {orig : State} {s : State} (hkeep : Keeps md orig s) :
    Keeps md orig (State.compareBoard s) := by
  unfold State.compareBoard
  try dsimp only
  repeat' (first
    | with_reducible assumption | (intro _; intros) | with_reducible apply State.compareEntry_keeps
    | with_reducible apply State.condition_keeps | with_reducible refine forEach_keeps ?_ ?_)

/-! ### Gate -/

theorem State.csrTimeout_keeps {md : Bool} {orig : State} {s : State} {k : Nat} (hkeep : Keeps md orig s) :
    Keeps md orig (State.csrTimeout s k) := by
  unfold State.csrTimeout
  try dsimp only
  repeat' (first | with_reducible assumption | with_reducible apply State.raise_keeps)

theorem State.guarded_keeps {md : Bool} {orig : State} {s : State} {r : Requester} {k : Nat} {f : State → State}
    (hkeep : Keeps md orig s) (hstep : ∀ y, Keeps md orig y → Keeps md orig (f  y)) :
    Keeps md orig (State.guarded s r k f) := by
  unfold State.guarded
  try dsimp only
  repeat' (first
    | with_reducible assumption | with_reducible apply hstep | with_reducible apply State.csrTimeout_keeps
    | with_reducible apply State.inc_keeps | with_reducible apply State.rest_keeps | rw [State.rest_eq] | split)

theorem State.setWide_keeps {md : Bool} {orig : State} {s : State} {w : WideSt} (hkeep : Keeps md orig s) :
    Keeps md orig (State.setWide s w) := by
  unfold State.setWide
  try dsimp only
  repeat' (first | with_reducible assumption | with_reducible apply State.rest_keeps | rw [State.rest_eq])

/-! ### Swaps -/

theorem State.addReq_keeps {md : Bool} {orig : State} {s : State} {r : SwapReq} (hkeep : Keeps md orig s) :
    Keeps md orig (State.addReq s r) := by
  unfold State.addReq
  try dsimp only
  repeat' (first | with_reducible assumption | with_reducible apply State.rest_keeps | rw [State.rest_eq])

theorem State.dropReqs_keeps {md : Bool} {orig : State} {s : State} {p : SwapReq → Bool} (hkeep : Keeps md orig s) :
    Keeps md orig (State.dropReqs s p) := by
  unfold State.dropReqs
  try dsimp only
  repeat' (first | with_reducible assumption | with_reducible apply State.rest_keeps | rw [State.rest_eq])

theorem State.requestNext_keeps {md : Bool} {orig : State} {s : State} {k : SwapKind} (hkeep : Keeps md orig s) :
    Keeps md orig (State.requestNext s k) := by
  unfold State.requestNext
  try dsimp only
  repeat' (first
    | with_reducible assumption | with_reducible apply State.addReq_keeps | with_reducible apply State.rest_keeps
    | rw [State.rest_eq])

theorem State.setBank_keeps {md : Bool} {orig : State} {s : State} {p : Nat} {b : List Byte} (hkeep : Keeps md orig s) :
    Keeps md orig (State.setBank s p b) := by
  unfold State.setBank
  try dsimp only
  repeat' (first | with_reducible assumption | with_reducible apply State.rest_keeps | rw [State.rest_eq])

theorem State.setShadow_keeps {md : Bool} {orig : State} {s : State} {p : Nat} {b : List Byte} (hkeep : Keeps md orig
    s) :
    Keeps md orig (State.setShadow s p b) := by
  unfold State.setShadow
  try dsimp only
  repeat' (first | with_reducible assumption | with_reducible apply State.wrWords_keeps)

theorem State.lastSwap_keeps {md : Bool} {orig : State} {s : State} {p : Nat} {v : Nat} (hkeep : Keeps md orig s) :
    Keeps md orig (State.lastSwap s p v) := by
  unfold State.lastSwap
  try dsimp only
  repeat' (first | with_reducible assumption | with_reducible apply State.setF_keeps)

theorem State.settleOwned_keeps {md : Bool} {orig : State} {s : State} {p : Nat} (hkeep : Keeps md orig s) :
    Keeps md orig (State.settleOwned s p) := by
  unfold State.settleOwned
  try dsimp only
  repeat' (first | with_reducible assumption | with_reducible apply State.setBit_keeps)

theorem State.bankFailed_keeps {md : Bool} {orig : State} {s : State} {p : Nat} (hkeep : Keeps md orig s) :
    Keeps md orig (State.bankFailed s p) := by
  unfold State.bankFailed
  try dsimp only
  repeat' (first
    | with_reducible assumption | with_reducible apply State.lastSwap_keeps | with_reducible apply State.raise_keeps
    | with_reducible apply State.inc_keeps | with_reducible apply State.hwSet_keeps)

theorem State.swapBank_keeps {md : Bool} {orig : State} {s : State} {p : Nat} {t : Nat} {late : Bool} (hkeep : Keeps
    md orig s) :
    Keeps md orig (State.swapBank s p t late) := by
  unfold State.swapBank
  try dsimp only
  repeat' (first
    | with_reducible assumption | with_reducible apply State.lastSwap_keeps
    | with_reducible apply State.setShadow_keeps | with_reducible apply State.setBank_keeps
    | with_reducible apply State.inc_keeps | with_reducible apply State.setF_keeps
    | with_reducible apply State.wrN_keeps | with_reducible apply Keeps.ite | split)

/-! ### Frames -/

theorem State.enqueue_keeps {md : Bool} {orig : State} {s : State} {f : TxFrame} (hkeep : Keeps md orig s) :
    Keeps md orig (State.enqueue s f) := by
  unfold State.enqueue
  try dsimp only
  repeat' (first
    | with_reducible assumption | with_reducible apply id_keeps | with_reducible apply State.rest_keeps
    | rw [State.rest_eq])

/-! ### Goose -/

theorem State.setGcb_keeps {md : Bool} {orig : State} {s : State} {i : Nat} {g : GcbSt} (hkeep : Keeps md orig s) :
    Keeps md orig (State.setGcb s i g) := by
  unfold State.setGcb
  try dsimp only
  repeat' (first | with_reducible assumption | with_reducible apply State.rest_keeps | rw [State.rest_eq])

theorem State.tplWrite_keeps {md : Bool} {orig : State} {s : State} {a : Nat} {l : List Byte} (hkeep : Keeps md orig
    s) :
    Keeps md orig (State.tplWrite s a l) := by
  induction l generalizing s a with
  | nil =>
    unfold State.tplWrite
    try dsimp only
    repeat' (first
      | (with_reducible assumption)
      | fail
      | with_reducible apply State.rest_keeps
      | rw [State.rest_eq]
      | split)
  | cons x l ih =>
    unfold State.tplWrite
    try dsimp only
    repeat' (first
      | with_reducible assumption | with_reducible apply ih | with_reducible apply State.rest_keeps
      | rw [State.rest_eq] | split)

theorem State.gcbWait_keeps {md : Bool} {orig : State} {s : State} {i : Nat} (hkeep : Keeps md orig s) :
    Keeps md orig (State.gcbWait s i) := by
  unfold State.gcbWait
  try dsimp only
  repeat' (first
    | with_reducible assumption | with_reducible apply State.setGcb_keeps | with_reducible apply State.inc_keeps
    | with_reducible apply State.setBit_keeps | with_reducible apply Keeps.ite
    | with_reducible apply State.rest_keeps | rw [State.rest_eq] | split)

theorem State.gcbDrop_keeps {md : Bool} {orig : State} {s : State} {i : Nat} (hkeep : Keeps md orig s) :
    Keeps md orig (State.gcbDrop s i) := by
  unfold State.gcbDrop
  try dsimp only
  repeat' (first | with_reducible assumption | with_reducible apply State.setBit_keeps)

theorem State.gcbDue_keeps {md : Bool} {orig : State} {s : State} {i : Nat} (hkeep : Keeps md orig s) :
    Keeps md orig (State.gcbDue s i) := by
  unfold State.gcbDue
  try dsimp only
  repeat' (first
    | with_reducible assumption | with_reducible apply State.gcbWait_keeps | with_reducible apply State.setGcb_keeps
    | with_reducible apply State.inc_keeps | with_reducible apply Keeps.ite | with_reducible apply State.rest_keeps
    | rw [State.rest_eq] | split)

theorem State.gcbRestart_keeps {md : Bool} {orig : State} {s : State} {i : Nat} (hkeep : Keeps md orig s) :
    Keeps md orig (State.gcbRestart s i) := by
  unfold State.gcbRestart
  try dsimp only
  repeat' (first
    | with_reducible assumption | with_reducible apply State.gcbDue_keeps | with_reducible apply State.gcbDrop_keeps
    | with_reducible apply State.setGcb_keeps | with_reducible apply State.rest_keeps | rw [State.rest_eq])

theorem State.gcbCommit_keeps {md : Bool} {orig : State} {s : State} {i : Nat} {late : Bool} (hkeep : Keeps md orig s) :
    Keeps md orig (State.gcbCommit s i late) := by
  unfold State.gcbCommit
  try dsimp only
  repeat' (first
    | with_reducible assumption | with_reducible apply State.gcbRestart_keeps
    | with_reducible apply State.setBit_keeps | with_reducible apply State.wrN_keeps
    | with_reducible apply State.wr_keeps)

/-! ### Line -/

theorem State.completeTx_keeps {md : Bool} {orig : State} {s : State} {q : Nat} {e : Entry} {unconfirmed : Bool}
    (hkeep : Keeps md orig s) :
    Keeps md orig (State.completeTx s q e unconfirmed) := by
  unfold State.completeTx
  try dsimp only
  repeat' (first
    | with_reducible assumption | with_reducible apply State.complete_keeps | with_reducible apply Keeps.ite | split)

theorem State.completeCancel_keeps {md : Bool} {orig : State} {s : State} {q : Nat} {e : Entry} (hkeep : Keeps md orig
    s) :
    Keeps md orig (State.completeCancel s q e) := by
  unfold State.completeCancel
  try dsimp only
  repeat' (first
    | with_reducible assumption | with_reducible apply State.completeTx_keeps
    | with_reducible apply State.endBinding_keeps | with_reducible apply State.setEntry_keeps
    | with_reducible apply Keeps.ite | with_reducible apply State.rest_keeps | rw [State.rest_eq] | split)

theorem State.frameDone_keeps {md : Bool} {orig : State} {s : State} {q : Nat} {e : Entry} (hkeep : Keeps md orig s) :
    Keeps md orig (State.frameDone s q e) := by
  unfold State.frameDone
  try dsimp only
  repeat' (first
    | with_reducible assumption | with_reducible apply State.completeCancel_keeps
    | with_reducible apply State.completeTx_keeps | with_reducible apply State.endBinding_keeps
    | with_reducible apply State.freeRunAhead_keeps | with_reducible apply State.setEntry_keeps
    | with_reducible apply Keeps.ite | with_reducible apply State.rest_keeps | rw [State.rest_eq] | split)

theorem State.endCopy_keeps {md : Bool} {orig : State} {s : State} {src : TxSrc} {c : CopyEnd} (hkeep : Keeps md orig
    s) :
    Keeps md orig (State.endCopy s src c) := by
  unfold State.endCopy
  try dsimp only
  repeat' (first
    | with_reducible assumption | with_reducible apply State.frameDone_keeps
    | with_reducible apply State.settleStop_keeps | with_reducible apply State.setEntry_keeps
    | with_reducible apply Keeps.ite | with_reducible apply State.rest_keeps | rw [State.rest_eq] | split)

theorem State.dropFrame_keeps {md : Bool} {orig : State} {s : State} {f : TxFrame} {ports : List Nat} {status : Nat}
    (hkeep : Keeps md orig s) :
    Keeps md orig (State.dropFrame s f ports status) := by
  unfold State.dropFrame
  try dsimp only
  repeat' (first
    | with_reducible assumption | (intro _; intros) | with_reducible apply State.endCopy_keeps
    | with_reducible apply id_keeps | with_reducible refine forEach_keeps ?_ ?_ | with_reducible apply Keeps.ite
    | with_reducible apply State.rest_keeps | rw [State.rest_eq] | split)

theorem State.countSent_keeps {md : Bool} {orig : State} {s : State} {p : Nat} {l : LineSt} (hkeep : Keeps md orig s) :
    Keeps md orig (State.countSent s p l) := by
  unfold State.countSent
  try dsimp only
  repeat' (first
    | with_reducible assumption | with_reducible apply State.inc64_keeps | with_reducible apply State.inc64By_keeps
    | with_reducible apply Keeps.ite | split)

theorem State.emitStart_keeps {md : Bool} {orig : State} {s : State} {p : Nat} {l : LineSt} (hkeep : Keeps md orig s) :
    Keeps md orig (State.emitStart s p l) := by
  unfold State.emitStart
  try dsimp only
  repeat' (first
    | with_reducible assumption | with_reducible apply State.emit_keeps | with_reducible apply Keeps.ite
    | with_reducible apply State.rest_keeps | rw [State.rest_eq] | split)

theorem State.emitCut_keeps {md : Bool} {orig : State} {s : State} {p : Nat} {l : LineSt} {n : Nat} {m : Bool} (hkeep
    : Keeps md orig s) :
    Keeps md orig (State.emitCut s p l n m) := by
  unfold State.emitCut
  try dsimp only
  repeat' (first | with_reducible assumption | with_reducible apply State.emit_keeps)

theorem State.lineOver_keeps {md : Bool} {orig : State} {s : State} {p : Nat} (hkeep : Keeps md orig s) :
    Keeps md orig (State.lineOver s p) := by
  unfold State.lineOver
  try dsimp only
  repeat' (first
    | with_reducible assumption | with_reducible apply State.emitCut_keeps
    | with_reducible apply State.countSent_keeps | with_reducible apply State.endCopy_keeps
    | with_reducible apply State.setPort_keeps | with_reducible apply State.emit_keeps
    | with_reducible apply State.inc64_keeps | with_reducible apply Keeps.ite | with_reducible apply State.rest_keeps
    | rw [State.rest_eq] | split)

theorem State.settleLine_keeps {md : Bool} {orig : State} {s : State} {p : Nat} (hkeep : Keeps md orig s) :
    Keeps md orig (State.settleLine s p) := by
  unfold State.settleLine
  try dsimp only
  repeat' (first
    | with_reducible assumption | with_reducible apply State.lineOver_keeps | with_reducible apply Keeps.ite
    | with_reducible apply State.rest_keeps | rw [State.rest_eq] | split)

theorem State.cutLine_keeps {md : Bool} {orig : State} {s : State} {p : Nat} {l : Option LineSt} (hkeep : Keeps md
    orig s) :
    Keeps md orig (State.cutLine s p l) := by
  unfold State.cutLine
  try dsimp only
  repeat' (first
    | with_reducible assumption | with_reducible apply State.endCopy_keeps | with_reducible apply State.inc64_keeps
    | with_reducible apply State.rest_keeps | rw [State.rest_eq] | split)

theorem State.requeue_keeps {md : Bool} {orig : State} {s : State} {p : Nat} {f : TxFrame} (hkeep : Keeps md orig s) :
    Keeps md orig (State.requeue s p f) := by
  unfold State.requeue
  try dsimp only
  repeat' (first
    | with_reducible assumption | with_reducible apply id_keeps | with_reducible apply Keeps.ite
    | with_reducible apply State.rest_keeps | rw [State.rest_eq] | split)

theorem State.unselect_keeps {md : Bool} {orig : State} {s : State} {p : Nat} (hkeep : Keeps md orig s) :
    Keeps md orig (State.unselect s p) := by
  unfold State.unselect
  try dsimp only
  repeat' (first
    | with_reducible assumption | with_reducible apply State.requeue_keeps | with_reducible apply State.setPort_keeps
    | with_reducible apply Keeps.ite | with_reducible apply State.rest_keeps | rw [State.rest_eq] | split)

theorem State.cutPort_keeps {md : Bool} {orig : State} {s0 : State} {p : Nat} (hkeep : Keeps md orig s0) :
    Keeps md orig (State.cutPort s0 p) := by
  unfold State.cutPort
  try dsimp only
  repeat' (first
    | with_reducible assumption | with_reducible apply State.unselect_keeps
    | with_reducible apply State.cutLine_keeps | with_reducible apply State.emitCut_keeps
    | with_reducible apply State.setPort_keeps | with_reducible apply State.rest_keeps | rw [State.rest_eq] | split)

theorem State.flushContained_keeps {md : Bool} {orig : State} {s : State} {p : Nat} (hkeep : Keeps md orig s) :
    Keeps md orig (State.flushContained s p) := by
  unfold State.flushContained
  try dsimp only
  repeat' (first
    | with_reducible assumption | (intro _; intros) | with_reducible apply State.dropFrame_keeps
    | with_reducible apply State.gcbDrop_keeps | with_reducible apply State.inc_keeps
    | with_reducible refine forEach_keeps ?_ ?_ | with_reducible apply Keeps.ite
    | with_reducible apply State.rest_keeps | rw [State.rest_eq] | split)

theorem State.flushFault_keeps {md : Bool} {orig : State} {s : State} {p : Nat} {l : Nat} (hkeep : Keeps md orig s) :
    Keeps md orig (State.flushFault s p l) := by
  induction l generalizing s p with
  | zero =>
    unfold State.flushFault
    try dsimp only
    repeat' (first
      | (with_reducible assumption)
      | fail
      | with_reducible apply State.dropFrame_keeps
      | with_reducible apply Keeps.ite
      | with_reducible apply State.rest_keeps
      | rw [State.rest_eq]
      | split)
  | succ n ih =>
    unfold State.flushFault
    try dsimp only
    repeat' (first
      | with_reducible assumption | with_reducible apply ih | with_reducible apply State.dropFrame_keeps
      | with_reducible apply Keeps.ite | with_reducible apply State.rest_keeps | rw [State.rest_eq] | split)

theorem State.flushPort_keeps {md : Bool} {orig : State} {s : State} {p : Nat} (hkeep : Keeps md orig s) :
    Keeps md orig (State.flushPort s p) := by
  unfold State.flushPort
  try dsimp only
  repeat' (first
    | with_reducible assumption | with_reducible apply State.flushFault_keeps
    | with_reducible apply State.flushContained_keeps | with_reducible apply Keeps.ite | split)

theorem State.noteBlocked_keeps {md : Bool} {orig : State} {s : State} {p : Nat} (hkeep : Keeps md orig s) :
    Keeps md orig (State.noteBlocked s p) := by
  unfold State.noteBlocked
  try dsimp only
  repeat' (first
    | with_reducible assumption | with_reducible apply State.setPort_keeps | with_reducible apply State.inc_keeps
    | with_reducible apply id_keeps | with_reducible apply Keeps.ite | with_reducible apply State.rest_keeps
    | rw [State.rest_eq] | split)

theorem State.denyHead_keeps {md : Bool} {orig : State} {s : State} {p : Nat} (hkeep : Keeps md orig s) :
    Keeps md orig (State.denyHead s p) := by
  unfold State.denyHead
  try dsimp only
  repeat' (first
    | with_reducible assumption | with_reducible apply State.noteBlocked_keeps
    | with_reducible apply State.dropFrame_keeps | with_reducible apply State.gcbDrop_keeps
    | with_reducible apply State.raise_keeps | with_reducible apply id_keeps | with_reducible apply Keeps.ite
    | with_reducible apply State.rest_keeps | rw [State.rest_eq] | split)

/-! ### Staircase -/

theorem State.assertHold_keeps {md : Bool} {orig : State} {s : State} {p : Nat} (hkeep : Keeps md orig s) :
    Keeps md orig (State.assertHold s p) := by
  unfold State.assertHold
  try dsimp only
  repeat' (first
    | with_reducible assumption | with_reducible apply State.preemptNow_keeps
    | with_reducible apply State.inc64_keeps | with_reducible apply State.setBit_keeps
    | with_reducible apply Keeps.ite | split)

theorem State.checkOverrun_keeps {md : Bool} {orig : State} {s : State} {p : Nat} (hkeep : Keeps md orig s) :
    Keeps md orig (State.checkOverrun s p) := by
  unfold State.checkOverrun
  try dsimp only
  repeat' (first
    | with_reducible assumption | with_reducible apply State.raise_keeps
    | with_reducible apply State.markOverrun_keeps | with_reducible apply State.preemptNow_keeps
    | with_reducible apply Keeps.ite | with_reducible apply State.rest_keeps | rw [State.rest_eq] | split)

theorem State.startTread_keeps {md : Bool} {orig : State} {s : State} {p : Nat} {i : Nat} (hkeep : Keeps md orig s) :
    Keeps md orig (State.startTread s p i) := by
  unfold State.startTread
  try dsimp only
  repeat' (first
    | with_reducible assumption | with_reducible apply State.checkOverrun_keeps
    | with_reducible apply State.assertHold_keeps | with_reducible apply State.denyHead_keeps
    | with_reducible apply State.noteBlocked_keeps | with_reducible apply State.unselect_keeps
    | with_reducible apply State.settleLine_keeps | with_reducible apply State.setPort_keeps
    | with_reducible apply State.setBit_keeps | with_reducible apply State.setF_keeps
    | with_reducible apply Keeps.ite | with_reducible apply State.rest_keeps | rw [State.rest_eq] | split)

theorem State.catchUp_keeps {md : Bool} {orig : State} {s : State} {p : Nat} {l : Nat} (hkeep : Keeps md orig s) :
    Keeps md orig (State.catchUp s p l) := by
  induction l generalizing s p with
  | zero =>
    unfold State.catchUp
    try dsimp only
    repeat' (first
      | (with_reducible assumption)
      | fail
      | with_reducible apply State.startTread_keeps
      | with_reducible apply Keeps.ite
      | split)
  | succ n ih =>
    unfold State.catchUp
    try dsimp only
    repeat' (first
      | with_reducible assumption | with_reducible apply ih | with_reducible apply State.startTread_keeps
      | with_reducible apply Keeps.ite | split)

theorem State.settlePort_keeps {md : Bool} {orig : State} {s : State} {p : Nat} (hkeep : Keeps md orig s) :
    Keeps md orig (State.settlePort s p) := by
  unfold State.settlePort
  try dsimp only
  repeat' (first
    | with_reducible assumption | with_reducible apply State.catchUp_keeps
    | with_reducible apply State.settleLine_keeps)

theorem State.landPort_keeps {md : Bool} {orig : State} {s : State} {p : Nat} (hkeep : Keeps md orig s) :
    Keeps md orig (State.landPort s p) := by
  unfold State.landPort
  try dsimp only
  repeat' (first
    | with_reducible assumption | with_reducible apply State.startTread_keeps
    | with_reducible apply State.checkOverrun_keeps | with_reducible apply State.flushPort_keeps
    | with_reducible apply State.unselect_keeps | with_reducible apply State.setF_keeps
    | with_reducible apply Keeps.ite | with_reducible apply State.rest_keeps | rw [State.rest_eq] | split)

theorem execTreadStart_keeps {md : Bool} {orig : State} {p : Nat} {s : State} (hkeep : Keeps md orig s) :
    Keeps md orig (Answer.state (execTreadStart p s) s) := by
  unfold execTreadStart
  try unfold Answer.state
  try dsimp only
  repeat' (first
    | with_reducible assumption | with_reducible apply State.settlePort_keeps
    | with_reducible apply State.untilSrc_keeps | with_reducible apply Keeps.ite
    | with_reducible apply State.rest_keeps | rw [State.rest_eq] | split)

theorem execMmHoldAssert_keeps {md : Bool} {orig : State} {p : Nat} {s : State} (hkeep : Keeps md orig s) :
    Keeps md orig (Answer.state (execMmHoldAssert p s) s) := by
  unfold execMmHoldAssert
  try unfold Answer.state
  try dsimp only
  repeat' (first
    | with_reducible assumption | with_reducible apply State.settlePort_keeps
    | with_reducible apply State.assertHold_keeps | with_reducible apply State.settleLine_keeps
    | with_reducible apply State.untilSrc_keeps | with_reducible apply Keeps.ite
    | with_reducible apply State.rest_keeps | rw [State.rest_eq] | split)

theorem execCommitAt_keeps {md : Bool} {orig : State} {req : Requester} {p : Nat} {s : State} (hkeep : Keeps md orig
    s) :
    Keeps md orig (Answer.state (execCommitAt req p s) s) := by
  unfold execCommitAt
  try unfold Answer.state
  try dsimp only
  repeat' (first
    | with_reducible assumption | (intro _; intros) | with_reducible apply State.settleOwned_keeps
    | with_reducible apply State.lastSwap_keeps | with_reducible apply State.addReq_keeps
    | with_reducible refine State.guarded_keeps ?_ ?_ | with_reducible apply State.result_keeps
    | with_reducible apply State.raise_keeps | with_reducible apply Answer.state_keeps
    | with_reducible apply Keeps.ite | with_reducible apply State.rest_keeps | rw [State.rest_eq] | split)

theorem execCommitNext_keeps {md : Bool} {orig : State} {req : Requester} {p : Nat} {s : State} (hkeep : Keeps md orig
    s) :
    Keeps md orig (Answer.state (execCommitNext req p s) s) := by
  unfold execCommitNext
  try unfold Answer.state
  try dsimp only
  repeat' (first
    | with_reducible assumption | (intro _; intros) | with_reducible apply State.settleOwned_keeps
    | with_reducible apply State.requestNext_keeps | with_reducible refine State.guarded_keeps ?_ ?_
    | with_reducible apply State.result_keeps | with_reducible apply Answer.state_keeps
    | with_reducible apply Keeps.ite | split)

theorem execWithdraw_keeps {md : Bool} {orig : State} {req : Requester} {p : Nat} {s : State} (hkeep : Keeps md orig
    s) :
    Keeps md orig (Answer.state (execWithdraw req p s) s) := by
  unfold execWithdraw
  try unfold Answer.state
  try dsimp only
  repeat' (first
    | with_reducible assumption | (intro _; intros) | with_reducible apply State.settleOwned_keeps
    | with_reducible apply State.lastSwap_keeps | with_reducible apply State.dropReqs_keeps
    | with_reducible refine State.guarded_keeps ?_ ?_ | with_reducible apply State.result_keeps
    | with_reducible apply Answer.state_keeps | with_reducible apply Keeps.ite | split)

theorem execSchCmdReserved_keeps {md : Bool} {orig : State} {req : Requester} {p : Nat} {s : State} (hkeep : Keeps md
    orig s) :
    Keeps md orig (Answer.state (execSchCmdReserved req p s) s) := by
  unfold execSchCmdReserved
  try unfold Answer.state
  try dsimp only
  repeat' (first
    | with_reducible assumption | (intro _; intros) | with_reducible refine State.guarded_keeps ?_ ?_
    | with_reducible apply State.result_keeps | with_reducible apply Answer.state_keeps)

theorem execRdSelWrite_keeps {md : Bool} {orig : State} {req : Requester} {v : Reg} {s : State} (hkeep : Keeps md orig
    s) :
    Keeps md orig (Answer.state (execRdSelWrite req v s) s) := by
  unfold execRdSelWrite
  try unfold Answer.state
  try dsimp only
  repeat' (first
    | with_reducible assumption | (intro _; intros) | with_reducible refine State.guarded_keeps ?_ ?_
    | with_reducible apply State.wrWords_keeps | with_reducible apply State.wrN_keeps)

/-! ### Ddr -/

theorem State.wakeMem_keeps {md : Bool} {orig : State} {s : State} {a : Nat} {n : Nat} (hkeep : Keeps md orig s) :
    Keeps md orig (State.wakeMem s a n) := by
  unfold State.wakeMem
  try dsimp only
  repeat' (first
    | with_reducible assumption | (intro _; intros) | with_reducible apply State.wake_keeps
    | with_reducible refine forEach_keeps ?_ ?_ | with_reducible apply Keeps.ite | split)

theorem State.ddrWrite_keeps {orig : State} {s0 : State} {a : Nat} {b : List Byte} (hkeep : Keeps true orig s0) :
    Keeps true orig (State.ddrWrite s0 a b) := by
  unfold State.ddrWrite
  try dsimp only
  repeat' (first
    | with_reducible assumption | (intro _; intros) | with_reducible apply State.wakeMem_keeps
    | with_reducible apply State.memWrite_keeps | with_reducible apply State.inc_keeps
    | with_reducible refine forEach_keeps ?_ ?_ | with_reducible apply State.rest_keeps | rw [State.rest_eq])

theorem State.correctable_keeps {md : Bool} {orig : State} {s : State} {c : Nat} (hkeep : Keeps md orig s) :
    Keeps md orig (State.correctable s c) := by
  unfold State.correctable
  try dsimp only
  repeat' (first
    | with_reducible assumption | with_reducible apply State.raise_keeps | with_reducible apply State.inc_keeps)

theorem State.eccFound_keeps {md : Bool} {orig : State} {s0 : State} {a : Nat} {n : Nat} {l : List EccFind} (hkeep :
    Keeps md orig s0) :
    Keeps md orig (State.eccFound s0 a n l) := by
  unfold State.eccFound
  try dsimp only
  repeat' (first
    | with_reducible assumption | (intro _; intros) | with_reducible apply State.correctable_keeps
    | with_reducible apply State.wakeMem_keeps | with_reducible refine forEach_keeps ?_ ?_
    | with_reducible apply Keeps.ite | with_reducible apply State.rest_keeps | rw [State.rest_eq] | split)

theorem State.ueReport_keeps {md : Bool} {orig : State} {s : State} {a : Nat} {n : Nat} (hkeep : Keeps md orig s) :
    Keeps md orig (State.ueReport s a n) := by
  unfold State.ueReport
  try dsimp only
  repeat' (first
    | with_reducible assumption | (intro _; intros) | with_reducible apply State.raise_keeps
    | with_reducible apply State.inc_keeps | with_reducible refine forEach_keeps ?_ ?_)

theorem State.ddrRead_keeps {md : Bool} {orig : State} {s : State} {a : Nat} {n : Nat} {ecc : List EccFind} (hkeep :
    Keeps md orig s) :
    Keeps md orig (State.ddrRead s a n ecc).1 := by
  unfold State.ddrRead
  try dsimp only
  repeat' (first
    | with_reducible assumption | with_reducible apply State.ueReport_keeps
    | with_reducible apply State.eccFound_keeps | with_reducible apply Keeps.ite | split)

/-! ### Prism -/

theorem State.setSin_keeps {md : Bool} {orig : State} {s : State} {sh : Nat} {x : StreamIn} (hkeep : Keeps md orig s) :
    Keeps md orig (State.setSin s sh x) := by
  unfold State.setSin
  try dsimp only
  repeat' (first | with_reducible assumption | with_reducible apply State.rest_keeps | rw [State.rest_eq])

theorem State.cntIn_keeps {md : Bool} {orig : State} {s : State} {sh : Nat} {c : Nat} {n : Nat} (hkeep : Keeps md orig
    s) :
    Keeps md orig (State.cntIn s sh c n) := by
  unfold State.cntIn
  try dsimp only
  repeat' (first
    | with_reducible assumption | with_reducible apply State.setSin_keeps | with_reducible apply State.rest_keeps
    | rw [State.rest_eq])

theorem State.discardIn_keeps {md : Bool} {orig : State} {s : State} {sh : Nat} {c : Nat} (hkeep : Keeps md orig s) :
    Keeps md orig (State.discardIn s sh c) := by
  unfold State.discardIn
  try dsimp only
  repeat' (first
    | with_reducible assumption | with_reducible apply State.cntIn_keeps | with_reducible apply State.raise_keeps
    | with_reducible apply State.rest_keeps | rw [State.rest_eq] | split)

/-! ### Panes -/

theorem State.setGroup_keeps {md : Bool} {orig : State} {s : State} {g : Nat} {x : PgSt} (hkeep : Keeps md orig s) :
    Keeps md orig (State.setGroup s g x) := by
  unfold State.setGroup
  try dsimp only
  repeat' (first
    | with_reducible assumption | with_reducible apply State.setF_keeps | with_reducible apply State.rest_keeps
    | rw [State.rest_eq])

theorem State.writeOut_keeps {orig : State} {s : State} {g : Nat} {t : Nat} {r : PgRec} {o : OutRec} (hkeep : Keeps
    true orig s) :
    Keeps true orig (State.writeOut s g t r o) := by
  unfold State.writeOut
  try dsimp only
  repeat' (first | with_reducible assumption | with_reducible apply State.ddrWrite_keeps)

theorem State.openPane_keeps {orig : State} {s : State} {g : Nat} {t : Nat} (hkeep : Keeps true orig s) :
    Keeps true orig (State.openPane s g t) := by
  unfold State.openPane
  try dsimp only
  repeat' (first
    | with_reducible assumption | with_reducible apply State.setGroup_keeps
    | with_reducible apply State.ddrWrite_keeps | with_reducible apply Keeps.ite
    | with_reducible apply State.rest_keeps | rw [State.rest_eq] | split)

theorem State.updPane_keeps {md : Bool} {orig : State} {s : State} {g : Nat} {t : Nat} {f : PaneSt → PaneSt} (hkeep :
    Keeps md orig s) :
    Keeps md orig (State.updPane s g t f) := by
  unfold State.updPane
  try dsimp only
  repeat' (first
    | with_reducible assumption | with_reducible apply State.setGroup_keeps | with_reducible apply Keeps.ite
    | with_reducible apply State.rest_keeps | rw [State.rest_eq] | split)

theorem State.putOut_keeps {orig : State} {s : State} {g : Nat} {t : Nat} {r : PgRec} {o : OutRec} (hkeep : Keeps true
    orig s) :
    Keeps true orig (State.putOut s g t r o) := by
  unfold State.putOut
  try dsimp only
  repeat' (first
    | with_reducible assumption | with_reducible apply State.updPane_keeps
    | with_reducible apply State.openPane_keeps | with_reducible apply State.writeOut_keeps
    | with_reducible apply State.rest_keeps | rw [State.rest_eq])

theorem State.evalTick_keeps {orig : State} {s : State} {g : Nat} {r : PgRec} {j : Nat} {sh : Nat} {t : Nat} (hkeep :
    Keeps true orig s) :
    Keeps true orig (State.evalTick s g r j sh t) := by
  unfold State.evalTick
  try dsimp only
  repeat' (first
    | with_reducible assumption | (intro _; intros) | with_reducible apply State.putOut_keeps
    | with_reducible refine forEach_keeps ?_ ?_ | with_reducible apply Keeps.ite
    | with_reducible apply State.rest_keeps | rw [State.rest_eq] | split)

theorem State.evalStream_keeps {orig : State} {s : State} {sh : Nat} (hkeep : Keeps true orig s) :
    Keeps true orig (State.evalStream s sh) := by
  unfold State.evalStream
  try dsimp only
  repeat' (first
    | with_reducible assumption | (intro _; intros) | with_reducible apply State.evalTick_keeps
    | with_reducible refine forEach_keeps ?_ ?_ | with_reducible apply Keeps.ite | split)

theorem State.sealOne_keeps {orig : State} {s : State} {g : Nat} {r : PgRec} {pn : PaneSt} {k : SealKind} (hkeep :
    Keeps true orig s) :
    Keeps true orig (State.sealOne s g r pn k) := by
  unfold State.sealOne
  try dsimp only
  repeat' (first
    | with_reducible assumption | (intro _; intros) | with_reducible apply State.setGroup_keeps
    | with_reducible apply State.ddrWrite_keeps | with_reducible apply State.raise_keeps
    | with_reducible apply State.event_keeps | with_reducible apply State.inc_keeps
    | with_reducible apply State.incBy_keeps | with_reducible apply State.hwSet_keeps
    | with_reducible apply State.setBit_keeps | with_reducible apply State.wrN_keeps
    | with_reducible refine foldl_keeps ?_ ?_ | with_reducible apply Keeps.ite
    | with_reducible apply State.rest_keeps | rw [State.rest_eq] | split)

theorem State.sealPane_keeps {orig : State} {s : State} {g : Nat} {k : SealKind} (hkeep : Keeps true orig s) :
    Keeps true orig (State.sealPane s g k) := by
  unfold State.sealPane
  try dsimp only
  repeat' (first
    | with_reducible assumption | with_reducible apply State.sealOne_keeps | with_reducible apply State.rest_keeps
    | rw [State.rest_eq] | split)

theorem State.sealNext_keeps {orig : State} {s : State} {g : Nat} {k : SealKind} (hkeep : Keeps true orig s) :
    Keeps true orig (State.sealNext s g k) := by
  unfold State.sealNext
  try dsimp only
  repeat' (first
    | with_reducible assumption | with_reducible apply State.sealPane_keeps
    | with_reducible apply State.openPane_keeps | with_reducible apply State.setGroup_keeps
    | with_reducible apply State.rest_keeps | rw [State.rest_eq])

theorem State.sealSlow_keeps {orig : State} {s : State} {g : Nat} {uncomputed : List (Nat × Nat)} (hkeep : Keeps true
    orig s) :
    Keeps true orig (State.sealSlow s g uncomputed) := by
  unfold State.sealSlow
  try dsimp only
  repeat' (first
    | with_reducible assumption | with_reducible apply State.updPane_keeps
    | with_reducible apply State.openPane_keeps | with_reducible apply State.setGroup_keeps
    | with_reducible apply State.raise_keeps | with_reducible apply State.hwSet_keeps
    | with_reducible apply Keeps.ite | with_reducible apply State.rest_keeps | rw [State.rest_eq] | split)

theorem State.sealDueIn_keeps {orig : State} {s : State} {g : Nat} {l : Nat} (hkeep : Keeps true orig s) :
    Keeps true orig (State.sealDueIn s g l) := by
  induction l generalizing s g with
  | zero =>
    unfold State.sealDueIn
    try dsimp only
    repeat' (first
      | (with_reducible assumption)
      | fail
      | with_reducible apply State.sealNext_keeps
      | with_reducible apply Keeps.ite
      | with_reducible apply State.rest_keeps
      | rw [State.rest_eq]
      | split)
  | succ n ih =>
    unfold State.sealDueIn
    try dsimp only
    repeat' (first
      | with_reducible assumption | with_reducible apply ih | with_reducible apply State.sealNext_keeps
      | with_reducible apply Keeps.ite | with_reducible apply State.rest_keeps | rw [State.rest_eq] | split)

theorem State.sealDue_keeps {orig : State} {s : State} (hkeep : Keeps true orig s) :
    Keeps true orig (State.sealDue s) := by
  unfold State.sealDue
  try dsimp only
  repeat' (first
    | with_reducible assumption | (intro _; intros) | with_reducible apply State.sealDueIn_keeps
    | with_reducible refine forEach_keeps ?_ ?_ | with_reducible apply State.rest_keeps | rw [State.rest_eq] | split)

theorem State.reach_keeps {md : Bool} {orig : State} {s : State} {t : Time} (hkeep : Keeps md orig s) {res : State}
    (ht : State.reach s t = some res) :
    Keeps md orig res := by
  unfold State.reach at ht
  try dsimp only at ht
  repeat' (split at ht)
  all_goals first | contradiction | skip
  all_goals try (cases ht)
  all_goals try dsimp only
  all_goals repeat' (first
    | with_reducible assumption | with_reducible apply State.untilSrc_keeps | with_reducible apply Keeps.ite | split)

theorem State.reachClock_keeps {md : Bool} {orig : State} {s : State} {t : Time} (hkeep : Keeps md orig s) {res :
    State} (ht : State.reachClock s t = some res) :
    Keeps md orig res := by
  unfold State.reachClock at ht
  try dsimp only at ht
  repeat' (split at ht)
  all_goals first | contradiction | skip
  all_goals try (cases ht)
  all_goals try dsimp only
  all_goals repeat' (first
    | with_reducible assumption | with_reducible apply State.untilClock_keeps | with_reducible apply Keeps.ite
    | split)

theorem execPaneSeal_keeps {orig : State} {g : Nat} {uncomputed : List (Nat × Nat)} {slow : Bool} {s : State} (hkeep :
    Keeps true orig s) :
    Keeps true orig (Answer.state (execPaneSeal g uncomputed slow s) s) := by
  unfold execPaneSeal
  try unfold Answer.state
  try dsimp only
  repeat' (first
    | with_reducible assumption | with_reducible (refine State.reach_keeps ?_ (by assumption))
    | with_reducible apply State.sealSlow_keeps | with_reducible apply State.sealNext_keeps
    | with_reducible apply Keeps.ite | with_reducible apply State.rest_keeps | rw [State.rest_eq] | split)

theorem State.sealAction_keeps {orig : State} {s : State} {g : Nat} {late : Bool} (hkeep : Keeps true orig s) :
    Keeps true orig (State.sealAction s g late) := by
  unfold State.sealAction
  try dsimp only
  repeat' (first
    | with_reducible assumption | with_reducible apply State.sealDueIn_keeps
    | with_reducible apply State.sealOne_keeps | with_reducible apply Keeps.ite
    | with_reducible apply State.rest_keeps | rw [State.rest_eq] | split)

theorem State.pgCommand_keeps {md : Bool} {orig : State} {s : State} {g : Nat} {contain : Bool} (hkeep : Keeps md orig
    s) :
    Keeps md orig (State.pgCommand s g contain) := by
  unfold State.pgCommand
  try dsimp only
  repeat' (first
    | with_reducible assumption | with_reducible apply State.setGroup_keeps | with_reducible apply State.result_keeps
    | with_reducible apply Answer.state_keeps | with_reducible apply Keeps.ite
    | with_reducible apply State.rest_keeps | rw [State.rest_eq] | split)

theorem State.setPgField_keeps {md : Bool} {orig : State} {s : State} {g : Nat} (hkeep : Keeps md orig s) :
    Keeps md orig (State.setPgField s g) := by
  unfold State.setPgField
  try dsimp only
  repeat' (first | with_reducible assumption | with_reducible apply State.setF_keeps)

theorem execPgContain_keeps {md : Bool} {orig : State} {req : Requester} {g : Nat} {s : State} (hkeep : Keeps md orig
    s) :
    Keeps md orig (Answer.state (execPgContain req g s) s) := by
  unfold execPgContain
  try unfold Answer.state
  try dsimp only
  repeat' (first
    | with_reducible assumption | (intro _; intros) | with_reducible apply State.setPgField_keeps
    | with_reducible apply State.pgCommand_keeps | with_reducible refine State.guarded_keeps ?_ ?_)

theorem execPgRelease_keeps {md : Bool} {orig : State} {req : Requester} {g : Nat} {s : State} (hkeep : Keeps md orig
    s) :
    Keeps md orig (Answer.state (execPgRelease req g s) s) := by
  unfold execPgRelease
  try unfold Answer.state
  try dsimp only
  repeat' (first
    | with_reducible assumption | (intro _; intros) | with_reducible apply State.setPgField_keeps
    | with_reducible apply State.pgCommand_keeps | with_reducible refine State.guarded_keeps ?_ ?_)

theorem execPgCmdReserved_keeps {md : Bool} {orig : State} {req : Requester} {g : Nat} {s : State} (hkeep : Keeps md
    orig s) :
    Keeps md orig (Answer.state (execPgCmdReserved req g s) s) := by
  unfold execPgCmdReserved
  try unfold Answer.state
  try dsimp only
  repeat' (first
    | with_reducible assumption | (intro _; intros) | with_reducible apply State.setPgField_keeps
    | with_reducible refine State.guarded_keeps ?_ ?_ | with_reducible apply State.result_keeps
    | with_reducible apply Answer.state_keeps)

theorem State.pgLand_keeps {md : Bool} {orig : State} {s : State} {g : Nat} (hkeep : Keeps md orig s) :
    Keeps md orig (State.pgLand s g) := by
  unfold State.pgLand
  try dsimp only
  repeat' (first
    | with_reducible assumption | with_reducible apply State.setGroup_keeps | with_reducible apply State.setBit_keeps
    | with_reducible apply State.rest_keeps | rw [State.rest_eq] | split)

/-! ### PrismIn -/

theorem State.breakStream_keeps {orig : State} {s : State} {sh : Nat} (hkeep : Keeps true orig s) :
    Keeps true orig (State.breakStream s sh) := by
  unfold State.breakStream
  try dsimp only
  repeat' (first
    | with_reducible assumption | with_reducible apply State.evalStream_keeps
    | with_reducible apply State.cntIn_keeps | with_reducible apply State.setSin_keeps
    | with_reducible apply State.raise_keeps | with_reducible apply State.rest_keeps | rw [State.rest_eq] | split)

theorem State.stepBreaks_keeps {orig : State} {s : State} {n : Nat} (hkeep : Keeps true orig s) :
    Keeps true orig (State.stepBreaks s n) := by
  unfold State.stepBreaks
  try dsimp only
  repeat' (first
    | with_reducible assumption | (intro _; intros) | with_reducible apply State.breakStream_keeps
    | with_reducible apply State.setSin_keeps | with_reducible refine forEach_keeps ?_ ?_
    | with_reducible apply Keeps.ite | with_reducible apply State.rest_keeps | rw [State.rest_eq] | split)

theorem State.putRawAt_keeps {orig : State} {s : State} {sh : Nat} {seq : Nat} {v : Sample} {t : Nat} (hkeep : Keeps
    true orig s) :
    Keeps true orig (State.putRawAt s sh seq v t) := by
  unfold State.putRawAt
  try dsimp only
  repeat' (first
    | with_reducible assumption | (intro _; intros) | with_reducible apply State.updPane_keeps
    | with_reducible apply State.openPane_keeps | with_reducible apply State.ddrWrite_keeps
    | with_reducible apply State.raise_keeps | with_reducible apply State.inc_keeps
    | with_reducible refine forEach_keeps ?_ ?_ | with_reducible apply Keeps.ite
    | with_reducible apply State.rest_keeps | rw [State.rest_eq] | split)

theorem State.putRaw_keeps {orig : State} {s : State} {sh : Nat} {seq : Nat} {v : Sample} (hkeep : Keeps true orig s) :
    Keeps true orig (State.putRaw s sh seq v) := by
  unfold State.putRaw
  try dsimp only
  repeat' (first
    | with_reducible assumption | with_reducible apply State.putRawAt_keeps | with_reducible apply Keeps.ite
    | with_reducible apply State.rest_keeps | rw [State.rest_eq] | split)

theorem State.panesFree_keeps {orig : State} {s : State} (hkeep : Keeps true orig s) :
    Keeps true orig (State.panesFree s) := by
  unfold State.panesFree
  try dsimp only
  repeat' (first
    | with_reducible assumption | (intro _; intros) | with_reducible apply State.putRaw_keeps
    | with_reducible apply State.evalStream_keeps | with_reducible refine forEach_keeps ?_ ?_
    | with_reducible apply State.rest_keeps | rw [State.rest_eq])

theorem State.lateInput_keeps {md : Bool} {orig : State} {s : State} {sh : Nat} {seq : Nat} {k : Nat} (hkeep : Keeps
    md orig s) :
    Keeps md orig (State.lateInput s sh seq k) := by
  unfold State.lateInput
  try dsimp only
  repeat' (first
    | with_reducible assumption | (intro _; intros) | with_reducible apply State.setGroup_keeps
    | with_reducible apply State.raise_keeps | with_reducible apply State.inc_keeps
    | with_reducible refine forEach_keeps ?_ ?_ | with_reducible apply Keeps.ite
    | with_reducible apply State.rest_keeps | rw [State.rest_eq] | split)

theorem State.accepted_keeps {orig : State} {s : State} {sh : Nat} {q : Seq} {k : Nat} {v : Sample} (hkeep : Keeps
    true orig s) :
    Keeps true orig (State.accepted s sh q k v) := by
  unfold State.accepted
  try dsimp only
  repeat' (first
    | with_reducible assumption | with_reducible apply State.lateInput_keeps
    | with_reducible apply State.putRaw_keeps | with_reducible apply State.evalStream_keeps
    | with_reducible apply State.cntIn_keeps | with_reducible apply State.wake_keeps | with_reducible apply id_keeps)

theorem State.openSeq_keeps {orig : State} {s : State} {sh : Nat} {v : Sample} (hkeep : Keeps true orig s) :
    Keeps true orig (State.openSeq s sh v) := by
  unfold State.openSeq
  try dsimp only
  repeat' (first
    | with_reducible assumption | with_reducible apply State.accepted_keeps | with_reducible apply State.setSin_keeps
    | with_reducible apply State.rest_keeps | rw [State.rest_eq])

theorem State.fillSlot_keeps {orig : State} {s : State} {sh : Nat} {q : Seq} {rate : Nat} {k : Nat} {v : Sample}
    (hkeep : Keeps true orig s) :
    Keeps true orig (State.fillSlot s sh q rate k v) := by
  unfold State.fillSlot
  try dsimp only
  repeat' (first
    | with_reducible assumption | with_reducible apply State.accepted_keeps | with_reducible apply State.cntIn_keeps
    | with_reducible apply State.setSin_keeps | with_reducible apply State.raise_keeps
    | with_reducible apply Keeps.ite | with_reducible apply State.rest_keeps | rw [State.rest_eq] | split)

theorem State.placeSample_keeps {orig : State} {s : State} {sh : Nat} {rate : Nat} {dev : Bool} {cap : Time} {v :
    Sample} (hkeep : Keeps true orig s) :
    Keeps true orig (State.placeSample s sh rate dev cap v) := by
  unfold State.placeSample
  try dsimp only
  repeat' (first
    | with_reducible assumption | with_reducible apply State.fillSlot_keeps
    | with_reducible apply State.openSeq_keeps | with_reducible apply State.breakStream_keeps
    | with_reducible apply State.discardIn_keeps | with_reducible apply Keeps.ite
    | with_reducible apply State.rest_keeps | rw [State.rest_eq] | split)

theorem State.takeAsdu_keeps {orig : State} {s : State} {sh : Nat} {r : StreamRec} {c : Capture} {a : Asdu} {tb : Nat}
    {arrival : Bool} {test : Bool} {tau : Int} (hkeep : Keeps true orig s) :
    Keeps true orig (State.takeAsdu s sh r c a tb arrival test tau) := by
  unfold State.takeAsdu
  try dsimp only
  repeat' (first
    | with_reducible assumption | with_reducible apply State.placeSample_keeps
    | with_reducible apply State.breakStream_keeps | with_reducible apply State.cntIn_keeps
    | with_reducible apply State.setSin_keeps | with_reducible apply Keeps.ite
    | with_reducible apply State.rest_keeps | rw [State.rest_eq] | split)

theorem State.doAsdu_keeps {orig : State} {s : State} {sh : Nat} {r : StreamRec} {p : Nat} {c : Capture} {sim : Bool}
    {n : Nat} {i : Nat} {a : Asdu} (hkeep : Keeps true orig s) :
    Keeps true orig (State.doAsdu s sh r p c sim n i a) := by
  unfold State.doAsdu
  try dsimp only
  repeat' (first
    | with_reducible assumption | with_reducible apply State.takeAsdu_keeps
    | with_reducible apply State.discardIn_keeps | with_reducible apply State.cntIn_keeps
    | with_reducible apply Keeps.ite | split)

theorem State.doAsdus_keeps {orig : State} {s : State} {sh : Nat} {r : StreamRec} {p : Nat} {c : Capture} {sim : Bool}
    {n : Nat} {i : Nat} {l : List Asdu} (hkeep : Keeps true orig s) :
    Keeps true orig (State.doAsdus s sh r p c sim n i l) := by
  induction l generalizing s sh r p c sim n i with
  | nil =>
    unfold State.doAsdus
    try dsimp only
    repeat' (first
      | (with_reducible assumption)
      | fail
      | with_reducible apply State.doAsdu_keeps
      | split)
  | cons x l ih =>
    unfold State.doAsdus
    try dsimp only
    repeat' (first
      | with_reducible assumption | with_reducible apply ih | with_reducible apply State.doAsdu_keeps | split)

theorem State.svFrame_keeps {orig : State} {s : State} {sh : Nat} {r : StreamRec} {p : Nat} {c : Capture} {etype :
    Nat} {b : List Byte} (hkeep : Keeps true orig s) :
    Keeps true orig (State.svFrame s sh r p c etype b) := by
  unfold State.svFrame
  try dsimp only
  repeat' (first
    | with_reducible assumption | with_reducible apply State.doAsdus_keeps
    | with_reducible apply State.discardIn_keeps | with_reducible apply State.cntIn_keeps
    | with_reducible apply Keeps.ite | with_reducible apply State.rest_keeps | rw [State.rest_eq] | split)

theorem State.jwtFrame_keeps {orig : State} {s : State} {sh : Nat} {r : StreamRec} {p : Nat} {c : Capture} {etype :
    Nat} {b : List Byte} (hkeep : Keeps true orig s) :
    Keeps true orig (State.jwtFrame s sh r p c etype b) := by
  unfold State.jwtFrame
  try dsimp only
  repeat' (first
    | with_reducible assumption | (intro _; intros) | with_reducible apply State.placeSample_keeps
    | with_reducible apply State.breakStream_keeps | with_reducible apply State.discardIn_keeps
    | with_reducible apply State.cntIn_keeps | with_reducible apply State.setSin_keeps
    | with_reducible refine forEach_keeps ?_ ?_ | with_reducible apply Keeps.ite
    | with_reducible apply State.rest_keeps | rw [State.rest_eq] | split)

theorem State.prismFrame_keeps {orig : State} {s : State} {sh : Nat} {p : Nat} {c : Capture} {etype : Nat} {b : List
    Byte} (hkeep : Keeps true orig s) :
    Keeps true orig (State.prismFrame s sh p c etype b) := by
  unfold State.prismFrame
  try dsimp only
  repeat' (first
    | with_reducible assumption | with_reducible apply State.jwtFrame_keeps
    | with_reducible apply State.svFrame_keeps | with_reducible apply Keeps.ite
    | with_reducible apply State.rest_keeps | rw [State.rest_eq] | split)

theorem State.storeError_keeps {orig : State} {s : State} {e : StoreErr} (hkeep : Keeps true orig s) :
    Keeps true orig (State.storeError s e) := by
  unfold State.storeError
  try dsimp only
  repeat' (first
    | with_reducible assumption | with_reducible apply State.evalStream_keeps
    | with_reducible apply State.setSin_keeps | with_reducible apply State.raise_keeps
    | with_reducible apply State.inc_keeps | with_reducible apply State.rest_keeps | rw [State.rest_eq] | split)

theorem State.setInField_keeps {md : Bool} {orig : State} {s : State} {sh : Nat} (hkeep : Keeps md orig s) :
    Keeps md orig (State.setInField s sh) := by
  unfold State.setInField
  try dsimp only
  repeat' (first | with_reducible assumption | with_reducible apply State.setF_keeps)

theorem State.inCommand_keeps {md : Bool} {orig : State} {s : State} {sh : Nat} {c : InCmd} (hkeep : Keeps md orig s) :
    Keeps md orig (State.inCommand s sh c) := by
  unfold State.inCommand
  try dsimp only
  repeat' (first
    | with_reducible assumption | with_reducible apply State.setSin_keeps | with_reducible apply State.result_keeps
    | with_reducible apply State.rest_keeps | rw [State.rest_eq])

theorem execSetPathOfs_keeps {md : Bool} {orig : State} {req : Requester} {sh : Nat} {s : State} (hkeep : Keeps md
    orig s) :
    Keeps md orig (Answer.state (execSetPathOfs req sh s) s) := by
  unfold execSetPathOfs
  try unfold Answer.state
  try dsimp only
  repeat' (first
    | with_reducible assumption | (intro _; intros) | with_reducible apply State.inCommand_keeps
    | with_reducible apply State.setInField_keeps | with_reducible refine State.guarded_keeps ?_ ?_
    | with_reducible apply State.result_keeps | with_reducible apply Answer.state_keeps
    | with_reducible apply Keeps.ite | split)

theorem execSetReorder_keeps {md : Bool} {orig : State} {req : Requester} {sh : Nat} {s : State} (hkeep : Keeps md
    orig s) :
    Keeps md orig (Answer.state (execSetReorder req sh s) s) := by
  unfold execSetReorder
  try unfold Answer.state
  try dsimp only
  repeat' (first
    | with_reducible assumption | (intro _; intros) | with_reducible apply State.inCommand_keeps
    | with_reducible apply State.setInField_keeps | with_reducible refine State.guarded_keeps ?_ ?_
    | with_reducible apply State.result_keeps | with_reducible apply Answer.state_keeps
    | with_reducible apply Keeps.ite | split)

theorem execPrzBreak_keeps {md : Bool} {orig : State} {req : Requester} {sh : Nat} {s : State} (hkeep : Keeps md orig
    s) :
    Keeps md orig (Answer.state (execPrzBreak req sh s) s) := by
  unfold execPrzBreak
  try unfold Answer.state
  try dsimp only
  repeat' (first
    | with_reducible assumption | (intro _; intros) | with_reducible apply State.inCommand_keeps
    | with_reducible apply State.setInField_keeps | with_reducible refine State.guarded_keeps ?_ ?_
    | with_reducible apply State.result_keeps | with_reducible apply Answer.state_keeps
    | with_reducible apply Keeps.ite | split)

theorem execPrzInCmdReserved_keeps {md : Bool} {orig : State} {req : Requester} {sh : Nat} {s : State} (hkeep : Keeps
    md orig s) :
    Keeps md orig (Answer.state (execPrzInCmdReserved req sh s) s) := by
  unfold execPrzInCmdReserved
  try unfold Answer.state
  try dsimp only
  repeat' (first
    | with_reducible assumption | (intro _; intros) | with_reducible apply State.setInField_keeps
    | with_reducible refine State.guarded_keeps ?_ ?_ | with_reducible apply State.result_keeps
    | with_reducible apply Answer.state_keeps)

theorem State.applyIn_keeps {orig : State} {s : State} {sh : Nat} {c : InCmd} (hkeep : Keeps true orig s) :
    Keeps true orig (State.applyIn s sh c) := by
  unfold State.applyIn
  try dsimp only
  repeat' (first
    | with_reducible assumption | with_reducible apply State.breakStream_keeps
    | with_reducible apply State.evalStream_keeps | with_reducible apply State.cntIn_keeps
    | with_reducible apply State.setSin_keeps | with_reducible apply State.rest_keeps | rw [State.rest_eq] | split)

theorem State.inLand_keeps {orig : State} {s : State} (hkeep : Keeps true orig s) :
    Keeps true orig (State.inLand s) := by
  unfold State.inLand
  try dsimp only
  repeat' (first
    | with_reducible assumption | (intro _; intros) | with_reducible apply State.applyIn_keeps
    | with_reducible apply State.breakStream_keeps | with_reducible apply State.setSin_keeps
    | with_reducible refine forEach_keeps ?_ ?_ | with_reducible apply Keeps.ite
    | with_reducible apply State.rest_keeps | rw [State.rest_eq] | split)

theorem execInSelWrite_keeps {md : Bool} {orig : State} {req : Requester} {v : Reg} {s : State} (hkeep : Keeps md orig
    s) :
    Keeps md orig (Answer.state (execInSelWrite req v s) s) := by
  unfold execInSelWrite
  try unfold Answer.state
  try dsimp only
  repeat' (first
    | with_reducible assumption | (intro _; intros) | with_reducible apply State.setSin_keeps
    | with_reducible refine State.guarded_keeps ?_ ?_ | with_reducible apply State.wrWords_keeps
    | with_reducible apply State.wr64_keeps | with_reducible apply State.wrN_keeps
    | with_reducible refine forEach_keeps ?_ ?_ | with_reducible apply Keeps.ite
    | with_reducible apply State.rest_keeps | rw [State.rest_eq] | split)

theorem State.clearInputs_keeps {md : Bool} {orig : State} {s : State} (hkeep : Keeps md orig s) :
    Keeps md orig (State.clearInputs s) := by
  unfold State.clearInputs
  try dsimp only
  repeat' (first | with_reducible assumption | with_reducible apply State.rest_keeps | rw [State.rest_eq])

/-! ### Servo -/

theorem State.setFreq_keeps {md : Bool} {orig : State} {s : State} {n : Nat} {f : Int} (hkeep : Keeps md orig s) :
    Keeps md orig (State.setFreq s n f) := by
  unfold State.setFreq
  try dsimp only
  repeat' (first | with_reducible assumption | with_reducible apply State.wrN_keeps)

theorem State.setTbState_keeps {md : Bool} {orig : State} {s : State} {n : Nat} {st : Nat} (hkeep : Keeps md orig s) :
    Keeps md orig (State.setTbState s n st) := by
  unfold State.setTbState
  try dsimp only
  repeat' (first
    | with_reducible assumption | with_reducible apply State.setTb_keeps | with_reducible apply State.condition_keeps
    | with_reducible apply State.setF_keeps | with_reducible apply Keeps.ite | with_reducible apply State.rest_keeps
    | rw [State.rest_eq] | split)

theorem State.sourceStepped_keeps {orig : State} {s : State} {t : State} (hkeep : Keeps true orig t) :
    Keeps true orig (State.sourceStepped s t) := by
  unfold State.sourceStepped
  try dsimp only
  repeat' (first
    | with_reducible assumption | (intro _; intros) | with_reducible apply State.sealDue_keeps
    | with_reducible apply State.startTread_keeps | with_reducible refine forEach_keeps ?_ ?_
    | with_reducible apply Keeps.ite | with_reducible apply State.rest_keeps | rw [State.rest_eq] | split)

theorem State.loadCount_keeps {orig : State} {s : State} {n : Nat} {v : Time} (hkeep : Keeps true orig s) :
    Keeps true orig (State.loadCount s n v) := by
  unfold State.loadCount
  try dsimp only
  repeat' (first
    | with_reducible assumption | with_reducible apply State.sourceStepped_keeps
    | with_reducible apply State.stepBreaks_keeps | with_reducible apply State.setDelta_keeps
    | with_reducible apply State.setTb_keeps | with_reducible apply Keeps.ite | with_reducible apply State.rest_keeps
    | rw [State.rest_eq] | split)

theorem State.stepTb_keeps {orig : State} {s : State} {n : Nat} {c : Time} (hkeep : Keeps true orig s) :
    Keeps true orig (State.stepTb s n c) := by
  unfold State.stepTb
  try dsimp only
  repeat' (first
    | with_reducible assumption | with_reducible apply State.loadCount_keeps | with_reducible apply State.inc_keeps)

theorem State.setSlew_keeps {md : Bool} {orig : State} {s : State} {n : Nat} {r : Time} (hkeep : Keeps md orig s) :
    Keeps md orig (State.setSlew s n r) := by
  unfold State.setSlew
  try dsimp only
  repeat' (first
    | with_reducible assumption | with_reducible apply State.setTb_keeps | with_reducible apply State.setBit_keeps
    | with_reducible apply State.rest_keeps | rw [State.rest_eq])

theorem State.applyCorr_keeps {orig : State} {s : State} {n : Nat} {c : Int} (hkeep : Keeps true orig s) :
    Keeps true orig (State.applyCorr s n c) := by
  unfold State.applyCorr
  try dsimp only
  repeat' (first
    | with_reducible assumption | with_reducible apply State.setSlew_keeps | with_reducible apply State.stepTb_keeps
    | with_reducible apply State.raise_keeps | with_reducible apply Keeps.ite | split)

theorem State.refuseCorr_keeps {md : Bool} {orig : State} {s : State} {n : Nat} {c : Int} (hkeep : Keeps md orig s) :
    Keeps md orig (State.refuseCorr s n c) := by
  unfold State.refuseCorr
  try dsimp only
  repeat' (first
    | with_reducible assumption | with_reducible apply State.setTbState_keeps
    | with_reducible apply State.setTb_keeps | with_reducible apply State.inc_keeps
    | with_reducible apply State.wr64_keeps | with_reducible apply State.hwSet_keeps
    | with_reducible apply State.rest_keeps | rw [State.rest_eq])

theorem State.tryCorr_keeps {orig : State} {s : State} {n : Nat} {c : Int} (hkeep : Keeps true orig s) :
    Keeps true orig (State.tryCorr s n c) := by
  unfold State.tryCorr
  try dsimp only
  repeat' (first
    | with_reducible assumption | with_reducible apply State.refuseCorr_keeps
    | with_reducible apply State.applyCorr_keeps | with_reducible apply Keeps.ite | split)

theorem State.leaveRefused_keeps {md : Bool} {orig : State} {s : State} {n : Nat} (hkeep : Keeps md orig s) :
    Keeps md orig (State.leaveRefused s n) := by
  unfold State.leaveRefused
  try dsimp only
  repeat' (first
    | with_reducible assumption | with_reducible apply State.setTbState_keeps | with_reducible apply State.wr64_keeps
    | with_reducible apply Keeps.ite | split)

theorem State.enterHoldover_keeps {md : Bool} {orig : State} {s : State} {n : Nat} (hkeep : Keeps md orig s) :
    Keeps md orig (State.enterHoldover s n) := by
  unfold State.enterHoldover
  try dsimp only
  repeat' (first
    | with_reducible assumption | with_reducible apply State.setTbState_keeps
    | with_reducible apply State.setFreq_keeps | with_reducible apply State.setTb_keeps
    | with_reducible apply Keeps.ite | with_reducible apply State.rest_keeps | rw [State.rest_eq] | split)

theorem State.servoPi_keeps {md : Bool} {orig : State} {s : State} {n : Nat} {o : Int} {num : Nat} {den : Nat} (hkeep
    : Keeps md orig s) :
    Keeps md orig (State.servoPi s n o num den) := by
  unfold State.servoPi
  try dsimp only
  repeat' (first
    | with_reducible assumption | with_reducible apply State.setFreq_keeps | with_reducible apply State.setTb_keeps
    | with_reducible apply Keeps.ite | with_reducible apply State.rest_keeps | rw [State.rest_eq] | split)

theorem State.sampleLocking_keeps {orig : State} {s : State} {n : Nat} {o : Int} {num : Nat} {den : Nat} (hkeep :
    Keeps true orig s) :
    Keeps true orig (State.sampleLocking s n o num den) := by
  unfold State.sampleLocking
  try dsimp only
  repeat' (first
    | with_reducible assumption | with_reducible apply State.servoPi_keeps
    | with_reducible apply State.refuseCorr_keeps | with_reducible apply State.applyCorr_keeps
    | with_reducible apply State.setTbState_keeps | with_reducible apply State.setTb_keeps
    | with_reducible apply Keeps.ite | with_reducible apply State.rest_keeps | rw [State.rest_eq] | split)

theorem State.sampleLocked_keeps {md : Bool} {orig : State} {s : State} {n : Nat} {o : Int} {num : Nat} {den : Nat}
    (hkeep : Keeps md orig s) :
    Keeps md orig (State.sampleLocked s n o num den) := by
  unfold State.sampleLocked
  try dsimp only
  repeat' (first
    | with_reducible assumption | with_reducible apply State.servoPi_keeps
    | with_reducible apply State.refuseCorr_keeps | with_reducible apply State.setTbState_keeps
    | with_reducible apply State.setTb_keeps | with_reducible apply Keeps.ite | with_reducible apply State.rest_keeps
    | rw [State.rest_eq] | split)

theorem State.sampleRefused_keeps {md : Bool} {orig : State} {s : State} {n : Nat} {o : Int} (hkeep : Keeps md orig s) :
    Keeps md orig (State.sampleRefused s n o) := by
  unfold State.sampleRefused
  try dsimp only
  repeat' (first
    | with_reducible assumption | with_reducible apply State.setTbState_keeps
    | with_reducible apply State.setTb_keeps | with_reducible apply State.wr64_keeps | with_reducible apply Keeps.ite
    | with_reducible apply State.rest_keeps | rw [State.rest_eq] | split)

theorem State.sample_keeps {orig : State} {s : State} {n : Nat} {o : Int} {num : Nat} {den : Nat} (hkeep : Keeps true
    orig s) :
    Keeps true orig (State.sample s n o num den) := by
  unfold State.sample
  try dsimp only
  repeat' (first
    | with_reducible assumption | with_reducible apply State.sampleRefused_keeps
    | with_reducible apply State.sampleLocked_keeps | with_reducible apply State.sampleLocking_keeps
    | with_reducible apply State.refuseCorr_keeps | with_reducible apply State.setTbState_keeps
    | with_reducible apply State.setTb_keeps | with_reducible apply State.inc_keeps
    | with_reducible apply State.wr64_keeps | with_reducible apply Keeps.ite | with_reducible apply State.rest_keeps
    | rw [State.rest_eq] | split)

theorem State.loseReference_keeps {md : Bool} {orig : State} {s : State} {n : Nat} (hkeep : Keeps md orig s) :
    Keeps md orig (State.loseReference s n) := by
  unfold State.loseReference
  try dsimp only
  repeat' (first
    | with_reducible assumption | with_reducible apply State.enterHoldover_keeps
    | with_reducible apply State.setTbState_keeps | with_reducible apply State.wr64_keeps
    | with_reducible apply Keeps.ite | split)

theorem State.applyEpoch_keeps {md : Bool} {orig : State} {s : State} {n : Nat} (hkeep : Keeps md orig s) :
    Keeps md orig (State.applyEpoch s n) := by
  unfold State.applyEpoch
  try dsimp only
  repeat' (first
    | with_reducible assumption | (intro _; intros) | with_reducible apply State.leaveRefused_keeps
    | with_reducible apply State.setTb_keeps | with_reducible apply State.wr_keeps
    | with_reducible refine forEach_keeps ?_ ?_ | with_reducible apply Keeps.ite
    | with_reducible apply State.rest_keeps | rw [State.rest_eq] | split)

theorem State.applyPhase_keeps {orig : State} {s : State} {n : Nat} (hkeep : Keeps true orig s) :
    Keeps true orig (State.applyPhase s n) := by
  unfold State.applyPhase
  try dsimp only
  repeat' (first
    | with_reducible assumption | with_reducible apply State.applyCorr_keeps | with_reducible apply State.setTb_keeps
    | with_reducible apply State.wr64_keeps | with_reducible apply Keeps.ite | with_reducible apply State.rest_keeps
    | rw [State.rest_eq] | split)

theorem State.swapEpoch_keeps {md : Bool} {orig : State} {s : State} {n : Nat} {ok : Bool} (hkeep : Keeps md orig s) :
    Keeps md orig (State.swapEpoch s n ok) := by
  unfold State.swapEpoch
  try dsimp only
  repeat' (first
    | with_reducible assumption | with_reducible apply State.applyEpoch_keeps
    | with_reducible apply State.raise_keeps | with_reducible apply Keeps.ite | split)

theorem State.servoMode_keeps {md : Bool} {orig : State} {s : State} {n : Nat} {host : Bool} (hkeep : Keeps md orig s) :
    Keeps md orig (State.servoMode s n host) := by
  unfold State.servoMode
  try dsimp only
  repeat' (first
    | with_reducible assumption | with_reducible apply State.setTbState_keeps
    | with_reducible apply State.setTb_keeps | with_reducible apply State.wr64_keeps
    | with_reducible apply State.setBit_keeps | with_reducible apply Keeps.ite
    | with_reducible apply State.rest_keeps | rw [State.rest_eq] | split)

theorem State.hostState_keeps {md : Bool} {orig : State} {s : State} {n : Nat} (hkeep : Keeps md orig s) :
    Keeps md orig (State.hostState s n) := by
  unfold State.hostState
  try dsimp only
  repeat' (first
    | with_reducible assumption | with_reducible apply State.setTbState_keeps | with_reducible apply Keeps.ite
    | split)

theorem State.loadTbParams_keeps {md : Bool} {orig : State} {s : State} {im : Image} {n : Nat} (hkeep : Keeps md orig
    s) :
    Keeps md orig (State.loadTbParams s im n) := by
  unfold State.loadTbParams
  try dsimp only
  repeat' (first
    | with_reducible assumption | with_reducible apply State.setBit_keeps | with_reducible apply State.wrN_keeps)

theorem State.disableTb_keeps {md : Bool} {orig : State} {s : State} {n : Nat} (hkeep : Keeps md orig s) :
    Keeps md orig (State.disableTb s n) := by
  unfold State.disableTb
  try dsimp only
  repeat' (first
    | with_reducible assumption | with_reducible apply State.setTbState_keeps
    | with_reducible apply State.setFreq_keeps | with_reducible apply State.setTb_keeps
    | with_reducible apply State.setBit_keeps | with_reducible apply State.setF_keeps)

/-! ### Ptp -/

theorem State.setPeer_keeps {md : Bool} {orig : State} {s : State} {n : Nat} {p : Nat} {x : PeerDelay} (hkeep : Keeps
    md orig s) :
    Keeps md orig (State.setPeer s n p x) := by
  unfold State.setPeer
  try dsimp only
  repeat' (first | with_reducible assumption | with_reducible apply State.rest_keeps | rw [State.rest_eq])

theorem State.settleDelay_keeps {md : Bool} {orig : State} {s : State} {n : Nat} (hkeep : Keeps md orig s) :
    Keeps md orig (State.settleDelay s n) := by
  unfold State.settleDelay
  try dsimp only
  repeat' (first
    | with_reducible assumption | with_reducible apply State.wrN_keeps | with_reducible apply Keeps.ite | split)

theorem State.syncSample_keeps {orig : State} {s : State} {n : Nat} {p : Nat} {t1 : Time} {t2 : Time} {corr : Int}
    {log : Int} (hkeep : Keeps true orig s) :
    Keeps true orig (State.syncSample s n p t1 t2 corr log) := by
  unfold State.syncSample
  try dsimp only
  repeat' (first
    | with_reducible assumption | with_reducible apply State.sample_keeps | with_reducible apply State.setTb_keeps
    | with_reducible apply Keeps.ite | with_reducible apply State.rest_keeps | rw [State.rest_eq] | split)

theorem State.onSync_keeps {orig : State} {s : State} {n : Nat} {p : Nat} {c : Capture} {b : List Byte} {m : PtpAt}
    (hkeep : Keeps true orig s) :
    Keeps true orig (State.onSync s n p c b m) := by
  unfold State.onSync
  try dsimp only
  repeat' (first
    | with_reducible assumption | with_reducible apply State.syncSample_keeps
    | with_reducible apply State.setTb_keeps | with_reducible apply Keeps.ite | with_reducible apply State.rest_keeps
    | rw [State.rest_eq] | split)

theorem State.selectMaster_keeps {md : Bool} {orig : State} {s : State} {n : Nat} (hkeep : Keeps md orig s) :
    Keeps md orig (State.selectMaster s n) := by
  unfold State.selectMaster
  try dsimp only
  repeat' (first
    | with_reducible assumption | with_reducible apply State.settleDelay_keeps
    | with_reducible apply State.setTb_keeps | with_reducible apply State.raise_keeps
    | with_reducible apply State.wr64_keeps | with_reducible apply State.setF_keeps
    | with_reducible apply State.wrN_keeps | with_reducible apply Keeps.ite | with_reducible apply State.rest_keeps
    | rw [State.rest_eq] | split)

theorem State.onAnnounce_keeps {md : Bool} {orig : State} {s : State} {n : Nat} {p : Nat} {b : List Byte} {m : PtpAt}
    (hkeep : Keeps md orig s) :
    Keeps md orig (State.onAnnounce s n p b m) := by
  unfold State.onAnnounce
  try dsimp only
  repeat' (first
    | with_reducible assumption | with_reducible apply State.selectMaster_keeps
    | with_reducible apply State.setTb_keeps | with_reducible apply State.rest_keeps | rw [State.rest_eq])

theorem State.offerPtp_keeps {md : Bool} {orig : State} {s : State} {n : Nat} {p : Nat} {bytes : List Byte} {stamp :
    Bool} {t2 : Option Time} (hkeep : Keeps md orig s) :
    Keeps md orig (State.offerPtp s n p bytes stamp t2) := by
  unfold State.offerPtp
  try dsimp only
  repeat' (first
    | with_reducible assumption | with_reducible apply State.enqueue_keeps | with_reducible apply Keeps.ite
    | with_reducible apply State.rest_keeps | rw [State.rest_eq] | split)

theorem State.onPdelayReq_keeps {md : Bool} {orig : State} {s : State} {n : Nat} {p : Nat} {c : Capture} {b : List
    Byte} {m : PtpAt} (hkeep : Keeps md orig s) :
    Keeps md orig (State.onPdelayReq s n p c b m) := by
  unfold State.onPdelayReq
  try dsimp only
  repeat' (first
    | with_reducible assumption | with_reducible apply State.offerPtp_keeps | with_reducible apply Keeps.ite | split)

theorem State.finishPdelay_keeps {md : Bool} {orig : State} {s : State} {n : Nat} {p : Nat} {t1 : Time} {t4 : Time}
    {turn : Time} {t3 : Option Time} (hkeep : Keeps md orig s) :
    Keeps md orig (State.finishPdelay s n p t1 t4 turn t3) := by
  unfold State.finishPdelay
  try dsimp only
  repeat' (first
    | with_reducible assumption | with_reducible apply State.settleDelay_keeps
    | with_reducible apply State.setPeer_keeps | with_reducible apply Keeps.ite
    | with_reducible apply State.rest_keeps | rw [State.rest_eq] | split)

theorem State.onPdelayResp_keeps {md : Bool} {orig : State} {s : State} {n : Nat} {p : Nat} {c : Capture} {b : List
    Byte} {m : PtpAt} (hkeep : Keeps md orig s) :
    Keeps md orig (State.onPdelayResp s n p c b m) := by
  unfold State.onPdelayResp
  try dsimp only
  repeat' (first
    | with_reducible assumption | with_reducible apply State.finishPdelay_keeps
    | with_reducible apply State.setPeer_keeps | with_reducible apply Keeps.ite
    | with_reducible apply State.rest_keeps | rw [State.rest_eq] | split)

theorem State.onDelayResp_keeps {md : Bool} {orig : State} {s : State} {n : Nat} {p : Nat} {b : List Byte} {m : PtpAt}
    (hkeep : Keeps md orig s) :
    Keeps md orig (State.onDelayResp s n p b m) := by
  unfold State.onDelayResp
  try dsimp only
  repeat' (first
    | with_reducible assumption | with_reducible apply State.settleDelay_keeps
    | with_reducible apply State.setTb_keeps | with_reducible apply Keeps.ite | with_reducible apply State.rest_keeps
    | rw [State.rest_eq] | split)

theorem State.onPtp_keeps {orig : State} {s : State} {n : Nat} {p : Nat} {c : Capture} {b : List Byte} {m : PtpAt}
    (hkeep : Keeps true orig s) :
    Keeps true orig (State.onPtp s n p c b m).1 := by
  unfold State.onPtp
  try dsimp only
  repeat' (first
    | with_reducible assumption | with_reducible apply State.onDelayResp_keeps
    | with_reducible apply State.onPdelayResp_keeps | with_reducible apply State.onPdelayReq_keeps
    | with_reducible apply State.onAnnounce_keeps | with_reducible apply State.onSync_keeps
    | with_reducible apply Keeps.ite | split)

theorem State.launchPtp_keeps {md : Bool} {orig : State} {s : State} {p : Nat} {k : Nat} {f : TxFrame} {b : List Byte}
    (hkeep : Keeps md orig s) :
    Keeps md orig (State.launchPtp s p k f b).1 := by
  unfold State.launchPtp
  try dsimp only
  repeat' (first
    | with_reducible assumption | with_reducible apply State.offerPtp_keeps
    | with_reducible apply State.setPeer_keeps | with_reducible apply State.setTb_keeps
    | with_reducible apply State.inc_keeps | with_reducible apply Keeps.ite | with_reducible apply State.rest_keeps
    | rw [State.rest_eq] | split)

theorem State.residence_keeps {md : Bool} {orig : State} {s : State} {p : Nat} {c : Capture} {b : List Byte} (hkeep :
    Keeps md orig s) :
    Keeps md orig (State.residence s p c b).1 := by
  unfold State.residence
  try dsimp only
  repeat' (first
    | with_reducible assumption | with_reducible apply State.inc_keeps | with_reducible apply Keeps.ite
    | with_reducible apply State.rest_keeps | rw [State.rest_eq] | split)

theorem State.ptpRequest_keeps {md : Bool} {orig : State} {s : State} {n : Nat} {p : Nat} (hkeep : Keeps md orig s) :
    Keeps md orig (State.ptpRequest s n p) := by
  unfold State.ptpRequest
  try dsimp only
  repeat' (first
    | with_reducible assumption | with_reducible apply State.offerPtp_keeps
    | with_reducible apply State.setPeer_keeps | with_reducible apply State.setTb_keeps
    | with_reducible apply Keeps.ite | with_reducible apply State.rest_keeps | rw [State.rest_eq] | split)

theorem execPtpMessageSend_keeps {md : Bool} {orig : State} {n : Nat} {p : Nat} {s : State} (hkeep : Keeps md orig s) :
    Keeps md orig (Answer.state (execPtpMessageSend n p s) s) := by
  unfold execPtpMessageSend
  try unfold Answer.state
  try dsimp only
  repeat' (first
    | with_reducible assumption | with_reducible apply State.ptpRequest_keeps
    | with_reducible (refine State.reachClock_keeps ?_ (by assumption)) | with_reducible apply Keeps.ite
    | with_reducible apply State.rest_keeps | rw [State.rest_eq] | split)

/-! ### Transmit -/

theorem State.ripen_keeps {md : Bool} {orig : State} {s : State} {p : Nat} (hkeep : Keeps md orig s) :
    Keeps md orig (State.ripen s p) := by
  unfold State.ripen
  try dsimp only
  repeat' (first
    | with_reducible assumption | (intro _; intros) | with_reducible apply id_keeps
    | with_reducible refine forEach_keeps ?_ ?_ | with_reducible apply Keeps.ite
    | with_reducible apply State.rest_keeps | rw [State.rest_eq] | split)

theorem State.countDefer_keeps {md : Bool} {orig : State} {s : State} {p : Nat} (hkeep : Keeps md orig s) :
    Keeps md orig (State.countDefer s p) := by
  unfold State.countDefer
  try dsimp only
  repeat' (first
    | with_reducible assumption | (intro _; intros) | with_reducible apply State.setPort_keeps
    | with_reducible apply State.inc_keeps | with_reducible apply id_keeps
    | with_reducible refine forEach_keeps ?_ ?_ | with_reducible apply Keeps.ite
    | with_reducible apply State.rest_keeps | rw [State.rest_eq] | split)

theorem State.takeSeq_keeps {md : Bool} {orig : State} {s : State} {f : TxFrame} (hkeep : Keeps md orig s) :
    Keeps md orig (State.takeSeq s f).1 := by
  unfold State.takeSeq
  try dsimp only
  repeat' (first | with_reducible assumption | with_reducible apply State.rest_keeps | rw [State.rest_eq] | split)

theorem State.startFrame_keeps {md : Bool} {orig : State} {s0 : State} {p : Nat} {f : TxFrame} (hkeep : Keeps md orig
    s0) :
    Keeps md orig (State.startFrame s0 p f) := by
  unfold State.startFrame
  try dsimp only
  repeat' (first
    | with_reducible assumption | with_reducible apply State.takeSeq_keeps
    | with_reducible apply State.dropFrame_keeps | with_reducible apply State.gcbDrop_keeps
    | with_reducible apply State.setGcb_keeps | with_reducible apply State.enqueue_keeps
    | with_reducible apply State.wakePort_keeps | with_reducible apply State.setPort_keeps
    | with_reducible apply State.wrN_keeps | with_reducible apply id_keeps | with_reducible apply Keeps.ite
    | with_reducible apply State.rest_keeps | rw [State.rest_eq] | split)

theorem State.startRest_keeps {md : Bool} {orig : State} {s0 : State} {p : Nat} {l : LineSt} (hkeep : Keeps md orig
    s0) :
    Keeps md orig (State.startRest s0 p l) := by
  unfold State.startRest
  try dsimp only
  repeat' (first
    | with_reducible assumption | with_reducible apply State.emitStart_keeps
    | with_reducible apply State.wakePort_keeps | with_reducible apply State.setPort_keeps
    | with_reducible apply Keeps.ite | with_reducible apply State.rest_keeps | rw [State.rest_eq] | split)

theorem execTxSelect_keeps {md : Bool} {orig : State} {p : Nat} {s : State} (hkeep : Keeps md orig s) :
    Keeps md orig (Answer.state (execTxSelect p s) s) := by
  unfold execTxSelect
  try unfold Answer.state
  try dsimp only
  repeat' (first
    | with_reducible assumption | with_reducible apply State.startRest_keeps
    | with_reducible apply State.startFrame_keeps | with_reducible apply State.countDefer_keeps
    | with_reducible apply State.ripen_keeps | with_reducible apply State.settlePort_keeps
    | with_reducible apply State.noteBlocked_keeps | with_reducible apply State.flushPort_keeps
    | with_reducible apply State.untilClock_keeps | with_reducible apply State.preemptNow_keeps
    | with_reducible apply Keeps.ite | with_reducible apply State.rest_keeps | rw [State.rest_eq] | split)

theorem State.noteLaunch_keeps {md : Bool} {orig : State} {s : State} {l : LineSt} (hkeep : Keeps md orig s) :
    Keeps md orig (State.noteLaunch s l) := by
  unfold State.noteLaunch
  try dsimp only
  repeat' (first
    | with_reducible assumption | with_reducible apply State.setEntry_keeps | with_reducible apply State.inc_keeps
    | with_reducible apply State.wrN_keeps | with_reducible apply Keeps.ite | with_reducible apply State.rest_keeps
    | rw [State.rest_eq] | split)

theorem State.bufCe_keeps {md : Bool} {orig : State} {s : State} {g : Nat} (hkeep : Keeps md orig s) :
    Keeps md orig (State.bufCe s g) := by
  unfold State.bufCe
  try dsimp only
  repeat' (first
    | with_reducible assumption | with_reducible apply State.raise_keeps | with_reducible apply State.inc_keeps)

theorem State.bufUe_keeps {md : Bool} {orig : State} {s : State} {g : Nat} (hkeep : Keeps md orig s) :
    Keeps md orig (State.bufUe s g) := by
  unfold State.bufUe
  try dsimp only
  repeat' (first
    | with_reducible assumption | with_reducible apply State.raise_keeps | with_reducible apply State.inc_keeps)

theorem State.discardUe_keeps {md : Bool} {orig : State} {s : State} {p : Nat} {l : LineSt} (hkeep : Keeps md orig s) :
    Keeps md orig (State.discardUe s p l) := by
  unfold State.discardUe
  try dsimp only
  repeat' (first
    | with_reducible assumption | with_reducible apply State.bufUe_keeps | with_reducible apply State.endCopy_keeps
    | with_reducible apply State.setPort_keeps | with_reducible apply State.inc64_keeps
    | with_reducible apply State.rest_keeps | rw [State.rest_eq] | split)

theorem State.launch_keeps {md : Bool} {orig : State} {s : State} {p : Nat} {k : Nat} {l : LineSt} (hkeep : Keeps md
    orig s) :
    Keeps md orig (State.launch s p k l) := by
  unfold State.launch
  try dsimp only
  repeat' (first
    | with_reducible assumption | with_reducible apply State.noteLaunch_keeps
    | with_reducible apply State.launchPtp_keeps | with_reducible apply State.emitStart_keeps
    | with_reducible apply State.setPort_keeps | with_reducible apply State.inc_keeps
    | with_reducible apply Keeps.ite | with_reducible apply State.rest_keeps | rw [State.rest_eq] | split)

theorem execTxLaunch_keeps {md : Bool} {orig : State} {p : Nat} {k : Nat} {ue : Option Bool} {s : State} (hkeep :
    Keeps md orig s) :
    Keeps md orig (Answer.state (execTxLaunch p k ue s) s) := by
  unfold execTxLaunch
  try unfold Answer.state
  try dsimp only
  repeat' (first
    | with_reducible assumption | with_reducible apply State.launch_keeps
    | with_reducible apply State.discardUe_keeps | with_reducible apply State.bufCe_keeps
    | with_reducible apply State.settlePort_keeps | with_reducible apply State.unselect_keeps
    | with_reducible apply Keeps.ite | with_reducible apply State.rest_keeps | rw [State.rest_eq] | split)

theorem State.stompUe_keeps {md : Bool} {orig : State} {s : State} {p : Nat} {l : LineSt} (hkeep : Keeps md orig s) :
    Keeps md orig (State.stompUe s p l) := by
  unfold State.stompUe
  try dsimp only
  repeat' (first
    | with_reducible assumption | with_reducible apply State.bufUe_keeps | with_reducible apply State.emitCut_keeps
    | with_reducible apply State.endCopy_keeps | with_reducible apply State.setPort_keeps
    | with_reducible apply State.inc64_keeps | with_reducible apply State.rest_keeps | rw [State.rest_eq] | split)

theorem execTxEnd_keeps {md : Bool} {orig : State} {p : Nat} {ue : Option Bool} {s : State} (hkeep : Keeps md orig s) :
    Keeps md orig (Answer.state (execTxEnd p ue s) s) := by
  unfold execTxEnd
  try unfold Answer.state
  try dsimp only
  repeat' (first
    | with_reducible assumption | with_reducible apply State.stompUe_keeps | with_reducible apply State.bufCe_keeps
    | with_reducible apply State.settlePort_keeps | with_reducible apply State.lineOver_keeps
    | with_reducible apply State.untilClock_keeps | with_reducible apply Keeps.ite
    | with_reducible apply State.rest_keeps | rw [State.rest_eq] | split)

theorem State.failRead_keeps {md : Bool} {orig : State} {s : State} {q : Nat} {e : Entry} (hkeep : Keeps md orig s) :
    Keeps md orig (State.failRead s q e) := by
  unfold State.failRead
  try dsimp only
  repeat' (first
    | with_reducible assumption | with_reducible apply State.settleStop_keeps
    | with_reducible apply State.settleFailed_keeps | with_reducible apply State.setEntry_keeps
    | with_reducible apply State.rest_keeps | rw [State.rest_eq])

theorem State.readFrame_keeps {md : Bool} {orig : State} {s : State} {q : Nat} {b : List Byte} (hkeep : Keeps md orig
    s) :
    Keeps md orig (State.readFrame s q b) := by
  unfold State.readFrame
  try dsimp only
  repeat' (first | with_reducible assumption | with_reducible apply State.emit_keeps)

theorem State.txUse_keeps {md : Bool} {orig : State} {s : State} {q : SqRec} {e : Entry} {frame : Option (List Byte)}
    (hkeep : Keeps md orig s) :
    Keeps md orig (State.txUse s q e frame) := by
  unfold State.txUse
  try dsimp only
  repeat' (first
    | with_reducible assumption | with_reducible apply State.readFrame_keeps
    | with_reducible apply State.failRead_keeps | with_reducible apply State.enqueue_keeps
    | with_reducible apply State.complete_keeps | with_reducible apply State.reserve_keeps
    | with_reducible apply State.setEntry_keeps | with_reducible apply Keeps.ite
    | with_reducible apply State.rest_keeps | rw [State.rest_eq] | split)

theorem State.aqLateEntry_keeps {md : Bool} {orig : State} {s : State} {q : Nat} {e : Entry} (hkeep : Keeps md orig s) :
    Keeps md orig (State.aqLateEntry s q e) := by
  unfold State.aqLateEntry
  try dsimp only
  repeat' (first
    | with_reducible assumption | with_reducible apply State.complete_keeps | with_reducible apply State.stall_keeps
    | with_reducible apply State.reserve_keeps | with_reducible apply State.inc_keeps
    | with_reducible apply Keeps.ite | split)

theorem State.aqLateFront_keeps {md : Bool} {orig : State} {s : State} {q : Nat} (hkeep : Keeps md orig s) :
    Keeps md orig (State.aqLateFront s q) := by
  unfold State.aqLateFront
  try dsimp only
  repeat' (first
    | with_reducible assumption | (intro _; intros) | with_reducible apply State.aqLateEntry_keeps
    | with_reducible refine forEach_keeps ?_ ?_)

theorem State.aqUse_keeps {md : Bool} {orig : State} {s : State} {q : SqRec} {e : Entry} {frame : Option (List Byte)}
    (hkeep : Keeps md orig s) :
    Keeps md orig (State.aqUse s q e frame) := by
  unfold State.aqUse
  try dsimp only
  repeat' (first
    | with_reducible assumption | with_reducible apply State.aqLateEntry_keeps
    | with_reducible apply State.readFrame_keeps | with_reducible apply State.failRead_keeps
    | with_reducible apply State.enqueue_keeps | with_reducible apply State.complete_keeps
    | with_reducible apply State.reserve_keeps | with_reducible apply State.setEntry_keeps
    | with_reducible apply State.inc_keeps | with_reducible apply State.wrN_keeps | with_reducible apply Keeps.ite
    | with_reducible apply State.rest_keeps | rw [State.rest_eq] | split)

theorem execTxFetchDone_keeps {md : Bool} {orig : State} {q : Nat} {frame : Option (List Byte)} {s : State} (hkeep :
    Keeps md orig s) :
    Keeps md orig (Answer.state (execTxFetchDone q frame s) s) := by
  unfold execTxFetchDone
  try unfold Answer.state
  try dsimp only
  repeat' (first
    | with_reducible assumption | with_reducible apply State.aqUse_keeps | with_reducible apply State.txUse_keeps
    | with_reducible apply State.stall_keeps | with_reducible apply Keeps.ite | with_reducible apply State.rest_keeps
    | rw [State.rest_eq] | split)

theorem State.aqExpire_keeps {md : Bool} {orig : State} {s : State} {q : Nat} {e : Entry} (hkeep : Keeps md orig s) :
    Keeps md orig (State.aqExpire s q e) := by
  unfold State.aqExpire
  try dsimp only
  repeat' (first
    | with_reducible assumption | with_reducible apply State.complete_keeps
    | with_reducible apply State.endBinding_keeps | with_reducible apply State.freeRunAhead_keeps
    | with_reducible apply State.raise_keeps | with_reducible apply State.inc_keeps
    | with_reducible apply State.rest_keeps | rw [State.rest_eq])

theorem execRaWindowExpiry_keeps {md : Bool} {orig : State} {q : Nat} {i : Nat} {s : State} (hkeep : Keeps md orig s) :
    Keeps md orig (Answer.state (execRaWindowExpiry q i s) s) := by
  unfold execRaWindowExpiry
  try unfold Answer.state
  try dsimp only
  repeat' (first
    | with_reducible assumption | with_reducible apply State.aqExpire_keeps
    | with_reducible apply State.settleStop_keeps | with_reducible apply State.unline_keeps
    | with_reducible apply Keeps.ite | with_reducible apply State.rest_keeps | rw [State.rest_eq] | split)

theorem State.aqDropRest_keeps {md : Bool} {orig : State} {s : State} {q : Nat} (hkeep : Keeps md orig s) :
    Keeps md orig (State.aqDropRest s q) := by
  unfold State.aqDropRest
  try dsimp only
  repeat' (first
    | with_reducible assumption | (intro _; intros) | with_reducible apply State.dropFrame_keeps
    | with_reducible refine forEach_keeps ?_ ?_)

theorem State.aqLand_keeps {md : Bool} {orig : State} {s0 : State} {q : Nat} (hkeep : Keeps md orig s0) :
    Keeps md orig (State.aqLand s0 q) := by
  unfold State.aqLand
  try dsimp only
  repeat' (first
    | with_reducible assumption | (intro _; intros) | with_reducible apply State.aqDropRest_keeps
    | with_reducible apply State.completeTx_keeps | with_reducible apply State.settleStop_keeps
    | with_reducible apply State.endBinding_keeps | with_reducible apply State.freeRunAhead_keeps
    | with_reducible refine forEach_keeps ?_ ?_ | with_reducible apply Keeps.ite
    | with_reducible apply State.rest_keeps | rw [State.rest_eq] | split)

theorem State.countCancel_keeps {md : Bool} {orig : State} {s : State} {q : Nat} {st : Nat} (hkeep : Keeps md orig s) :
    Keeps md orig (State.countCancel s q st) := by
  unfold State.countCancel
  try dsimp only
  repeat' (first
    | with_reducible assumption | with_reducible apply State.raise_keeps | with_reducible apply State.inc_keeps
    | with_reducible apply Keeps.ite | split)

theorem State.terminate_keeps {md : Bool} {orig : State} {s : State} {q : Nat} {i : Nat} (hkeep : Keeps md orig s) :
    Keeps md orig (State.terminate s q i) := by
  unfold State.terminate
  try dsimp only
  repeat' (first
    | with_reducible assumption | (intro _; intros) | with_reducible apply State.endCopy_keeps
    | with_reducible apply State.raise_keeps | with_reducible apply State.setPort_keeps
    | with_reducible refine forEach_keeps ?_ ?_ | with_reducible apply Keeps.ite
    | with_reducible apply State.rest_keeps | rw [State.rest_eq] | split)

theorem State.flushOutcomes_keeps {md : Bool} {orig : State} {s : State} {q : Nat} (hkeep : Keeps md orig s) :
    Keeps md orig (State.flushOutcomes s q) := by
  unfold State.flushOutcomes
  try dsimp only
  repeat' (first
    | with_reducible assumption | (intro _; intros) | with_reducible apply State.complete_keeps
    | with_reducible apply State.stall_keeps | with_reducible apply State.reserve_keeps
    | with_reducible refine forEach_keeps ?_ ?_ | with_reducible apply Keeps.ite | split)

theorem State.cancelEntry_keeps {md : Bool} {orig : State} {s0 : State} {q : Nat} {i : Nat} {tag : Nat} (hkeep : Keeps
    md orig s0) :
    Keeps md orig (State.cancelEntry s0 q i tag) := by
  unfold State.cancelEntry
  try dsimp only
  repeat' (first
    | with_reducible assumption | (intro _; intros) | with_reducible apply State.flushOutcomes_keeps
    | with_reducible apply State.terminate_keeps | with_reducible apply State.countCancel_keeps
    | with_reducible apply State.settleLine_keeps | with_reducible apply State.dropFrame_keeps
    | with_reducible apply State.completeCancel_keeps | with_reducible apply State.settleStop_keeps
    | with_reducible apply State.complete_keeps | with_reducible apply State.freeRunAhead_keeps
    | with_reducible apply State.setEntry_keeps | with_reducible apply State.setQueue_keeps
    | with_reducible apply State.unline_keeps | with_reducible apply State.inc_keeps
    | with_reducible refine forEach_keeps ?_ ?_ | with_reducible apply Keeps.ite
    | with_reducible apply State.rest_keeps | rw [State.rest_eq] | split)

/-! ### Publish -/

theorem State.setTxeFields_keeps {md : Bool} {orig : State} {s : State} {unit : Nat} {index : Nat} (hkeep : Keeps md
    orig s) :
    Keeps md orig (State.setTxeFields s unit index) := by
  unfold State.setTxeFields
  try dsimp only
  repeat' (first | with_reducible assumption | with_reducible apply State.setF_keeps)

theorem State.txeResult_keeps {md : Bool} {orig : State} {s : State} {code : Nat} (hkeep : Keeps md orig s) :
    Keeps md orig (State.txeResult s code) := by
  unfold State.txeResult
  try dsimp only
  repeat' (first | with_reducible assumption | with_reducible apply State.result_keeps)

theorem State.txeFinish_keeps {md : Bool} {orig : State} {s : State} {j : Nat} {code : Nat} (hkeep : Keeps md orig s) :
    Keeps md orig (State.txeFinish s j code) := by
  unfold State.txeFinish
  try dsimp only
  repeat' (first | with_reducible assumption | with_reducible apply State.finish_keeps)

theorem State.settleTxeBusy_keeps {md : Bool} {orig : State} {s : State} (hkeep : Keeps md orig s) :
    Keeps md orig (State.settleTxeBusy s) := by
  unfold State.settleTxeBusy
  try dsimp only
  repeat' (first | with_reducible assumption | with_reducible apply State.setBit_keeps)

theorem execLoadPending_keeps {md : Bool} {orig : State} {req : Requester} {index : Nat} {s : State} (hkeep : Keeps md
    orig s) :
    Keeps md orig (Answer.state (execLoadPending req index s) s) := by
  unfold execLoadPending
  try unfold Answer.state
  try dsimp only
  repeat' (first
    | with_reducible assumption | (intro _; intros) | with_reducible apply State.settleTxeBusy_keeps
    | with_reducible apply State.txeResult_keeps | with_reducible apply State.setTxeFields_keeps
    | with_reducible apply State.setGcb_keeps | with_reducible refine State.guarded_keeps ?_ ?_
    | with_reducible apply State.defer_keeps | with_reducible apply Answer.state_keeps
    | with_reducible apply State.setBit_keeps | with_reducible apply Keeps.ite
    | with_reducible apply State.rest_keeps | rw [State.rest_eq] | split)

theorem State.gcbLoaded_keeps {md : Bool} {orig : State} {s : State} {i : Nat} {l : TplLoad} {bytes : Option (List
    Byte)} (hkeep : Keeps md orig s) :
    Keeps md orig (State.gcbLoaded s i l bytes) := by
  unfold State.gcbLoaded
  try dsimp only
  repeat' (first
    | with_reducible assumption | with_reducible apply State.settleTxeBusy_keeps
    | with_reducible apply State.txeFinish_keeps | with_reducible apply State.tplWrite_keeps
    | with_reducible apply State.setGcb_keeps | with_reducible apply State.setBit_keeps
    | with_reducible apply State.setF_keeps | with_reducible apply State.wrN_keeps | with_reducible apply Keeps.ite
    | with_reducible apply State.rest_keeps | rw [State.rest_eq] | split)

theorem State.gcbCommitFirst_keeps {md : Bool} {orig : State} {s : State} {i : Nat} {late : Bool} (hkeep : Keeps md
    orig s) :
    Keeps md orig (State.gcbCommitFirst s i late) := by
  unfold State.gcbCommitFirst
  try dsimp only
  repeat' (first
    | with_reducible assumption | (intro _; intros) | with_reducible apply State.startFrame_keeps
    | with_reducible apply State.gcbCommit_keeps | with_reducible apply State.unline_keeps
    | with_reducible refine forEach_keeps ?_ ?_ | with_reducible apply Keeps.ite
    | with_reducible apply State.rest_keeps | rw [State.rest_eq] | split)

theorem State.gooseState_keeps {md : Bool} {orig : State} {s : State} {i : Nat} {late : Bool} (hkeep : Keeps md orig
    s) :
    Keeps md orig (State.gooseState s i late) := by
  unfold State.gooseState
  try dsimp only
  repeat' (first
    | with_reducible assumption | with_reducible apply State.gcbCommitFirst_keeps
    | with_reducible apply State.inc_keeps | with_reducible apply Keeps.ite | split)

theorem execGcbCommit_keeps {md : Bool} {orig : State} {req : Requester} {index : Nat} {s : State} (hkeep : Keeps md
    orig s) :
    Keeps md orig (Answer.state (execGcbCommit req index s) s) := by
  unfold execGcbCommit
  try unfold Answer.state
  try dsimp only
  repeat' (first
    | with_reducible assumption | (intro _; intros) | with_reducible apply State.gcbCommitFirst_keeps
    | with_reducible apply State.txeResult_keeps | with_reducible apply State.setTxeFields_keeps
    | with_reducible refine State.guarded_keeps ?_ ?_ | with_reducible apply Answer.state_keeps
    | with_reducible apply Keeps.ite | split)

theorem execGcbEnable_keeps {md : Bool} {orig : State} {req : Requester} {index : Nat} {s : State} (hkeep : Keeps md
    orig s) :
    Keeps md orig (Answer.state (execGcbEnable req index s) s) := by
  unfold execGcbEnable
  try unfold Answer.state
  try dsimp only
  repeat' (first
    | with_reducible assumption | (intro _; intros) | with_reducible apply State.txeResult_keeps
    | with_reducible apply State.setTxeFields_keeps | with_reducible apply State.setGcb_keeps
    | with_reducible refine State.guarded_keeps ?_ ?_ | with_reducible apply Answer.state_keeps
    | with_reducible apply Keeps.ite | with_reducible apply State.rest_keeps | rw [State.rest_eq] | split)

theorem execGcbDisable_keeps {md : Bool} {orig : State} {req : Requester} {index : Nat} {s : State} (hkeep : Keeps md
    orig s) :
    Keeps md orig (Answer.state (execGcbDisable req index s) s) := by
  unfold execGcbDisable
  try unfold Answer.state
  try dsimp only
  repeat' (first
    | with_reducible assumption | (intro _; intros) | with_reducible apply State.txeResult_keeps
    | with_reducible apply State.setTxeFields_keeps | with_reducible apply State.setGcb_keeps
    | with_reducible refine State.guarded_keeps ?_ ?_ | with_reducible apply Answer.state_keeps
    | with_reducible apply Keeps.ite | with_reducible apply State.rest_keeps | rw [State.rest_eq] | split)

theorem execTxeCmdReserved_keeps {md : Bool} {orig : State} {req : Requester} {unit : Nat} {index : Nat} {s : State}
    (hkeep : Keeps md orig s) :
    Keeps md orig (Answer.state (execTxeCmdReserved req unit index s) s) := by
  unfold execTxeCmdReserved
  try unfold Answer.state
  try dsimp only
  repeat' (first
    | with_reducible assumption | (intro _; intros) | with_reducible apply State.txeResult_keeps
    | with_reducible apply State.setTxeFields_keeps | with_reducible refine State.guarded_keeps ?_ ?_
    | with_reducible apply Answer.state_keeps)

theorem State.gcbStart_keeps {md : Bool} {orig : State} {s : State} {i : Nat} (hkeep : Keeps md orig s) :
    Keeps md orig (State.gcbStart s i) := by
  unfold State.gcbStart
  try dsimp only
  repeat' (first
    | with_reducible assumption | with_reducible apply State.gcbDue_keeps | with_reducible apply State.gcbDrop_keeps
    | with_reducible apply State.setGcb_keeps | with_reducible apply Keeps.ite
    | with_reducible apply State.rest_keeps | rw [State.rest_eq] | split)

theorem State.gcbLand_keeps {md : Bool} {orig : State} {s : State} {i : Nat} (hkeep : Keeps md orig s) :
    Keeps md orig (State.gcbLand s i) := by
  unfold State.gcbLand
  try dsimp only
  repeat' (first
    | with_reducible assumption | with_reducible apply State.gcbStart_keeps
    | with_reducible apply State.gcbDrop_keeps | with_reducible apply State.setGcb_keeps
    | with_reducible apply State.setBit_keeps | with_reducible apply State.wrN_keeps
    | with_reducible apply State.wr_keeps | with_reducible apply Keeps.ite | with_reducible apply State.rest_keeps
    | rw [State.rest_eq] | split)

theorem State.gcbMode_keeps {md : Bool} {orig : State} {s : State} {i : Nat} {host : Bool} (hkeep : Keeps md orig s) :
    Keeps md orig (State.gcbMode s i host) := by
  unfold State.gcbMode
  try dsimp only
  repeat' (first
    | with_reducible assumption | with_reducible apply State.gcbDue_keeps | with_reducible apply State.gcbDrop_keeps
    | with_reducible apply State.setGcb_keeps | with_reducible apply State.setBit_keeps
    | with_reducible apply State.wrN_keeps | with_reducible apply Keeps.ite | with_reducible apply State.rest_keeps
    | rw [State.rest_eq] | split)

theorem State.gcbsOff_keeps {md : Bool} {orig : State} {s : State} (hkeep : Keeps md orig s) :
    Keeps md orig (State.gcbsOff s) := by
  unfold State.gcbsOff
  try dsimp only
  repeat' (first
    | with_reducible assumption | (intro _; intros) | with_reducible apply State.gcbDrop_keeps
    | with_reducible apply State.setGcb_keeps | with_reducible apply State.setBit_keeps
    | with_reducible refine forEach_keeps ?_ ?_ | with_reducible apply State.rest_keeps | rw [State.rest_eq])

theorem execGcbFrameDue_keeps {md : Bool} {orig : State} {i : Nat} {s : State} (hkeep : Keeps md orig s) :
    Keeps md orig (Answer.state (execGcbFrameDue i s) s) := by
  unfold execGcbFrameDue
  try unfold Answer.state
  try dsimp only
  repeat' (first
    | with_reducible assumption | with_reducible (refine State.reach_keeps ?_ (by assumption))
    | with_reducible apply State.gcbDue_keeps | with_reducible apply Keeps.ite
    | with_reducible apply State.rest_keeps | rw [State.rest_eq] | split)

theorem State.gcbCatchUp_keeps {md : Bool} {orig : State} {s : State} {i : Nat} {l : Nat} (hkeep : Keeps md orig s) :
    Keeps md orig (State.gcbCatchUp s i l) := by
  induction l generalizing s i with
  | zero =>
    unfold State.gcbCatchUp
    try dsimp only
    repeat' (first
      | (with_reducible assumption)
      | fail
      | with_reducible apply State.gcbDue_keeps
      | with_reducible apply Keeps.ite
      | split)
  | succ n ih =>
    unfold State.gcbCatchUp
    try dsimp only
    repeat' (first
      | with_reducible assumption | with_reducible apply ih | with_reducible apply State.gcbDue_keeps
      | with_reducible apply Keeps.ite | split)

theorem State.gcbsCatchUp_keeps {md : Bool} {orig : State} {s : State} (hkeep : Keeps md orig s) :
    Keeps md orig (State.gcbsCatchUp s) := by
  unfold State.gcbsCatchUp
  try dsimp only
  repeat' (first
    | with_reducible assumption | (intro _; intros) | with_reducible apply State.gcbCatchUp_keeps
    | with_reducible refine forEach_keeps ?_ ?_)

theorem State.setSvp_keeps {md : Bool} {orig : State} {s : State} {n : Nat} {x : SvpSt} (hkeep : Keeps md orig s) :
    Keeps md orig (State.setSvp s n x) := by
  unfold State.setSvp
  try dsimp only
  repeat' (first | with_reducible assumption | with_reducible apply State.rest_keeps | rw [State.rest_eq])

theorem execSvpLoad_keeps {md : Bool} {orig : State} {req : Requester} {index : Nat} {s : State} (hkeep : Keeps md
    orig s) :
    Keeps md orig (Answer.state (execSvpLoad req index s) s) := by
  unfold execSvpLoad
  try unfold Answer.state
  try dsimp only
  repeat' (first
    | with_reducible assumption | (intro _; intros) | with_reducible apply State.setSvp_keeps
    | with_reducible apply State.settleTxeBusy_keeps | with_reducible apply State.txeResult_keeps
    | with_reducible apply State.setTxeFields_keeps | with_reducible refine State.guarded_keeps ?_ ?_
    | with_reducible apply State.defer_keeps | with_reducible apply Answer.state_keeps
    | with_reducible apply State.setBit_keeps | with_reducible apply Keeps.ite
    | with_reducible apply State.rest_keeps | rw [State.rest_eq] | split)

theorem State.svpLoaded_keeps {md : Bool} {orig : State} {s : State} {n : Nat} {l : TplLoad} {bytes : Option (List
    Byte)} (hkeep : Keeps md orig s) :
    Keeps md orig (State.svpLoaded s n l bytes) := by
  unfold State.svpLoaded
  try dsimp only
  repeat' (first
    | with_reducible assumption | with_reducible apply State.setSvp_keeps
    | with_reducible apply State.settleTxeBusy_keeps | with_reducible apply State.txeFinish_keeps
    | with_reducible apply State.setBit_keeps | with_reducible apply State.setF_keeps
    | with_reducible apply Keeps.ite | with_reducible apply State.rest_keeps | rw [State.rest_eq] | split)

theorem State.loadRead_keeps {md : Bool} {orig : State} {s : State} {l : Option TplLoad} {f : TplLoad → State → State}
    (hkeep : Keeps md orig s) (hstep : ∀ a0 y, Keeps md orig y → Keeps md orig (f a0 y)) :
    Keeps md orig (State.loadRead s l f) := by
  unfold State.loadRead
  try dsimp only
  repeat' (first
    | with_reducible assumption | with_reducible apply hstep | with_reducible apply State.emit_keeps
    | with_reducible apply Keeps.ite | with_reducible apply State.rest_keeps | rw [State.rest_eq] | split)

theorem execTemplateLoadDone_keeps {md : Bool} {orig : State} {unit : Nat} {index : Nat} {bytes : Option (List Byte)}
    {s : State} (hkeep : Keeps md orig s) :
    Keeps md orig (Answer.state (execTemplateLoadDone unit index bytes s) s) := by
  unfold execTemplateLoadDone
  try unfold Answer.state
  try dsimp only
  repeat' (first
    | with_reducible assumption | (intro _; intros) | with_reducible refine State.loadRead_keeps ?_ ?_
    | with_reducible apply State.svpLoaded_keeps | with_reducible apply State.gcbLoaded_keeps
    | with_reducible apply Keeps.ite | split)

theorem execSvpEnable_keeps {md : Bool} {orig : State} {req : Requester} {index : Nat} {s : State} (hkeep : Keeps md
    orig s) :
    Keeps md orig (Answer.state (execSvpEnable req index s) s) := by
  unfold execSvpEnable
  try unfold Answer.state
  try dsimp only
  repeat' (first
    | with_reducible assumption | (intro _; intros) | with_reducible apply State.setSvp_keeps
    | with_reducible apply State.txeResult_keeps | with_reducible apply State.setTxeFields_keeps
    | with_reducible refine State.guarded_keeps ?_ ?_ | with_reducible apply Answer.state_keeps
    | with_reducible apply Keeps.ite | with_reducible apply State.rest_keeps | rw [State.rest_eq] | split)

theorem execSvpDisable_keeps {md : Bool} {orig : State} {req : Requester} {index : Nat} {s : State} (hkeep : Keeps md
    orig s) :
    Keeps md orig (Answer.state (execSvpDisable req index s) s) := by
  unfold execSvpDisable
  try unfold Answer.state
  try dsimp only
  repeat' (first
    | with_reducible assumption | (intro _; intros) | with_reducible apply State.setSvp_keeps
    | with_reducible apply State.txeResult_keeps | with_reducible apply State.setTxeFields_keeps
    | with_reducible refine State.guarded_keeps ?_ ?_ | with_reducible apply Answer.state_keeps
    | with_reducible apply Keeps.ite | with_reducible apply State.rest_keeps | rw [State.rest_eq] | split)

theorem State.svpLand_keeps {md : Bool} {orig : State} {s : State} {n : Nat} (hkeep : Keeps md orig s) :
    Keeps md orig (State.svpLand s n) := by
  unfold State.svpLand
  try dsimp only
  repeat' (first
    | with_reducible assumption | with_reducible apply State.setSvp_keeps | with_reducible apply State.setBit_keeps
    | with_reducible apply Keeps.ite | with_reducible apply State.rest_keeps | rw [State.rest_eq] | split)

theorem execSvpSlotRead_keeps {md : Bool} {orig : State} {n : Nat} {f : Nat} {values : Option (List Byte)} {s : State}
    (hkeep : Keeps md orig s) :
    Keeps md orig (Answer.state (execSvpSlotRead n f values s) s) := by
  unfold execSvpSlotRead
  try unfold Answer.state
  try dsimp only
  repeat' (first
    | with_reducible assumption | with_reducible apply State.setSvp_keeps | with_reducible apply State.emit_keeps
    | with_reducible apply Keeps.ite | with_reducible apply State.rest_keeps | rw [State.rest_eq] | split)

theorem execSvpFrameReady_keeps {md : Bool} {orig : State} {n : Nat} {s : State} (hkeep : Keeps md orig s) :
    Keeps md orig (Answer.state (execSvpFrameReady n s) s) := by
  unfold execSvpFrameReady
  try unfold Answer.state
  try dsimp only
  repeat' (first
    | with_reducible assumption | with_reducible apply State.setSvp_keeps
    | with_reducible (refine State.reach_keeps ?_ (by assumption)) | with_reducible apply State.enqueue_keeps
    | with_reducible apply State.raise_keeps | with_reducible apply State.inc_keeps | with_reducible apply Keeps.ite
    | with_reducible apply State.rest_keeps | rw [State.rest_eq] | split)

end Sys2Proof.Machine
end

