-- ==== Sys2Proof/Laws/KeepsBlocks.lean ====
section
/-! SUPPORT. Every operation of queues, DMA, actions, mirror, streams, faults, plan, landing and tick bus keeps it. -/

namespace Sys2Proof.Machine

set_option linter.unusedTactic false
set_option linter.unreachableTactic false

/-! ### Queues -/

theorem State.issueFetch_keeps {md : Bool} {orig : State} {s : State} {q : Nat} (hkeep : Keeps md orig s) :
    Keeps md orig (State.issueFetch s q) := by
  unfold State.issueFetch
  try dsimp only
  repeat' (first
    | with_reducible assumption | with_reducible apply State.setQueue_keeps | with_reducible apply State.emit_keeps
    | with_reducible apply Keeps.ite | with_reducible apply State.rest_keeps | rw [State.rest_eq] | split)

theorem State.doorbell_keeps {md : Bool} {orig : State} {s : State} {r : Requester} {q : Nat} {f : State → State}
    (hkeep : Keeps md orig s) (hstep : ∀ y, Keeps md orig y → Keeps md orig (f  y)) :
    Keeps md orig (State.doorbell s r q f) := by
  unfold State.doorbell
  try dsimp only
  repeat' (first
    | with_reducible assumption | with_reducible apply hstep | with_reducible apply State.inc_keeps
    | with_reducible apply Keeps.ite | with_reducible apply State.rest_keeps | rw [State.rest_eq] | split)

theorem State.postDoorbell_keeps {md : Bool} {orig : State} {s : State} {r : Requester} {q : Nat} {f : State → State}
    (hkeep : Keeps md orig s) (hstep : ∀ y, Keeps md orig y → Keeps md orig (f  y)) :
    Keeps md orig (State.postDoorbell s r q f) := by
  unfold State.postDoorbell
  try dsimp only
  repeat' (first
    | with_reducible assumption | (intro _; intros) | with_reducible apply hstep
    | with_reducible refine State.doorbell_keeps ?_ ?_ | with_reducible apply State.inc_keeps
    | with_reducible apply Keeps.ite | split)

theorem State.drainQueue_keeps {md : Bool} {orig : State} {s : State} {q : Nat} (hkeep : Keeps md orig s) :
    Keeps md orig (State.drainQueue s q) := by
  unfold State.drainQueue
  try dsimp only
  repeat' (first
    | with_reducible assumption | with_reducible apply State.flushOutcomes_keeps
    | with_reducible apply State.settleStop_keeps | with_reducible apply State.settleFailed_keeps
    | with_reducible apply State.drainAborts_keeps)

theorem State.reportHead_keeps {md : Bool} {orig : State} {s : State} {r : Nat} {v : Nat} (hkeep : Keeps md orig s) :
    Keeps md orig (State.reportHead s r v) := by
  unfold State.reportHead
  try dsimp only
  repeat' (first
    | with_reducible assumption | (intro _; intros) | with_reducible apply State.drainQueue_keeps
    | with_reducible apply State.raise_keeps | with_reducible apply State.hwSet_keeps
    | with_reducible apply State.setF_keeps | with_reducible refine forEach_keeps ?_ ?_
    | with_reducible apply Keeps.ite | split)

theorem execTail_keeps {md : Bool} {orig : State} {req : Requester} {q : Nat} {v : Reg} {s : State} (hkeep : Keeps md
    orig s) :
    Keeps md orig (Answer.state (execTail req q v s) s) := by
  unfold execTail
  try unfold Answer.state
  try dsimp only
  repeat' (first
    | with_reducible assumption | (intro _; intros) | with_reducible refine State.postDoorbell_keeps ?_ ?_
    | with_reducible apply State.issueFetch_keeps | with_reducible apply State.settleStop_keeps
    | with_reducible apply State.stopQueue_keeps | with_reducible apply State.raise_keeps
    | with_reducible apply State.cross_keeps | with_reducible apply State.inc_keeps
    | with_reducible apply State.setF_keeps | with_reducible apply Keeps.ite | split)

theorem execCancel_keeps {md : Bool} {orig : State} {req : Requester} {q : Nat} {v : Reg} {tag : Nat} {s : State}
    (hkeep : Keeps md orig s) :
    Keeps md orig (Answer.state (execCancel req q v tag s) s) := by
  unfold execCancel
  try unfold Answer.state
  try dsimp only
  repeat' (first
    | with_reducible assumption | (intro _; intros) | with_reducible refine State.postDoorbell_keeps ?_ ?_
    | with_reducible apply State.cancelEntry_keeps)

theorem State.invalOne_keeps {md : Bool} {orig : State} {s : State} {q : Nat} {i : Nat} {tag : Nat} (hkeep : Keeps md
    orig s) :
    Keeps md orig (State.invalOne s q i tag) := by
  unfold State.invalOne
  try dsimp only
  repeat' (first
    | with_reducible assumption | with_reducible apply State.cancelEntry_keeps
    | with_reducible apply State.dropEntry_keeps | with_reducible apply State.inc_keeps
    | with_reducible apply State.setF_keeps | with_reducible apply Keeps.ite | with_reducible apply State.rest_keeps
    | rw [State.rest_eq] | split)

theorem execInval_keeps {md : Bool} {orig : State} {req : Requester} {q : Nat} {v : Reg} {tags : List Nat} {s : State}
    (hkeep : Keeps md orig s) :
    Keeps md orig (Answer.state (execInval req q v tags s) s) := by
  unfold execInval
  try unfold Answer.state
  try dsimp only
  repeat' (first
    | with_reducible assumption | (intro _; intros) | with_reducible apply State.invalOne_keeps
    | with_reducible refine State.postDoorbell_keeps ?_ ?_ | with_reducible apply State.issueFetch_keeps
    | with_reducible apply State.setQueue_keeps | with_reducible refine forEach_keeps ?_ ?_
    | with_reducible apply Keeps.ite | with_reducible apply State.rest_keeps | rw [State.rest_eq] | split)

theorem execCrHead_keeps {md : Bool} {orig : State} {req : Requester} {q : Nat} {v : Reg} {s : State} (hkeep : Keeps
    md orig s) :
    Keeps md orig (Answer.state (execCrHead req q v s) s) := by
  unfold execCrHead
  try unfold Answer.state
  try dsimp only
  repeat' (first
    | with_reducible assumption | (intro _; intros) | with_reducible apply State.reportHead_keeps
    | with_reducible refine State.doorbell_keeps ?_ ?_)

theorem State.qmReach_keeps {md : Bool} {orig : State} {s : State} {k : Nat} {f : State → State} (hkeep : Keeps md
    orig s) (hstep : ∀ y, Keeps md orig y → Keeps md orig (f  y)) :
    Keeps md orig (State.qmReach s k f) := by
  unfold State.qmReach
  try dsimp only
  repeat' (first
    | with_reducible assumption | with_reducible apply hstep | with_reducible apply State.csrTimeout_keeps
    | with_reducible apply Keeps.ite | split)

theorem State.qmWrite_keeps {md : Bool} {orig : State} {s : State} {r : Requester} {k : Nat} {ring : Bool} {i : Nat}
    {f : State → State} (hkeep : Keeps md orig s) (hstep : ∀ y, Keeps md orig y → Keeps md orig (f  y)) :
    Keeps md orig (State.qmWrite s r k ring i f) := by
  unfold State.qmWrite
  try dsimp only
  repeat' (first
    | with_reducible assumption | (intro _; intros) | with_reducible apply hstep
    | with_reducible refine State.qmReach_keeps ?_ ?_ | with_reducible apply State.inc_keeps
    | with_reducible apply Keeps.ite | with_reducible apply State.rest_keeps | rw [State.rest_eq] | split)

theorem State.qmCommand_keeps {md : Bool} {orig : State} {s : State} {r : Requester} {ring : Bool} {index : Nat} {f :
    Nat → State → State} (hkeep : Keeps md orig s) (hstep : ∀ a0 y, Keeps md orig y → Keeps md orig (f a0 y)) :
    Keeps md orig (State.qmCommand s r ring index f) := by
  unfold State.qmCommand
  try dsimp only
  repeat' (first
    | with_reducible assumption | (intro _; intros) | with_reducible apply hstep
    | with_reducible refine State.qmReach_keeps ?_ ?_ | with_reducible apply State.result_keeps
    | with_reducible apply Answer.state_keeps | with_reducible apply State.inc_keeps
    | with_reducible apply State.setBit_keeps | with_reducible apply State.setF_keeps
    | with_reducible apply Keeps.ite | with_reducible apply State.rest_keeps | rw [State.rest_eq] | split)

theorem State.takeCfg_keeps {md : Bool} {orig : State} {s : State} {q : Nat} (hkeep : Keeps md orig s) :
    Keeps md orig (State.takeCfg s q) := by
  unfold State.takeCfg
  try dsimp only
  repeat' (first
    | with_reducible assumption | with_reducible apply State.setQueue_keeps | with_reducible apply State.rest_keeps
    | rw [State.rest_eq])

theorem State.setQState_keeps {md : Bool} {orig : State} {s : State} {q : Nat} {st : Nat} (hkeep : Keeps md orig s) :
    Keeps md orig (State.setQState s q st) := by
  unfold State.setQState
  try dsimp only
  repeat' (first | with_reducible assumption | with_reducible apply State.setF_keeps)

theorem execQmEnable_keeps {md : Bool} {orig : State} {req : Requester} {ring : Bool} {index : Nat} {s : State} (hkeep
    : Keeps md orig s) :
    Keeps md orig (Answer.state (execQmEnable req ring index s) s) := by
  unfold execQmEnable
  try unfold Answer.state
  try dsimp only
  repeat' (first
    | with_reducible assumption | (intro _; intros) | with_reducible apply State.setQState_keeps
    | with_reducible apply State.takeCfg_keeps | with_reducible refine State.qmCommand_keeps ?_ ?_
    | with_reducible apply State.issueFetch_keeps | with_reducible apply State.result_keeps
    | with_reducible apply Answer.state_keeps | with_reducible apply State.setBit_keeps
    | with_reducible apply Keeps.ite | split)

theorem State.holdQueue_keeps {md : Bool} {orig : State} {s : State} {q : Nat} (hkeep : Keeps md orig s) :
    Keeps md orig (State.holdQueue s q) := by
  unfold State.holdQueue
  try dsimp only
  repeat' (first
    | with_reducible assumption | with_reducible apply State.setQState_keeps | with_reducible apply Keeps.ite | split)

theorem State.releaseQueue_keeps {md : Bool} {orig : State} {s : State} {q : Nat} (hkeep : Keeps md orig s) :
    Keeps md orig (State.releaseQueue s q) := by
  unfold State.releaseQueue
  try dsimp only
  repeat' (first
    | with_reducible assumption | with_reducible apply State.setQState_keeps | with_reducible apply Keeps.ite | split)

theorem execQmHold_keeps {md : Bool} {orig : State} {req : Requester} {ring : Bool} {index : Nat} {s : State} (hkeep :
    Keeps md orig s) :
    Keeps md orig (Answer.state (execQmHold req ring index s) s) := by
  unfold execQmHold
  try unfold Answer.state
  try dsimp only
  repeat' (first
    | with_reducible assumption | (intro _; intros) | with_reducible apply State.holdQueue_keeps
    | with_reducible refine State.qmCommand_keeps ?_ ?_ | with_reducible apply State.result_keeps
    | with_reducible apply Answer.state_keeps | with_reducible apply Keeps.ite | split)

theorem execQmRelease_keeps {md : Bool} {orig : State} {req : Requester} {ring : Bool} {index : Nat} {s : State}
    (hkeep : Keeps md orig s) :
    Keeps md orig (Answer.state (execQmRelease req ring index s) s) := by
  unfold execQmRelease
  try unfold Answer.state
  try dsimp only
  repeat' (first
    | with_reducible assumption | (intro _; intros) | with_reducible apply State.releaseQueue_keeps
    | with_reducible refine State.qmCommand_keeps ?_ ?_ | with_reducible apply State.result_keeps
    | with_reducible apply Answer.state_keeps | with_reducible apply Keeps.ite | split)

theorem execQmStop_keeps {md : Bool} {orig : State} {req : Requester} {ring : Bool} {index : Nat} {s : State} (hkeep :
    Keeps md orig s) :
    Keeps md orig (Answer.state (execQmStop req ring index s) s) := by
  unfold execQmStop
  try unfold Answer.state
  try dsimp only
  repeat' (first
    | with_reducible assumption | (intro _; intros) | with_reducible refine State.qmCommand_keeps ?_ ?_
    | with_reducible apply State.settleStop_keeps | with_reducible apply State.defer_keeps
    | with_reducible apply State.result_keeps | with_reducible apply State.stopQueue_keeps
    | with_reducible apply State.setQueue_keeps | with_reducible apply Answer.state_keeps
    | with_reducible apply State.setBit_keeps | with_reducible apply Keeps.ite
    | with_reducible apply State.rest_keeps | rw [State.rest_eq] | split)

theorem execResume_keeps {md : Bool} {orig : State} {req : Requester} {ring : Bool} {index : Nat} {s : State} (hkeep :
    Keeps md orig s) :
    Keeps md orig (Answer.state (execResume req ring index s) s) := by
  unfold execResume
  try unfold Answer.state
  try dsimp only
  repeat' (first
    | with_reducible assumption | (intro _; intros) | with_reducible apply State.setQState_keeps
    | with_reducible apply State.takeCfg_keeps | with_reducible refine State.qmCommand_keeps ?_ ?_
    | with_reducible apply State.issueFetch_keeps | with_reducible apply State.result_keeps
    | with_reducible apply Answer.state_keeps | with_reducible apply State.setF_keeps
    | with_reducible apply Keeps.ite | split)

theorem execQmDisable_keeps {md : Bool} {orig : State} {req : Requester} {ring : Bool} {index : Nat} {s : State}
    (hkeep : Keeps md orig s) :
    Keeps md orig (Answer.state (execQmDisable req ring index s) s) := by
  unfold execQmDisable
  try unfold Answer.state
  try dsimp only
  repeat' (first
    | with_reducible assumption | (intro _; intros) | with_reducible apply State.setQState_keeps
    | with_reducible refine State.qmCommand_keeps ?_ ?_ | with_reducible apply State.result_keeps
    | with_reducible apply Answer.state_keeps | with_reducible apply State.setBit_keeps
    | with_reducible apply Keeps.ite | split)

theorem State.clearIdx_keeps {md : Bool} {orig : State} {s : State} {q : Nat} (hkeep : Keeps md orig s) :
    Keeps md orig (State.clearIdx s q) := by
  unfold State.clearIdx
  try dsimp only
  repeat' (first
    | with_reducible assumption | with_reducible apply State.setQueue_keeps | with_reducible apply State.setF_keeps
    | with_reducible apply State.rest_keeps | rw [State.rest_eq])

theorem execResetIdx_keeps {md : Bool} {orig : State} {req : Requester} {ring : Bool} {index : Nat} {s : State} (hkeep
    : Keeps md orig s) :
    Keeps md orig (Answer.state (execResetIdx req ring index s) s) := by
  unfold execResetIdx
  try unfold Answer.state
  try dsimp only
  repeat' (first
    | with_reducible assumption | (intro _; intros) | with_reducible apply State.clearIdx_keeps
    | with_reducible refine State.qmCommand_keeps ?_ ?_ | with_reducible apply State.result_keeps
    | with_reducible apply Answer.state_keeps | with_reducible apply State.setF_keeps
    | with_reducible apply Keeps.ite | split)

theorem execQmCmdReserved_keeps {md : Bool} {orig : State} {req : Requester} {ring : Bool} {index : Nat} {s : State}
    (hkeep : Keeps md orig s) :
    Keeps md orig (Answer.state (execQmCmdReserved req ring index s) s) := by
  unfold execQmCmdReserved
  try unfold Answer.state
  try dsimp only
  repeat' (first
    | with_reducible assumption | (intro _; intros) | with_reducible refine State.qmCommand_keeps ?_ ?_
    | with_reducible apply State.result_keeps | with_reducible apply Answer.state_keeps)

theorem execQueueStopped_keeps {md : Bool} {orig : State} {q : Nat} {s : State} (hkeep : Keeps md orig s) :
    Keeps md orig (Answer.state (execQueueStopped q s) s) := by
  unfold execQueueStopped
  try unfold Answer.state
  try dsimp only
  repeat' (first
    | with_reducible assumption | with_reducible apply State.drainQueue_keeps | with_reducible apply Keeps.ite
    | split)

theorem execCrHeadWrite_keeps {md : Bool} {orig : State} {req : Requester} {r : Nat} {v : Reg} {s : State} (hkeep :
    Keeps md orig s) :
    Keeps md orig (Answer.state (execCrHeadWrite req r v s) s) := by
  unfold execCrHeadWrite
  try unfold Answer.state
  try dsimp only
  repeat' (first
    | with_reducible assumption | (intro _; intros) | with_reducible refine State.qmWrite_keeps ?_ ?_
    | with_reducible apply State.reportHead_keeps)

theorem State.fetched_keeps {md : Bool} {orig : State} {s : State} {q : Nat} {i : Nat} {data : Option (List Byte)}
    (hkeep : Keeps md orig s) :
    Keeps md orig (State.fetched s q i data) := by
  unfold State.fetched
  try dsimp only
  repeat' (first
    | with_reducible assumption | with_reducible apply State.issueFetch_keeps
    | with_reducible apply State.aqLateFront_keeps | with_reducible apply State.settleStop_keeps
    | with_reducible apply State.settleFailed_keeps | with_reducible apply State.setQueue_keeps
    | with_reducible apply State.setF_keeps | with_reducible apply Keeps.ite | with_reducible apply State.rest_keeps
    | rw [State.rest_eq] | split)

theorem execDescFetchDone_keeps {md : Bool} {orig : State} {q : Nat} {data : Option (List Byte)} {s : State} (hkeep :
    Keeps md orig s) :
    Keeps md orig (Answer.state (execDescFetchDone q data s) s) := by
  unfold execDescFetchDone
  try unfold Answer.state
  try dsimp only
  repeat' (first
    | with_reducible assumption | with_reducible apply State.fetched_keeps
    | with_reducible apply State.issueFetch_keeps | with_reducible apply State.setQueue_keeps
    | with_reducible apply Keeps.ite | with_reducible apply State.rest_keeps | rw [State.rest_eq] | split)

theorem State.rxNoDesc_keeps {md : Bool} {orig : State} {s : State} {q : Nat} (hkeep : Keeps md orig s) :
    Keeps md orig (State.rxNoDesc s q) := by
  unfold State.rxNoDesc
  try dsimp only
  repeat' (first
    | with_reducible assumption | with_reducible apply State.raise_keeps | with_reducible apply State.inc_keeps)

theorem State.offerRx_keeps {md : Bool} {orig : State} {s : State} {q : Nat} {f : RxFrame} (hkeep : Keeps md orig s) :
    Keeps md orig (State.offerRx s q f) := by
  unfold State.offerRx
  try dsimp only
  repeat' (first
    | with_reducible assumption | with_reducible apply State.rxNoDesc_keeps
    | with_reducible apply State.setQueue_keeps | with_reducible apply State.inc_keeps
    | with_reducible apply Keeps.ite | with_reducible apply State.rest_keeps | rw [State.rest_eq] | split)

theorem State.rxStarve_keeps {md : Bool} {orig : State} {s : State} {q : Nat} (hkeep : Keeps md orig s) :
    Keeps md orig (State.rxStarve s q) := by
  unfold State.rxStarve
  try dsimp only
  repeat' (first
    | with_reducible assumption | (intro _; intros) | with_reducible apply State.rxNoDesc_keeps
    | with_reducible apply State.setQueue_keeps | with_reducible refine forEach_keeps ?_ ?_
    | with_reducible apply State.rest_keeps | rw [State.rest_eq])

theorem execRxFrameDeliver_keeps {md : Bool} {orig : State} {q : Nat} {s : State} (hkeep : Keeps md orig s) :
    Keeps md orig (Answer.state (execRxFrameDeliver q s) s) := by
  unfold execRxFrameDeliver
  try unfold Answer.state
  try dsimp only
  repeat' (first
    | with_reducible assumption | with_reducible apply State.rxStarve_keeps
    | with_reducible apply State.complete_keeps | with_reducible apply State.dataWrite_keeps
    | with_reducible apply State.stall_keeps | with_reducible apply State.reserve_keeps
    | with_reducible apply State.setQueue_keeps | with_reducible apply Keeps.ite
    | with_reducible apply State.rest_keeps | rw [State.rest_eq] | split)

/-! ### Dma -/

theorem State.setChan_keeps {md : Bool} {orig : State} {s : State} {c : Nat} {x : ChanSt} (hkeep : Keeps md orig s) :
    Keeps md orig (State.setChan s c x) := by
  unfold State.setChan
  try dsimp only
  repeat' (first | with_reducible assumption | with_reducible apply State.rest_keeps | rw [State.rest_eq])

theorem State.setCh_keeps {md : Bool} {orig : State} {s : State} {c : Nat} {st : Nat} (hkeep : Keeps md orig s) :
    Keeps md orig (State.setCh s c st) := by
  unfold State.setCh
  try dsimp only
  repeat' (first | with_reducible assumption | with_reducible apply State.setF_keeps)

theorem State.showSet_keeps {md : Bool} {orig : State} {s : State} {k : Nat} {b : List Byte} (hkeep : Keeps md orig s) :
    Keeps md orig (State.showSet s k b) := by
  unfold State.showSet
  try dsimp only
  repeat' (first | with_reducible assumption | with_reducible apply State.wrWords_keeps)

theorem State.swapSets_keeps {md : Bool} {orig : State} {s : State} {c : Nat} (hkeep : Keeps md orig s) :
    Keeps md orig (State.swapSets s c) := by
  unfold State.swapSets
  try dsimp only
  repeat' (first
    | with_reducible assumption | with_reducible apply State.showSet_keeps | with_reducible apply State.setChan_keeps
    | with_reducible apply State.setBit_keeps | with_reducible apply Keeps.ite
    | with_reducible apply State.rest_keeps | rw [State.rest_eq] | split)

theorem State.dropPane_keeps {md : Bool} {orig : State} {s : State} {c : Nat} (hkeep : Keeps md orig s) :
    Keeps md orig (State.dropPane s c) := by
  unfold State.dropPane
  try dsimp only
  repeat' (first
    | with_reducible assumption | with_reducible apply State.raise_keeps | with_reducible apply State.inc_keeps
    | with_reducible apply State.rest_keeps | rw [State.rest_eq] | split)

theorem State.dropPanes_keeps {md : Bool} {orig : State} {s : State} {c : Nat} {n : Nat} (hkeep : Keeps md orig s) :
    Keeps md orig (State.dropPanes s c n) := by
  unfold State.dropPanes
  try dsimp only
  repeat' (first
    | with_reducible assumption | (intro _; intros) | with_reducible apply State.dropPane_keeps
    | with_reducible refine forEach_keeps ?_ ?_)

theorem State.fetchDesc_keeps {md : Bool} {orig : State} {s : State} {c : Nat} {b : List Byte} (hkeep : Keeps md orig
    s) :
    Keeps md orig (State.fetchDesc s c b) := by
  unfold State.fetchDesc
  try dsimp only
  repeat' (first
    | with_reducible assumption | with_reducible apply State.emit_keeps | with_reducible apply Keeps.ite | split)

theorem State.ignoreTrigger_keeps {md : Bool} {orig : State} {s : State} {c : Nat} (hkeep : Keeps md orig s) :
    Keeps md orig (State.ignoreTrigger s c) := by
  unfold State.ignoreTrigger
  try dsimp only
  repeat' (first
    | with_reducible assumption | with_reducible apply State.setChan_keeps | with_reducible apply State.inc_keeps
    | with_reducible apply State.setBit_keeps | with_reducible apply State.rest_keeps | rw [State.rest_eq])

theorem State.tryStart_keeps {md : Bool} {orig : State} {s : State} {c : Nat} (hkeep : Keeps md orig s) :
    Keeps md orig (State.tryStart s c) := by
  unfold State.tryStart
  try dsimp only
  repeat' (first
    | with_reducible assumption | with_reducible apply State.ignoreTrigger_keeps
    | with_reducible apply State.fetchDesc_keeps | with_reducible apply State.dropPanes_keeps
    | with_reducible apply State.showSet_keeps | with_reducible apply State.setCh_keeps
    | with_reducible apply State.setChan_keeps | with_reducible apply State.stall_keeps
    | with_reducible apply State.reserve_keeps | with_reducible apply State.inc_keeps
    | with_reducible apply State.setBit_keeps | with_reducible apply State.wrN_keeps | with_reducible apply Keeps.ite
    | with_reducible apply State.rest_keeps | rw [State.rest_eq] | split)

theorem State.trigger_keeps {md : Bool} {orig : State} {s : State} {c : Nat} {kind : Nat} {late : Bool} (hkeep : Keeps
    md orig s) :
    Keeps md orig (State.trigger s c kind late) := by
  unfold State.trigger
  try dsimp only
  repeat' (first
    | with_reducible assumption | with_reducible apply State.tryStart_keeps
    | with_reducible apply State.setChan_keeps | with_reducible apply State.inc_keeps
    | with_reducible apply State.setBit_keeps | with_reducible apply Keeps.ite
    | with_reducible apply State.rest_keeps | rw [State.rest_eq] | split)

theorem State.enterIdle_keeps {md : Bool} {orig : State} {s : State} {c : Nat} (hkeep : Keeps md orig s) :
    Keeps md orig (State.enterIdle s c) := by
  unfold State.enterIdle
  try dsimp only
  repeat' (first
    | with_reducible assumption | with_reducible apply State.trigger_keeps
    | with_reducible apply State.tryStart_keeps | with_reducible apply State.setCh_keeps
    | with_reducible apply Keeps.ite | split)

theorem State.chRecord_keeps {md : Bool} {orig : State} {s : State} {c : Nat} {tag : Nat} {code : Nat} {info : Nat}
    {amend : Bool} (hkeep : Keeps md orig s) :
    Keeps md orig (State.chRecord s c tag code info amend) := by
  unfold State.chRecord
  try dsimp only
  repeat' (first
    | with_reducible assumption | with_reducible apply State.record_keeps | with_reducible apply State.raise_keeps
    | with_reducible apply State.setF_keeps | with_reducible apply State.rest_keeps | rw [State.rest_eq] | split)

theorem State.chainFrom_keeps {md : Bool} {orig : State} {s : State} {c : Nat} (hkeep : Keeps md orig s) :
    Keeps md orig (State.chainFrom s c) := by
  unfold State.chainFrom
  try dsimp only
  repeat' (first
    | with_reducible assumption | (intro _; intros) | with_reducible apply State.trigger_keeps
    | with_reducible refine forEach_keeps ?_ ?_ | with_reducible apply Keeps.ite | split)

theorem State.paneMode_keeps {md : Bool} {orig : State} {s : State} {c : Nat} {link : Nat} (hkeep : Keeps md orig s) :
    Keeps md orig (State.paneMode s c link) := by
  unfold State.paneMode
  try dsimp only
  repeat' (first | with_reducible assumption | with_reducible apply State.setF_keeps)

theorem State.wipeAll_keeps {md : Bool} {orig : State} {s : State} {c : Nat} (hkeep : Keeps md orig s) :
    Keeps md orig (State.wipeAll s c) := by
  unfold State.wipeAll
  try dsimp only
  repeat' (first
    | with_reducible assumption | (intro _; intros) | with_reducible apply State.setChan_keeps
    | with_reducible apply State.dropReqs_keeps | with_reducible apply State.unreserve_keeps
    | with_reducible apply State.setF_keeps | with_reducible apply State.wrN_keeps
    | with_reducible apply State.wr_keeps | with_reducible refine forEach_keeps ?_ ?_
    | with_reducible refine foldl_keeps ?_ ?_ | with_reducible apply Keeps.ite
    | with_reducible apply State.rest_keeps | rw [State.rest_eq] | split)

theorem State.wipeCh_keeps {md : Bool} {orig : State} {s : State} {c : Nat} (hkeep : Keeps md orig s) :
    Keeps md orig (State.wipeCh s c) := by
  unfold State.wipeCh
  try dsimp only
  repeat' (first
    | with_reducible assumption | with_reducible apply State.wipeAll_keeps
    | with_reducible apply State.paneMode_keeps | with_reducible apply Keeps.ite | split)

theorem State.finishRun_keeps {md : Bool} {orig : State} {s : State} {c : Nat} {r : DmaRun} {code : Nat} {two : Bool}
    (hkeep : Keeps md orig s) :
    Keeps md orig (State.finishRun s c r code two) := by
  unfold State.finishRun
  try dsimp only
  repeat' (first
    | with_reducible assumption | with_reducible apply State.wipeCh_keeps
    | with_reducible apply State.chainFrom_keeps | with_reducible apply State.chRecord_keeps
    | with_reducible apply State.enterIdle_keeps | with_reducible apply State.setCh_keeps
    | with_reducible apply State.setChan_keeps | with_reducible apply id_keeps | with_reducible apply Keeps.ite
    | with_reducible apply State.rest_keeps | rw [State.rest_eq] | split)

theorem State.setRun_keeps {md : Bool} {orig : State} {s : State} {c : Nat} {r : DmaRun} (hkeep : Keeps md orig s) :
    Keeps md orig (State.setRun s c r) := by
  unfold State.setRun
  try dsimp only
  repeat' (first
    | with_reducible assumption | with_reducible apply State.setChan_keeps | with_reducible apply State.rest_keeps
    | rw [State.rest_eq])

theorem State.freeBurst_keeps {md : Bool} {orig : State} {s : State} {len : Nat} (hkeep : Keeps md orig s) :
    Keeps md orig (State.freeBurst s len) := by
  unfold State.freeBurst
  try dsimp only
  repeat' (first
    | with_reducible assumption | with_reducible apply State.setF_keeps | with_reducible apply State.wrN_keeps)

theorem State.dmaWrite_keeps {md : Bool} {orig : State} {s : State} {c : Nat} {a : Nat} {b : List Byte} (hkeep : Keeps
    md orig s) :
    Keeps md orig (State.dmaWrite s c a b) := by
  unfold State.dmaWrite
  try dsimp only
  repeat' (first | with_reducible assumption | with_reducible apply State.emit_keeps)

theorem State.writeChk_keeps {md : Bool} {orig : State} {s : State} {c : Nat} {r : DmaRun} (hkeep : Keeps md orig s) :
    Keeps md orig (State.writeChk s c r) := by
  unfold State.writeChk
  try dsimp only
  repeat' (first
    | with_reducible assumption | with_reducible apply State.setChan_keeps | with_reducible apply State.emit_keeps
    | with_reducible apply id_keeps | with_reducible apply Keeps.ite | with_reducible apply State.rest_keeps
    | rw [State.rest_eq] | split)

theorem State.tryAwait_keeps {md : Bool} {orig : State} {s : State} {c : Nat} (hkeep : Keeps md orig s) :
    Keeps md orig (State.tryAwait s c) := by
  unfold State.tryAwait
  try dsimp only
  repeat' (first
    | with_reducible assumption | with_reducible apply State.writeChk_keeps
    | with_reducible apply State.finishRun_keeps | with_reducible apply Keeps.ite
    | with_reducible apply State.rest_keeps | rw [State.rest_eq] | split)

theorem State.tryDrain_keeps {md : Bool} {orig : State} {s : State} {c : Nat} (hkeep : Keeps md orig s) :
    Keeps md orig (State.tryDrain s c) := by
  unfold State.tryDrain
  try dsimp only
  repeat' (first
    | with_reducible assumption | with_reducible apply State.finishRun_keeps | with_reducible apply Keeps.ite
    | with_reducible apply State.rest_keeps | rw [State.rest_eq] | split)

theorem State.endCount_keeps {md : Bool} {orig : State} {s : State} {c : Nat} {r : DmaRun} {err : Bool} (hkeep : Keeps
    md orig s) :
    Keeps md orig (State.endCount s c r err) := by
  unfold State.endCount
  try dsimp only
  repeat' (first
    | with_reducible assumption | with_reducible apply State.tryDrain_keeps
    | with_reducible apply State.tryAwait_keeps | with_reducible apply State.writeChk_keeps
    | with_reducible apply State.setRun_keeps | with_reducible apply State.finishRun_keeps
    | with_reducible apply State.swapSets_keeps | with_reducible apply State.reserve_keeps
    | with_reducible apply Keeps.ite | with_reducible apply State.rest_keeps | rw [State.rest_eq] | split)

theorem State.nextDesc_keeps {md : Bool} {orig : State} {s : State} {c : Nat} {r : DmaRun} (hkeep : Keeps md orig s) :
    Keeps md orig (State.nextDesc s c r) := by
  unfold State.nextDesc
  try dsimp only
  repeat' (first
    | with_reducible assumption | with_reducible apply State.setRun_keeps
    | with_reducible apply State.fetchDesc_keeps | with_reducible apply Keeps.ite
    | with_reducible apply State.rest_keeps | rw [State.rest_eq] | split)

theorem State.passBarrier_keeps {md : Bool} {orig : State} {s : State} {c : Nat} {r : DmaRun} (hkeep : Keeps md orig
    s) :
    Keeps md orig (State.passBarrier s c r) := by
  unfold State.passBarrier
  try dsimp only
  repeat' (first
    | with_reducible assumption | with_reducible apply State.nextDesc_keeps
    | with_reducible apply State.writeChk_keeps | with_reducible apply State.setRun_keeps
    | with_reducible apply Keeps.ite | with_reducible apply State.rest_keeps | rw [State.rest_eq] | split)

theorem State.failRun_keeps {md : Bool} {orig : State} {s : State} {c : Nat} {r : DmaRun} {code : Nat} (hkeep : Keeps
    md orig s) :
    Keeps md orig (State.failRun s c r code) := by
  unfold State.failRun
  try dsimp only
  repeat' (first
    | with_reducible assumption | with_reducible apply State.tryDrain_keeps | with_reducible apply State.setRun_keeps
    | with_reducible apply State.setCh_keeps | with_reducible apply Keeps.ite | with_reducible apply State.rest_keeps
    | rw [State.rest_eq] | split)

theorem State.descDone_keeps {md : Bool} {orig : State} {s : State} {c : Nat} {r : DmaRun} (hkeep : Keeps md orig s) :
    Keeps md orig (State.descDone s c r) := by
  unfold State.descDone
  try dsimp only
  repeat' (first
    | with_reducible assumption | with_reducible apply State.passBarrier_keeps
    | with_reducible apply State.nextDesc_keeps | with_reducible apply State.endCount_keeps
    | with_reducible apply State.writeChk_keeps | with_reducible apply State.setRun_keeps
    | with_reducible apply Keeps.ite | with_reducible apply State.rest_keeps | rw [State.rest_eq] | split)

theorem State.showLive_keeps {md : Bool} {orig : State} {s : State} {c : Nat} {r : DmaRun} (hkeep : Keeps md orig s) :
    Keeps md orig (State.showLive s c r) := by
  unfold State.showLive
  try dsimp only
  repeat' (first
    | with_reducible assumption | with_reducible apply State.showSet_keeps | with_reducible apply State.wrWords_keeps
    | with_reducible apply State.wrN_keeps)

theorem State.writeBurst_keeps {orig : State} {s : State} {c : Nat} {r : DmaRun} {b : DmaBurst} {d : List Byte} (hkeep
    : Keeps true orig s) :
    Keeps true orig (State.writeBurst s c r b d).1 := by
  unfold State.writeBurst
  try dsimp only
  repeat' (first
    | with_reducible assumption | (intro _; intros) | with_reducible apply State.showLive_keeps
    | with_reducible apply State.dmaWrite_keeps | with_reducible apply State.freeBurst_keeps
    | with_reducible apply State.setRun_keeps | with_reducible apply State.setChan_keeps
    | with_reducible apply State.ddrWrite_keeps | with_reducible apply State.inc64By_keeps
    | with_reducible apply id_keeps | with_reducible refine foldl_keeps ?_ ?_ | with_reducible apply Keeps.ite
    | with_reducible apply State.rest_keeps | rw [State.rest_eq] | split)

theorem State.flushBursts_keeps {orig : State} {s : State} {c : Nat} {l : Nat} (hkeep : Keeps true orig s) :
    Keeps true orig (State.flushBursts s c l) := by
  induction l generalizing s c with
  | zero =>
    unfold State.flushBursts
    try dsimp only
    repeat' (first
      | (with_reducible assumption)
      | fail
      | with_reducible apply State.writeBurst_keeps
      | with_reducible apply State.failRun_keeps
      | with_reducible apply State.setRun_keeps
      | with_reducible apply Keeps.ite
      | with_reducible apply State.rest_keeps
      | rw [State.rest_eq]
      | split)
  | succ n ih =>
    unfold State.flushBursts
    try dsimp only
    repeat' (first
      | with_reducible assumption | with_reducible apply ih | with_reducible apply State.writeBurst_keeps
      | with_reducible apply State.failRun_keeps | with_reducible apply State.setRun_keeps
      | with_reducible apply Keeps.ite | with_reducible apply State.rest_keeps | rw [State.rest_eq] | split)

theorem State.settleRun_keeps {md : Bool} {orig : State} {s : State} {c : Nat} (hkeep : Keeps md orig s) :
    Keeps md orig (State.settleRun s c) := by
  unfold State.settleRun
  try dsimp only
  repeat' (first
    | with_reducible assumption | with_reducible apply State.descDone_keeps
    | with_reducible apply State.tryDrain_keeps | with_reducible apply Keeps.ite
    | with_reducible apply State.rest_keeps | rw [State.rest_eq] | split)

/-! ### DmaCmd -/

theorem State.dmaCommand_keeps {md : Bool} {orig : State} {s : State} {req : Requester} {c : Nat} {f : State → State}
    (hkeep : Keeps md orig s) (hstep : ∀ y, Keeps md orig y → Keeps md orig (f  y)) :
    Keeps md orig (State.dmaCommand s req c f) := by
  unfold State.dmaCommand
  try dsimp only
  repeat' (first
    | with_reducible assumption | (intro _; intros) | with_reducible apply hstep
    | with_reducible refine State.guarded_keeps ?_ ?_ | with_reducible apply Keeps.ite | split)

theorem State.emptySets_keeps {md : Bool} {orig : State} {s : State} {c : Nat} (hkeep : Keeps md orig s) :
    Keeps md orig (State.emptySets s c) := by
  unfold State.emptySets
  try dsimp only
  repeat' (first
    | with_reducible assumption | with_reducible apply State.showSet_keeps | with_reducible apply State.setChan_keeps
    | with_reducible apply State.dropReqs_keeps | with_reducible apply State.setBit_keeps
    | with_reducible apply State.rest_keeps | rw [State.rest_eq])

theorem execDmaEnable_keeps {md : Bool} {orig : State} {req : Requester} {c : Nat} {s : State} (hkeep : Keeps md orig
    s) :
    Keeps md orig (Answer.state (execDmaEnable req c s) s) := by
  unfold execDmaEnable
  try unfold Answer.state
  try dsimp only
  repeat' (first
    | with_reducible assumption | (intro _; intros) | with_reducible apply State.emptySets_keeps
    | with_reducible refine State.dmaCommand_keeps ?_ ?_ | with_reducible apply State.setCh_keeps
    | with_reducible apply State.setChan_keeps | with_reducible apply State.result_keeps
    | with_reducible apply Answer.state_keeps | with_reducible apply Keeps.ite
    | with_reducible apply State.rest_keeps | rw [State.rest_eq] | split)

theorem execDmaCommit_keeps {md : Bool} {orig : State} {req : Requester} {c : Nat} {s : State} (hkeep : Keeps md orig
    s) :
    Keeps md orig (Answer.state (execDmaCommit req c s) s) := by
  unfold execDmaCommit
  try unfold Answer.state
  try dsimp only
  repeat' (first
    | with_reducible assumption | (intro _; intros) | with_reducible refine State.dmaCommand_keeps ?_ ?_
    | with_reducible apply State.swapSets_keeps | with_reducible apply State.requestNext_keeps
    | with_reducible apply State.result_keeps | with_reducible apply Answer.state_keeps
    | with_reducible apply State.setBit_keeps | with_reducible apply Keeps.ite | split)

theorem State.stopRun_keeps {md : Bool} {orig : State} {s0 : State} {c : Nat} (hkeep : Keeps md orig s0) :
    Keeps md orig (State.stopRun s0 c) := by
  unfold State.stopRun
  try dsimp only
  repeat' (first
    | with_reducible assumption | with_reducible apply State.tryDrain_keeps | with_reducible apply State.setRun_keeps
    | with_reducible apply State.setCh_keeps | with_reducible apply Keeps.ite | with_reducible apply State.rest_keeps
    | rw [State.rest_eq] | split)

theorem execDmaStop_keeps {md : Bool} {orig : State} {req : Requester} {c : Nat} {s : State} (hkeep : Keeps md orig s) :
    Keeps md orig (Answer.state (execDmaStop req c s) s) := by
  unfold execDmaStop
  try unfold Answer.state
  try dsimp only
  repeat' (first
    | with_reducible assumption | (intro _; intros) | with_reducible apply State.stopRun_keeps
    | with_reducible refine State.dmaCommand_keeps ?_ ?_ | with_reducible apply State.setCh_keeps
    | with_reducible apply State.result_keeps | with_reducible apply Answer.state_keeps
    | with_reducible apply Keeps.ite | split)

theorem execDmaClear_keeps {md : Bool} {orig : State} {req : Requester} {c : Nat} {s : State} (hkeep : Keeps md orig
    s) :
    Keeps md orig (Answer.state (execDmaClear req c s) s) := by
  unfold execDmaClear
  try unfold Answer.state
  try dsimp only
  repeat' (first
    | with_reducible assumption | (intro _; intros) | with_reducible refine State.dmaCommand_keeps ?_ ?_
    | with_reducible apply State.enterIdle_keeps | with_reducible apply State.showSet_keeps
    | with_reducible apply State.setChan_keeps | with_reducible apply State.result_keeps
    | with_reducible apply Answer.state_keeps | with_reducible apply State.setBit_keeps
    | with_reducible apply Keeps.ite | with_reducible apply State.rest_keeps | rw [State.rest_eq] | split)

theorem execDmaDisable_keeps {md : Bool} {orig : State} {req : Requester} {c : Nat} {s : State} (hkeep : Keeps md orig
    s) :
    Keeps md orig (Answer.state (execDmaDisable req c s) s) := by
  unfold execDmaDisable
  try unfold Answer.state
  try dsimp only
  repeat' (first
    | with_reducible assumption | (intro _; intros) | with_reducible apply State.emptySets_keeps
    | with_reducible refine State.dmaCommand_keeps ?_ ?_ | with_reducible apply State.setCh_keeps
    | with_reducible apply State.result_keeps | with_reducible apply Answer.state_keeps
    | with_reducible apply State.setBit_keeps | with_reducible apply Keeps.ite | split)

theorem execDmaCmdReserved_keeps {md : Bool} {orig : State} {req : Requester} {c : Nat} {s : State} (hkeep : Keeps md
    orig s) :
    Keeps md orig (Answer.state (execDmaCmdReserved req c s) s) := by
  unfold execDmaCmdReserved
  try unfold Answer.state
  try dsimp only
  repeat' (first
    | with_reducible assumption | (intro _; intros) | with_reducible refine State.dmaCommand_keeps ?_ ?_
    | with_reducible apply State.result_keeps | with_reducible apply Answer.state_keeps)

theorem State.panePast_keeps {md : Bool} {orig : State} {s : State} {c : Nat} {t : Nat} (hkeep : Keeps md orig s) :
    Keeps md orig (State.panePast s c t) := by
  unfold State.panePast
  try dsimp only
  repeat' (first
    | with_reducible assumption | with_reducible apply State.setChan_keeps | with_reducible apply State.rest_keeps
    | rw [State.rest_eq])

theorem State.missDeadline_keeps {md : Bool} {orig : State} {s : State} {c : Nat} {r : DmaRun} (hkeep : Keeps md orig
    s) :
    Keeps md orig (State.missDeadline s c r) := by
  unfold State.missDeadline
  try dsimp only
  repeat' (first
    | with_reducible assumption | (intro _; intros) | with_reducible apply State.panePast_keeps
    | with_reducible apply State.freeBurst_keeps | with_reducible apply State.finishRun_keeps
    | with_reducible apply State.dropPanes_keeps | with_reducible apply State.dropPane_keeps
    | with_reducible apply State.raise_keeps | with_reducible apply State.inc_keeps
    | with_reducible apply State.hwSet_keeps | with_reducible refine forEach_keeps ?_ ?_
    | with_reducible apply Keeps.ite | with_reducible apply State.rest_keeps | rw [State.rest_eq] | split)

theorem State.triggerAfter_keeps {md : Bool} {orig : State} {s : State} {c : Nat} {kind : Nat} {late : Bool} (hkeep :
    Keeps md orig s) :
    Keeps md orig (State.triggerAfter s c kind late) := by
  unfold State.triggerAfter
  try dsimp only
  repeat' (first
    | with_reducible assumption | with_reducible apply State.missDeadline_keeps
    | with_reducible apply State.trigger_keeps | with_reducible apply Keeps.ite
    | with_reducible apply State.rest_keeps | rw [State.rest_eq] | split)

theorem execDmaDoorbell_keeps {md : Bool} {orig : State} {req : Requester} {c : Nat} {s : State} (hkeep : Keeps md
    orig s) :
    Keeps md orig (Answer.state (execDmaDoorbell req c s) s) := by
  unfold execDmaDoorbell
  try unfold Answer.state
  try dsimp only
  repeat' (first
    | with_reducible assumption | (intro _; intros) | with_reducible apply State.triggerAfter_keeps
    | with_reducible refine State.doorbell_keeps ?_ ?_ | with_reducible refine State.guarded_keeps ?_ ?_
    | with_reducible apply Keeps.ite | split)

theorem State.nextPaneOf_keeps {md : Bool} {orig : State} {s : State} {c : Nat} {g : Nat} {l : Nat} (hkeep : Keeps md
    orig s) :
    Keeps md orig (State.nextPaneOf s c g l) := by
  induction l generalizing s c g with
  | zero =>
    unfold State.nextPaneOf
    try dsimp only
    repeat' (first
      | (with_reducible assumption)
      | fail
      | with_reducible apply State.panePast_keeps
      | with_reducible apply State.setRun_keeps
      | with_reducible apply State.finishRun_keeps
      | with_reducible apply State.dropPane_keeps
      | with_reducible apply State.ueReport_keeps
      | with_reducible apply Keeps.ite
      | with_reducible apply State.rest_keeps
      | rw [State.rest_eq]
      | split)
  | succ n ih =>
    unfold State.nextPaneOf
    try dsimp only
    repeat' (first
      | with_reducible assumption | with_reducible apply ih | with_reducible apply State.panePast_keeps
      | with_reducible apply State.setRun_keeps | with_reducible apply State.finishRun_keeps
      | with_reducible apply State.dropPane_keeps | with_reducible apply State.ueReport_keeps
      | with_reducible apply Keeps.ite | with_reducible apply State.rest_keeps | rw [State.rest_eq] | split)

theorem State.addBurst_keeps {md : Bool} {orig : State} {s : State} {c : Nat} {r : DmaRun} {b : DmaBurst} (hkeep :
    Keeps md orig s) :
    Keeps md orig (State.addBurst s c r b) := by
  unfold State.addBurst
  try dsimp only
  repeat' (first
    | with_reducible assumption | with_reducible apply State.setRun_keeps | with_reducible apply State.emit_keeps
    | with_reducible apply State.setF_keeps | with_reducible apply State.wrN_keeps | with_reducible apply Keeps.ite
    | with_reducible apply State.rest_keeps | rw [State.rest_eq] | split)

theorem State.served_keeps {md : Bool} {orig : State} {s : State} {c : Nat} (hkeep : Keeps md orig s) :
    Keeps md orig (State.served s c) := by
  unfold State.served
  try dsimp only
  repeat' (first
    | with_reducible assumption | with_reducible apply Keeps.ite | with_reducible apply State.rest_keeps
    | rw [State.rest_eq] | split)

theorem State.issueBurst_keeps {orig : State} {s : State} {c : Nat} (hkeep : Keeps true orig s) :
    Keeps true orig (State.issueBurst s c) := by
  unfold State.issueBurst
  try dsimp only
  repeat' (first
    | with_reducible assumption | with_reducible apply State.served_keeps | with_reducible apply State.addBurst_keeps
    | with_reducible apply State.flushBursts_keeps | with_reducible apply Keeps.ite
    | with_reducible apply State.rest_keeps | rw [State.rest_eq] | split)

theorem execDmaBurstIssue_keeps {orig : State} {c : Nat} {s0 : State} (hkeep : Keeps true orig s0) :
    Keeps true orig (Answer.state (execDmaBurstIssue c s0) s0) := by
  unfold execDmaBurstIssue
  try unfold Answer.state
  try dsimp only
  repeat' (first
    | with_reducible assumption | with_reducible apply State.issueBurst_keeps
    | with_reducible apply State.nextPaneOf_keeps | with_reducible apply State.tryStart_keeps
    | with_reducible apply Keeps.ite | with_reducible apply State.rest_keeps | rw [State.rest_eq] | split)

theorem State.paneRead_keeps {orig : State} {s0 : State} {c : Nat} {g : Nat} {p : PgRec} {n : Nat} {b : DmaBurst} {t :
    Nat} {ecc : List EccFind} (hkeep : Keeps true orig s0) :
    Keeps true orig (State.paneRead s0 c g p n b t ecc) := by
  unfold State.paneRead
  try dsimp only
  repeat' (first
    | with_reducible assumption | with_reducible apply State.panePast_keeps
    | with_reducible apply State.flushBursts_keeps | with_reducible apply State.freeBurst_keeps
    | with_reducible apply State.setRun_keeps | with_reducible apply State.dropPane_keeps
    | with_reducible apply State.ueReport_keeps | with_reducible apply State.eccFound_keeps
    | with_reducible apply State.inc_keeps | with_reducible apply State.wrN_keeps | with_reducible apply Keeps.ite
    | with_reducible apply State.rest_keeps | rw [State.rest_eq] | split)

theorem execDmaReadDone_keeps {orig : State} {c : Nat} {n : Nat} {data : Option (List Byte)} {ecc : List EccFind} {s :
    State} (hkeep : Keeps true orig s) :
    Keeps true orig (Answer.state (execDmaReadDone c n data ecc s) s) := by
  unfold execDmaReadDone
  try unfold Answer.state
  try dsimp only
  repeat' (first
    | with_reducible assumption | with_reducible apply State.paneRead_keeps
    | with_reducible apply State.settleRun_keeps | with_reducible apply State.flushBursts_keeps
    | with_reducible apply State.failRun_keeps | with_reducible apply State.freeBurst_keeps
    | with_reducible apply State.setRun_keeps | with_reducible apply State.ddrRead_keeps
    | with_reducible apply State.eccFound_keeps | with_reducible apply Keeps.ite
    | with_reducible apply State.rest_keeps | rw [State.rest_eq] | split)

theorem execDmaDescFetchDone_keeps {md : Bool} {orig : State} {c : Nat} {data : Option (List Byte)} {s : State} (hkeep
    : Keeps md orig s) :
    Keeps md orig (Answer.state (execDmaDescFetchDone c data s) s) := by
  unfold execDmaDescFetchDone
  try unfold Answer.state
  try dsimp only
  repeat' (first
    | with_reducible assumption | with_reducible apply State.showLive_keeps
    | with_reducible apply State.failRun_keeps | with_reducible apply State.setRun_keeps
    | with_reducible apply State.wrN_keeps | with_reducible apply Keeps.ite | with_reducible apply State.rest_keeps
    | rw [State.rest_eq] | split)

theorem State.amendRun_keeps {md : Bool} {orig : State} {s : State} {c : Nat} {p : DmaPast} (hkeep : Keeps md orig s) :
    Keeps md orig (State.amendRun s c p) := by
  unfold State.amendRun
  try dsimp only
  repeat' (first
    | with_reducible assumption | with_reducible apply State.stopRun_keeps
    | with_reducible apply State.chRecord_keeps | with_reducible apply State.setCh_keeps
    | with_reducible apply State.setChan_keeps | with_reducible apply Keeps.ite
    | with_reducible apply State.rest_keeps | rw [State.rest_eq] | split)

theorem State.freePast_keeps {md : Bool} {orig : State} {s : State} {c : Nat} (hkeep : Keeps md orig s) :
    Keeps md orig (State.freePast s c) := by
  unfold State.freePast
  try dsimp only
  repeat' (first
    | with_reducible assumption | with_reducible apply State.setChan_keeps
    | with_reducible apply State.unreserve_keeps | with_reducible apply State.rest_keeps | rw [State.rest_eq])

theorem execDmaWriteResponse_keeps {md : Bool} {orig : State} {c : Nat} {n : Nat} {err : Bool} {s : State} (hkeep :
    Keeps md orig s) :
    Keeps md orig (Answer.state (execDmaWriteResponse c n err s) s) := by
  unfold execDmaWriteResponse
  try unfold Answer.state
  try dsimp only
  repeat' (first
    | with_reducible assumption | with_reducible apply State.freePast_keeps
    | with_reducible apply State.amendRun_keeps | with_reducible apply State.failRun_keeps
    | with_reducible apply State.passBarrier_keeps | with_reducible apply State.tryDrain_keeps
    | with_reducible apply State.tryAwait_keeps | with_reducible apply State.freeBurst_keeps
    | with_reducible apply State.setRun_keeps | with_reducible apply State.setChan_keeps
    | with_reducible apply id_keeps | with_reducible apply Keeps.ite | with_reducible apply State.rest_keeps
    | rw [State.rest_eq] | split)

theorem execDmaRunDeadline_keeps {md : Bool} {orig : State} {c : Nat} {s0 : State} (hkeep : Keeps md orig s0) :
    Keeps md orig (Answer.state (execDmaRunDeadline c s0) s0) := by
  unfold execDmaRunDeadline
  try unfold Answer.state
  try dsimp only
  repeat' (first
    | with_reducible assumption | with_reducible apply State.missDeadline_keeps
    | with_reducible (refine State.reach_keeps ?_ (by assumption)) | with_reducible apply Keeps.ite
    | with_reducible apply State.rest_keeps | rw [State.rest_eq] | split)

theorem State.swapDma_keeps {md : Bool} {orig : State} {s : State} {c : Nat} {ok : Bool} (hkeep : Keeps md orig s) :
    Keeps md orig (State.swapDma s c ok) := by
  unfold State.swapDma
  try dsimp only
  repeat' (first
    | with_reducible assumption | with_reducible apply State.swapSets_keeps | with_reducible apply State.raise_keeps
    | with_reducible apply State.setBit_keeps | with_reducible apply Keeps.ite | split)

theorem State.retireCh_keeps {md : Bool} {orig : State} {s : State} {c : Nat} (hkeep : Keeps md orig s) :
    Keeps md orig (State.retireCh s c) := by
  unfold State.retireCh
  try dsimp only
  repeat' (first
    | with_reducible assumption | with_reducible apply State.tryDrain_keeps | with_reducible apply State.wipeCh_keeps
    | with_reducible apply State.setCh_keeps | with_reducible apply State.setChan_keeps
    | with_reducible apply State.dropReqs_keeps | with_reducible apply State.unreserve_keeps
    | with_reducible apply State.setBit_keeps | with_reducible apply Keeps.ite
    | with_reducible apply State.rest_keeps | rw [State.rest_eq] | split)

theorem State.retireDma_keeps {md : Bool} {orig : State} {s : State} (hkeep : Keeps md orig s) :
    Keeps md orig (State.retireDma s) := by
  unfold State.retireDma
  try dsimp only
  repeat' (first
    | with_reducible assumption | (intro _; intros) | with_reducible apply State.retireCh_keeps
    | with_reducible refine forEach_keeps ?_ ?_)

theorem State.resetDma_keeps {md : Bool} {orig : State} {s : State} (hkeep : Keeps md orig s) :
    Keeps md orig (State.resetDma s) := by
  unfold State.resetDma
  try dsimp only
  repeat' (first
    | with_reducible assumption | (intro _; intros) | with_reducible apply State.wipeAll_keeps
    | with_reducible refine forEach_keeps ?_ ?_)

theorem State.flrQueue_keeps {md : Bool} {orig : State} {s : State} {q : Nat} (hkeep : Keeps md orig s) :
    Keeps md orig (State.flrQueue s q) := by
  unfold State.flrQueue
  try dsimp only
  repeat' (first
    | with_reducible assumption | (intro _; intros) | with_reducible apply State.rxNoDesc_keeps
    | with_reducible apply State.clearIdx_keeps | with_reducible apply State.setQState_keeps
    | with_reducible apply State.answerCmds_keeps | with_reducible apply State.discardEntry_keeps
    | with_reducible apply State.freeRunAhead_keeps | with_reducible apply State.unreserve_keeps
    | with_reducible apply State.setQueue_keeps | with_reducible apply State.wr64_keeps
    | with_reducible apply State.setBit_keeps | with_reducible apply State.setF_keeps
    | with_reducible refine forEach_keeps ?_ ?_ | with_reducible apply Keeps.ite
    | with_reducible apply State.rest_keeps | rw [State.rest_eq] | split)

theorem State.flr_keeps {md : Bool} {orig : State} {s : State} {func : Nat} {vf : Nat} (hkeep : Keeps md orig s) :
    Keeps md orig (State.flr s func vf) := by
  unfold State.flr
  try dsimp only
  repeat' (first
    | with_reducible assumption | (intro _; intros) | with_reducible apply State.flrQueue_keeps
    | with_reducible apply State.retireCh_keeps | with_reducible apply State.setReserved_keeps
    | with_reducible apply State.wr64_keeps | with_reducible apply State.setBit_keeps
    | with_reducible apply State.setF_keeps | with_reducible refine forEach_keeps ?_ ?_
    | with_reducible apply Keeps.ite | split)

/-! ### Actions -/

theorem State.setActSt_keeps {md : Bool} {orig : State} {s : State} {i : Nat} {v : Nat} (hkeep : Keeps md orig s) :
    Keeps md orig (State.setActSt s i v) := by
  unfold State.setActSt
  try dsimp only
  repeat' (first | with_reducible assumption | with_reducible apply State.setF_keeps)

theorem State.actFailed_keeps {md : Bool} {orig : State} {s : State} {i : Nat} (hkeep : Keeps md orig s) :
    Keeps md orig (State.actFailed s i) := by
  unfold State.actFailed
  try dsimp only
  repeat' (first
    | with_reducible assumption | with_reducible apply State.setActSt_keeps | with_reducible apply State.raise_keeps
    | with_reducible apply State.inc_keeps)

theorem State.setActNext_keeps {md : Bool} {orig : State} {s : State} {i : Nat} {t : Option Reg} (hkeep : Keeps md
    orig s) :
    Keeps md orig (State.setActNext s i t) := by
  unfold State.setActNext
  try dsimp only
  repeat' (first | with_reducible assumption | with_reducible apply State.rest_keeps | rw [State.rest_eq])

theorem State.doAction_keeps {orig : State} {s : State} {code : Nat} {arg : Nat} {late : Bool} (hkeep : Keeps true
    orig s) :
    Keeps true orig (State.doAction s code arg late) := by
  unfold State.doAction
  try dsimp only
  repeat' (first
    | with_reducible assumption | with_reducible apply State.triggerAfter_keeps
    | with_reducible apply State.releaseQueue_keeps | with_reducible apply State.holdQueue_keeps
    | with_reducible apply State.gooseState_keeps | with_reducible apply State.sealAction_keeps
    | with_reducible apply State.event_keeps | with_reducible apply State.rest_keeps | rw [State.rest_eq] | split)

theorem State.actDone_keeps {md : Bool} {orig : State} {s : State} {i : Nat} {t : Nat} {rep : Nat} {st : Nat} (hkeep :
    Keeps md orig s) :
    Keeps md orig (State.actDone s i t rep st) := by
  unfold State.actDone
  try dsimp only
  repeat' (first
    | with_reducible assumption | with_reducible apply State.setActNext_keeps
    | with_reducible apply State.setActSt_keeps | with_reducible apply Keeps.ite | split)

theorem State.actDiscard_keeps {md : Bool} {orig : State} {s : State} {i : Nat} {t : Nat} {rep : Nat} (hkeep : Keeps
    md orig s) :
    Keeps md orig (State.actDiscard s i t rep) := by
  unfold State.actDiscard
  try dsimp only
  repeat' (first
    | with_reducible assumption | with_reducible apply State.actDone_keeps | with_reducible apply State.raise_keeps
    | with_reducible apply State.inc_keeps)

theorem State.actFire_keeps {orig : State} {s : State} {i : Nat} {t : Nat} {late : Bool} (hkeep : Keeps true orig s) :
    Keeps true orig (State.actFire s i t late) := by
  unfold State.actFire
  try dsimp only
  repeat' (first
    | with_reducible assumption | with_reducible apply State.actDone_keeps
    | with_reducible apply State.doAction_keeps | with_reducible apply State.actFailed_keeps
    | with_reducible apply State.inc_keeps | with_reducible apply Keeps.ite | split)

theorem State.actSkip_keeps {md : Bool} {orig : State} {s : State} {n : Nat} (hkeep : Keeps md orig s) :
    Keeps md orig (State.actSkip s n) := by
  unfold State.actSkip
  try dsimp only
  repeat' (first | with_reducible assumption | with_reducible apply State.incBy_keeps)

theorem State.actEvalOne_keeps {orig : State} {s : State} {i : Nat} (hkeep : Keeps true orig s) :
    Keeps true orig (State.actEvalOne s i) := by
  unfold State.actEvalOne
  try dsimp only
  repeat' (first
    | with_reducible assumption | with_reducible apply State.actSkip_keeps | with_reducible apply State.actFire_keeps
    | with_reducible apply State.actDiscard_keeps | with_reducible apply State.setActNext_keeps
    | with_reducible apply Keeps.ite | split)

theorem State.actEval_keeps {orig : State} {s : State} {i : Nat} (hkeep : Keeps true orig s) :
    Keeps true orig (State.actEval s i) := by
  unfold State.actEval
  try dsimp only
  repeat' (first
    | with_reducible assumption | with_reducible apply State.actEvalOne_keeps | with_reducible apply Keeps.ite
    | split)

theorem State.actsEval_keeps {orig : State} {s : State} (hkeep : Keeps true orig s) :
    Keeps true orig (State.actsEval s) := by
  unfold State.actsEval
  try dsimp only
  repeat' (first
    | with_reducible assumption | (intro _; intros) | with_reducible apply State.actEval_keeps
    | with_reducible refine forEach_keeps ?_ ?_ | with_reducible apply Keeps.ite | split)

theorem State.swapDiscard_keeps {md : Bool} {orig : State} {s : State} {i : Nat} {t : Nat} {rep : Nat} {k : SwapKind}
    (hkeep : Keeps md orig s) :
    Keeps md orig (State.swapDiscard s i t rep k) := by
  unfold State.swapDiscard
  try dsimp only
  repeat' (first
    | with_reducible assumption | with_reducible apply State.actDiscard_keeps
    | with_reducible apply State.lastSwap_keeps | with_reducible apply State.raise_keeps
    | with_reducible apply State.rest_keeps | rw [State.rest_eq] | split)

theorem State.hallJoined_keeps {md : Bool} {orig : State} {s : State} {n : Nat} {counted : Bool} (hkeep : Keeps md
    orig s) :
    Keeps md orig (State.hallJoined s n counted) := by
  unfold State.hallJoined
  try dsimp only
  repeat' (first
    | with_reducible assumption | with_reducible apply Keeps.ite | with_reducible apply State.rest_keeps
    | rw [State.rest_eq] | split)

theorem State.actUnsnap_keeps {md : Bool} {orig : State} {s : State} {i : Nat} (hkeep : Keeps md orig s) :
    Keeps md orig (State.actUnsnap s i) := by
  unfold State.actUnsnap
  try dsimp only
  repeat' (first | with_reducible assumption | with_reducible apply State.rest_keeps | rw [State.rest_eq])

theorem State.actJoinOne_keeps {md : Bool} {orig : State} {s0 : State} {i : Nat} {n : Nat} (hkeep : Keeps md orig s0) :
    Keeps md orig (State.actJoinOne s0 i n) := by
  unfold State.actJoinOne
  try dsimp only
  repeat' (first
    | with_reducible assumption | with_reducible apply State.actUnsnap_keeps
    | with_reducible apply State.hallJoined_keeps | with_reducible apply State.swapDiscard_keeps
    | with_reducible apply State.actSkip_keeps | with_reducible apply State.actDone_keeps
    | with_reducible apply State.setActNext_keeps | with_reducible apply State.actFailed_keeps
    | with_reducible apply State.settleOwned_keeps | with_reducible apply State.addReq_keeps
    | with_reducible apply State.inc_keeps | with_reducible apply Keeps.ite | with_reducible apply State.rest_keeps
    | rw [State.rest_eq] | split)

theorem State.actJoin_keeps {md : Bool} {orig : State} {s : State} {i : Nat} {n : Nat} (hkeep : Keeps md orig s) :
    Keeps md orig (State.actJoin s i n) := by
  unfold State.actJoin
  try dsimp only
  repeat' (first
    | with_reducible assumption | with_reducible apply State.actJoinOne_keeps | with_reducible apply Keeps.ite
    | split)

theorem State.actsJoin_keeps {md : Bool} {orig : State} {s : State} {n : Nat} (hkeep : Keeps md orig s) :
    Keeps md orig (State.actsJoin s n) := by
  unfold State.actsJoin
  try dsimp only
  repeat' (first
    | with_reducible assumption | (intro _; intros) | with_reducible apply State.actJoin_keeps
    | with_reducible refine forEach_keeps ?_ ?_ | with_reducible apply Keeps.ite | split)

theorem State.actWrite_keeps {md : Bool} {orig : State} {s : State} {i : Nat} {f : State → State} (hkeep : Keeps md
    orig s) (hstep : ∀ y, Keeps md orig y → Keeps md orig (f  y)) :
    Keeps md orig (State.actWrite s i f) := by
  unfold State.actWrite
  try dsimp only
  repeat' (first
    | with_reducible assumption | with_reducible apply hstep | with_reducible apply State.inc_keeps
    | with_reducible apply Keeps.ite | split)

theorem State.actArm_keeps {orig : State} {s : State} {i : Nat} {ws : List Reg} (hkeep : Keeps true orig s) :
    Keeps true orig (State.actArm s i ws) := by
  unfold State.actArm
  try dsimp only
  repeat' (first
    | with_reducible assumption | with_reducible apply State.actEval_keeps
    | with_reducible apply State.setActNext_keeps | with_reducible apply State.setActSt_keeps
    | with_reducible apply State.wrWords_keeps)

theorem State.actDisarm_keeps {md : Bool} {orig : State} {s : State} {i : Nat} (hkeep : Keeps md orig s) :
    Keeps md orig (State.actDisarm s i) := by
  unfold State.actDisarm
  try dsimp only
  repeat' (first
    | with_reducible assumption | with_reducible apply State.setActNext_keeps
    | with_reducible apply State.setActSt_keeps)

theorem execTickActionArm_keeps {orig : State} {req : Requester} {i : Nat} {v : Reg} {s : State} (hkeep : Keeps true
    orig s) :
    Keeps true orig (Answer.state (execTickActionArm req i v s) s) := by
  unfold execTickActionArm
  try unfold Answer.state
  try dsimp only
  repeat' (first
    | with_reducible assumption | (intro _; intros) | with_reducible apply State.actArm_keeps
    | with_reducible refine State.actWrite_keeps ?_ ?_ | with_reducible apply State.setWide_keeps
    | with_reducible refine State.guarded_keeps ?_ ?_ | with_reducible apply Keeps.ite | split)

theorem execTickActionDisarm_keeps {md : Bool} {orig : State} {req : Requester} {i : Nat} {w : Nat} {v : Reg} {s :
    State} (hkeep : Keeps md orig s) :
    Keeps md orig (Answer.state (execTickActionDisarm req i w v s) s) := by
  unfold execTickActionDisarm
  try unfold Answer.state
  try dsimp only
  repeat' (first
    | with_reducible assumption | (intro _; intros) | with_reducible apply State.actDisarm_keeps
    | with_reducible refine State.actWrite_keeps ?_ ?_ | with_reducible apply State.setWide_keeps
    | with_reducible refine State.guarded_keeps ?_ ?_ | with_reducible apply Keeps.ite | split)

theorem State.firesTo_keeps {orig : State} {s : State} {bound : Time} {l : Nat} (hkeep : Keeps true orig s) :
    Keeps true orig (State.firesTo s bound l) := by
  induction l generalizing s bound with
  | zero =>
    unfold State.firesTo
    try dsimp only
    repeat' (first
      | (with_reducible assumption)
      | (intro _; intros)
      | fail
      | with_reducible apply State.actEval_keeps
      | with_reducible (refine State.reach_keeps ?_ (by assumption))
      | (with_reducible refine forEach_keeps ?_ ?_)
      | with_reducible apply Keeps.ite
      | with_reducible apply State.rest_keeps
      | rw [State.rest_eq]
      | split)
  | succ n ih =>
    unfold State.firesTo
    try dsimp only
    repeat' (first
      | with_reducible assumption | (intro _; intros) | with_reducible apply ih
      | with_reducible apply State.actEval_keeps | with_reducible (refine State.reach_keeps ?_ (by assumption))
      | with_reducible refine forEach_keeps ?_ ?_ | with_reducible apply Keeps.ite
      | with_reducible apply State.rest_keeps | rw [State.rest_eq] | split)

theorem execTickActionFire_keeps {orig : State} {i : Nat} {s : State} (hkeep : Keeps true orig s) :
    Keeps true orig (Answer.state (execTickActionFire i s) s) := by
  unfold execTickActionFire
  try unfold Answer.state
  try dsimp only
  repeat' (first
    | with_reducible assumption | with_reducible apply State.firesTo_keeps | with_reducible apply State.actEval_keeps
    | with_reducible apply Keeps.ite | with_reducible apply State.rest_keeps | rw [State.rest_eq] | split)

theorem State.afterStep_keeps {orig : State} {s : State} {t : State} (hkeep : Keeps true orig t) :
    Keeps true orig (State.afterStep s t) := by
  unfold State.afterStep
  try dsimp only
  repeat' (first
    | with_reducible assumption | (intro _; intros) | with_reducible apply State.actFire_keeps
    | with_reducible apply State.gcbsCatchUp_keeps | with_reducible refine forEach_keeps ?_ ?_
    | with_reducible apply Keeps.ite | split)

/-! ### TimeCmd -/

theorem State.tsuCommand_keeps {orig : State} {s : State} {req : Requester} {n : Nat} {legal : State → Bool} {f :
    State → State} (hkeep : Keeps true orig s) (hstep : ∀ y, Keeps true orig y → Keeps true orig (f  y)) :
    Keeps true orig (State.tsuCommand s req n legal f) := by
  unfold State.tsuCommand
  try dsimp only
  repeat' (first
    | with_reducible assumption | (intro _; intros) | with_reducible apply hstep
    | with_reducible apply State.afterStep_keeps | with_reducible refine State.guarded_keeps ?_ ?_
    | with_reducible apply State.result_keeps | with_reducible apply Answer.state_keeps
    | with_reducible apply Keeps.ite | split)

theorem execAccept_keeps {orig : State} {req : Requester} {n : Nat} {s : State} (hkeep : Keeps true orig s) :
    Keeps true orig (Answer.state (execAccept req n s) s) := by
  unfold execAccept
  try unfold Answer.state
  try dsimp only
  repeat' (first
    | with_reducible assumption | (intro _; intros) | with_reducible refine State.tsuCommand_keeps ?_ ?_
    | with_reducible apply State.leaveRefused_keeps | with_reducible apply State.applyCorr_keeps
    | with_reducible apply State.setTb_keeps | with_reducible apply State.rest_keeps | rw [State.rest_eq])

theorem execTsuSet_keeps {orig : State} {req : Requester} {n : Nat} {s : State} (hkeep : Keeps true orig s) :
    Keeps true orig (Answer.state (execTsuSet req n s) s) := by
  unfold execTsuSet
  try unfold Answer.state
  try dsimp only
  repeat' (first
    | with_reducible assumption | (intro _; intros) | with_reducible refine State.tsuCommand_keeps ?_ ?_
    | with_reducible apply State.loadCount_keeps)

theorem execAdjPhase_keeps {orig : State} {req : Requester} {n : Nat} {s : State} (hkeep : Keeps true orig s) :
    Keeps true orig (Answer.state (execAdjPhase req n s) s) := by
  unfold execAdjPhase
  try unfold Answer.state
  try dsimp only
  repeat' (first
    | with_reducible assumption | (intro _; intros) | with_reducible refine State.tsuCommand_keeps ?_ ?_
    | with_reducible apply State.tryCorr_keeps)

theorem execEpochNext_keeps {orig : State} {req : Requester} {n : Nat} {s : State} (hkeep : Keeps true orig s) :
    Keeps true orig (Answer.state (execEpochNext req n s) s) := by
  unfold execEpochNext
  try unfold Answer.state
  try dsimp only
  repeat' (first
    | with_reducible assumption | (intro _; intros) | with_reducible refine State.tsuCommand_keeps ?_ ?_
    | with_reducible apply State.requestNext_keeps)

theorem execTsuCmdReserved_keeps {orig : State} {req : Requester} {n : Nat} {s : State} (hkeep : Keeps true orig s) :
    Keeps true orig (Answer.state (execTsuCmdReserved req n s) s) := by
  unfold execTsuCmdReserved
  try unfold Answer.state
  try dsimp only
  repeat' (first
    | with_reducible assumption | (intro _; intros) | with_reducible refine State.tsuCommand_keeps ?_ ?_
    | with_reducible apply id_keeps)

theorem execAdjFreqWrite_keeps {md : Bool} {orig : State} {req : Requester} {n : Nat} {v : Reg} {s : State} (hkeep :
    Keeps md orig s) :
    Keeps md orig (Answer.state (execAdjFreqWrite req n v s) s) := by
  unfold execAdjFreqWrite
  try unfold Answer.state
  try dsimp only
  repeat' (first
    | with_reducible assumption | (intro _; intros) | with_reducible apply State.setFreq_keeps
    | with_reducible refine State.guarded_keeps ?_ ?_ | with_reducible apply State.wr_keeps
    | with_reducible apply Keeps.ite | split)

theorem execServoSample_keeps {orig : State} {n : Nat} {x : RefSample} {s : State} (hkeep : Keeps true orig s) :
    Keeps true orig (Answer.state (execServoSample n x s) s) := by
  unfold execServoSample
  try unfold Answer.state
  try dsimp only
  repeat' (first
    | with_reducible assumption | with_reducible apply State.afterStep_keeps
    | with_reducible apply State.sample_keeps | with_reducible apply Keeps.ite
    | with_reducible apply State.rest_keeps | rw [State.rest_eq] | split)

theorem State.setPpsLast_keeps {md : Bool} {orig : State} {s : State} {i : Nat} {t : Option Time} (hkeep : Keeps md
    orig s) :
    Keeps md orig (State.setPpsLast s i t) := by
  unfold State.setPpsLast
  try dsimp only
  repeat' (first
    | with_reducible assumption | with_reducible apply State.setBit_keeps | with_reducible apply Keeps.ite
    | with_reducible apply State.rest_keeps | rw [State.rest_eq] | split)

theorem execReferenceLoss_keeps {md : Bool} {orig : State} {n : Nat} {s : State} (hkeep : Keeps md orig s) :
    Keeps md orig (Answer.state (execReferenceLoss n s) s) := by
  unfold execReferenceLoss
  try unfold Answer.state
  try dsimp only
  repeat' (first
    | with_reducible assumption | with_reducible apply State.setPpsLast_keeps
    | with_reducible apply State.loseReference_keeps
    | with_reducible (refine State.reachClock_keeps ?_ (by assumption)) | with_reducible apply Keeps.ite
    | with_reducible apply State.rest_keeps | rw [State.rest_eq] | split)

theorem State.dropForeign_keeps {md : Bool} {orig : State} {s : State} {n : Nat} {k : Nat} {f : Foreign} (hkeep :
    Keeps md orig s) :
    Keeps md orig (State.dropForeign s n k f) := by
  unfold State.dropForeign
  try dsimp only
  repeat' (first
    | with_reducible assumption | with_reducible apply State.selectMaster_keeps
    | with_reducible apply State.loseReference_keeps | with_reducible apply State.setTb_keeps
    | with_reducible apply State.setF_keeps | with_reducible apply Keeps.ite | with_reducible apply State.rest_keeps
    | rw [State.rest_eq] | split)

theorem execAnnounceTimeout_keeps {md : Bool} {orig : State} {n : Nat} {k : Nat} {s : State} (hkeep : Keeps md orig s) :
    Keeps md orig (Answer.state (execAnnounceTimeout n k s) s) := by
  unfold execAnnounceTimeout
  try unfold Answer.state
  try dsimp only
  repeat' (first
    | with_reducible assumption | with_reducible apply State.dropForeign_keeps
    | with_reducible (refine State.reachClock_keeps ?_ (by assumption)) | with_reducible apply State.rest_keeps
    | rw [State.rest_eq] | split)

theorem execSlewComplete_keeps {md : Bool} {orig : State} {n : Nat} {s : State} (hkeep : Keeps md orig s) :
    Keeps md orig (Answer.state (execSlewComplete n s) s) := by
  unfold execSlewComplete
  try unfold Answer.state
  try dsimp only
  repeat' (first
    | with_reducible assumption | with_reducible apply State.edges_keeps | with_reducible apply Keeps.ite | split)

theorem State.ref10m_keeps {md : Bool} {orig : State} {s : State} {edges : Nat} {first : Bool} (hkeep : Keeps md orig
    s) :
    Keeps md orig (State.ref10m s edges first) := by
  unfold State.ref10m
  try dsimp only
  repeat' (first
    | with_reducible assumption | (intro _; intros) | with_reducible apply State.setTb_keeps
    | with_reducible apply State.raise_keeps | with_reducible apply State.hwSet_keeps
    | with_reducible apply State.setBit_keeps | with_reducible refine forEach_keeps ?_ ?_
    | with_reducible apply Keeps.ite | with_reducible apply State.rest_keeps | rw [State.rest_eq] | split)

theorem execPpsInputEdge_keeps {orig : State} {i : Nat} {sub : Nat} {high : Bool} {edges : Nat} {s : State} (hkeep :
    Keeps true orig s) :
    Keeps true orig (Answer.state (execPpsInputEdge i sub high edges s) s) := by
  unfold execPpsInputEdge
  try unfold Answer.state
  try dsimp only
  repeat' (first
    | with_reducible assumption | (intro _; intros) | with_reducible apply State.ref10m_keeps
    | with_reducible apply State.setPpsLast_keeps | with_reducible apply State.afterStep_keeps
    | with_reducible apply State.sample_keeps | with_reducible apply State.setTb_keeps
    | with_reducible apply State.raise_keeps | with_reducible apply State.incF_keeps
    | with_reducible apply State.wrWords_keeps | with_reducible apply State.hwSet_keeps
    | with_reducible refine forEach_keeps ?_ ?_ | with_reducible apply Keeps.ite
    | with_reducible apply State.rest_keeps | rw [State.rest_eq] | split)

theorem execPpsOutputEdge_keeps {md : Bool} {orig : State} {n : Nat} {s : State} (hkeep : Keeps md orig s) :
    Keeps md orig (Answer.state (execPpsOutputEdge n s) s) := by
  unfold execPpsOutputEdge
  try unfold Answer.state
  try dsimp only
  repeat' (first
    | with_reducible assumption | with_reducible apply State.untilTb_keeps | with_reducible apply State.setTb_keeps
    | with_reducible apply State.emit_keeps | with_reducible apply Keeps.ite | with_reducible apply State.rest_keeps
    | rw [State.rest_eq] | split)

/-! ### Mirror -/

theorem State.tryClaim_keeps {md : Bool} {orig : State} {s : State} (hkeep : Keeps md orig s) :
    Keeps md orig (State.tryClaim s) := by
  unfold State.tryClaim
  try dsimp only
  repeat' (first
    | with_reducible assumption | with_reducible apply State.setRole_keeps | with_reducible apply State.setBit_keeps
    | with_reducible apply Keeps.ite | with_reducible apply State.rest_keeps | rw [State.rest_eq] | split)

theorem State.writeHeld_keeps {md : Bool} {orig : State} {s : State} {which : Nat → Entry → Bool} {unconfirmed : Bool}
    (hkeep : Keeps md orig s) :
    Keeps md orig (State.writeHeld s which unconfirmed) := by
  unfold State.writeHeld
  try dsimp only
  repeat' (first
    | with_reducible assumption | (intro _; intros) | with_reducible apply State.completeTx_keeps
    | with_reducible apply State.settleStop_keeps | with_reducible refine forEach_keeps ?_ ?_)

theorem State.settleHeld_keeps {md : Bool} {orig : State} {s : State} (hkeep : Keeps md orig s) :
    Keeps md orig (State.settleHeld s) := by
  unfold State.settleHeld
  try dsimp only
  repeat' (first
    | with_reducible assumption | with_reducible apply State.writeHeld_keeps | with_reducible apply Keeps.ite | split)

theorem execPeerInAssert_keeps {md : Bool} {orig : State} {s : State} (hkeep : Keeps md orig s) :
    Keeps md orig (Answer.state (execPeerInAssert s) s) := by
  unfold execPeerInAssert
  try unfold Answer.state
  try dsimp only
  repeat' (first
    | with_reducible assumption | with_reducible apply State.settleHeld_keeps
    | with_reducible apply State.raise_keeps | with_reducible apply State.cutGates_keeps
    | with_reducible apply State.setRole_keeps | with_reducible apply State.inc_keeps
    | with_reducible apply State.setBit_keeps | with_reducible apply Keeps.ite
    | with_reducible apply State.rest_keeps | rw [State.rest_eq] | split)

theorem execPeerInDeassert_keeps {md : Bool} {orig : State} {s : State} (hkeep : Keeps md orig s) :
    Keeps md orig (Answer.state (execPeerInDeassert s) s) := by
  unfold execPeerInDeassert
  try unfold Answer.state
  try dsimp only
  repeat' (first
    | with_reducible assumption | with_reducible apply State.setBit_keeps | with_reducible apply Keeps.ite
    | with_reducible apply State.rest_keeps | rw [State.rest_eq] | split)

theorem execGuardExpiry_keeps {md : Bool} {orig : State} {s : State} (hkeep : Keeps md orig s) :
    Keeps md orig (Answer.state (execGuardExpiry s) s) := by
  unfold execGuardExpiry
  try unfold Answer.state
  try dsimp only
  repeat' (first
    | with_reducible assumption | with_reducible apply State.tryClaim_keeps
    | with_reducible (refine State.reachClock_keeps ?_ (by assumption)) | with_reducible apply Keeps.ite
    | with_reducible apply State.rest_keeps | rw [State.rest_eq] | split)

theorem execClaimConfirm_keeps {md : Bool} {orig : State} {s : State} (hkeep : Keeps md orig s) :
    Keeps md orig (Answer.state (execClaimConfirm s) s) := by
  unfold execClaimConfirm
  try unfold Answer.state
  try dsimp only
  repeat' (first
    | with_reducible assumption | with_reducible (refine State.reachClock_keeps ?_ (by assumption))
    | with_reducible apply State.setRole_keeps | with_reducible apply Keeps.ite
    | with_reducible apply State.rest_keeps | rw [State.rest_eq] | split)

theorem State.rdnCommand_keeps {md : Bool} {orig : State} {s : State} {req : Requester} {legal : State → Bool} {f :
    State → State} (hkeep : Keeps md orig s) (hstep : ∀ y, Keeps md orig y → Keeps md orig (f  y)) :
    Keeps md orig (State.rdnCommand s req legal f) := by
  unfold State.rdnCommand
  try dsimp only
  repeat' (first
    | with_reducible assumption | (intro _; intros) | with_reducible apply hstep
    | with_reducible refine State.guarded_keeps ?_ ?_ | with_reducible apply State.result_keeps
    | with_reducible apply Answer.state_keeps | with_reducible apply Keeps.ite | split)

theorem execHandover_keeps {md : Bool} {orig : State} {req : Requester} {s : State} (hkeep : Keeps md orig s) :
    Keeps md orig (Answer.state (execHandover req s) s) := by
  unfold execHandover
  try unfold Answer.state
  try dsimp only
  repeat' (first
    | with_reducible assumption | (intro _; intros) | with_reducible refine State.rdnCommand_keeps ?_ ?_
    | with_reducible apply State.rest_keeps | rw [State.rest_eq])

theorem execClaim_keeps {md : Bool} {orig : State} {req : Requester} {s : State} (hkeep : Keeps md orig s) :
    Keeps md orig (Answer.state (execClaim req s) s) := by
  unfold execClaim
  try unfold Answer.state
  try dsimp only
  repeat' (first
    | with_reducible assumption | (intro _; intros) | with_reducible refine State.rdnCommand_keeps ?_ ?_
    | with_reducible apply State.tryClaim_keeps | with_reducible apply State.rest_keeps | rw [State.rest_eq])

theorem execRdnRelease_keeps {md : Bool} {orig : State} {req : Requester} {s : State} (hkeep : Keeps md orig s) :
    Keeps md orig (Answer.state (execRdnRelease req s) s) := by
  unfold execRdnRelease
  try unfold Answer.state
  try dsimp only
  repeat' (first
    | with_reducible assumption | (intro _; intros) | with_reducible refine State.rdnCommand_keeps ?_ ?_
    | with_reducible apply State.settleHeld_keeps | with_reducible apply State.giveUp_keeps)

theorem execRdnResync_keeps {md : Bool} {orig : State} {req : Requester} {s : State} (hkeep : Keeps md orig s) :
    Keeps md orig (Answer.state (execRdnResync req s) s) := by
  unfold execRdnResync
  try unfold Answer.state
  try dsimp only
  repeat' (first
    | with_reducible assumption | (intro _; intros) | with_reducible refine State.rdnCommand_keeps ?_ ?_
    | with_reducible apply State.wr64_keeps | with_reducible apply State.setBit_keeps
    | with_reducible apply State.rest_keeps | rw [State.rest_eq])

theorem execRdnCmdReserved_keeps {md : Bool} {orig : State} {req : Requester} {s : State} (hkeep : Keeps md orig s) :
    Keeps md orig (Answer.state (execRdnCmdReserved req s) s) := by
  unfold execRdnCmdReserved
  try unfold Answer.state
  try dsimp only
  repeat' (first
    | with_reducible assumption | (intro _; intros) | with_reducible refine State.rdnCommand_keeps ?_ ?_
    | with_reducible apply id_keeps)

theorem State.endRelease_keeps {md : Bool} {orig : State} {s : State} (hkeep : Keeps md orig s) :
    Keeps md orig (State.endRelease s) := by
  unfold State.endRelease
  try dsimp only
  repeat' (first
    | with_reducible assumption | with_reducible apply State.setRole_keeps | with_reducible apply State.setBit_keeps
    | with_reducible apply State.rest_keeps | rw [State.rest_eq])

theorem execHandoverTimeout_keeps {md : Bool} {orig : State} {s : State} (hkeep : Keeps md orig s) :
    Keeps md orig (Answer.state (execHandoverTimeout s) s) := by
  unfold execHandoverTimeout
  try unfold Answer.state
  try dsimp only
  repeat' (first
    | with_reducible assumption | with_reducible apply State.endRelease_keeps
    | with_reducible apply State.writeHeld_keeps | with_reducible apply Keeps.ite
    | with_reducible apply State.rest_keeps | rw [State.rest_eq] | split)

theorem execKick_keeps {md : Bool} {orig : State} {req : Requester} {v : Reg} {s : State} (hkeep : Keeps md orig s) :
    Keeps md orig (Answer.state (execKick req v s) s) := by
  unfold execKick
  try unfold Answer.state
  try dsimp only
  repeat' (first
    | with_reducible assumption | (intro _; intros) | with_reducible refine State.guarded_keeps ?_ ?_
    | with_reducible apply State.setBit_keeps | with_reducible apply State.setF_keeps
    | with_reducible apply Keeps.ite | with_reducible apply State.rest_keeps | rw [State.rest_eq] | split)

theorem execMgtWdog_keeps {md : Bool} {orig : State} {s : State} (hkeep : Keeps md orig s) :
    Keeps md orig (Answer.state (execMgtWdog s) s) := by
  unfold execMgtWdog
  try unfold Answer.state
  try dsimp only
  repeat' (first
    | with_reducible assumption | with_reducible apply State.settleHeld_keeps
    | with_reducible (refine State.reachClock_keeps ?_ (by assumption)) | with_reducible apply State.raise_keeps
    | with_reducible apply State.giveUp_keeps | with_reducible apply State.hwSet_keeps
    | with_reducible apply Keeps.ite | with_reducible apply State.rest_keeps | rw [State.rest_eq] | split)

theorem State.sendMirror_keeps {md : Bool} {orig : State} {s : State} {src : TxSrc} {hi : Nat} {lo : Nat} {c : List
    Byte} (hkeep : Keeps md orig s) :
    Keeps md orig (State.sendMirror s src hi lo c) := by
  unfold State.sendMirror
  try dsimp only
  repeat' (first
    | with_reducible assumption | (intro _; intros) | with_reducible apply State.enqueue_keeps
    | with_reducible refine forEach_keeps ?_ ?_ | with_reducible apply State.rest_keeps | rw [State.rest_eq])

theorem State.sendHeartbeat_keeps {md : Bool} {orig : State} {s : State} {ack : Bool} (hkeep : Keeps md orig s) :
    Keeps md orig (State.sendHeartbeat s ack) := by
  unfold State.sendHeartbeat
  try dsimp only
  repeat' (first | with_reducible assumption | with_reducible apply State.sendMirror_keeps)

theorem execHeartbeatSend_keeps {md : Bool} {orig : State} {s : State} (hkeep : Keeps md orig s) :
    Keeps md orig (Answer.state (execHeartbeatSend s) s) := by
  unfold execHeartbeatSend
  try unfold Answer.state
  try dsimp only
  repeat' (first
    | with_reducible assumption | with_reducible apply State.sendHeartbeat_keeps
    | with_reducible (refine State.reach_keeps ?_ (by assumption)) | with_reducible apply Keeps.ite
    | with_reducible apply State.rest_keeps | rw [State.rest_eq] | split)

theorem State.markCarried_keeps {md : Bool} {orig : State} {s : State} {n : Nat} (hkeep : Keeps md orig s) :
    Keeps md orig (State.markCarried s n) := by
  unfold State.markCarried
  try dsimp only
  repeat' (first
    | with_reducible assumption | (intro _; intros) | with_reducible apply State.setQueue_keeps
    | with_reducible refine forEach_keeps ?_ ?_ | with_reducible apply Keeps.ite
    | with_reducible apply State.rest_keeps | rw [State.rest_eq] | split)

theorem State.snapshot_keeps {md : Bool} {orig : State} {s : State} {final : Bool} (hkeep : Keeps md orig s) :
    Keeps md orig (State.snapshot s final) := by
  unfold State.snapshot
  try dsimp only
  repeat' (first
    | with_reducible assumption | with_reducible apply State.markCarried_keeps | with_reducible apply Keeps.ite
    | with_reducible apply State.rest_keeps | rw [State.rest_eq] | split)

theorem execEpochSend_keeps {md : Bool} {orig : State} {s : State} (hkeep : Keeps md orig s) :
    Keeps md orig (Answer.state (execEpochSend s) s) := by
  unfold execEpochSend
  try unfold Answer.state
  try dsimp only
  repeat' (first
    | with_reducible assumption | (intro _; intros) | with_reducible apply State.sendMirror_keeps
    | with_reducible (refine State.reach_keeps ?_ (by assumption)) | with_reducible apply State.inc_keeps
    | with_reducible refine forEach_keeps ?_ ?_ | with_reducible refine foldl_keeps ?_ ?_
    | with_reducible apply Keeps.ite | with_reducible apply State.rest_keeps | rw [State.rest_eq] | split)

theorem State.peerCommit_keeps {md : Bool} {orig : State} {s : State} (hkeep : Keeps md orig s) :
    Keeps md orig (State.peerCommit s) := by
  unfold State.peerCommit
  try dsimp only
  repeat' (first
    | with_reducible assumption | with_reducible apply State.endRelease_keeps
    | with_reducible apply State.writeHeld_keeps | with_reducible apply Keeps.ite
    | with_reducible apply State.rest_keeps | rw [State.rest_eq] | split)

theorem State.takeHeartbeat_keeps {md : Bool} {orig : State} {s : State} {c : List Byte} (hkeep : Keeps md orig s) :
    Keeps md orig (State.takeHeartbeat s c) := by
  unfold State.takeHeartbeat
  try dsimp only
  repeat' (first
    | with_reducible assumption | with_reducible apply State.peerCommit_keeps
    | with_reducible apply State.condition_keeps | with_reducible apply State.wr64_keeps
    | with_reducible apply State.setF_keeps | with_reducible apply Keeps.ite | with_reducible apply State.rest_keeps
    | rw [State.rest_eq] | split)

theorem State.openEpoch_keeps {md : Bool} {orig : State} {s : State} {t : Nat} (hkeep : Keeps md orig s) :
    Keeps md orig (State.openEpoch s t) := by
  unfold State.openEpoch
  try dsimp only
  repeat' (first
    | with_reducible assumption | with_reducible apply State.inc_keeps | with_reducible apply Keeps.ite
    | with_reducible apply State.rest_keeps | rw [State.rest_eq] | split)

theorem State.takeEpochData_keeps {md : Bool} {orig : State} {s : State} {c : List Byte} (hkeep : Keeps md orig s) :
    Keeps md orig (State.takeEpochData s c) := by
  unfold State.takeEpochData
  try dsimp only
  repeat' (first
    | with_reducible assumption | with_reducible apply State.openEpoch_keeps | with_reducible apply Keeps.ite
    | with_reducible apply State.rest_keeps | rw [State.rest_eq] | split)

theorem State.closeEpoch_keeps {md : Bool} {orig : State} {s : State} {t : Nat} (hkeep : Keeps md orig s) :
    Keeps md orig (State.closeEpoch s t) := by
  unfold State.closeEpoch
  try dsimp only
  repeat' (first | with_reducible assumption | with_reducible apply State.rest_keeps | rw [State.rest_eq])

theorem State.commitEpoch_keeps {md : Bool} {orig : State} {s : State} {t : Nat} {full : Bool} {recs : List MirrorRec}
    (hkeep : Keeps md orig s) :
    Keeps md orig (State.commitEpoch s t full recs) := by
  unfold State.commitEpoch
  try dsimp only
  repeat' (first
    | with_reducible assumption | with_reducible apply State.closeEpoch_keeps
    | with_reducible apply State.sendHeartbeat_keeps | with_reducible apply State.inc_keeps
    | with_reducible apply State.wr64_keeps | with_reducible apply State.setBit_keeps
    | with_reducible apply Keeps.ite | with_reducible apply State.rest_keeps | rw [State.rest_eq] | split)

theorem State.epochCheck_keeps {md : Bool} {orig : State} {s : State} {t : Nat} (hkeep : Keeps md orig s) :
    Keeps md orig (State.epochCheck s t) := by
  unfold State.epochCheck
  try dsimp only
  repeat' (first
    | with_reducible assumption | with_reducible apply State.closeEpoch_keeps
    | with_reducible apply State.raise_keeps | with_reducible apply State.inc_keeps)

theorem State.checkEpoch_keeps {md : Bool} {orig : State} {s : State} {c : List Byte} {ue : Option Nat} (hkeep : Keeps
    md orig s) :
    Keeps md orig (State.checkEpoch s c ue) := by
  unfold State.checkEpoch
  try dsimp only
  repeat' (first
    | with_reducible assumption | with_reducible apply State.epochCheck_keeps
    | with_reducible apply State.commitEpoch_keeps | with_reducible apply State.closeEpoch_keeps
    | with_reducible apply State.raise_keeps | with_reducible apply State.inc_keeps
    | with_reducible apply State.setBit_keeps | with_reducible apply Keeps.ite
    | with_reducible apply State.rest_keeps | rw [State.rest_eq] | split)

theorem State.takeEpochTrailer_keeps {md : Bool} {orig : State} {s : State} {c : List Byte} {ue : Option Nat} (hkeep :
    Keeps md orig s) :
    Keeps md orig (State.takeEpochTrailer s c ue) := by
  unfold State.takeEpochTrailer
  try dsimp only
  repeat' (first
    | with_reducible assumption | with_reducible apply State.checkEpoch_keeps
    | with_reducible apply State.openEpoch_keeps | with_reducible apply Keeps.ite
    | with_reducible apply State.rest_keeps | rw [State.rest_eq] | split)

theorem State.mirrorReceive_keeps {md : Bool} {orig : State} {s : State} {b : List Byte} {ue : Option Nat} (hkeep :
    Keeps md orig s) :
    Keeps md orig (State.mirrorReceive s b ue) := by
  unfold State.mirrorReceive
  try dsimp only
  repeat' (first
    | with_reducible assumption | with_reducible apply State.takeEpochTrailer_keeps
    | with_reducible apply State.takeEpochData_keeps | with_reducible apply State.takeHeartbeat_keeps
    | with_reducible apply State.inc_keeps | with_reducible apply Keeps.ite | split)

theorem State.applyGate_keeps {md : Bool} {orig : State} {s : State} {p : Nat} {d : List Byte} (hkeep : Keeps md orig
    s) :
    Keeps md orig (State.applyGate s p d) := by
  unfold State.applyGate
  try dsimp only
  repeat' (first
    | with_reducible assumption | with_reducible apply State.bankFailed_keeps
    | with_reducible apply State.settleOwned_keeps | with_reducible apply State.setShadow_keeps
    | with_reducible apply State.setBank_keeps | with_reducible apply State.dropReqs_keeps
    | with_reducible apply State.addReq_keeps | with_reducible apply State.setF_keeps
    | with_reducible apply State.wrN_keeps | with_reducible apply Keeps.ite | with_reducible apply State.rest_keeps
    | rw [State.rest_eq] | split)

theorem State.applyAction_keeps {md : Bool} {orig : State} {s : State} {i : Nat} {d : List Byte} (hkeep : Keeps md
    orig s) :
    Keeps md orig (State.applyAction s i d) := by
  unfold State.applyAction
  try dsimp only
  repeat' (first
    | with_reducible assumption | with_reducible apply State.setActNext_keeps
    | with_reducible apply State.setActSt_keeps | with_reducible apply State.wrWords_keeps
    | with_reducible apply Keeps.ite | split)

theorem State.settleFuncMode_keeps {md : Bool} {orig : State} {s : State} (hkeep : Keeps md orig s) :
    Keeps md orig (State.settleFuncMode s) := by
  unfold State.settleFuncMode
  try dsimp only
  repeat' (first | with_reducible assumption | with_reducible apply State.wrN_keeps)

theorem State.setHostGoose_keeps {md : Bool} {orig : State} {s : State} {i : Nat} {h : Bool} (hkeep : Keeps md orig s) :
    Keeps md orig (State.setHostGoose s i h) := by
  unfold State.setHostGoose
  try dsimp only
  repeat' (first
    | with_reducible assumption | with_reducible apply Keeps.ite | with_reducible apply State.rest_keeps
    | rw [State.rest_eq] | split)

theorem State.applyGcb_keeps {md : Bool} {orig : State} {s : State} {i : Nat} {d : List Byte} (hkeep : Keeps md orig
    s) :
    Keeps md orig (State.applyGcb s i d) := by
  unfold State.applyGcb
  try dsimp only
  repeat' (first
    | with_reducible assumption | with_reducible apply State.setHostGoose_keeps
    | with_reducible apply State.setGcb_keeps | with_reducible apply State.setBit_keeps
    | with_reducible apply State.wrN_keeps | with_reducible apply State.rest_keeps | rw [State.rest_eq])

theorem State.applyQueue_keeps {md : Bool} {orig : State} {s : State} {q : Nat} {d : List Byte} (hkeep : Keeps md orig
    s) :
    Keeps md orig (State.applyQueue s q d) := by
  unfold State.applyQueue
  try dsimp only
  repeat' (first | with_reducible assumption | with_reducible apply State.rest_keeps | rw [State.rest_eq])

theorem State.applyBinding_keeps {md : Bool} {orig : State} {s : State} {q : Nat} {d : List Byte} (hkeep : Keeps md
    orig s) :
    Keeps md orig (State.applyBinding s q d) := by
  unfold State.applyBinding
  try dsimp only
  repeat' (first | with_reducible assumption | with_reducible apply State.rest_keeps | rw [State.rest_eq])

theorem State.applyRec_keeps {md : Bool} {orig : State} {s : State} {r : MirrorRec} (hkeep : Keeps md orig s) :
    Keeps md orig (State.applyRec s r) := by
  unfold State.applyRec
  try dsimp only
  repeat' (first
    | with_reducible assumption | with_reducible apply State.applyBinding_keeps
    | with_reducible apply State.applyQueue_keeps | with_reducible apply State.applyGcb_keeps
    | with_reducible apply State.applyAction_keeps | with_reducible apply State.applyGate_keeps
    | with_reducible apply State.tplWrite_keeps | with_reducible apply State.rest_keeps | rw [State.rest_eq] | split)

theorem State.applyEpochs_keeps {md : Bool} {orig : State} {s : State} {ue : Option Nat} (hkeep : Keeps md orig s) :
    Keeps md orig (State.applyEpochs s ue) := by
  unfold State.applyEpochs
  try dsimp only
  repeat' (first
    | with_reducible assumption | (intro _; intros) | with_reducible apply State.applyRec_keeps
    | with_reducible apply State.settleFuncMode_keeps | with_reducible apply State.raise_keeps
    | with_reducible apply State.inc_keeps | with_reducible refine forEach_keeps ?_ ?_
    | with_reducible apply Keeps.ite | with_reducible apply State.rest_keeps | rw [State.rest_eq] | split)

theorem State.takeoverGcb_keeps {md : Bool} {orig : State} {s : State} {i : Nat} (hkeep : Keeps md orig s) :
    Keeps md orig (State.takeoverGcb s i) := by
  unfold State.takeoverGcb
  try dsimp only
  repeat' (first
    | with_reducible assumption | with_reducible apply State.gcbCatchUp_keeps
    | with_reducible apply State.gcbDrop_keeps | with_reducible apply State.gcbWait_keeps
    | with_reducible apply State.wrN_keeps | with_reducible apply Keeps.ite | split)

theorem State.takeoverQueue_keeps {md : Bool} {orig : State} {s : State} {r : Nat × Nat × Nat × Nat × Nat} (hkeep :
    Keeps md orig s) :
    Keeps md orig (State.takeoverQueue s r) := by
  unfold State.takeoverQueue
  try dsimp only
  repeat' (first
    | with_reducible assumption | with_reducible apply State.setQState_keeps
    | with_reducible apply State.takeCfg_keeps | with_reducible apply State.flushOutcomes_keeps
    | with_reducible apply State.setQueue_keeps | with_reducible apply State.inc_keeps
    | with_reducible apply State.setF_keeps | with_reducible apply Keeps.ite | with_reducible apply State.rest_keeps
    | rw [State.rest_eq] | split)

theorem State.takeover_keeps {md : Bool} {orig : State} {s : State} {ue : Option Nat} (hkeep : Keeps md orig s) :
    Keeps md orig (State.takeover s ue) := by
  unfold State.takeover
  try dsimp only
  repeat' (first
    | with_reducible assumption | (intro _; intros) | with_reducible apply State.takeoverQueue_keeps
    | with_reducible apply State.takeoverGcb_keeps | with_reducible apply State.applyEpochs_keeps
    | with_reducible apply State.raise_keeps | with_reducible apply State.inc_keeps
    | with_reducible apply State.wrN_keeps | with_reducible refine forEach_keeps ?_ ?_
    | with_reducible apply Keeps.ite | with_reducible apply State.rest_keeps | rw [State.rest_eq] | split)

theorem State.hbLand_keeps {md : Bool} {orig : State} {s : State} {first : Bool} (hkeep : Keeps md orig s) :
    Keeps md orig (State.hbLand s first) := by
  unfold State.hbLand
  try dsimp only
  repeat' (first
    | with_reducible assumption | with_reducible apply State.condition_keeps | with_reducible apply State.incF_keeps
    | with_reducible apply State.inc_keeps | with_reducible apply State.setBit_keeps | with_reducible apply Keeps.ite
    | with_reducible apply State.rest_keeps | rw [State.rest_eq] | split)

theorem State.strapLand_keeps {md : Bool} {orig : State} {s : State} (hkeep : Keeps md orig s) :
    Keeps md orig (State.strapLand s) := by
  unfold State.strapLand
  try dsimp only
  repeat' (first
    | with_reducible assumption | with_reducible apply State.raise_keeps | with_reducible apply Keeps.ite | split)

theorem State.mirrorLand_keeps {md : Bool} {orig : State} {s : State} (hkeep : Keeps md orig s) :
    Keeps md orig (State.mirrorLand s) := by
  unfold State.mirrorLand
  try dsimp only
  repeat' (first
    | with_reducible assumption | with_reducible apply State.snapshot_keeps
    | with_reducible apply State.setRole_keeps | with_reducible apply Keeps.ite
    | with_reducible apply State.rest_keeps | rw [State.rest_eq] | split)

/-! ### Twin -/

theorem State.setHandle_keeps {md : Bool} {orig : State} {s : State} {sh : Nat} {h : HandleSt} (hkeep : Keeps md orig
    s) :
    Keeps md orig (State.setHandle s sh h) := by
  unfold State.setHandle
  try dsimp only
  repeat' (first | with_reducible assumption | with_reducible apply State.rest_keeps | rw [State.rest_eq])

theorem State.setMeter_keeps {md : Bool} {orig : State} {s : State} {m : Nat} {x : MeterSt} (hkeep : Keeps md orig s) :
    Keeps md orig (State.setMeter s m x) := by
  unfold State.setMeter
  try dsimp only
  repeat' (first | with_reducible assumption | with_reducible apply State.rest_keeps | rw [State.rest_eq])

theorem State.runMeter_keeps {md : Bool} {orig : State} {s : State} {m : Nat} {len : Nat} (hkeep : Keeps md orig s) :
    Keeps md orig (State.runMeter s m len).2 := by
  have h1 : ∀ x, Keeps md orig (s.setMeter m x) := fun _ => State.setMeter_keeps hkeep
  unfold State.runMeter
  extract_lets
  split
  · exact h1 _
  · split
    · exact h1 _
    · exact h1 _

theorem State.police_keeps {md : Bool} {orig : State} {s : State} {r : StreamRec} {g : Nat} {len : Nat}
    (hkeep : Keeps md orig s) : Keeps md orig (State.police s r g len).2 := by
  have h1 := State.runMeter_keeps (m := r.policer) (len := len) hkeep
  unfold State.police
  extract_lets m cfg drop
  have hd : ∀ x, Keeps md orig x → Keeps md orig (drop x).2 := fun x hx => State.setHandle_keeps hx
  clear_value drop
  split
  · exact hkeep
  · split
    · exact hd _ hkeep
    · split
      · next heq => rw [heq] at h1; exact h1
      · next heq =>
        rw [heq] at h1
        split
        · exact hd _ h1
        · exact h1
      · next heq =>
        rw [heq] at h1
        split
        · exact hd _ (State.raise_keeps (State.hwSet_keeps h1))
        · exact hd _ h1

theorem State.metersFill_keeps {md : Bool} {orig : State} {s : State} (hkeep : Keeps md orig s) :
    Keeps md orig (State.metersFill s) := by
  unfold State.metersFill
  try dsimp only
  repeat' (first
    | with_reducible assumption | (intro _; intros) | with_reducible apply State.setMeter_keeps
    | with_reducible refine forEach_keeps ?_ ?_ | with_reducible apply Keeps.ite | split)

theorem State.metersLand_keeps {md : Bool} {orig : State} {s : State} (hkeep : Keeps md orig s) :
    Keeps md orig (State.metersLand s) := by
  unfold State.metersLand
  try dsimp only
  repeat' (first
    | with_reducible assumption | (intro _; intros) | with_reducible apply State.setMeter_keeps
    | with_reducible refine forEach_keeps ?_ ?_ | with_reducible apply Keeps.ite
    | with_reducible apply State.rest_keeps | rw [State.rest_eq] | split)

theorem State.notePass_keeps {md : Bool} {orig : State} {s : State} {sh : Nat} {b : Bool} (hkeep : Keeps md orig s) :
    Keeps md orig (State.notePass s sh b) := by
  unfold State.notePass
  try dsimp only
  repeat' (first
    | with_reducible assumption | with_reducible apply State.setHandle_keeps | with_reducible apply Keeps.ite
    | with_reducible apply State.rest_keeps | rw [State.rest_eq] | split)

theorem State.noteDiscard_keeps {md : Bool} {orig : State} {s : State} {sh : Nat} (hkeep : Keeps md orig s) :
    Keeps md orig (State.noteDiscard s sh) := by
  unfold State.noteDiscard
  try dsimp only
  repeat' (first
    | with_reducible assumption | with_reducible apply State.setHandle_keeps | with_reducible apply State.rest_keeps
    | rw [State.rest_eq])

theorem State.noteRogue_keeps {md : Bool} {orig : State} {s : State} {sh : Nat} (hkeep : Keeps md orig s) :
    Keeps md orig (State.noteRogue s sh) := by
  unfold State.noteRogue
  try dsimp only
  repeat' (first
    | with_reducible assumption | with_reducible apply State.setHandle_keeps | with_reducible apply State.raise_keeps
    | with_reducible apply State.rest_keeps | rw [State.rest_eq])

theorem State.noteCopy_keeps {md : Bool} {orig : State} {s : State} {sh : Nat} {b : Bool} (hkeep : Keeps md orig s) :
    Keeps md orig (State.noteCopy s sh b) := by
  unfold State.noteCopy
  try dsimp only
  repeat' (first
    | with_reducible assumption | with_reducible apply State.setHandle_keeps | with_reducible apply Keeps.ite
    | with_reducible apply State.rest_keeps | rw [State.rest_eq] | split)

theorem State.vectorRecover_keeps {md : Bool} {orig : State} {s : State} {r : StreamRec} {src : Nat} {seq : Nat}
    (hkeep : Keeps md orig s) :
    Keeps md orig (State.vectorRecover s r src seq).2 := by
  unfold State.vectorRecover
  try dsimp only
  repeat' (first
    | with_reducible assumption | with_reducible apply State.noteRogue_keeps
    | with_reducible apply State.noteDiscard_keeps | with_reducible apply State.setHandle_keeps
    | with_reducible apply Keeps.ite | with_reducible apply State.rest_keeps | rw [State.rest_eq] | split)

theorem State.matchRecover_keeps {md : Bool} {orig : State} {s : State} {r : StreamRec} {seq : Nat} (hkeep : Keeps md
    orig s) :
    Keeps md orig (State.matchRecover s r seq).2 := by
  unfold State.matchRecover
  try dsimp only
  repeat' (first
    | with_reducible assumption | with_reducible apply State.noteDiscard_keeps
    | with_reducible apply State.setHandle_keeps | with_reducible apply Keeps.ite
    | with_reducible apply State.rest_keeps | rw [State.rest_eq] | split)

theorem State.eliminate_keeps {md : Bool} {orig : State} {s : State} {r : StreamRec} {v : Redund} {b : Bool} {bypass :
    Bool} (hkeep : Keeps md orig s) :
    Keeps md orig (State.eliminate s r v b bypass).2 := by
  unfold State.eliminate
  try dsimp only
  repeat' (first
    | with_reducible assumption | with_reducible apply State.matchRecover_keeps
    | with_reducible apply State.vectorRecover_keeps | with_reducible apply State.noteCopy_keeps
    | with_reducible apply State.noteRogue_keeps | with_reducible apply State.notePass_keeps
    | with_reducible apply State.setHandle_keeps | with_reducible apply Keeps.ite
    | with_reducible apply State.rest_keeps | rw [State.rest_eq] | split)

theorem State.putNode_keeps {md : Bool} {orig : State} {s : State} {n : Node} (hkeep : Keeps md orig s) :
    Keeps md orig (State.putNode s n) := by
  unfold State.putNode
  try dsimp only
  repeat' (first | with_reducible assumption | with_reducible apply State.rest_keeps | rw [State.rest_eq])

theorem State.needNode_keeps {md : Bool} {orig : State} {s : State} {pair : Nat} {mac : Nat} {count : Bool} (hkeep :
    Keeps md orig s) :
    Keeps md orig (State.needNode s pair mac count).2 := by
  unfold State.needNode
  try dsimp only
  repeat' (first
    | with_reducible assumption | with_reducible apply State.raise_keeps | with_reducible apply State.inc64_keeps
    | with_reducible apply Keeps.ite | with_reducible apply State.rest_keeps | rw [State.rest_eq] | split)

theorem State.nodeLocal_keeps {md : Bool} {orig : State} {s : State} {pair : Nat} {mac : Nat} {seq : Nat} {count :
    Bool} (hkeep : Keeps md orig s) :
    Keeps md orig (State.nodeLocal s pair mac seq count).2 := by
  have h1 := State.needNode_keeps (pair := pair) (mac := mac) (count := count) hkeep
  unfold State.nodeLocal
  split
  · next heq =>
    rw [heq] at h1
    exact State.putNode_keeps h1
  · next heq =>
    rw [heq] at h1
    exact h1

theorem State.nodeForward_keeps {md : Bool} {orig : State} {s : State} {pair : Nat} {p : Nat} {mac : Nat} {seq : Nat}
    (hkeep : Keeps md orig s) :
    Keeps md orig (State.nodeForward s pair p mac seq).2 := by
  have h1 := State.needNode_keeps (pair := pair) (mac := mac) (count := true) hkeep
  unfold State.nodeForward
  split
  · next heq =>
    rw [heq] at h1
    exact State.putNode_keeps h1
  · next heq =>
    rw [heq] at h1
    exact h1

theorem execNodeForget_keeps {md : Bool} {orig : State} {pair : Nat} {mac : Nat} {s : State} (hkeep : Keeps md orig s) :
    Keeps md orig (Answer.state (execNodeForget pair mac s) s) := by
  unfold execNodeForget
  try unfold Answer.state
  try dsimp only
  repeat' (first
    | with_reducible assumption | with_reducible (refine State.reachClock_keeps ?_ (by assumption))
    | with_reducible apply State.rest_keeps | rw [State.rest_eq] | split)

theorem State.supervise_keeps {md : Bool} {orig : State} {s : State} {p : Nat} (hkeep : Keeps md orig s) :
    Keeps md orig (State.supervise s p) := by
  unfold State.supervise
  try dsimp only
  repeat' (first
    | with_reducible assumption | with_reducible apply State.enqueue_keeps | with_reducible apply State.inc64_keeps
    | with_reducible apply State.rest_keeps | rw [State.rest_eq])

theorem execSupervisionSend_keeps {md : Bool} {orig : State} {p : Nat} {s : State} (hkeep : Keeps md orig s) :
    Keeps md orig (Answer.state (execSupervisionSend p s) s) := by
  unfold execSupervisionSend
  try unfold Answer.state
  try dsimp only
  repeat' (first
    | with_reducible assumption | with_reducible apply State.supervise_keeps
    | with_reducible (refine State.reachClock_keeps ?_ (by assumption)) | with_reducible apply Keeps.ite
    | with_reducible apply State.rest_keeps | rw [State.rest_eq] | split)

theorem State.resetHandle_keeps {md : Bool} {orig : State} {s : State} {sh : Nat} (hkeep : Keeps md orig s) :
    Keeps md orig (State.resetHandle s sh) := by
  unfold State.resetHandle
  try dsimp only
  repeat' (first
    | with_reducible assumption | with_reducible apply State.setHandle_keeps | with_reducible apply State.rest_keeps
    | rw [State.rest_eq])

theorem State.twinTimer_keeps {md : Bool} {orig : State} {s : State} {r : StreamRec} (hkeep : Keeps md orig s) :
    Keeps md orig (State.twinTimer s r) := by
  unfold State.twinTimer
  try dsimp only
  repeat' (first
    | with_reducible assumption | with_reducible apply State.resetHandle_keeps
    | with_reducible apply State.setHandle_keeps | with_reducible apply State.raise_keeps
    | with_reducible apply Keeps.ite | with_reducible apply State.rest_keeps | rw [State.rest_eq] | split)

theorem State.pathTimer_keeps {md : Bool} {orig : State} {s : State} {r : StreamRec} (hkeep : Keeps md orig s) :
    Keeps md orig (State.pathTimer s r) := by
  unfold State.pathTimer
  try dsimp only
  repeat' (first
    | with_reducible assumption | with_reducible apply State.setHandle_keeps | with_reducible apply State.raise_keeps
    | with_reducible apply Keeps.ite | with_reducible apply State.rest_keeps | rw [State.rest_eq] | split)

theorem State.twinsLand_keeps {md : Bool} {orig : State} {s : State} (hkeep : Keeps md orig s) :
    Keeps md orig (State.twinsLand s) := by
  unfold State.twinsLand
  try dsimp only
  repeat' (first
    | with_reducible assumption | (intro _; intros) | with_reducible apply State.pathTimer_keeps
    | with_reducible apply State.twinTimer_keeps | with_reducible refine forEach_keeps ?_ ?_)

theorem State.strCommand_keeps {md : Bool} {orig : State} {s : State} {req : Requester} {sh : Nat} {legal : StreamRec
    → State → Bool} {f : State → State} (hkeep : Keeps md orig s) (hstep : ∀ y, Keeps md orig y → Keeps md orig (f
    y)) :
    Keeps md orig (State.strCommand s req sh legal f) := by
  unfold State.strCommand
  try dsimp only
  repeat' (first
    | with_reducible assumption | (intro _; intros) | with_reducible apply hstep
    | with_reducible refine State.guarded_keeps ?_ ?_ | with_reducible apply State.result_keeps
    | with_reducible apply Answer.state_keeps | with_reducible apply State.setF_keeps
    | with_reducible apply Keeps.ite | with_reducible apply State.rest_keeps | rw [State.rest_eq] | split)

theorem execRecovReset_keeps {md : Bool} {orig : State} {req : Requester} {sh : Nat} {s : State} (hkeep : Keeps md
    orig s) :
    Keeps md orig (Answer.state (execRecovReset req sh s) s) := by
  unfold execRecovReset
  try unfold Answer.state
  try dsimp only
  repeat' (first
    | with_reducible assumption | (intro _; intros) | with_reducible refine State.strCommand_keeps ?_ ?_
    | with_reducible apply State.resetHandle_keeps)

theorem execContain_keeps {md : Bool} {orig : State} {req : Requester} {sh : Nat} {s : State} (hkeep : Keeps md orig
    s) :
    Keeps md orig (Answer.state (execContain req sh s) s) := by
  unfold execContain
  try unfold Answer.state
  try dsimp only
  repeat' (first
    | with_reducible assumption | (intro _; intros) | with_reducible refine State.strCommand_keeps ?_ ?_
    | with_reducible apply State.setHandle_keeps | with_reducible apply State.rest_keeps | rw [State.rest_eq])

theorem execStrRelease_keeps {md : Bool} {orig : State} {req : Requester} {sh : Nat} {s : State} (hkeep : Keeps md
    orig s) :
    Keeps md orig (Answer.state (execStrRelease req sh s) s) := by
  unfold execStrRelease
  try unfold Answer.state
  try dsimp only
  repeat' (first
    | with_reducible assumption | (intro _; intros) | with_reducible refine State.strCommand_keeps ?_ ?_
    | with_reducible apply State.setHandle_keeps | with_reducible apply State.rest_keeps | rw [State.rest_eq])

theorem execStrCmdReserved_keeps {md : Bool} {orig : State} {req : Requester} {sh : Nat} {s : State} (hkeep : Keeps md
    orig s) :
    Keeps md orig (Answer.state (execStrCmdReserved req sh s) s) := by
  unfold execStrCmdReserved
  try unfold Answer.state
  try dsimp only
  repeat' (first
    | with_reducible assumption | (intro _; intros) | with_reducible refine State.strCommand_keeps ?_ ?_
    | with_reducible apply id_keeps)

theorem execStrSelWrite_keeps {md : Bool} {orig : State} {req : Requester} {v : Reg} {s : State} (hkeep : Keeps md
    orig s) :
    Keeps md orig (Answer.state (execStrSelWrite req v s) s) := by
  unfold execStrSelWrite
  try unfold Answer.state
  try dsimp only
  repeat' (first
    | with_reducible assumption | (intro _; intros) | with_reducible apply State.setHandle_keeps
    | with_reducible refine State.guarded_keeps ?_ ?_ | with_reducible apply State.wr64_keeps
    | with_reducible apply State.wrN_keeps | with_reducible apply State.wr_keeps
    | with_reducible refine forEach_keeps ?_ ?_ | with_reducible apply Keeps.ite | split)

/-! ### Links -/

theorem State.emitLanes_keeps {md : Bool} {orig : State} {s : State} {p : Nat} (hkeep : Keeps md orig s) :
    Keeps md orig (State.emitLanes s p) := by
  unfold State.emitLanes
  try dsimp only
  repeat' (first
    | with_reducible assumption | (intro _; intros) | with_reducible apply State.emit_keeps
    | with_reducible refine forEach_keeps ?_ ?_ | with_reducible apply Keeps.ite | split)

theorem State.txeqWritten_keeps {md : Bool} {orig : State} {s : State} {l : Nat} (hkeep : Keeps md orig s) :
    Keeps md orig (State.txeqWritten s l) := by
  unfold State.txeqWritten
  try dsimp only
  repeat' (first
    | with_reducible assumption | with_reducible apply State.emit_keeps | with_reducible apply Keeps.ite
    | with_reducible apply State.rest_keeps | rw [State.rest_eq] | split)

theorem State.emitFault_keeps {md : Bool} {orig : State} {s : State} {old : State} {p : Nat} (hkeep : Keeps md orig s) :
    Keeps md orig (State.emitFault s old p) := by
  unfold State.emitFault
  try dsimp only
  repeat' (first
    | with_reducible assumption | with_reducible apply State.emit_keeps | with_reducible apply Keeps.ite | split)

theorem State.startVerify_keeps {md : Bool} {orig : State} {s : State} {p : Nat} (hkeep : Keeps md orig s) :
    Keeps md orig (State.startVerify s p) := by
  unfold State.startVerify
  try dsimp only
  repeat' (first
    | with_reducible assumption | with_reducible apply State.settlePreempt_keeps
    | with_reducible apply State.setPort_keeps | with_reducible apply State.setF_keeps
    | with_reducible apply Keeps.ite | with_reducible apply State.rest_keeps | rw [State.rest_eq] | split)

theorem State.linkTo_keeps {md : Bool} {orig : State} {s : State} {p : Nat} {st : Nat} (hkeep : Keeps md orig s) :
    Keeps md orig (State.linkTo s p st) := by
  unfold State.linkTo
  try dsimp only
  repeat' (first
    | with_reducible assumption | with_reducible apply State.setPort_keeps | with_reducible apply State.setF_keeps
    | with_reducible apply State.rest_keeps | rw [State.rest_eq])

theorem State.train_keeps {md : Bool} {orig : State} {s : State} {p : Nat} (hkeep : Keeps md orig s) :
    Keeps md orig (State.train s p) := by
  unfold State.train
  try dsimp only
  repeat' (first
    | with_reducible assumption | (intro _; intros) | with_reducible apply State.linkTo_keeps
    | with_reducible apply State.emitLanes_keeps | with_reducible apply State.setPort_keeps
    | with_reducible apply State.setBit_keeps | with_reducible refine forEach_keeps ?_ ?_
    | with_reducible apply State.rest_keeps | rw [State.rest_eq])

theorem State.disablePort_keeps {md : Bool} {orig : State} {s : State} {p : Nat} (hkeep : Keeps md orig s) :
    Keeps md orig (State.disablePort s p) := by
  unfold State.disablePort
  try dsimp only
  repeat' (first
    | with_reducible assumption | (intro _; intros) | with_reducible apply State.linkTo_keeps
    | with_reducible apply State.emitLanes_keeps | with_reducible apply State.setF_keeps
    | with_reducible refine forEach_keeps ?_ ?_)

theorem State.leaveUp_keeps {md : Bool} {orig : State} {s : State} {p : Nat} (hkeep : Keeps md orig s) :
    Keeps md orig (State.leaveUp s p) := by
  unfold State.leaveUp
  try dsimp only
  repeat' (first
    | with_reducible assumption | with_reducible apply State.settlePort_keeps
    | with_reducible apply State.cutPort_keeps | with_reducible apply State.raise_keeps
    | with_reducible apply State.event_keeps | with_reducible apply State.inc64_keeps
    | with_reducible apply State.hwSet_keeps | with_reducible apply Keeps.ite | split)

theorem State.linkLeave_keeps {md : Bool} {orig : State} {s : State} {p : Nat} {st : Nat} (hkeep : Keeps md orig s) :
    Keeps md orig (State.linkLeave s p st) := by
  unfold State.linkLeave
  try dsimp only
  repeat' (first
    | with_reducible assumption | with_reducible apply State.leaveUp_keeps
    | with_reducible apply State.disablePort_keeps | with_reducible apply State.train_keeps
    | with_reducible apply State.linkTo_keeps | with_reducible apply State.startVerify_keeps
    | with_reducible apply State.emitFault_keeps | with_reducible apply Keeps.ite | split)

theorem execLinkAligning_keeps {md : Bool} {orig : State} {p : Nat} {s : State} (hkeep : Keeps md orig s) :
    Keeps md orig (Answer.state (execLinkAligning p s) s) := by
  unfold execLinkAligning
  try unfold Answer.state
  try dsimp only
  repeat' (first
    | with_reducible assumption | (intro _; intros) | with_reducible apply State.linkTo_keeps
    | with_reducible apply State.setBit_keeps | with_reducible refine forEach_keeps ?_ ?_
    | with_reducible apply Keeps.ite | split)

theorem execLinkUp_keeps {md : Bool} {orig : State} {p : Nat} {start : Nat} {s : State} (hkeep : Keeps md orig s) :
    Keeps md orig (Answer.state (execLinkUp p start s) s) := by
  unfold execLinkUp
  try unfold Answer.state
  try dsimp only
  repeat' (first
    | with_reducible assumption | with_reducible apply State.linkTo_keeps
    | with_reducible apply State.startVerify_keeps | with_reducible apply State.emitFault_keeps
    | with_reducible (refine State.reachClock_keeps ?_ (by assumption)) | with_reducible apply State.setF_keeps
    | with_reducible apply Keeps.ite | with_reducible apply State.rest_keeps | rw [State.rest_eq] | split)

theorem execAlignTimeout_keeps {md : Bool} {orig : State} {p : Nat} {s : State} (hkeep : Keeps md orig s) :
    Keeps md orig (Answer.state (execAlignTimeout p s) s) := by
  unfold execAlignTimeout
  try unfold Answer.state
  try dsimp only
  repeat' (first
    | with_reducible assumption | with_reducible apply State.linkLeave_keeps
    | with_reducible (refine State.reachClock_keeps ?_ (by assumption)) | with_reducible apply Keeps.ite
    | with_reducible apply State.rest_keeps | rw [State.rest_eq] | split)

theorem execLinkFault_keeps {md : Bool} {orig : State} {p : Nat} {st : Nat} {ns : Nat} {s : State} (hkeep : Keeps md
    orig s) :
    Keeps md orig (Answer.state (execLinkFault p st ns s) s) := by
  unfold execLinkFault
  try unfold Answer.state
  try dsimp only
  repeat' (first
    | with_reducible assumption | with_reducible apply State.linkLeave_keeps
    | with_reducible apply State.emitFault_keeps | with_reducible apply State.setF_keeps
    | with_reducible apply Keeps.ite | split)

theorem execCdrLossTimeout_keeps {md : Bool} {orig : State} {p : Nat} {l : Nat} {s : State} (hkeep : Keeps md orig s) :
    Keeps md orig (Answer.state (execCdrLossTimeout p l s) s) := by
  unfold execCdrLossTimeout
  try unfold Answer.state
  try dsimp only
  repeat' (first
    | with_reducible assumption | with_reducible apply State.linkLeave_keeps
    | with_reducible apply State.setBit_keeps | with_reducible apply Keeps.ite | split)

theorem execRetrain_keeps {md : Bool} {orig : State} {req : Requester} {p : Nat} {s : State} (hkeep : Keeps md orig s) :
    Keeps md orig (Answer.state (execRetrain req p s) s) := by
  unfold execRetrain
  try unfold Answer.state
  try dsimp only
  repeat' (first
    | with_reducible assumption | (intro _; intros) | with_reducible apply State.linkLeave_keeps
    | with_reducible refine State.guarded_keeps ?_ ?_ | with_reducible apply State.result_keeps
    | with_reducible apply Answer.state_keeps | with_reducible apply Keeps.ite | split)

theorem execPrtCmdReserved_keeps {md : Bool} {orig : State} {req : Requester} {p : Nat} {s : State} (hkeep : Keeps md
    orig s) :
    Keeps md orig (Answer.state (execPrtCmdReserved req p s) s) := by
  unfold execPrtCmdReserved
  try unfold Answer.state
  try dsimp only
  repeat' (first
    | with_reducible assumption | (intro _; intros) | with_reducible refine State.guarded_keeps ?_ ?_
    | with_reducible apply State.result_keeps | with_reducible apply Answer.state_keeps
    | with_reducible apply Keeps.ite | split)

theorem execVerifyTimer_keeps {md : Bool} {orig : State} {p : Nat} {s : State} (hkeep : Keeps md orig s) :
    Keeps md orig (Answer.state (execVerifyTimer p s) s) := by
  unfold execVerifyTimer
  try unfold Answer.state
  try dsimp only
  repeat' (first
    | with_reducible assumption | with_reducible (refine State.reachClock_keeps ?_ (by assumption))
    | with_reducible apply State.raise_keeps | with_reducible apply State.settlePreempt_keeps
    | with_reducible apply State.setPort_keeps | with_reducible apply State.emit_keeps
    | with_reducible apply State.setF_keeps | with_reducible apply Keeps.ite | with_reducible apply State.rest_keeps
    | rw [State.rest_eq] | split)

theorem State.adminLand_keeps {md : Bool} {orig : State} {s : State} (hkeep : Keeps md orig s) :
    Keeps md orig (State.adminLand s) := by
  unfold State.adminLand
  try dsimp only
  repeat' (first
    | with_reducible assumption | (intro _; intros) | with_reducible apply State.linkLeave_keeps
    | with_reducible refine forEach_keeps ?_ ?_ | with_reducible apply Keeps.ite | split)

/-! ### Receive -/

theorem State.assyFail_keeps {md : Bool} {orig : State} {s : State} {p : Nat} (hkeep : Keeps md orig s) :
    Keeps md orig (State.assyFail s p) := by
  unfold State.assyFail
  try dsimp only
  repeat' (first
    | with_reducible assumption | with_reducible apply State.setPort_keeps | with_reducible apply State.inc64_keeps
    | with_reducible apply State.rest_keeps | rw [State.rest_eq])

theorem State.countPrbs_keeps {md : Bool} {orig : State} {s : State} {l : Nat} {lock : Bool} {n : Nat} (hkeep : Keeps
    md orig s) :
    Keeps md orig (State.countPrbs s l lock n) := by
  unfold State.countPrbs
  try dsimp only
  repeat' (first
    | with_reducible assumption | with_reducible apply State.incBy_keeps | with_reducible apply State.setBit_keeps
    | with_reducible apply Keeps.ite | split)

theorem State.countLine_keeps {md : Bool} {orig : State} {s0 : State} {p : Nat} {x : RxIn} (hkeep : Keeps md orig s0) :
    Keeps md orig (State.countLine s0 p x) := by
  unfold State.countLine
  try dsimp only
  repeat' (first
    | with_reducible assumption | (intro _; intros) | with_reducible apply State.countPrbs_keeps
    | with_reducible apply State.raise_keeps | with_reducible apply State.inc64By_keeps
    | with_reducible refine forEach_keeps ?_ ?_ | with_reducible apply Keeps.ite | split)

theorem State.fragStart_keeps {md : Bool} {orig : State} {s : State} {p : Nat} {x : RxIn} {cap : Capture} {count :
    Nat} (hkeep : Keeps md orig s) :
    Keeps md orig (State.fragStart s p x cap count) := by
  unfold State.fragStart
  try dsimp only
  repeat' (first
    | with_reducible assumption | with_reducible apply State.setPort_keeps | with_reducible apply State.inc64_keeps
    | with_reducible apply Keeps.ite | with_reducible apply State.rest_keeps | rw [State.rest_eq] | split)

theorem State.merge_keeps {md : Bool} {orig : State} {s : State} {p : Nat} {x : RxIn} {now : Capture} (hkeep : Keeps
    md orig s) :
    Keeps md orig (State.merge s p x now).2 := by
  unfold State.merge
  try dsimp only
  repeat' (first
    | with_reducible assumption | with_reducible apply State.fragStart_keeps
    | with_reducible apply State.assyFail_keeps | with_reducible apply State.settlePreempt_keeps
    | with_reducible apply State.setPort_keeps | with_reducible apply State.emit_keeps
    | with_reducible apply State.inc64_keeps | with_reducible apply State.setF_keeps | with_reducible apply Keeps.ite
    | with_reducible apply State.rest_keeps | rw [State.rest_eq] | split)

theorem State.deliver_keeps {md : Bool} {orig : State} {s : State} {q : Nat} {p : Nat} {c : Capture} {b : List Byte}
    {v : Redund} {whole : Bool} {sh : Option Nat} {yellow : Bool} (hkeep : Keeps md orig s) :
    Keeps md orig (State.deliver s q p c b v whole sh yellow) := by
  unfold State.deliver
  try dsimp only
  repeat' (first
    | with_reducible assumption | with_reducible apply State.offerRx_keeps | with_reducible apply Keeps.ite
    | with_reducible apply State.rest_keeps | rw [State.rest_eq] | split)

theorem State.classify_keeps {md : Bool} {orig : State} {s : State} {p : Nat} {c : Capture} {b : List Byte} {v :
    Redund} (hkeep : Keeps md orig s) :
    Keeps md orig (State.classify s p c b v) := by
  unfold State.classify
  try dsimp only
  repeat' (first
    | with_reducible assumption | with_reducible apply State.deliver_keeps | with_reducible apply State.inc64_keeps
    | with_reducible apply State.rest_keeps | rw [State.rest_eq] | split)

theorem State.toDest_keeps {orig : State} {s : State} {r : StreamRec} {p : Nat} {c : Capture} {b : List Byte} {v :
    Redund} {yellow : Bool} (hkeep : Keeps true orig s) :
    Keeps true orig (State.toDest s r p c b v yellow) := by
  unfold State.toDest
  try dsimp only
  repeat' (first
    | with_reducible assumption | with_reducible apply State.deliver_keeps
    | with_reducible apply State.prismFrame_keeps | with_reducible apply Keeps.ite | split)

theorem State.handleFrame_keeps {orig : State} {s : State} {r : StreamRec} {p : Nat} {c : Capture} {b : List Byte}
    {v : Redund} {bypass : Bool} (hkeep : Keeps true orig s) : Keeps true orig (State.handleFrame s r p c b v bypass) := by
  have h1 := State.police_keeps (r := r) (g := s.portGallery p) (len := b.length + 4) hkeep
  unfold State.handleFrame
  split
  · next heq =>
    rw [heq] at h1
    exact h1
  · next heq =>
    rw [heq] at h1
    split
    · exact State.setHandle_keeps h1
    · dsimp only
      split
      · exact State.toDest_keeps (State.eliminate_keeps h1)
      · exact State.eliminate_keeps h1

theorem State.looseFrame_keeps {md : Bool} {orig : State} {s : State} {p : Nat} {c : Capture} {b : List Byte} {v :
    Redund} (hkeep : Keeps md orig s) :
    Keeps md orig (State.looseFrame s p c b v) := by
  unfold State.looseFrame
  try dsimp only
  repeat' (first
    | with_reducible assumption | with_reducible apply State.classify_keeps
    | with_reducible apply State.nodeLocal_keeps | with_reducible apply Keeps.ite
    | with_reducible apply State.rest_keeps | rw [State.rest_eq] | split)

theorem State.overflowLookup_keeps {md : Bool} {orig : State} {s : State} {o : Option (Nat × Option Bool)} (hkeep :
    Keeps md orig s) :
    Keeps md orig (State.overflowLookup s o).2 := by
  unfold State.overflowLookup
  try dsimp only
  repeat' (first
    | with_reducible assumption | with_reducible apply State.ueReport_keeps
    | with_reducible apply State.eccFound_keeps | with_reducible apply State.inc_keeps
    | with_reducible apply Keeps.ite | with_reducible apply State.rest_keeps | rw [State.rest_eq] | split)

theorem State.localFrame_keeps {orig : State} {s : State} {p : Nat} {c : Capture} {b : List Byte} {x : RxIn} {bypass :
    Bool} (hkeep : Keeps true orig s) :
    Keeps true orig (State.localFrame s p c b x bypass) := by
  unfold State.localFrame
  try dsimp only
  repeat' (first
    | with_reducible assumption | with_reducible apply State.overflowLookup_keeps
    | with_reducible apply State.looseFrame_keeps | with_reducible apply State.handleFrame_keeps
    | with_reducible apply State.classify_keeps | with_reducible apply State.inc64_keeps
    | with_reducible apply Keeps.ite | with_reducible apply State.rest_keeps | rw [State.rest_eq] | split)

theorem State.ptpFirst_keeps {orig : State} {s : State} {p : Nat} {c : Capture} {b : List Byte} (hkeep : Keeps true
    orig s) :
    Keeps true orig (State.ptpFirst s p c b).2 := by
  unfold State.ptpFirst
  try dsimp only
  repeat' (first
    | with_reducible assumption | with_reducible apply State.onPtp_keeps | with_reducible apply State.inc_keeps
    | with_reducible apply State.rest_keeps | rw [State.rest_eq] | split)

theorem State.forward_keeps {md : Bool} {orig : State} {s : State} {p : Nat} {c : Capture} {b : List Byte} (hkeep :
    Keeps md orig s) :
    Keeps md orig (State.forward s p c b) := by
  unfold State.forward
  try dsimp only
  repeat' (first
    | with_reducible assumption | with_reducible apply State.residence_keeps
    | with_reducible apply State.enqueue_keeps | with_reducible apply State.rest_keeps | rw [State.rest_eq] | split)

theorem State.ringFrame_keeps {orig : State} {s : State} {p : Nat} {c : Capture} {b : List Byte} {x : RxIn} (hkeep :
    Keeps true orig s) :
    Keeps true orig (State.ringFrame s p c b x) := by
  unfold State.ringFrame
  try dsimp only
  repeat' (first
    | with_reducible assumption | with_reducible apply State.forward_keeps
    | with_reducible apply State.ptpFirst_keeps | with_reducible apply State.localFrame_keeps
    | with_reducible apply State.nodeForward_keeps | with_reducible apply State.inc64_keeps
    | with_reducible apply Keeps.ite | split)

theorem State.hsrFrame_keeps {orig : State} {s : State} {p : Nat} {c : Capture} {b : List Byte} {x : RxIn} (hkeep :
    Keeps true orig s) :
    Keeps true orig (State.hsrFrame s p c b x) := by
  unfold State.hsrFrame
  try dsimp only
  repeat' (first
    | with_reducible assumption | with_reducible apply State.ringFrame_keeps
    | with_reducible apply State.ptpFirst_keeps | with_reducible apply State.localFrame_keeps
    | with_reducible apply State.inc64_keeps | with_reducible apply Keeps.ite | split)

theorem State.passFrame_keeps {orig : State} {s : State} {p : Nat} {c : Capture} {b : List Byte} (hkeep : Keeps true
    orig s) :
    Keeps true orig (State.passFrame s p c b) := by
  unfold State.passFrame
  try dsimp only
  repeat' (first
    | with_reducible assumption | with_reducible apply State.forward_keeps
    | with_reducible apply State.ptpFirst_keeps | with_reducible apply Keeps.ite | split)

theorem State.goodFrame_keeps {orig : State} {s : State} {p : Nat} {c : Capture} {b : List Byte} {x : RxIn} (hkeep :
    Keeps true orig s) :
    Keeps true orig (State.goodFrame s p c b x) := by
  unfold State.goodFrame
  try dsimp only
  repeat' (first
    | with_reducible assumption | with_reducible apply State.passFrame_keeps
    | with_reducible apply State.hsrFrame_keeps | with_reducible apply State.ptpFirst_keeps
    | with_reducible apply State.localFrame_keeps | with_reducible apply State.mirrorReceive_keeps
    | with_reducible apply State.storeError_keeps | with_reducible apply State.raise_keeps
    | with_reducible apply State.inc64_keeps | with_reducible apply State.inc_keeps | with_reducible apply Keeps.ite
    | with_reducible apply State.rest_keeps | rw [State.rest_eq] | split)

theorem State.macFrame_keeps {orig : State} {s : State} {p : Nat} {c : Capture} {b : List Byte} {ok : Bool} {x : RxIn}
    (hkeep : Keeps true orig s) :
    Keeps true orig (State.macFrame s p c b ok x) := by
  unfold State.macFrame
  try dsimp only
  repeat' (first
    | with_reducible assumption | with_reducible apply State.goodFrame_keeps | with_reducible apply State.inc64_keeps
    | with_reducible apply State.inc64By_keeps | with_reducible apply Keeps.ite | split)

theorem State.rxDone_keeps {md : Bool} {orig : State} {s : State} {p : Nat} {x : RxIn} (hkeep : Keeps md orig s) :
    Keeps md orig (State.rxDone s p x) := by
  unfold State.rxDone
  try dsimp only
  repeat' (first
    | with_reducible assumption | with_reducible apply State.setPort_keeps | with_reducible apply Keeps.ite
    | with_reducible apply State.rest_keeps | rw [State.rest_eq] | split)

theorem State.arrive_keeps {orig : State} {s : State} {p : Nat} {x : RxIn} (hkeep : Keeps true orig s) :
    Keeps true orig (State.arrive s p x) := by
  unfold State.arrive
  try dsimp only
  repeat' (first
    | with_reducible assumption | with_reducible apply State.rxDone_keeps | with_reducible apply State.macFrame_keeps
    | with_reducible apply State.merge_keeps | with_reducible apply State.countLine_keeps
    | with_reducible apply State.afterStep_keeps | with_reducible apply State.wakePort_keeps
    | with_reducible apply Keeps.ite | with_reducible apply State.rest_keeps | rw [State.rest_eq] | split)

/-! ### Faults -/

theorem State.leaveFault_keeps {md : Bool} {orig : State} {s : State} (hkeep : Keeps md orig s) :
    Keeps md orig (State.leaveFault s) := by
  unfold State.leaveFault
  try dsimp only
  repeat' (first
    | with_reducible assumption | with_reducible apply State.setRole_keeps | with_reducible apply State.setBit_keeps
    | with_reducible apply Keeps.ite | split)

theorem State.recover_keeps {md : Bool} {orig : State} {s : State} (hkeep : Keeps md orig s) :
    Keeps md orig (State.recover s) := by
  unfold State.recover
  try dsimp only
  repeat' (first
    | with_reducible assumption | with_reducible apply State.leaveFault_keeps
    | with_reducible apply State.condition_keeps | with_reducible apply State.event_keeps
    | with_reducible apply State.incF_keeps | with_reducible apply State.setBit_keeps
    | with_reducible apply Keeps.ite | with_reducible apply State.rest_keeps | rw [State.rest_eq] | split)

theorem State.faultLand_keeps {md : Bool} {orig : State} {s : State} {c4 : Bool} (hkeep : Keeps md orig s) :
    Keeps md orig (State.faultLand s c4) := by
  unfold State.faultLand
  try dsimp only
  repeat' (first
    | with_reducible assumption | with_reducible apply State.recover_keeps
    | with_reducible apply State.leaveFault_keeps | with_reducible apply State.condition_keeps
    | with_reducible apply State.incF_keeps | with_reducible apply State.setBit_keeps
    | with_reducible apply State.setF_keeps | with_reducible apply Keeps.ite | with_reducible apply State.rest_keeps
    | rw [State.rest_eq] | split)

theorem State.fcrCommand_keeps {md : Bool} {orig : State} {s : State} {req : Requester} {arg : Nat} {legal : State →
    Bool} {f : State → State} (hkeep : Keeps md orig s) (hstep : ∀ y, Keeps md orig y → Keeps md orig (f  y)) :
    Keeps md orig (State.fcrCommand s req arg legal f) := by
  unfold State.fcrCommand
  try dsimp only
  repeat' (first
    | with_reducible assumption | (intro _; intros) | with_reducible apply hstep
    | with_reducible refine State.guarded_keeps ?_ ?_ | with_reducible apply State.result_keeps
    | with_reducible apply Answer.state_keeps | with_reducible apply State.setF_keeps
    | with_reducible apply Keeps.ite | split)

theorem execFcrRelease_keeps {md : Bool} {orig : State} {req : Requester} {arg : Nat} {s : State} (hkeep : Keeps md
    orig s) :
    Keeps md orig (Answer.state (execFcrRelease req arg s) s) := by
  unfold execFcrRelease
  try unfold Answer.state
  try dsimp only
  repeat' (first
    | with_reducible assumption | (intro _; intros) | with_reducible refine State.fcrCommand_keeps ?_ ?_
    | with_reducible apply State.rest_keeps | rw [State.rest_eq])

theorem execUncontain_keeps {md : Bool} {orig : State} {req : Requester} {arg : Nat} {s : State} (hkeep : Keeps md
    orig s) :
    Keeps md orig (Answer.state (execUncontain req arg s) s) := by
  unfold execUncontain
  try unfold Answer.state
  try dsimp only
  repeat' (first
    | with_reducible assumption | (intro _; intros) | with_reducible refine State.fcrCommand_keeps ?_ ?_
    | with_reducible apply State.rest_keeps | rw [State.rest_eq])

theorem execFcrCmdReserved_keeps {md : Bool} {orig : State} {req : Requester} {arg : Nat} {s : State} (hkeep : Keeps
    md orig s) :
    Keeps md orig (Answer.state (execFcrCmdReserved req arg s) s) := by
  unfold execFcrCmdReserved
  try unfold Answer.state
  try dsimp only
  repeat' (first
    | with_reducible assumption | (intro _; intros) | with_reducible refine State.fcrCommand_keeps ?_ ?_
    | with_reducible apply id_keeps)

theorem State.injectBit_keeps {md : Bool} {orig : State} {s : State} {src : Nat} (hkeep : Keeps md orig s) :
    Keeps md orig (State.injectBit s src) := by
  unfold State.injectBit
  try dsimp only
  repeat' (first
    | with_reducible assumption | with_reducible apply State.react_keeps | with_reducible apply State.noteRaise_keeps
    | with_reducible apply State.cross_keeps | with_reducible apply State.hwSet_keeps
    | with_reducible apply Keeps.ite | with_reducible apply State.rest_keeps | rw [State.rest_eq] | split)

theorem State.inject_keeps {md : Bool} {orig : State} {s : State} {src : Nat} {real : Option (List Nat)} (hkeep :
    Keeps md orig s) :
    Keeps md orig (State.inject s src real) := by
  unfold State.inject
  try dsimp only
  repeat' (first
    | with_reducible assumption | with_reducible apply State.injectBit_keeps
    | with_reducible apply State.detect_keeps | with_reducible apply Keeps.ite
    | with_reducible apply State.rest_keeps | rw [State.rest_eq] | split)

theorem execInjWrite_keeps {md : Bool} {orig : State} {req : Requester} {k : Nat} {v : Reg} {real : List (Nat × List
    Nat)} {s : State} (hkeep : Keeps md orig s) :
    Keeps md orig (Answer.state (execInjWrite req k v real s) s) := by
  unfold execInjWrite
  try unfold Answer.state
  try dsimp only
  repeat' (first
    | with_reducible assumption | (intro _; intros) | with_reducible apply State.inject_keeps
    | with_reducible apply State.settleHeld_keeps | with_reducible refine State.guarded_keeps ?_ ?_
    | with_reducible refine forEach_keeps ?_ ?_ | with_reducible apply Keeps.ite | split)

theorem State.sendVec_keeps {md : Bool} {orig : State} {s : State} {fn : Requester} {v : Nat} (hkeep : Keeps md orig
    s) :
    Keeps md orig (State.sendVec s fn v) := by
  unfold State.sendVec
  try dsimp only
  repeat' (first | with_reducible assumption | with_reducible apply State.emit_keeps)

theorem State.fireVec_keeps {md : Bool} {orig : State} {s : State} {fn : Requester} {v : Nat} (hkeep : Keeps md orig
    s) :
    Keeps md orig (State.fireVec s fn v) := by
  unfold State.fireVec
  try dsimp only
  repeat' (first
    | with_reducible assumption | with_reducible apply State.sendVec_keeps | with_reducible apply State.setVec_keeps
    | with_reducible apply Keeps.ite | with_reducible apply State.rest_keeps | rw [State.rest_eq] | split)

theorem execVectorFire_keeps {md : Bool} {orig : State} {fn : Requester} {v : Nat} {s : State} (hkeep : Keeps md orig
    s) :
    Keeps md orig (Answer.state (execVectorFire fn v s) s) := by
  unfold execVectorFire
  try unfold Answer.state
  try dsimp only
  repeat' (first
    | with_reducible assumption | with_reducible apply State.fireVec_keeps
    | with_reducible (refine State.reachClock_keeps ?_ (by assumption)) | with_reducible apply Keeps.ite
    | with_reducible apply State.rest_keeps | rw [State.rest_eq] | split)

theorem State.sendPba_keeps {md : Bool} {orig : State} {s : State} {fn : Requester} {vs : List Nat} (hkeep : Keeps md
    orig s) :
    Keeps md orig (State.sendPba s fn vs) := by
  unfold State.sendPba
  try dsimp only
  repeat' (first
    | with_reducible assumption | (intro _; intros) | with_reducible apply State.sendVec_keeps
    | with_reducible apply State.setVec_keeps | with_reducible refine forEach_keeps ?_ ?_
    | with_reducible apply Keeps.ite | with_reducible apply State.rest_keeps | rw [State.rest_eq] | split)

theorem execMsixUnmask_keeps {md : Bool} {orig : State} {fn : Requester} {v : Option Nat} {s : State} (hkeep : Keeps
    md orig s) :
    Keeps md orig (Answer.state (execMsixUnmask fn v s) s) := by
  unfold execMsixUnmask
  try unfold Answer.state
  try dsimp only
  repeat' (first
    | with_reducible assumption | with_reducible apply State.sendPba_keeps | with_reducible apply State.setVec_keeps
    | with_reducible apply Keeps.ite | with_reducible apply State.rest_keeps | rw [State.rest_eq] | split)

theorem State.fireAll_keeps {md : Bool} {orig : State} {s : State} {func : Nat} (hkeep : Keeps md orig s) :
    Keeps md orig (State.fireAll s func) := by
  unfold State.fireAll
  try dsimp only
  repeat' (first
    | with_reducible assumption | (intro _; intros) | with_reducible apply State.fireVec_keeps
    | with_reducible refine forEach_keeps ?_ ?_ | with_reducible apply Keeps.ite | split)

theorem execFlushMod_keeps {md : Bool} {orig : State} {req : Requester} {v : Reg} {s : State} (hkeep : Keeps md orig
    s) :
    Keeps md orig (Answer.state (execFlushMod req v s) s) := by
  unfold execFlushMod
  try unfold Answer.state
  try dsimp only
  repeat' (first
    | with_reducible assumption | (intro _; intros) | with_reducible apply State.fireAll_keeps
    | with_reducible refine State.guarded_keeps ?_ ?_ | with_reducible apply Keeps.ite | split)

/-! ### Power -/

theorem State.powerLand_keeps {md : Bool} {orig : State} {s : State} (hkeep : Keeps md orig s) :
    Keeps md orig (State.powerLand s) := by
  unfold State.powerLand
  try dsimp only
  repeat' (first
    | with_reducible assumption | (intro _; intros) | with_reducible apply State.settleSel_keeps
    | with_reducible apply State.setPower_keeps | with_reducible refine forEach_keeps ?_ ?_
    | with_reducible apply Keeps.ite | split)

theorem State.pwrMode_keeps {md : Bool} {orig : State} {s : State} {g : Nat} {host : Bool} (hkeep : Keeps md orig s) :
    Keeps md orig (State.pwrMode s g host) := by
  unfold State.pwrMode
  try dsimp only
  repeat' (first
    | with_reducible assumption | with_reducible apply State.setBit_keeps | with_reducible apply State.setF_keeps
    | with_reducible apply Keeps.ite | split)

theorem execPowerWake_keeps {md : Bool} {orig : State} {u : Nat} {s : State} (hkeep : Keeps md orig s) :
    Keeps md orig (Answer.state (execPowerWake u s) s) := by
  unfold execPowerWake
  try unfold Answer.state
  try dsimp only
  repeat' (first
    | with_reducible assumption | with_reducible apply State.wake_keeps | with_reducible apply Keeps.ite | split)

/-! ### Plan -/

theorem State.setModes_keeps {md : Bool} {orig : State} {s : State} {b : List Byte} (hkeep : Keeps md orig s) :
    Keeps md orig (State.setModes s b) := by
  unfold State.setModes
  try dsimp only
  repeat' (first
    | with_reducible assumption | (intro _; intros) | with_reducible apply State.pwrMode_keeps
    | with_reducible apply State.settleFuncMode_keeps | with_reducible apply State.gcbMode_keeps
    | with_reducible apply State.servoMode_keeps | with_reducible apply State.setBit_keeps
    | with_reducible refine forEach_keeps ?_ ?_ | with_reducible apply State.rest_keeps | rw [State.rest_eq])

theorem State.loadEventMap_keeps {md : Bool} {orig : State} {s : State} {b : List Byte} (hkeep : Keeps md orig s) :
    Keeps md orig (State.loadEventMap s b) := by
  unfold State.loadEventMap
  try dsimp only
  repeat' (first
    | with_reducible assumption | (intro _; intros) | with_reducible apply State.wrN_keeps
    | with_reducible refine forEach_keeps ?_ ?_)

theorem State.loadFaultClass_keeps {md : Bool} {orig : State} {s : State} {b : List Byte} (hkeep : Keeps md orig s) :
    Keeps md orig (State.loadFaultClass s b) := by
  unfold State.loadFaultClass
  try dsimp only
  repeat' (first
    | with_reducible assumption | (intro _; intros) | with_reducible apply State.wrN_keeps
    | with_reducible refine forEach_keeps ?_ ?_ | with_reducible refine foldl_keeps ?_ ?_
    | with_reducible apply Keeps.ite | split)

theorem State.installAct_keeps {md : Bool} {orig : State} {s : State} {i : Nat} {b : List Byte} (hkeep : Keeps md orig
    s) :
    Keeps md orig (State.installAct s i b) := by
  unfold State.installAct
  try dsimp only
  repeat' (first
    | with_reducible assumption | with_reducible apply State.setActNext_keeps
    | with_reducible apply State.setActSt_keeps | with_reducible apply State.wrWords_keeps)

theorem State.loadActs_keeps {md : Bool} {orig : State} {s : State} {b : List Byte} (hkeep : Keeps md orig s) :
    Keeps md orig (State.loadActs s b) := by
  unfold State.loadActs
  try dsimp only
  repeat' (first
    | with_reducible assumption | (intro _; intros) | with_reducible apply State.installAct_keeps
    | with_reducible refine forEach_keeps ?_ ?_)

theorem State.resetRange_keeps {md : Bool} {orig : State} {s : State} {lo : Nat} {hi : Nat} (hkeep : Keeps md orig s) :
    Keeps md orig (State.resetRange s lo hi) := by
  unfold State.resetRange
  try dsimp only
  repeat' (first
    | with_reducible assumption | (intro _; intros) | with_reducible apply State.wr_keeps
    | with_reducible refine forEach_keeps ?_ ?_)

theorem State.loadTick_keeps {md : Bool} {orig : State} {s : State} {im : Image} (hkeep : Keeps md orig s) :
    Keeps md orig (State.loadTick s im) := by
  unfold State.loadTick
  try dsimp only
  repeat' (first
    | with_reducible assumption | (intro _; intros) | with_reducible apply State.setBit_keeps
    | with_reducible apply State.setF_keeps | with_reducible apply State.wrN_keeps
    | with_reducible refine forEach_keeps ?_ ?_ | with_reducible apply State.rest_keeps | rw [State.rest_eq])

theorem State.loadPorts_keeps {md : Bool} {orig : State} {s : State} {im : Image} (hkeep : Keeps md orig s) :
    Keeps md orig (State.loadPorts s im) := by
  unfold State.loadPorts
  try dsimp only
  repeat' (first
    | with_reducible assumption | (intro _; intros) | with_reducible apply State.setF_keeps
    | with_reducible apply State.wrN_keeps | with_reducible apply State.wr_keeps
    | with_reducible refine forEach_keeps ?_ ?_ | with_reducible apply Keeps.ite
    | with_reducible apply State.rest_keeps | rw [State.rest_eq] | split)

theorem State.loadBanks_keeps {md : Bool} {orig : State} {s : State} {im : Image} (hkeep : Keeps md orig s) :
    Keeps md orig (State.loadBanks s im) := by
  unfold State.loadBanks
  try dsimp only
  repeat' (first
    | with_reducible assumption | (intro _; intros) | with_reducible apply State.resetRange_keeps
    | with_reducible apply State.setShadow_keeps | with_reducible apply State.setBank_keeps
    | with_reducible apply State.setBit_keeps | with_reducible apply State.wrN_keeps
    | with_reducible refine forEach_keeps ?_ ?_ | with_reducible apply Keeps.ite
    | with_reducible apply State.rest_keeps | rw [State.rest_eq] | split)

theorem State.loadQueue_keeps {md : Bool} {orig : State} {s : State} {im : Image} {q : Nat} (hkeep : Keeps md orig s) :
    Keeps md orig (State.loadQueue s im q) := by
  unfold State.loadQueue
  try dsimp only
  repeat' (first
    | with_reducible assumption | with_reducible apply State.wr64_keeps | with_reducible apply State.setBit_keeps
    | with_reducible apply State.wrN_keeps | with_reducible apply State.wr_keeps | with_reducible apply Keeps.ite
    | with_reducible apply State.rest_keeps | rw [State.rest_eq] | split)

theorem State.loadRing_keeps {md : Bool} {orig : State} {s : State} {im : Image} {r : Nat} (hkeep : Keeps md orig s) :
    Keeps md orig (State.loadRing s im r) := by
  unfold State.loadRing
  try dsimp only
  repeat' (first
    | with_reducible assumption | with_reducible apply State.wr64_keeps | with_reducible apply State.wrN_keeps
    | with_reducible apply Keeps.ite | with_reducible apply State.rest_keeps | rw [State.rest_eq] | split)

theorem State.loadQueues_keeps {md : Bool} {orig : State} {s : State} {im : Image} (hkeep : Keeps md orig s) :
    Keeps md orig (State.loadQueues s im) := by
  unfold State.loadQueues
  try dsimp only
  repeat' (first
    | with_reducible assumption | (intro _; intros) | with_reducible apply State.loadRing_keeps
    | with_reducible apply State.loadQueue_keeps | with_reducible apply State.setBit_keeps
    | with_reducible apply State.wrN_keeps | with_reducible refine forEach_keeps ?_ ?_
    | with_reducible apply State.rest_keeps | with_reducible apply State.restDrop_keeps | rw [State.rest_eq]
    | rw [State.restDrop_eq])

theorem State.loadPanes_keeps {md : Bool} {orig : State} {s : State} {im : Image} {first : Nat} (hkeep : Keeps md orig
    s) :
    Keeps md orig (State.loadPanes s im first) := by
  unfold State.loadPanes
  try dsimp only
  repeat' (first
    | with_reducible assumption | (intro _; intros) | with_reducible apply State.resetRange_keeps
    | with_reducible apply State.paneMode_keeps | with_reducible apply State.wr64_keeps
    | with_reducible apply State.wrN_keeps | with_reducible refine forEach_keeps ?_ ?_
    | with_reducible apply Keeps.ite | with_reducible apply State.rest_keeps | rw [State.rest_eq] | split)

theorem State.loadStreams_keeps {md : Bool} {orig : State} {s : State} {im : Image} {first : Nat} (hkeep : Keeps md
    orig s) :
    Keeps md orig (State.loadStreams s im first) := by
  unfold State.loadStreams
  try dsimp only
  repeat' (first
    | with_reducible assumption | (intro _; intros) | with_reducible apply State.resetRange_keeps
    | with_reducible refine forEach_keeps ?_ ?_ | with_reducible apply Keeps.ite
    | with_reducible apply State.rest_keeps | rw [State.rest_eq] | split)

theorem State.loadPair_keeps {md : Bool} {orig : State} {s : State} {im : Image} (hkeep : Keeps md orig s) :
    Keeps md orig (State.loadPair s im) := by
  unfold State.loadPair
  try dsimp only
  repeat' (first
    | with_reducible assumption | with_reducible apply State.wr64_keeps | with_reducible apply State.setBit_keeps
    | with_reducible apply State.wrN_keeps | with_reducible apply State.wr_keeps | with_reducible apply Keeps.ite
    | with_reducible apply State.rest_keeps | rw [State.rest_eq] | split)

theorem State.roleLoaded_keeps {md : Bool} {orig : State} {s : State} (hkeep : Keeps md orig s) :
    Keeps md orig (State.roleLoaded s) := by
  unfold State.roleLoaded
  try dsimp only
  repeat' (first
    | with_reducible assumption | with_reducible apply State.setRole_keeps | with_reducible apply Keeps.ite | split)

theorem State.loadViews_keeps {md : Bool} {orig : State} {s : State} (hkeep : Keeps md orig s) :
    Keeps md orig (State.loadViews s) := by
  unfold State.loadViews
  try dsimp only
  repeat' (first
    | with_reducible assumption | (intro _; intros) | with_reducible apply State.wrN_keeps
    | with_reducible refine forEach_keeps ?_ ?_ | with_reducible apply State.rest_keeps | rw [State.rest_eq])

theorem State.loadTbsFirst_keeps {md : Bool} {orig : State} {s : State} {im : Image} (hkeep : Keeps md orig s) :
    Keeps md orig (State.loadTbsFirst s im) := by
  unfold State.loadTbsFirst
  try dsimp only
  repeat' (first
    | with_reducible assumption | (intro _; intros) | with_reducible apply State.disableTb_keeps
    | with_reducible apply State.loadTbParams_keeps | with_reducible apply State.setTbState_keeps
    | with_reducible apply State.setTb_keeps | with_reducible apply State.wrN_keeps
    | with_reducible refine forEach_keeps ?_ ?_ | with_reducible apply Keeps.ite | split)

theorem State.loadTbs_keeps {md : Bool} {orig : State} {s : State} {im : Image} (hkeep : Keeps md orig s) :
    Keeps md orig (State.loadTbs s im) := by
  unfold State.loadTbs
  try dsimp only
  repeat' (first
    | with_reducible assumption | (intro _; intros) | with_reducible apply State.disableTb_keeps
    | with_reducible apply State.loadTbParams_keeps | with_reducible apply State.setTbState_keeps
    | with_reducible apply State.setTb_keeps | with_reducible apply State.wrN_keeps
    | with_reducible refine forEach_keeps ?_ ?_ | with_reducible apply Keeps.ite | split)

theorem State.applyPlan_keeps {md : Bool} {orig : State} {s : State} {im : Image} {first : Nat} (hkeep : Keeps md orig
    s) :
    Keeps md orig (State.applyPlan s im first) := by
  unfold State.applyPlan
  try dsimp only
  repeat' (first
    | with_reducible assumption | (intro _; intros) | with_reducible apply State.loadPair_keeps
    | with_reducible apply State.loadStreams_keeps | with_reducible apply State.loadPanes_keeps
    | with_reducible apply State.loadQueues_keeps | with_reducible apply State.loadBanks_keeps
    | with_reducible apply State.loadPorts_keeps | with_reducible apply State.loadTick_keeps
    | with_reducible apply State.resetRange_keeps | with_reducible apply State.loadActs_keeps
    | with_reducible apply State.loadFaultClass_keeps | with_reducible apply State.loadEventMap_keeps
    | with_reducible apply State.setModes_keeps | with_reducible apply State.wr64_keeps
    | with_reducible apply State.setBit_keeps | with_reducible apply State.setF_keeps
    | with_reducible apply State.wrN_keeps | with_reducible refine forEach_keeps ?_ ?_
    | with_reducible apply State.rest_keeps | rw [State.rest_eq] | split)

theorem State.firstPlan_keeps {md : Bool} {orig : State} {s : State} {im : Image} (hkeep : Keeps md orig s) :
    Keeps md orig (State.firstPlan s im) := by
  unfold State.firstPlan
  try dsimp only
  repeat' (first
    | with_reducible assumption | with_reducible apply State.applyPlan_keeps
    | with_reducible apply State.loadTbsFirst_keeps | with_reducible apply State.loadViews_keeps
    | with_reducible apply State.roleLoaded_keeps | with_reducible apply State.setDelta_keeps
    | with_reducible apply State.setBase_keeps | with_reducible apply State.wr64_keeps
    | with_reducible apply State.setBit_keeps | with_reducible apply State.setF_keeps
    | with_reducible apply Keeps.ite | with_reducible apply State.rest_keeps | rw [State.rest_eq] | split)

theorem State.setPlan_keeps {md : Bool} {orig : State} {s : State} {st : Nat} (hkeep : Keeps md orig s) :
    Keeps md orig (State.setPlan s st) := by
  unfold State.setPlan
  try dsimp only
  repeat' (first | with_reducible assumption | with_reducible apply State.setF_keeps)

theorem State.planRest_keeps {md : Bool} {orig : State} {s : State} (hkeep : Keeps md orig s) :
    Keeps md orig (State.planRest s) := by
  unfold State.planRest
  try dsimp only
  repeat' (first
    | with_reducible assumption | with_reducible apply State.setPlan_keeps | with_reducible apply Keeps.ite | split)

theorem State.planResult_keeps {md : Bool} {orig : State} {s : State} {code : Nat} (hkeep : Keeps md orig s) :
    Keeps md orig (State.planResult s code) := by
  unfold State.planResult
  try dsimp only
  repeat' (first
    | with_reducible assumption | with_reducible apply State.result_keeps | with_reducible apply State.event_keeps
    | with_reducible apply State.setBit_keeps)

theorem State.stageResult_keeps {md : Bool} {orig : State} {s : State} {code : Nat} (hkeep : Keeps md orig s) :
    Keeps md orig (State.stageResult s code) := by
  unfold State.stageResult
  try dsimp only
  repeat' (first
    | with_reducible assumption | with_reducible apply State.planResult_keeps
    | with_reducible apply State.answerCmds_keeps)

theorem State.planCommand_keeps {md : Bool} {orig : State} {s : State} {req : Requester} {hall : Bool} {f : State →
    State} (hkeep : Keeps md orig s) (hstep : ∀ y, Keeps md orig y → Keeps md orig (f  y)) :
    Keeps md orig (State.planCommand s req hall f) := by
  unfold State.planCommand
  try dsimp only
  repeat' (first
    | with_reducible assumption | (intro _; intros) | with_reducible apply hstep
    | with_reducible refine State.guarded_keeps ?_ ?_ | with_reducible apply State.setBit_keeps)

theorem State.stageFailed_keeps {md : Bool} {orig : State} {s : State} {r : Reject} (hkeep : Keeps md orig s) :
    Keeps md orig (State.stageFailed s r) := by
  unfold State.stageFailed
  try dsimp only
  repeat' (first
    | with_reducible assumption | with_reducible apply State.stageResult_keeps
    | with_reducible apply State.planRest_keeps | with_reducible apply State.raise_keeps
    | with_reducible apply State.setF_keeps | with_reducible apply State.wrN_keeps | with_reducible apply Keeps.ite
    | with_reducible apply State.rest_keeps | rw [State.rest_eq] | split)

theorem execStage_keeps {md : Bool} {orig : State} {req : Requester} {hall : Bool} {s : State} (hkeep : Keeps md orig
    s) :
    Keeps md orig (Answer.state (execStage req hall s) s) := by
  unfold execStage
  try unfold Answer.state
  try dsimp only
  repeat' (first
    | with_reducible assumption | (intro _; intros) | with_reducible apply State.stageFailed_keeps
    | with_reducible refine State.planCommand_keeps ?_ ?_ | with_reducible apply State.planResult_keeps
    | with_reducible apply State.setPlan_keeps | with_reducible apply State.defer_keeps
    | with_reducible apply Answer.state_keeps | with_reducible apply State.setBit_keeps
    | with_reducible apply Keeps.ite | with_reducible apply State.rest_keeps | rw [State.rest_eq] | split)

theorem execStagingDone_keeps {orig : State} {data : Option (List Byte)} {unplaced : Bool} {ecc : List (Nat × Bool)}
    {s : State} (hkeep : Keeps true orig s) :
    Keeps true orig (Answer.state (execStagingDone data unplaced ecc s) s) := by
  unfold execStagingDone
  try unfold Answer.state
  try dsimp only
  repeat' (first
    | with_reducible assumption | with_reducible apply State.stageFailed_keeps
    | with_reducible apply State.stageResult_keeps | with_reducible apply State.setPlan_keeps
    | with_reducible apply State.ueReport_keeps | with_reducible apply State.eccFound_keeps
    | with_reducible apply State.ddrWrite_keeps | with_reducible apply State.emit_keeps
    | with_reducible apply Keeps.ite | with_reducible apply State.rest_keeps | rw [State.rest_eq] | split)

theorem execCommitAmend_keeps {md : Bool} {orig : State} {req : Requester} {hall : Bool} {s : State} (hkeep : Keeps md
    orig s) :
    Keeps md orig (Answer.state (execCommitAmend req hall s) s) := by
  unfold execCommitAmend
  try unfold Answer.state
  try dsimp only
  repeat' (first
    | with_reducible assumption | (intro _; intros) | with_reducible refine State.planCommand_keeps ?_ ?_
    | with_reducible apply State.planResult_keeps | with_reducible apply State.setPlan_keeps
    | with_reducible apply State.settleOwned_keeps | with_reducible apply Answer.state_keeps
    | with_reducible refine forEach_keeps ?_ ?_ | with_reducible apply Keeps.ite
    | with_reducible apply State.rest_keeps | rw [State.rest_eq] | split)

theorem execCommitReplan_keeps {md : Bool} {orig : State} {req : Requester} {hall : Bool} {s : State} (hkeep : Keeps
    md orig s) :
    Keeps md orig (Answer.state (execCommitReplan req hall s) s) := by
  unfold execCommitReplan
  try unfold Answer.state
  try dsimp only
  repeat' (first
    | with_reducible assumption | (intro _; intros) | with_reducible refine State.planCommand_keeps ?_ ?_
    | with_reducible apply State.planResult_keeps | with_reducible apply State.setPlan_keeps
    | with_reducible apply State.firstPlan_keeps | with_reducible apply Answer.state_keeps
    | with_reducible apply Keeps.ite | with_reducible apply State.rest_keeps | rw [State.rest_eq] | split)

theorem State.loadAmend_keeps {md : Bool} {orig : State} {s : State} {ecc : List (Nat × Bool)} (hkeep : Keeps md orig
    s) :
    Keeps md orig (State.loadAmend s ecc) := by
  unfold State.loadAmend
  try dsimp only
  repeat' (first
    | with_reducible assumption | (intro _; intros) | with_reducible apply State.ueReport_keeps
    | with_reducible apply State.eccFound_keeps | with_reducible apply State.setShadow_keeps
    | with_reducible refine forEach_keeps ?_ ?_ | with_reducible apply Keeps.ite
    | with_reducible apply State.rest_keeps | rw [State.rest_eq] | split)

theorem execAmendmentLoad_keeps {md : Bool} {orig : State} {ecc : List (Nat × Bool)} {s : State} (hkeep : Keeps md
    orig s) :
    Keeps md orig (Answer.state (execAmendmentLoad ecc s) s) := by
  unfold execAmendmentLoad
  try unfold Answer.state
  try dsimp only
  repeat' (first | with_reducible assumption | with_reducible apply State.loadAmend_keeps)

theorem State.restoreAmend_keeps {md : Bool} {orig : State} {s : State} {im : Image} (hkeep : Keeps md orig s) :
    Keeps md orig (State.restoreAmend s im) := by
  unfold State.restoreAmend
  try dsimp only
  repeat' (first
    | with_reducible assumption | (intro _; intros) | with_reducible apply State.resetRange_keeps
    | with_reducible apply State.wr_keeps | with_reducible refine forEach_keeps ?_ ?_
    | with_reducible apply Keeps.ite | split)

theorem State.dropAmend_keeps {md : Bool} {orig : State} {s : State} {last : Nat → State → State} (hkeep : Keeps md
    orig s) (hstep : ∀ a0 y, Keeps md orig y → Keeps md orig (last a0 y)) :
    Keeps md orig (State.dropAmend s last) := by
  unfold State.dropAmend
  try dsimp only
  repeat' (first
    | with_reducible assumption | (intro _; intros) | with_reducible apply hstep
    | with_reducible apply State.restoreAmend_keeps | with_reducible apply State.planRest_keeps
    | with_reducible apply State.settleOwned_keeps | with_reducible refine forEach_keeps ?_ ?_
    | with_reducible apply State.rest_keeps | rw [State.rest_eq] | split)

theorem State.releaseAmend_keeps {md : Bool} {orig : State} {s : State} (hkeep : Keeps md orig s) :
    Keeps md orig (State.releaseAmend s) := by
  unfold State.releaseAmend
  try dsimp only
  repeat' (first
    | with_reducible assumption | (intro _; intros) | with_reducible refine State.dropAmend_keeps ?_ ?_
    | with_reducible apply State.lastSwap_keeps)

theorem execPlanAbort_keeps {orig : State} {req : Requester} {hall : Bool} {s : State} (hkeep : Keeps true orig s) :
    Keeps true orig (Answer.state (execPlanAbort req hall s) s) := by
  unfold execPlanAbort
  try unfold Answer.state
  try dsimp only
  repeat' (first
    | with_reducible assumption | (intro _; intros) | with_reducible apply State.releaseAmend_keeps
    | with_reducible refine State.planCommand_keeps ?_ ?_ | with_reducible apply State.planResult_keeps
    | with_reducible apply State.planRest_keeps | with_reducible apply State.panesFree_keeps
    | with_reducible apply State.answerCmds_keeps | with_reducible apply Answer.state_keeps
    | with_reducible apply Keeps.ite | with_reducible apply State.rest_keeps | rw [State.rest_eq] | split)

theorem execPlanCmdReserved_keeps {md : Bool} {orig : State} {req : Requester} {hall : Bool} {s : State} (hkeep :
    Keeps md orig s) :
    Keeps md orig (Answer.state (execPlanCmdReserved req hall s) s) := by
  unfold execPlanCmdReserved
  try unfold Answer.state
  try dsimp only
  repeat' (first
    | with_reducible assumption | (intro _; intros) | with_reducible refine State.planCommand_keeps ?_ ?_
    | with_reducible apply State.planResult_keeps | with_reducible apply Answer.state_keeps)

/-! ### Landing -/

theorem State.verifyShadow_keeps {md : Bool} {orig : State} {s : State} {k : SwapKind} (hkeep : Keeps md orig s) :
    Keeps md orig (State.verifyShadow s k) := by
  unfold State.verifyShadow
  try dsimp only
  repeat' (first
    | with_reducible assumption | with_reducible apply Keeps.ite | with_reducible apply State.rest_keeps
    | rw [State.rest_eq] | split)

theorem execShadowVerify_keeps {md : Bool} {orig : State} {k : SwapKind} {s : State} (hkeep : Keeps md orig s) :
    Keeps md orig (Answer.state (execShadowVerify k s) s) := by
  unfold execShadowVerify
  try unfold Answer.state
  try dsimp only
  repeat' (first | with_reducible assumption | with_reducible apply State.verifyShadow_keeps)

theorem State.releaseReq_keeps {md : Bool} {orig : State} {s : State} {k : SwapKind} {last : Nat} (hkeep : Keeps md
    orig s) :
    Keeps md orig (State.releaseReq s k last) := by
  unfold State.releaseReq
  try dsimp only
  repeat' (first
    | with_reducible assumption | with_reducible apply State.settleOwned_keeps
    | with_reducible apply State.lastSwap_keeps | with_reducible apply State.setBit_keeps
    | with_reducible apply State.rest_keeps | rw [State.rest_eq] | split)

theorem State.swapKind_keeps {md : Bool} {orig : State} {s : State} {k : SwapKind} {t : Nat} {late : Bool} {ok : Bool}
    (hkeep : Keeps md orig s) :
    Keeps md orig (State.swapKind s k t late ok) := by
  unfold State.swapKind
  try dsimp only
  repeat' (first
    | with_reducible assumption | with_reducible apply State.swapDma_keeps
    | with_reducible apply State.swapEpoch_keeps | with_reducible apply State.swapBank_keeps
    | with_reducible apply State.bankFailed_keeps | with_reducible apply Keeps.ite
    | with_reducible apply State.rest_keeps | rw [State.rest_eq] | split)

theorem State.cutOff_keeps {md : Bool} {orig : State} {s : State} {n : Nat} {unverified : List SwapKind} (hkeep :
    Keeps md orig s) :
    Keeps md orig (State.cutOff s n unverified) := by
  unfold State.cutOff
  try dsimp only
  repeat' (first
    | with_reducible assumption | with_reducible apply State.actsJoin_keeps
    | with_reducible apply State.untilSrc_keeps | with_reducible apply State.raise_keeps
    | with_reducible apply State.hwSet_keeps | with_reducible apply Keeps.ite | with_reducible apply State.rest_keeps
    | rw [State.rest_eq] | split)

theorem execCutOff_keeps {md : Bool} {orig : State} {unverified : List SwapKind} {s : State} (hkeep : Keeps md orig s) :
    Keeps md orig (Answer.state (execCutOff unverified s) s) := by
  unfold execCutOff
  try unfold Answer.state
  try dsimp only
  repeat' (first
    | with_reducible assumption | with_reducible apply State.cutOff_keeps | with_reducible apply Keeps.ite | split)

theorem State.sealsBefore_keeps {orig : State} {s : State} {bound : Time} {l : Nat} (hkeep : Keeps true orig s) :
    Keeps true orig (State.sealsBefore s bound l) := by
  induction l generalizing s bound with
  | zero =>
    unfold State.sealsBefore
    try dsimp only
    repeat' (first
      | (with_reducible assumption)
      | fail
      | with_reducible apply State.sealDue_keeps
      | with_reducible apply State.untilSrc_keeps
      | with_reducible apply State.rest_keeps
      | rw [State.rest_eq]
      | split)
  | succ n ih =>
    unfold State.sealsBefore
    try dsimp only
    repeat' (first
      | with_reducible assumption | with_reducible apply ih | with_reducible apply State.sealDue_keeps
      | with_reducible apply State.untilSrc_keeps | with_reducible apply State.rest_keeps | rw [State.rest_eq]
      | split)

theorem State.settleUnlocked_keeps {md : Bool} {orig : State} {s : State} (hkeep : Keeps md orig s) :
    Keeps md orig (State.settleUnlocked s) := by
  unfold State.settleUnlocked
  try dsimp only
  repeat' (first | with_reducible assumption | with_reducible apply State.setBit_keeps)

theorem State.hallSnapshot_keeps {md : Bool} {orig : State} {s0 : State} {t : Nat} (hkeep : Keeps md orig s0) :
    Keeps md orig (State.hallSnapshot s0 t) := by
  unfold State.hallSnapshot
  try dsimp only
  repeat' (first
    | with_reducible assumption | (intro _; intros) | with_reducible apply State.actFailed_keeps
    | with_reducible apply State.settleOwned_keeps | with_reducible refine forEach_keeps ?_ ?_
    | with_reducible apply Keeps.ite | with_reducible apply State.rest_keeps | rw [State.rest_eq] | split)

theorem State.failAmend_keeps {md : Bool} {orig : State} {s : State} {f : Nat × Nat} (hkeep : Keeps md orig s) :
    Keeps md orig (State.failAmend s f) := by
  unfold State.failAmend
  try dsimp only
  repeat' (first
    | with_reducible assumption | (intro _; intros) | with_reducible refine State.dropAmend_keeps ?_ ?_
    | with_reducible apply State.planResult_keeps | with_reducible apply State.bankFailed_keeps
    | with_reducible apply State.lastSwap_keeps | with_reducible apply State.raise_keeps
    | with_reducible apply State.setF_keeps | with_reducible apply State.wrN_keeps | with_reducible apply Keeps.ite
    | split)

theorem State.swapAmend_keeps {md : Bool} {orig : State} {s : State} {t : Nat} {late : Bool} (hkeep : Keeps md orig s) :
    Keeps md orig (State.swapAmend s t late) := by
  unfold State.swapAmend
  try dsimp only
  repeat' (first
    | with_reducible assumption | (intro _; intros) | with_reducible apply State.setPlan_keeps
    | with_reducible apply State.loadActs_keeps | with_reducible apply State.loadFaultClass_keeps
    | with_reducible apply State.loadEventMap_keeps | with_reducible apply State.setModes_keeps
    | with_reducible apply State.swapBank_keeps | with_reducible apply State.settleOwned_keeps
    | with_reducible apply State.event_keeps | with_reducible apply State.wrN_keeps
    | with_reducible refine forEach_keeps ?_ ?_ | with_reducible apply State.rest_keeps | rw [State.rest_eq] | split)

theorem State.landAmend_keeps {md : Bool} {orig : State} {s0 : State} {t : Nat} (hkeep : Keeps md orig s0) :
    Keeps md orig (State.landAmend s0 t).1 := by
  unfold State.landAmend
  try dsimp only
  repeat' (first
    | with_reducible assumption | (intro _; intros) | with_reducible apply State.swapAmend_keeps
    | with_reducible apply State.failAmend_keeps | with_reducible refine State.dropAmend_keeps ?_ ?_
    | with_reducible apply State.loadAmend_keeps | with_reducible apply State.planResult_keeps
    | with_reducible apply State.swapDiscard_keeps | with_reducible apply State.lastSwap_keeps
    | with_reducible apply State.raise_keeps | with_reducible apply Keeps.ite | with_reducible apply State.rest_keeps
    | rw [State.rest_eq] | split)

theorem State.landReqs_keeps {md : Bool} {orig : State} {s : State} {t : Nat} {done : List Nat} (hkeep : Keeps md orig
    s) :
    Keeps md orig (State.landReqs s t done) := by
  unfold State.landReqs
  try dsimp only
  repeat' (first
    | with_reducible assumption | (intro _; intros) | with_reducible apply State.swapKind_keeps
    | with_reducible apply State.releaseReq_keeps | with_reducible apply State.swapDiscard_keeps
    | with_reducible apply State.settleOwned_keeps | with_reducible apply State.dropReqs_keeps
    | with_reducible apply State.raise_keeps | with_reducible refine forEach_keeps ?_ ?_
    | with_reducible apply Keeps.ite | with_reducible apply State.rest_keeps | rw [State.rest_eq] | split)

theorem State.landHall_keeps {md : Bool} {orig : State} {s0 : State} {t : Nat} (hkeep : Keeps md orig s0) :
    Keeps md orig (State.landHall s0 t) := by
  unfold State.landHall
  try dsimp only
  repeat' (first
    | with_reducible assumption | (intro _; intros) | with_reducible apply State.failAmend_keeps
    | with_reducible apply State.swapKind_keeps | with_reducible apply State.releaseReq_keeps
    | with_reducible apply State.releaseAmend_keeps | with_reducible apply State.loadAmend_keeps
    | with_reducible apply State.planResult_keeps | with_reducible apply State.actJoin_keeps
    | with_reducible apply State.settleOwned_keeps | with_reducible apply State.dropReqs_keeps
    | with_reducible apply State.raise_keeps | with_reducible apply State.wrN_keeps
    | with_reducible refine forEach_keeps ?_ ?_ | with_reducible apply Keeps.ite
    | with_reducible apply State.rest_keeps | rw [State.rest_eq] | split)

theorem State.replanStart_keeps {md : Bool} {orig : State} {s : State} (hkeep : Keeps md orig s) :
    Keeps md orig (State.replanStart s) := by
  unfold State.replanStart
  try dsimp only
  repeat' (first
    | with_reducible assumption | (intro _; intros) | with_reducible apply State.setPlan_keeps
    | with_reducible apply State.retireDma_keeps | with_reducible apply State.gcbsOff_keeps
    | with_reducible apply State.dropFrame_keeps | with_reducible apply State.stopQueue_keeps
    | with_reducible apply State.giveUp_keeps | with_reducible apply State.cutGates_keeps
    | with_reducible apply State.setRole_keeps | with_reducible refine forEach_keeps ?_ ?_
    | with_reducible apply Keeps.ite | with_reducible apply State.rest_keeps | rw [State.rest_eq] | split)

theorem State.replanPanes_keeps {orig : State} {s : State} (hkeep : Keeps true orig s) :
    Keeps true orig (State.replanPanes s) := by
  unfold State.replanPanes
  try dsimp only
  repeat' (first
    | with_reducible assumption | (intro _; intros) | with_reducible apply State.clearInputs_keeps
    | with_reducible apply State.sealPane_keeps | with_reducible refine forEach_keeps ?_ ?_
    | with_reducible apply State.rest_keeps | rw [State.rest_eq])

theorem State.dropChanged_keeps {md : Bool} {orig : State} {s : State} {im : Image} (hkeep : Keeps md orig s) :
    Keeps md orig (State.dropChanged s im) := by
  unfold State.dropChanged
  try dsimp only
  repeat' (first
    | with_reducible assumption | (intro _; intros) | with_reducible apply State.linkLeave_keeps
    | with_reducible refine forEach_keeps ?_ ?_ | with_reducible apply Keeps.ite | split)

theorem State.replanBus_keeps {md : Bool} {orig : State} {s : State} {old : Nat} (hkeep : Keeps md orig s) :
    Keeps md orig (State.replanBus s old) := by
  unfold State.replanBus
  try dsimp only
  repeat' (first
    | with_reducible assumption | with_reducible apply State.setBit_keeps | with_reducible apply State.setF_keeps
    | with_reducible apply Keeps.ite | with_reducible apply State.rest_keeps | rw [State.rest_eq] | split)

theorem State.replanDone_keeps {md : Bool} {orig : State} {s : State} {t : Nat} (hkeep : Keeps md orig s) :
    Keeps md orig (State.replanDone s t) := by
  unfold State.replanDone
  try dsimp only
  repeat' (first
    | with_reducible assumption | (intro _; intros) | with_reducible apply State.replanBus_keeps
    | with_reducible apply State.dropChanged_keeps | with_reducible apply State.settleUnlocked_keeps
    | with_reducible apply State.setPlan_keeps | with_reducible apply State.applyPlan_keeps
    | with_reducible apply State.loadTbs_keeps | with_reducible apply State.loadViews_keeps
    | with_reducible apply State.roleLoaded_keeps | with_reducible apply State.resetDma_keeps
    | with_reducible apply State.swapEpoch_keeps | with_reducible apply State.setDelta_keeps
    | with_reducible apply State.setBase_keeps | with_reducible apply State.wrN_keeps
    | with_reducible refine forEach_keeps ?_ ?_ | with_reducible apply Keeps.ite
    | with_reducible apply State.rest_keeps | rw [State.rest_eq] | split)

theorem State.planNone_keeps {md : Bool} {orig : State} {s : State} (hkeep : Keeps md orig s) :
    Keeps md orig (State.planNone s) := by
  unfold State.planNone
  try dsimp only
  repeat' (first
    | with_reducible assumption | (intro _; intros) | with_reducible apply State.setPlan_keeps
    | with_reducible apply State.linkLeave_keeps | with_reducible apply State.settleFuncMode_keeps
    | with_reducible apply State.setRole_keeps | with_reducible apply State.setBit_keeps
    | with_reducible apply State.wrN_keeps | with_reducible apply State.wr_keeps
    | with_reducible refine forEach_keeps ?_ ?_ | with_reducible apply Keeps.ite
    | with_reducible apply State.rest_keeps | rw [State.rest_eq] | split)

theorem execRebuildDone_keeps {md : Bool} {orig : State} {ecc : List (Nat × Bool)} {s : State} (hkeep : Keeps md orig
    s) :
    Keeps md orig (Answer.state (execRebuildDone ecc s) s) := by
  unfold execRebuildDone
  try unfold Answer.state
  try dsimp only
  repeat' (first
    | with_reducible assumption | with_reducible apply State.planNone_keeps
    | with_reducible apply State.ueReport_keeps | with_reducible apply State.eccFound_keeps
    | with_reducible apply State.enterFault_keeps | with_reducible apply Keeps.ite
    | with_reducible apply State.rest_keeps | rw [State.rest_eq] | split)

theorem State.landCount_keeps {md : Bool} {orig : State} {s : State} {t : Nat} {work : List Nat} (hkeep : Keeps md
    orig s) :
    Keeps md orig (State.landCount s t work) := by
  unfold State.landCount
  try dsimp only
  repeat' (first
    | with_reducible assumption | (intro _; intros) | with_reducible apply State.settleUnlocked_keeps
    | with_reducible apply State.raise_keeps | with_reducible apply State.incBy_keeps
    | with_reducible apply State.wr64_keeps | with_reducible apply State.setBit_keeps
    | with_reducible apply State.wrN_keeps | with_reducible apply State.wr_keeps
    | with_reducible refine forEach_keeps ?_ ?_ | with_reducible apply Keeps.ite
    | with_reducible apply State.rest_keeps | rw [State.rest_eq] | split)

theorem State.landWrites_keeps {orig : State} {s : State} (hkeep : Keeps true orig s) :
    Keeps true orig (State.landWrites s) := by
  unfold State.landWrites
  try dsimp only
  repeat' (first
    | with_reducible assumption | (intro _; intros) | with_reducible apply State.adminLand_keeps
    | with_reducible apply State.metersFill_keeps | with_reducible apply State.svpLand_keeps
    | with_reducible apply State.gcbLand_keeps | with_reducible apply State.inLand_keeps
    | with_reducible apply State.pgLand_keeps | with_reducible refine forEach_keeps ?_ ?_
    | with_reducible apply State.rest_keeps | rw [State.rest_eq])

theorem State.landSwaps_keeps {orig : State} {s : State} {t : Nat} {c4 : Bool} {first : Bool} {ue : Option Nat} (hkeep
    : Keeps true orig s) :
    Keeps true orig (State.landSwaps s t c4 first ue) := by
  unfold State.landSwaps
  try dsimp only
  repeat' (first
    | with_reducible assumption | with_reducible apply State.landWrites_keeps
    | with_reducible apply State.replanDone_keeps | with_reducible apply State.replanStart_keeps
    | with_reducible apply State.landHall_keeps | with_reducible apply State.landReqs_keeps
    | with_reducible apply State.landAmend_keeps | with_reducible apply State.faultLand_keeps
    | with_reducible apply State.mirrorLand_keeps | with_reducible apply State.hbLand_keeps
    | with_reducible apply State.applyEpochs_keeps | with_reducible apply Keeps.ite | split)

theorem State.landBoard_keeps {md : Bool} {orig : State} {s : State} (hkeep : Keeps md orig s) :
    Keeps md orig (State.landBoard s) := by
  unfold State.landBoard
  try dsimp only
  repeat' (first
    | with_reducible assumption | (intro _; intros) | with_reducible apply State.strapLand_keeps
    | with_reducible apply State.tryClaim_keeps | with_reducible apply State.landPort_keeps
    | with_reducible apply State.compareBoard_keeps | with_reducible apply State.giveUp_keeps
    | with_reducible refine forEach_keeps ?_ ?_ | with_reducible apply Keeps.ite | split)

theorem State.landBound_keeps {md : Bool} {orig : State} {s : State} (hkeep : Keeps md orig s) :
    Keeps md orig (State.landBound s) := by
  unfold State.landBound
  refine forEach_keeps hkeep fun q x hx => State.aqLand_keeps (forEach_keeps hx fun e y hy => ?_)
  have h1 := execRaWindowExpiry_keeps (q := q) (i := e.idx) hy
  unfold execRaWindowExpiry Answer.state at h1
  unfold execRaWindowExpiry
  exact h1

theorem State.landHandover_keeps {md : Bool} {orig : State} {s : State} (hkeep : Keeps md orig s) :
    Keeps md orig (State.landHandover s) := by
  unfold State.landHandover
  have h1 := execHandoverTimeout_keeps hkeep
  unfold execHandoverTimeout Answer.state at h1
  unfold execHandoverTimeout
  exact h1

theorem State.landActs_keeps {orig : State} {s : State} {ticks : List Nat} (hkeep : Keeps true orig s) :
    Keeps true orig (State.landActs s ticks) := by
  unfold State.landActs
  try dsimp only
  repeat' (first
    | with_reducible assumption | (intro _; intros) | with_reducible apply State.landBound_keeps
    | with_reducible apply State.twinsLand_keeps | with_reducible apply State.metersLand_keeps
    | with_reducible apply State.actsEval_keeps | with_reducible apply State.sealDue_keeps
    | with_reducible apply State.openPane_keeps | with_reducible refine forEach_keeps ?_ ?_
    | with_reducible apply Keeps.ite | split)

theorem State.landEdges_keeps {md : Bool} {orig : State} {s : State} {t : Nat} (hkeep : Keeps md orig s) :
    Keeps md orig (State.landEdges s t) := by
  unfold State.landEdges
  try dsimp only
  repeat' (first
    | with_reducible assumption | with_reducible apply State.hallSnapshot_keeps
    | with_reducible apply State.loadAmend_keeps | with_reducible apply State.emit_keeps
    | with_reducible apply Keeps.ite | with_reducible apply State.rest_keeps | rw [State.rest_eq] | split)

theorem State.landStalls_keeps {md : Bool} {orig : State} {s : State} (hkeep : Keeps md orig s) :
    Keeps md orig (State.landStalls s) := by
  unfold State.landStalls
  try dsimp only
  repeat' (first
    | with_reducible assumption | (intro _; intros) | with_reducible apply State.inc_keeps
    | with_reducible refine forEach_keeps ?_ ?_ | with_reducible apply State.rest_keeps | rw [State.rest_eq])

theorem State.land_keeps {orig : State} {s : State} {t : Nat} {ue : Option Nat} {work : List Nat} (hkeep : Keeps true
    orig s) :
    Keeps true orig (State.land s t ue work) := by
  unfold State.land
  try dsimp only
  repeat' (first
    | with_reducible assumption | with_reducible apply State.landStalls_keeps
    | with_reducible apply State.landEdges_keeps | with_reducible apply State.landActs_keeps
    | with_reducible apply State.landHandover_keeps | with_reducible apply State.landBoard_keeps
    | with_reducible apply State.landSwaps_keeps | with_reducible apply State.landCount_keeps
    | with_reducible apply State.replanPanes_keeps | with_reducible apply State.powerLand_keeps
    | with_reducible apply State.takeover_keeps | with_reducible apply State.settleHeld_keeps
    | with_reducible apply Keeps.ite | split)

theorem State.phaseEdge_keeps {orig : State} {s : State} (hkeep : Keeps true orig s) :
    Keeps true orig (State.phaseEdge s) := by
  unfold State.phaseEdge
  try dsimp only
  repeat' (first
    | with_reducible assumption | (intro _; intros) | with_reducible apply State.afterStep_keeps
    | with_reducible apply State.applyPhase_keeps | with_reducible apply State.edges_keeps
    | with_reducible refine forEach_keeps ?_ ?_ | with_reducible apply Keeps.ite | split)

theorem State.landNow_keeps {orig : State} {s : State} {ue : Option Nat} {work : List Nat} (hkeep : Keeps true orig s) :
    Keeps true orig (State.landNow s ue work) := by
  unfold State.landNow
  try dsimp only
  repeat' (first
    | with_reducible assumption | (intro _; intros) | with_reducible apply State.phaseEdge_keeps
    | with_reducible apply State.land_keeps | with_reducible apply State.sealsBefore_keeps
    | with_reducible apply State.cutOff_keeps | with_reducible apply State.settlePort_keeps
    | with_reducible apply State.untilSrc_keeps | with_reducible refine forEach_keeps ?_ ?_
    | with_reducible apply Keeps.ite | split)

theorem execLanding_keeps {orig : State} {ue : Option Nat} {work : List Nat} {s : State} (hkeep : Keeps true orig s) :
    Keeps true orig (Answer.state (execLanding ue work s) s) := by
  unfold execLanding
  try unfold Answer.state
  try dsimp only
  repeat' (first | with_reducible assumption | with_reducible apply State.landNow_keeps)

theorem execTwinResetTimer_keeps {orig : State} {sh : Nat} {s : State} (hkeep : Keeps true orig s) :
    Keeps true orig (Answer.state (execTwinResetTimer sh s) s) := by
  unfold execTwinResetTimer
  try unfold Answer.state
  try dsimp only
  repeat' (first
    | with_reducible assumption | with_reducible apply State.landNow_keeps | with_reducible apply Keeps.ite
    | with_reducible apply State.rest_keeps | rw [State.rest_eq] | split)

theorem execPathDown_keeps {orig : State} {sh : Nat} {s : State} (hkeep : Keeps true orig s) :
    Keeps true orig (Answer.state (execPathDown sh s) s) := by
  unfold execPathDown
  try unfold Answer.state
  try dsimp only
  repeat' (first
    | with_reducible assumption | with_reducible apply State.landNow_keeps | with_reducible apply Keeps.ite
    | with_reducible apply State.rest_keeps | rw [State.rest_eq] | split)

theorem State.landFirst_keeps {orig : State} {s : State} (hkeep : Keeps true orig s) :
    Keeps true orig (State.landFirst s) := by
  unfold State.landFirst
  try dsimp only
  repeat' (first
    | with_reducible assumption | with_reducible apply State.landNow_keeps | with_reducible apply State.sealDue_keeps
    | with_reducible apply Keeps.ite | split)

/-! ### Arrivals -/

theorem execFrameReceive_keeps {orig : State} {p : Nat} {x : RxIn} {s : State} (hkeep : Keeps true orig s) :
    Keeps true orig (Answer.state (execFrameReceive p x s) s) := by
  unfold execFrameReceive
  try unfold Answer.state
  try dsimp only
  repeat' (first
    | with_reducible assumption | with_reducible apply State.landFirst_keeps
    | with_reducible apply State.arrive_keeps)

theorem execPtpSyncReceive_keeps {orig : State} {p : Nat} {x : RxIn} {s : State} (hkeep : Keeps true orig s) :
    Keeps true orig (Answer.state (execPtpSyncReceive p x s) s) := by
  unfold execPtpSyncReceive
  try unfold Answer.state
  try dsimp only
  repeat' (first
    | with_reducible assumption | with_reducible apply State.landFirst_keeps
    | with_reducible apply State.arrive_keeps | with_reducible apply Keeps.ite | split)

theorem execPtpAnnounceReceive_keeps {orig : State} {p : Nat} {x : RxIn} {s : State} (hkeep : Keeps true orig s) :
    Keeps true orig (Answer.state (execPtpAnnounceReceive p x s) s) := by
  unfold execPtpAnnounceReceive
  try unfold Answer.state
  try dsimp only
  repeat' (first
    | with_reducible assumption | with_reducible apply State.landFirst_keeps
    | with_reducible apply State.arrive_keeps | with_reducible apply Keeps.ite | split)

theorem execPdelayReqReceive_keeps {orig : State} {p : Nat} {x : RxIn} {s : State} (hkeep : Keeps true orig s) :
    Keeps true orig (Answer.state (execPdelayReqReceive p x s) s) := by
  unfold execPdelayReqReceive
  try unfold Answer.state
  try dsimp only
  repeat' (first
    | with_reducible assumption | with_reducible apply State.landFirst_keeps
    | with_reducible apply State.arrive_keeps | with_reducible apply Keeps.ite | split)

theorem execPdelayRespReceive_keeps {orig : State} {p : Nat} {x : RxIn} {s : State} (hkeep : Keeps true orig s) :
    Keeps true orig (Answer.state (execPdelayRespReceive p x s) s) := by
  unfold execPdelayRespReceive
  try unfold Answer.state
  try dsimp only
  repeat' (first
    | with_reducible assumption | with_reducible apply State.landFirst_keeps
    | with_reducible apply State.arrive_keeps | with_reducible apply Keeps.ite | split)

theorem execDelayRespReceive_keeps {orig : State} {p : Nat} {x : RxIn} {s : State} (hkeep : Keeps true orig s) :
    Keeps true orig (Answer.state (execDelayRespReceive p x s) s) := by
  unfold execDelayRespReceive
  try unfold Answer.state
  try dsimp only
  repeat' (first
    | with_reducible assumption | with_reducible apply State.landFirst_keeps
    | with_reducible apply State.arrive_keeps | with_reducible apply Keeps.ite | split)

theorem execHeartbeatReceive_keeps {orig : State} {p : Nat} {x : RxIn} {s : State} (hkeep : Keeps true orig s) :
    Keeps true orig (Answer.state (execHeartbeatReceive p x s) s) := by
  unfold execHeartbeatReceive
  try unfold Answer.state
  try dsimp only
  repeat' (first
    | with_reducible assumption | with_reducible apply State.landFirst_keeps
    | with_reducible apply State.arrive_keeps | with_reducible apply Keeps.ite | split)

theorem execEpochData_keeps {orig : State} {p : Nat} {x : RxIn} {s : State} (hkeep : Keeps true orig s) :
    Keeps true orig (Answer.state (execEpochData p x s) s) := by
  unfold execEpochData
  try unfold Answer.state
  try dsimp only
  repeat' (first
    | with_reducible assumption | with_reducible apply State.landFirst_keeps
    | with_reducible apply State.arrive_keeps | with_reducible apply Keeps.ite | split)

theorem execEpochTrailer_keeps {orig : State} {p : Nat} {x : RxIn} {s : State} (hkeep : Keeps true orig s) :
    Keeps true orig (Answer.state (execEpochTrailer p x s) s) := by
  unfold execEpochTrailer
  try unfold Answer.state
  try dsimp only
  repeat' (first
    | with_reducible assumption | with_reducible apply State.landFirst_keeps
    | with_reducible apply State.arrive_keeps | with_reducible apply Keeps.ite | split)

/-! ### Ustor -/

theorem State.setBus_keeps {md : Bool} {orig : State} {s : State} {b : Nat} (hkeep : Keeps md orig s) :
    Keeps md orig (State.setBus s b) := by
  unfold State.setBus
  try dsimp only
  repeat' (first
    | with_reducible assumption | with_reducible apply State.settleUnlocked_keeps
    | with_reducible apply State.setF_keeps)

theorem State.setAhead_keeps {md : Bool} {orig : State} {s : State} {b : Bool} (hkeep : Keeps md orig s) :
    Keeps md orig (State.setAhead s b) := by
  unfold State.setAhead
  try dsimp only
  repeat' (first | with_reducible assumption | with_reducible apply State.setBit_keeps)

theorem State.sendDown_keeps {md : Bool} {orig : State} {s : State} {b : List Byte} (hkeep : Keeps md orig s) :
    Keeps md orig (State.sendDown s b) := by
  unfold State.sendDown
  try dsimp only
  repeat' (first
    | with_reducible assumption | (intro _; intros) | with_reducible apply State.emit_keeps
    | with_reducible refine forEach_keeps ?_ ?_)

theorem execTickFrameSend_keeps {md : Bool} {orig : State} {s : State} (hkeep : Keeps md orig s) :
    Keeps md orig (Answer.state (execTickFrameSend s) s) := by
  unfold execTickFrameSend
  try unfold Answer.state
  try dsimp only
  repeat' (first
    | with_reducible assumption | with_reducible apply State.sendDown_keeps
    | with_reducible apply State.untilSrc_keeps | with_reducible apply Keeps.ite
    | with_reducible apply State.rest_keeps | rw [State.rest_eq] | split)

theorem execStatusFrameSend_keeps {md : Bool} {orig : State} {s : State} (hkeep : Keeps md orig s) :
    Keeps md orig (Answer.state (execStatusFrameSend s) s) := by
  unfold execStatusFrameSend
  try unfold Answer.state
  try dsimp only
  repeat' (first
    | with_reducible assumption | with_reducible apply State.untilSrc_keeps | with_reducible apply State.emit_keeps
    | with_reducible apply Keeps.ite | split)

theorem execStatusFrameReceive_keeps {md : Bool} {orig : State} {d1 : Bool} {b : List Byte} {s : State} (hkeep : Keeps
    md orig s) :
    Keeps md orig (Answer.state (execStatusFrameReceive d1 b s) s) := by
  unfold execStatusFrameReceive
  try unfold Answer.state
  try dsimp only
  repeat' (first
    | with_reducible assumption | with_reducible apply Keeps.ite | with_reducible apply State.rest_keeps
    | rw [State.rest_eq] | split)

theorem State.acceptFrame_keeps {md : Bool} {orig : State} {s : State} {b : List Byte} (hkeep : Keeps md orig s) :
    Keeps md orig (State.acceptFrame s b) := by
  unfold State.acceptFrame
  try dsimp only
  repeat' (first
    | with_reducible assumption | with_reducible apply State.setF_keeps | with_reducible apply Keeps.ite
    | with_reducible apply State.rest_keeps | rw [State.rest_eq] | split)

theorem State.recalEnd_keeps {md : Bool} {orig : State} {s : State} {code : Nat} (hkeep : Keeps md orig s) :
    Keeps md orig (State.recalEnd s code) := by
  unfold State.recalEnd
  try dsimp only
  repeat' (first
    | with_reducible assumption | with_reducible apply State.finish_keeps | with_reducible apply Keeps.ite
    | with_reducible apply State.rest_keeps | rw [State.rest_eq] | split)

theorem State.parentLost_keeps {md : Bool} {orig : State} {s : State} (hkeep : Keeps md orig s) :
    Keeps md orig (State.parentLost s) := by
  unfold State.parentLost
  try dsimp only
  repeat' (first
    | with_reducible assumption | with_reducible apply State.recalEnd_keeps | with_reducible apply State.setBus_keeps
    | with_reducible apply State.raise_keeps | with_reducible apply Keeps.ite | with_reducible apply State.rest_keeps
    | rw [State.rest_eq] | split)

theorem State.frameFailed_keeps {md : Bool} {orig : State} {s : State} {crc : Bool} (hkeep : Keeps md orig s) :
    Keeps md orig (State.frameFailed s crc) := by
  unfold State.frameFailed
  try dsimp only
  repeat' (first
    | with_reducible assumption | with_reducible apply State.parentLost_keeps | with_reducible apply Keeps.ite
    | with_reducible apply State.rest_keeps | rw [State.rest_eq] | split)

theorem execTickFrameReceive_keeps {md : Bool} {orig : State} {b : List Byte} {s : State} (hkeep : Keeps md orig s) :
    Keeps md orig (Answer.state (execTickFrameReceive b s) s) := by
  unfold execTickFrameReceive
  try unfold Answer.state
  try dsimp only
  repeat' (first
    | with_reducible assumption | with_reducible apply State.frameFailed_keeps
    | with_reducible apply State.acceptFrame_keeps | with_reducible apply State.sendDown_keeps
    | with_reducible apply State.raise_keeps | with_reducible apply Keeps.ite | split)

theorem State.calStart_keeps {md : Bool} {orig : State} {s : State} {recal : Bool} {cmd : Bool} (hkeep : Keeps md orig
    s) :
    Keeps md orig (State.calStart s recal cmd) := by
  unfold State.calStart
  try dsimp only
  repeat' (first | with_reducible assumption | with_reducible apply State.rest_keeps | rw [State.rest_eq])

theorem execCalPulseSend_keeps {md : Bool} {orig : State} {s : State} (hkeep : Keeps md orig s) :
    Keeps md orig (Answer.state (execCalPulseSend s) s) := by
  unfold execCalPulseSend
  try unfold Answer.state
  try dsimp only
  repeat' (first
    | with_reducible assumption | with_reducible apply State.calStart_keeps
    | with_reducible apply State.untilSrc_keeps | with_reducible apply State.emit_keeps
    | with_reducible apply Keeps.ite | with_reducible apply State.rest_keeps | rw [State.rest_eq] | split)

theorem execCalPulseReturn_keeps {md : Bool} {orig : State} {d1 : Bool} {s : State} (hkeep : Keeps md orig s) :
    Keeps md orig (Answer.state (execCalPulseReturn d1 s) s) := by
  unfold execCalPulseReturn
  try unfold Answer.state
  try dsimp only
  repeat' (first
    | with_reducible assumption | with_reducible apply State.emit_keeps | with_reducible apply Keeps.ite | split)

theorem State.calExpire_keeps {md : Bool} {orig : State} {s : State} (hkeep : Keeps md orig s) :
    Keeps md orig (State.calExpire s) := by
  unfold State.calExpire
  try dsimp only
  repeat' (first
    | with_reducible assumption | with_reducible apply State.recalEnd_keeps | with_reducible apply State.setBus_keeps
    | with_reducible apply State.raise_keeps | with_reducible apply Keeps.ite | with_reducible apply State.rest_keeps
    | rw [State.rest_eq] | split)

theorem State.calDone_keeps {md : Bool} {orig : State} {s : State} (hkeep : Keeps md orig s) :
    Keeps md orig (State.calDone s) := by
  unfold State.calDone
  try dsimp only
  repeat' (first
    | with_reducible assumption | with_reducible apply State.recalEnd_keeps | with_reducible apply State.setBus_keeps
    | with_reducible apply State.wrN_keeps | with_reducible apply Keeps.ite | with_reducible apply State.rest_keeps
    | rw [State.rest_eq] | split)

theorem State.calFail_keeps {md : Bool} {orig : State} {s : State} (hkeep : Keeps md orig s) :
    Keeps md orig (State.calFail s) := by
  unfold State.calFail
  try dsimp only
  repeat' (first
    | with_reducible assumption | with_reducible apply State.calExpire_keeps | with_reducible apply State.rest_keeps
    | rw [State.rest_eq])

theorem execCalPulseArrive_keeps {md : Bool} {orig : State} {trip : Nat} {s : State} (hkeep : Keeps md orig s) :
    Keeps md orig (Answer.state (execCalPulseArrive trip s) s) := by
  unfold execCalPulseArrive
  try unfold Answer.state
  try dsimp only
  repeat' (first
    | with_reducible assumption | with_reducible apply State.calFail_keeps | with_reducible apply State.calDone_keeps
    | with_reducible apply State.calExpire_keeps | with_reducible apply Keeps.ite
    | with_reducible apply State.rest_keeps | rw [State.rest_eq] | split)

theorem execCalPulseTimeout_keeps {md : Bool} {orig : State} {s : State} (hkeep : Keeps md orig s) :
    Keeps md orig (Answer.state (execCalPulseTimeout s) s) := by
  unfold execCalPulseTimeout
  try unfold Answer.state
  try dsimp only
  repeat' (first
    | with_reducible assumption | with_reducible apply State.calFail_keeps | with_reducible apply Keeps.ite | split)

theorem State.firstLock_keeps {md : Bool} {orig : State} {s : State} {t : Nat} {est : Time} (hkeep : Keeps md orig s) :
    Keeps md orig (State.firstLock s t est) := by
  unfold State.firstLock
  try dsimp only
  repeat' (first
    | with_reducible assumption | (intro _; intros) | with_reducible apply State.setGroup_keeps
    | with_reducible apply State.setDelta_keeps | with_reducible apply State.setBase_keeps
    | with_reducible refine forEach_keeps ?_ ?_ | with_reducible apply State.rest_keeps | rw [State.rest_eq])

theorem State.adopt_keeps {md : Bool} {orig : State} {s : State} {t : Nat} {est : Time} (hkeep : Keeps md orig s) :
    Keeps md orig (State.adopt s t est) := by
  unfold State.adopt
  try dsimp only
  repeat' (first
    | with_reducible assumption | with_reducible apply State.setDelta_keeps | with_reducible apply Keeps.ite
    | with_reducible apply State.rest_keeps | rw [State.rest_eq] | split)

theorem State.relock_keeps {md : Bool} {orig : State} {s : State} {t : Nat} {est : Time} (hkeep : Keeps md orig s) :
    Keeps md orig (State.relock s t est) := by
  unfold State.relock
  try dsimp only
  repeat' (first
    | with_reducible assumption | with_reducible apply State.adopt_keeps | with_reducible apply State.setAhead_keeps
    | with_reducible apply State.setBus_keeps | with_reducible apply State.setDelta_keeps
    | with_reducible apply State.raise_keeps | with_reducible apply Keeps.ite | split)

theorem State.edgeAt_keeps {md : Bool} {orig : State} {s : State} {t : Nat} {est : Time} (hkeep : Keeps md orig s) :
    Keeps md orig (State.edgeAt s t est) := by
  unfold State.edgeAt
  try dsimp only
  repeat' (first
    | with_reducible assumption | with_reducible apply State.relock_keeps | with_reducible apply State.adopt_keeps
    | with_reducible apply State.firstLock_keeps | with_reducible apply State.calStart_keeps
    | with_reducible apply State.setAhead_keeps | with_reducible apply State.setBus_keeps
    | with_reducible apply State.finish_keeps | with_reducible apply State.setDelta_keeps
    | with_reducible apply Keeps.ite | with_reducible apply State.rest_keeps | rw [State.rest_eq] | split)

theorem execUstorEdgeReceive_keeps {md : Bool} {orig : State} {sub : Nat} {s : State} (hkeep : Keeps md orig s) :
    Keeps md orig (Answer.state (execUstorEdgeReceive sub s) s) := by
  unfold execUstorEdgeReceive
  try unfold Answer.state
  try dsimp only
  repeat' (first
    | with_reducible assumption | with_reducible apply State.edgeAt_keeps | with_reducible apply Keeps.ite
    | with_reducible apply State.rest_keeps | rw [State.rest_eq] | split)

theorem execUstorEdgeMissing_keeps {md : Bool} {orig : State} {s : State} (hkeep : Keeps md orig s) :
    Keeps md orig (Answer.state (execUstorEdgeMissing s) s) := by
  unfold execUstorEdgeMissing
  try unfold Answer.state
  try dsimp only
  repeat' (first
    | with_reducible assumption | with_reducible apply State.parentLost_keeps | with_reducible apply Keeps.ite
    | split)

theorem execUstorNoLock_keeps {md : Bool} {orig : State} {s : State} (hkeep : Keeps md orig s) :
    Keeps md orig (Answer.state (execUstorNoLock s) s) := by
  unfold execUstorNoLock
  try unfold Answer.state
  try dsimp only
  repeat' (first
    | with_reducible assumption | with_reducible apply State.untilClock_keeps
    | with_reducible apply State.raise_keeps | with_reducible apply Keeps.ite | with_reducible apply State.rest_keeps
    | rw [State.rest_eq] | split)

theorem State.tickCommand_keeps {md : Bool} {orig : State} {s : State} {req : Requester} {legal : State → Bool} {f :
    State → State} (hkeep : Keeps md orig s) (hstep : ∀ y, Keeps md orig y → Keeps md orig (f  y)) :
    Keeps md orig (State.tickCommand s req legal f) := by
  unfold State.tickCommand
  try dsimp only
  repeat' (first
    | with_reducible assumption | (intro _; intros) | with_reducible apply hstep
    | with_reducible refine State.guarded_keeps ?_ ?_ | with_reducible apply State.result_keeps
    | with_reducible apply Answer.state_keeps | with_reducible apply Keeps.ite | split)

theorem execPromote_keeps {md : Bool} {orig : State} {req : Requester} {s : State} (hkeep : Keeps md orig s) :
    Keeps md orig (Answer.state (execPromote req s) s) := by
  unfold execPromote
  try unfold Answer.state
  try dsimp only
  repeat' (first
    | with_reducible assumption | (intro _; intros) | with_reducible refine State.tickCommand_keeps ?_ ?_
    | with_reducible apply State.setAhead_keeps | with_reducible apply State.setBus_keeps
    | with_reducible apply State.result_keeps | with_reducible apply State.setF_keeps
    | with_reducible apply State.rest_keeps | rw [State.rest_eq])

theorem execResync_keeps {md : Bool} {orig : State} {req : Requester} {s : State} (hkeep : Keeps md orig s) :
    Keeps md orig (Answer.state (execResync req s) s) := by
  unfold execResync
  try unfold Answer.state
  try dsimp only
  repeat' (first
    | with_reducible assumption | (intro _; intros) | with_reducible refine State.tickCommand_keeps ?_ ?_
    | with_reducible apply State.defer_keeps | with_reducible apply State.rest_keeps | rw [State.rest_eq])

theorem execRecal_keeps {md : Bool} {orig : State} {req : Requester} {s : State} (hkeep : Keeps md orig s) :
    Keeps md orig (Answer.state (execRecal req s) s) := by
  unfold execRecal
  try unfold Answer.state
  try dsimp only
  repeat' (first
    | with_reducible assumption | (intro _; intros) | with_reducible refine State.tickCommand_keeps ?_ ?_
    | with_reducible apply State.calStart_keeps | with_reducible apply State.defer_keeps)

theorem execTickCmdReserved_keeps {md : Bool} {orig : State} {req : Requester} {s : State} (hkeep : Keeps md orig s) :
    Keeps md orig (Answer.state (execTickCmdReserved req s) s) := by
  unfold execTickCmdReserved
  try unfold Answer.state
  try dsimp only
  repeat' (first
    | with_reducible assumption | (intro _; intros) | with_reducible refine State.tickCommand_keeps ?_ ?_
    | with_reducible apply id_keeps)

end Sys2Proof.Machine
end

