-- ==== Sys2Proof/Laws/KeepsCommands.lean ====
section
/-! SUPPORT. Every operation of clocks, boot, management, register access and work entries keeps it. -/

namespace Sys2Proof.Machine

set_option linter.unusedTactic false
set_option linter.unreachableTactic false

/-! ### Clocks -/

theorem State.setScrub_keeps {md : Bool} {orig : State} {s : State} {c : Nat} {x : ScrubSt} (hkeep : Keeps md orig s) :
    Keeps md orig (State.setScrub s c x) := by
  unfold State.setScrub
  try dsimp only
  repeat' (first | with_reducible assumption | with_reducible apply State.rest_keeps | rw [State.rest_eq])

theorem State.scrubOn_keeps {md : Bool} {orig : State} {s : State} {c : Nat} (hkeep : Keeps md orig s) :
    Keeps md orig (State.scrubOn s c) := by
  unfold State.scrubOn
  try dsimp only
  repeat' (first
    | with_reducible assumption | with_reducible apply State.setScrub_keeps | with_reducible apply State.inc_keeps
    | with_reducible apply Keeps.ite | with_reducible apply State.rest_keeps | rw [State.rest_eq] | split)

theorem execDdrTrain_keeps {md : Bool} {orig : State} {outcome : List Reg} {s : State} (hkeep : Keeps md orig s) :
    Keeps md orig (Answer.state (execDdrTrain outcome s) s) := by
  unfold execDdrTrain
  try unfold Answer.state
  try dsimp only
  repeat' (first
    | with_reducible assumption | (intro _; intros) | with_reducible apply State.setScrub_keeps
    | with_reducible apply State.raise_keeps | with_reducible apply State.wr_keeps
    | with_reducible refine forEach_keeps ?_ ?_ | with_reducible apply Keeps.ite
    | with_reducible apply State.rest_keeps | rw [State.rest_eq] | split)

theorem State.scrubRead_keeps {md : Bool} {orig : State} {s : State} {c : Nat} {find : Option Bool} (hkeep : Keeps md
    orig s) :
    Keeps md orig (State.scrubRead s c find) := by
  unfold State.scrubRead
  try dsimp only
  repeat' (first
    | with_reducible assumption | with_reducible apply State.correctable_keeps
    | with_reducible apply State.raise_keeps | with_reducible apply State.inc_keeps | with_reducible apply Keeps.ite
    | with_reducible apply State.rest_keeps | rw [State.rest_eq] | split)

theorem execPatrolScrub_keeps {md : Bool} {orig : State} {c : Nat} {find : Option Bool} {s : State} (hkeep : Keeps md
    orig s) :
    Keeps md orig (Answer.state (execPatrolScrub c find s) s) := by
  unfold execPatrolScrub
  try unfold Answer.state
  try dsimp only
  repeat' (first
    | with_reducible assumption | with_reducible apply State.scrubRead_keeps
    | with_reducible apply State.scrubOn_keeps | with_reducible (refine State.reachClock_keeps ?_ (by assumption))
    | with_reducible apply State.wake_keeps | with_reducible apply Keeps.ite | with_reducible apply State.rest_keeps
    | rw [State.rest_eq] | split)

theorem State.pllLost_keeps {md : Bool} {orig : State} {s : State} {i : Nat} (hkeep : Keeps md orig s) :
    Keeps md orig (State.pllLost s i) := by
  unfold State.pllLost
  try dsimp only
  repeat' (first
    | with_reducible assumption | with_reducible apply State.settleHeld_keeps
    | with_reducible apply State.condition_keeps | with_reducible apply State.giveUp_keeps
    | with_reducible apply State.setBit_keeps | with_reducible apply Keeps.ite
    | with_reducible apply State.rest_keeps | rw [State.rest_eq] | split)

theorem execPllUnlock_keeps {md : Bool} {orig : State} {i : Nat} {s : State} (hkeep : Keeps md orig s) :
    Keeps md orig (Answer.state (execPllUnlock i s) s) := by
  unfold execPllUnlock
  try unfold Answer.state
  try dsimp only
  repeat' (first | with_reducible assumption | with_reducible apply State.pllLost_keeps)

theorem State.rebuildPlan_keeps {md : Bool} {orig : State} {s : State} (hkeep : Keeps md orig s) :
    Keeps md orig (State.rebuildPlan s) := by
  unfold State.rebuildPlan
  try dsimp only
  repeat' (first
    | with_reducible assumption | with_reducible apply State.releaseAmend_keeps
    | with_reducible apply State.planResult_keeps | with_reducible apply State.setPlan_keeps
    | with_reducible apply Keeps.ite | with_reducible apply State.rest_keeps | rw [State.rest_eq] | split)

theorem State.mgtStart_keeps {md : Bool} {orig : State} {s : State} {reload : Bool} (hkeep : Keeps md orig s) :
    Keeps md orig (State.mgtStart s reload) := by
  unfold State.mgtStart
  try dsimp only
  repeat' (first | with_reducible assumption | with_reducible apply State.rest_keeps | rw [State.rest_eq])

theorem execPllRestart_keeps {orig : State} {i : Nat} {ns : Nat} {s : State} (hkeep : Keeps true orig s) :
    Keeps true orig (Answer.state (execPllRestart i ns s) s) := by
  unfold execPllRestart
  try unfold Answer.state
  try dsimp only
  repeat' (first
    | with_reducible assumption | (intro _; intros) | with_reducible apply State.mgtStart_keeps
    | with_reducible apply State.rebuildPlan_keeps | with_reducible apply State.afterStep_keeps
    | with_reducible apply State.applyCorr_keeps | with_reducible apply State.condition_keeps
    | with_reducible apply State.setBit_keeps | with_reducible refine forEach_keeps ?_ ?_
    | with_reducible apply Keeps.ite | with_reducible apply State.rest_keeps | rw [State.rest_eq] | split)

theorem execSysoscLoss_keeps {md : Bool} {orig : State} {s : State} (hkeep : Keeps md orig s) :
    Keeps md orig (Answer.state (execSysoscLoss s) s) := by
  unfold execSysoscLoss
  try unfold Answer.state
  try dsimp only
  repeat' (first
    | with_reducible assumption | (intro _; intros) | with_reducible apply State.pllLost_keeps
    | with_reducible apply State.condition_keeps | with_reducible refine forEach_keeps ?_ ?_
    | with_reducible apply State.rest_keeps | rw [State.rest_eq])

theorem execSysclkRestore_keeps {md : Bool} {orig : State} {s : State} (hkeep : Keeps md orig s) :
    Keeps md orig (Answer.state (execSysclkRestore s) s) := by
  unfold execSysclkRestore
  try unfold Answer.state
  try dsimp only
  repeat' (first
    | with_reducible assumption | with_reducible apply State.condition_keeps | with_reducible apply State.rest_keeps
    | rw [State.rest_eq])

theorem execRefclkLoss_keeps {md : Bool} {orig : State} {g : Nat} {s : State} (hkeep : Keeps md orig s) :
    Keeps md orig (Answer.state (execRefclkLoss g s) s) := by
  unfold execRefclkLoss
  try unfold Answer.state
  try dsimp only
  repeat' (first
    | with_reducible assumption | (intro _; intros) | with_reducible apply State.linkLeave_keeps
    | with_reducible apply State.condition_keeps | with_reducible apply State.setBit_keeps
    | with_reducible apply State.setF_keeps | with_reducible refine forEach_keeps ?_ ?_
    | with_reducible apply Keeps.ite | split)

theorem execRefclkRestore_keeps {md : Bool} {orig : State} {g : Nat} {s : State} (hkeep : Keeps md orig s) :
    Keeps md orig (Answer.state (execRefclkRestore g s) s) := by
  unfold execRefclkRestore
  try unfold Answer.state
  try dsimp only
  repeat' (first
    | with_reducible assumption | (intro _; intros) | with_reducible apply State.linkLeave_keeps
    | with_reducible apply State.condition_keeps | with_reducible refine forEach_keeps ?_ ?_
    | with_reducible apply Keeps.ite | split)

theorem State.setPcie_keeps {md : Bool} {orig : State} {s : State} {h : Nat} {v : Nat} (hkeep : Keeps md orig s) :
    Keeps md orig (State.setPcie s h v) := by
  unfold State.setPcie
  try dsimp only
  repeat' (first
    | with_reducible assumption | with_reducible apply State.condition_keeps | with_reducible apply Keeps.ite
    | with_reducible apply State.rest_keeps | rw [State.rest_eq] | split)

theorem execPcieLinkUp_keeps {md : Bool} {orig : State} {h : Nat} {s : State} (hkeep : Keeps md orig s) :
    Keeps md orig (Answer.state (execPcieLinkUp h s) s) := by
  unfold execPcieLinkUp
  try unfold Answer.state
  try dsimp only
  repeat' (first
    | with_reducible assumption | with_reducible apply State.setPcie_keeps | with_reducible apply Keeps.ite | split)

theorem execPcieLinkLost_keeps {md : Bool} {orig : State} {h : Nat} {s : State} (hkeep : Keeps md orig s) :
    Keeps md orig (Answer.state (execPcieLinkLost h s) s) := by
  unfold execPcieLinkLost
  try unfold Answer.state
  try dsimp only
  repeat' (first
    | with_reducible assumption | with_reducible apply State.setPcie_keeps | with_reducible apply Keeps.ite | split)

theorem execL1Entry_keeps {md : Bool} {orig : State} {h : Nat} {exit : Nat} {s : State} (hkeep : Keeps md orig s) :
    Keeps md orig (Answer.state (execL1Entry h exit s) s) := by
  unfold execL1Entry
  try unfold Answer.state
  try dsimp only
  repeat' (first
    | with_reducible assumption | with_reducible apply State.setPcie_keeps | with_reducible apply Keeps.ite | split)

theorem execL1Exit_keeps {md : Bool} {orig : State} {h : Nat} {s : State} (hkeep : Keeps md orig s) :
    Keeps md orig (Answer.state (execL1Exit h s) s) := by
  unfold execL1Exit
  try unfold Answer.state
  try dsimp only
  repeat' (first
    | with_reducible assumption | with_reducible apply State.setPcie_keeps | with_reducible apply Keeps.ite | split)

theorem execLtrSend_keeps {md : Bool} {orig : State} {h : Nat} {s : State} (hkeep : Keeps md orig s) :
    Keeps md orig (Answer.state (execLtrSend h s) s) := by
  unfold execLtrSend
  try unfold Answer.state
  try dsimp only
  repeat' (first
    | with_reducible assumption | with_reducible apply State.emit_keeps | with_reducible apply Keeps.ite | split)

theorem execD3hotEntry_keeps {md : Bool} {orig : State} {func : Nat} {pmeEn : Bool} {s : State} (hkeep : Keeps md orig
    s) :
    Keeps md orig (Answer.state (execD3hotEntry func pmeEn s) s) := by
  unfold execD3hotEntry
  try unfold Answer.state
  try dsimp only
  repeat' (first
    | with_reducible assumption | with_reducible apply State.setPme_keeps | with_reducible apply State.setBit_keeps
    | with_reducible apply Keeps.ite | with_reducible apply State.rest_keeps | rw [State.rest_eq] | split)

theorem State.readsResume_keeps {md : Bool} {orig : State} {s : State} {f : Requester} (hkeep : Keeps md orig s) :
    Keeps md orig (State.readsResume s f) := by
  unfold State.readsResume
  try dsimp only
  repeat' (first
    | with_reducible assumption | (intro _; intros) | with_reducible apply State.fetchDesc_keeps
    | with_reducible apply State.issueFetch_keeps | with_reducible refine forEach_keeps ?_ ?_
    | with_reducible apply Keeps.ite | with_reducible apply State.rest_keeps | rw [State.rest_eq] | split)

theorem execD0Return_keeps {md : Bool} {orig : State} {func : Nat} {pmeEn : Bool} {clear : Bool} {s : State} (hkeep :
    Keeps md orig s) :
    Keeps md orig (Answer.state (execD0Return func pmeEn clear s) s) := by
  unfold execD0Return
  try unfold Answer.state
  try dsimp only
  repeat' (first
    | with_reducible assumption | (intro _; intros) | with_reducible apply State.readsResume_keeps
    | with_reducible apply State.fireAll_keeps | with_reducible apply State.drainQueue_keeps
    | with_reducible apply State.finishRecord_keeps | with_reducible apply State.setBit_keeps
    | with_reducible refine forEach_keeps ?_ ?_ | with_reducible apply Keeps.ite
    | with_reducible apply State.rest_keeps | rw [State.rest_eq] | split)

theorem execPmeResend_keeps {md : Bool} {orig : State} {func : Nat} {s : State} (hkeep : Keeps md orig s) :
    Keeps md orig (Answer.state (execPmeResend func s) s) := by
  unfold execPmeResend
  try unfold Answer.state
  try dsimp only
  repeat' (first
    | with_reducible assumption | with_reducible apply State.emit_keeps | with_reducible apply Keeps.ite | split)

theorem State.resetMailbox_keeps {md : Bool} {orig : State} {s : State} {m : Nat} (hkeep : Keeps md orig s) :
    Keeps md orig (State.resetMailbox s m) := by
  unfold State.resetMailbox
  try dsimp only
  repeat' (first
    | with_reducible assumption | with_reducible apply State.resetRange_keeps | with_reducible apply State.wrN_keeps
    | with_reducible apply State.rest_keeps | rw [State.rest_eq])

theorem State.flrAll_keeps {md : Bool} {orig : State} {s : State} {func : Nat} {vf : Nat} (hkeep : Keeps md orig s) :
    Keeps md orig (State.flrAll s func vf) := by
  unfold State.flrAll
  try dsimp only
  repeat' (first
    | with_reducible assumption | with_reducible apply State.resetMailbox_keeps
    | with_reducible apply State.flr_keeps | with_reducible apply Keeps.ite | split)

theorem execFunctionLevelReset_keeps {md : Bool} {orig : State} {func : Nat} {vf : Nat} {s : State} (hkeep : Keeps md
    orig s) :
    Keeps md orig (Answer.state (execFunctionLevelReset func vf s) s) := by
  unfold execFunctionLevelReset
  try unfold Answer.state
  try dsimp only
  repeat' (first | with_reducible assumption | with_reducible apply State.flrAll_keeps)

theorem State.resetConfig_keeps {md : Bool} {orig : State} {s : State} {fn : Requester} (hkeep : Keeps md orig s) :
    Keeps md orig (State.resetConfig s fn) := by
  unfold State.resetConfig
  try dsimp only
  repeat' (first
    | with_reducible assumption | (intro _; intros) | with_reducible apply State.setVec_keeps
    | with_reducible apply State.setBit_keeps | with_reducible refine forEach_keeps ?_ ?_
    | with_reducible apply Keeps.ite | with_reducible apply State.rest_keeps | rw [State.rest_eq] | split)

theorem execLinkReset_keeps {md : Bool} {orig : State} {h : Nat} {s : State} (hkeep : Keeps md orig s) :
    Keeps md orig (Answer.state (execLinkReset h s) s) := by
  unfold execLinkReset
  try unfold Answer.state
  try dsimp only
  repeat' (first
    | with_reducible assumption | (intro _; intros) | with_reducible apply State.resetConfig_keeps
    | with_reducible apply State.flrAll_keeps | with_reducible apply State.setPcie_keeps
    | with_reducible refine forEach_keeps ?_ ?_ | with_reducible apply Keeps.ite | split)

/-! ### Boot -/

theorem State.norWrite_keeps {md : Bool} {orig : State} {s : State} {o : Nat} {l : List Byte} (hkeep : Keeps md orig
    s) :
    Keeps md orig (State.norWrite s o l) := by
  induction l generalizing s o with
  | nil =>
    unfold State.norWrite
    try dsimp only
    repeat' (first
      | (with_reducible assumption)
      | fail
      | with_reducible apply State.rest_keeps
      | rw [State.rest_eq]
      | split)
  | cons x l ih =>
    unfold State.norWrite
    try dsimp only
    repeat' (first
      | with_reducible assumption | with_reducible apply ih | with_reducible apply State.rest_keeps
      | rw [State.rest_eq] | split)

theorem State.senseFuses_keeps {md : Bool} {orig : State} {s : State} (hkeep : Keeps md orig s) :
    Keeps md orig (State.senseFuses s) := by
  unfold State.senseFuses
  try dsimp only
  repeat' (first
    | with_reducible assumption | (intro _; intros) | with_reducible apply State.wrWords_keeps
    | with_reducible apply State.setF_keeps | with_reducible apply State.wrN_keeps
    | with_reducible refine forEach_keeps ?_ ?_ | with_reducible apply Keeps.ite | split)

theorem State.lanesIdle_keeps {md : Bool} {orig : State} {s : State} (hkeep : Keeps md orig s) :
    Keeps md orig (State.lanesIdle s) := by
  unfold State.lanesIdle
  try dsimp only
  repeat' (first
    | with_reducible assumption | (intro _; intros) | with_reducible apply State.emit_keeps
    | with_reducible refine forEach_keeps ?_ ?_)

theorem State.carry_keeps {orig : State} {s : State} {stage : Nat} (hkeep : Keeps true orig s) :
    Keeps true orig (State.carry s stage) :=
  hkeep.trans ⟨fun _ => rfl, fun _ => rfl, fun _ => rfl, rfl, (State.lanesIdle_keeps (Keeps.refl true s)).out, fun h => nomatch h⟩

theorem State.showPair_keeps {md : Bool} {orig : State} {s : State} {secondary : Bool} (hkeep : Keeps md orig s) :
    Keeps md orig (State.showPair s secondary) := by
  unfold State.showPair
  try dsimp only
  repeat' (first | with_reducible assumption | with_reducible apply State.setBit_keeps)

theorem execPorstAssert_keeps {orig : State} {cycles : Nat} {s : State} (hkeep : Keeps true orig s) :
    Keeps true orig (Answer.state (execPorstAssert cycles s) s) := by
  unfold execPorstAssert
  try unfold Answer.state
  try dsimp only
  repeat' (first
    | with_reducible assumption | with_reducible apply State.carry_keeps | with_reducible apply Keeps.ite
    | with_reducible apply State.rest_keeps | rw [State.rest_eq] | split)

theorem execPowerOnReset_keeps {orig : State} {straps : Nat} {s : State} (hkeep : Keeps true orig s) :
    Keeps true orig (Answer.state (execPowerOnReset straps s) s) := by
  unfold execPowerOnReset
  try unfold Answer.state
  try dsimp only
  repeat' (first
    | with_reducible assumption | (intro _; intros) | with_reducible apply State.showPair_keeps
    | with_reducible apply State.carry_keeps | with_reducible apply State.senseFuses_keeps
    | with_reducible apply State.raise_keeps | with_reducible apply State.setF_keeps
    | with_reducible refine forEach_keeps ?_ ?_)

theorem State.warm_keeps {orig : State} {s : State} {stage : Nat} (hkeep : Keeps true orig s) :
    Keeps true orig (State.warm s stage) := by
  unfold State.warm
  dsimp only
  apply State.showPair_keeps
  apply State.setF_keeps
  apply State.setF_keeps
  exact hkeep.trans ⟨fun h => Tab.filter_wfFrom regReset s.regs _ 0 h, fun h => h, fun _ => rfl, rfl, (State.lanesIdle_keeps (Keeps.refl true s)).out, fun h => nomatch h⟩

theorem State.warmReset_keeps {orig : State} {s : State} (hkeep : Keeps true orig s) :
    Keeps true orig (State.warmReset s) := by
  unfold State.warmReset
  try dsimp only
  repeat' (first
    | with_reducible assumption | with_reducible apply State.warm_keeps | with_reducible apply Keeps.ite | split)

theorem execWarmReset_keeps {orig : State} {cycles : Nat} {s : State} (hkeep : Keeps true orig s) :
    Keeps true orig (Answer.state (execWarmReset cycles s) s) := by
  unfold execWarmReset
  try unfold Answer.state
  try dsimp only
  repeat' (first
    | with_reducible assumption | with_reducible apply State.warmReset_keeps | with_reducible apply Keeps.ite | split)

theorem State.shutDown_keeps {orig : State} {s : State} (hkeep : Keeps true orig s) :
    Keeps true orig (State.shutDown s) := by
  unfold State.shutDown
  try dsimp only
  repeat' (first
    | with_reducible assumption | with_reducible apply State.warm_keeps | with_reducible apply State.setPcie_keeps
    | with_reducible apply State.rest_keeps | rw [State.rest_eq])

theorem State.setCopyErr_keeps {md : Bool} {orig : State} {s : State} {c : Nat} {code : Nat} (hkeep : Keeps md orig s) :
    Keeps md orig (State.setCopyErr s c code) := by
  unfold State.setCopyErr
  try dsimp only
  repeat' (first | with_reducible assumption | with_reducible apply State.setF_keeps)

theorem State.takeFirmware_keeps {md : Bool} {orig : State} {s : State} {b : List Byte} {copy : Nat} (hkeep : Keeps md
    orig s) :
    Keeps md orig (State.takeFirmware s b copy) := by
  unfold State.takeFirmware
  try dsimp only
  repeat' (first
    | with_reducible assumption | with_reducible apply State.wrWords_keeps | with_reducible apply State.wr64_keeps
    | with_reducible apply State.setF_keeps | with_reducible apply State.wrN_keeps
    | with_reducible apply State.rest_keeps | rw [State.rest_eq])

theorem State.tryCopies_keeps {md : Bool} {orig : State} {s : State} {l : List Nat} (hkeep : Keeps md orig s) :
    Keeps md orig ((State.tryCopies s l).1) := by
  induction l generalizing s with
  | nil =>
    unfold State.tryCopies
    try dsimp only
    repeat' (first
      | (with_reducible assumption)
      | (intro _; intros)
      | fail
      | with_reducible apply State.takeFirmware_keeps
      | with_reducible apply State.setCopyErr_keeps
      | with_reducible apply State.setF_keeps
      | (with_reducible refine forEach_keeps ?_ ?_)
      | with_reducible apply Keeps.ite
      | with_reducible apply State.rest_keeps
      | rw [State.rest_eq]
      | split)
  | cons x l ih =>
    unfold State.tryCopies
    try dsimp only
    repeat' (first
      | with_reducible assumption | (intro _; intros) | with_reducible apply ih
      | with_reducible apply State.takeFirmware_keeps | with_reducible apply State.setCopyErr_keeps
      | with_reducible apply State.setF_keeps | with_reducible refine forEach_keeps ?_ ?_
      | with_reducible apply Keeps.ite | with_reducible apply State.rest_keeps | rw [State.rest_eq] | split)

theorem State.stageTwo_keeps {md : Bool} {orig : State} {s : State} (hkeep : Keeps md orig s) :
    Keeps md orig (State.stageTwo s) := by
  unfold State.stageTwo
  try dsimp only
  repeat' (first
    | with_reducible assumption | (intro _; intros) | with_reducible apply State.setPcie_keeps
    | with_reducible apply State.setBit_keeps | with_reducible refine forEach_keeps ?_ ?_
    | with_reducible apply Keeps.ite | with_reducible apply State.rest_keeps | rw [State.rest_eq] | split)

theorem execFwCopyVerify_keeps {md : Bool} {orig : State} {s : State} (hkeep : Keeps md orig s) :
    Keeps md orig (Answer.state (execFwCopyVerify s) s) := by
  unfold execFwCopyVerify
  try unfold Answer.state
  try dsimp only
  repeat' (first
    | with_reducible assumption | with_reducible apply State.stageTwo_keeps
    | with_reducible apply State.tryCopies_keeps | with_reducible apply Keeps.ite
    | with_reducible apply State.rest_keeps | rw [State.rest_eq] | split)

theorem execDiceDerive_keeps {md : Bool} {orig : State} {s : State} (hkeep : Keeps md orig s) :
    Keeps md orig (Answer.state (execDiceDerive s) s) := by
  unfold execDiceDerive
  try unfold Answer.state
  try dsimp only
  repeat' (first
    | with_reducible assumption | with_reducible apply State.raise_keeps | with_reducible apply State.setBit_keeps
    | with_reducible apply Keeps.ite | with_reducible apply State.rest_keeps | rw [State.rest_eq] | split)

theorem State.bootPlan_keeps {orig : State} {s : State} {unplaced : Bool} {ecc : List (Nat × Bool)} (hkeep : Keeps
    true orig s) :
    Keeps true orig (State.bootPlan s unplaced ecc) := by
  unfold State.bootPlan
  try dsimp only
  repeat' (first
    | with_reducible assumption | with_reducible apply execCommitReplan_keeps
    | with_reducible apply execStagingDone_keeps | with_reducible apply execStage_keeps
    | with_reducible apply State.ddrWrite_keeps | with_reducible apply Answer.state_keeps
    | with_reducible apply State.wrN_keeps | with_reducible apply Keeps.ite | split)

theorem State.startFirmware_keeps {orig : State} {s : State} {unplaced : Bool} {ecc : List (Nat × Bool)} (hkeep :
    Keeps true orig s) :
    Keeps true orig (State.startFirmware s unplaced ecc) := by
  unfold State.startFirmware
  try dsimp only
  repeat' (first
    | with_reducible assumption | with_reducible apply State.bootPlan_keeps | with_reducible apply Keeps.ite
    | with_reducible apply State.rest_keeps | rw [State.rest_eq] | split)

theorem execFwStart_keeps {orig : State} {unplaced : Bool} {ecc : List (Nat × Bool)} {s : State} (hkeep : Keeps true
    orig s) :
    Keeps true orig (Answer.state (execFwStart unplaced ecc s) s) := by
  unfold execFwStart
  try unfold Answer.state
  try dsimp only
  repeat' (first
    | with_reducible assumption | with_reducible apply State.startFirmware_keeps | with_reducible apply Keeps.ite
    | split)

theorem State.secCommand_keeps {md : Bool} {orig : State} {s : State} {req : Requester} {f : State → State} (hkeep :
    Keeps md orig s) (hstep : ∀ y, Keeps md orig y → Keeps md orig (f  y)) :
    Keeps md orig (State.secCommand s req f) := by
  unfold State.secCommand
  try dsimp only
  repeat' (first
    | with_reducible assumption | (intro _; intros) | with_reducible apply hstep
    | with_reducible refine State.guarded_keeps ?_ ?_ | with_reducible apply State.result_keeps
    | with_reducible apply Answer.state_keeps | with_reducible apply State.inc_keeps | with_reducible apply Keeps.ite
    | split)

theorem State.program_keeps {md : Bool} {orig : State} {s : State} {f : FuseSt} (hkeep : Keeps md orig s) :
    Keeps md orig (State.program s f) := by
  unfold State.program
  try dsimp only
  repeat' (first
    | with_reducible assumption | with_reducible apply State.senseFuses_keeps | with_reducible apply State.rest_keeps
    | rw [State.rest_eq])

theorem execRollbackSet_keeps {md : Bool} {orig : State} {req : Requester} {s : State} (hkeep : Keeps md orig s) :
    Keeps md orig (Answer.state (execRollbackSet req s) s) := by
  unfold execRollbackSet
  try unfold Answer.state
  try dsimp only
  repeat' (first
    | with_reducible assumption | (intro _; intros) | with_reducible apply State.program_keeps
    | with_reducible refine State.secCommand_keeps ?_ ?_ | with_reducible apply State.result_keeps
    | with_reducible apply Keeps.ite | with_reducible apply State.rest_keeps | rw [State.rest_eq] | split)

theorem execRevoke_keeps {md : Bool} {orig : State} {req : Requester} {s : State} (hkeep : Keeps md orig s) :
    Keeps md orig (Answer.state (execRevoke req s) s) := by
  unfold execRevoke
  try unfold Answer.state
  try dsimp only
  repeat' (first
    | with_reducible assumption | (intro _; intros) | with_reducible apply State.program_keeps
    | with_reducible refine State.secCommand_keeps ?_ ?_ | with_reducible apply State.result_keeps
    | with_reducible apply Answer.state_keeps | with_reducible apply Keeps.ite
    | with_reducible apply State.rest_keeps | rw [State.rest_eq] | split)

theorem execKeyWrite_keeps {md : Bool} {orig : State} {req : Requester} {s : State} (hkeep : Keeps md orig s) :
    Keeps md orig (Answer.state (execKeyWrite req s) s) := by
  unfold execKeyWrite
  try unfold Answer.state
  try dsimp only
  repeat' (first
    | with_reducible assumption | (intro _; intros) | with_reducible apply State.program_keeps
    | with_reducible refine State.secCommand_keeps ?_ ?_ | with_reducible apply State.result_keeps
    | with_reducible apply Answer.state_keeps | with_reducible apply Keeps.ite
    | with_reducible apply State.rest_keeps | rw [State.rest_eq] | split)

theorem execSecCmdReserved_keeps {md : Bool} {orig : State} {req : Requester} {s : State} (hkeep : Keeps md orig s) :
    Keeps md orig (Answer.state (execSecCmdReserved req s) s) := by
  unfold execSecCmdReserved
  try unfold Answer.state
  try dsimp only
  repeat' (first
    | with_reducible assumption | (intro _; intros) | with_reducible refine State.secCommand_keeps ?_ ?_
    | with_reducible apply State.result_keeps | with_reducible apply Answer.state_keeps)

/-! ### Mgt -/

theorem State.mgtUp_keeps {md : Bool} {orig : State} {s : State} (hkeep : Keeps md orig s) :
    Keeps md orig (State.mgtUp s) := by
  unfold State.mgtUp
  try dsimp only
  repeat' (first
    | with_reducible assumption | with_reducible apply State.finish_keeps | with_reducible apply State.setBit_keeps
    | with_reducible apply Keeps.ite | with_reducible apply State.rest_keeps | rw [State.rest_eq] | split)

theorem State.reply_keeps {md : Bool} {orig : State} {s : State} {r : Road} {b : List Byte} {status : Nat} {body :
    List Byte} (hkeep : Keeps md orig s) :
    Keeps md orig (State.reply s r b status body) := by
  unfold State.reply
  try dsimp only
  repeat' (first
    | with_reducible assumption | with_reducible apply State.event_keeps | with_reducible apply State.emit_keeps
    | with_reducible apply State.wrWords_keeps | with_reducible apply State.hwSet_keeps
    | with_reducible apply State.setBit_keeps | with_reducible apply State.rest_keeps | rw [State.rest_eq] | split)

theorem State.doInfo_keeps {md : Bool} {orig : State} {s : State} (hkeep : Keeps md orig s) :
    Keeps md orig (State.doInfo s).1 := by
  unfold State.doInfo
  try dsimp only
  repeat' (first | with_reducible assumption)

theorem State.doSensors_keeps {md : Bool} {orig : State} {s : State} (hkeep : Keeps md orig s) :
    Keeps md orig (State.doSensors s).1 := by
  unfold State.doSensors
  try dsimp only
  repeat' (first | with_reducible assumption)

theorem State.doBoard_keeps {md : Bool} {orig : State} {s : State} (hkeep : Keeps md orig s) :
    Keeps md orig (State.doBoard s).1 := by
  unfold State.doBoard
  try dsimp only
  repeat' (first | with_reducible assumption)

theorem State.setMgView_keeps {md : Bool} {orig : State} {s : State} {u : Nat} {code : Nat} (hkeep : Keeps md orig s) :
    Keeps md orig (State.setMgView s u code) := by
  unfold State.setMgView
  try dsimp only
  repeat' (first
    | with_reducible assumption | with_reducible apply State.wrN_keeps | with_reducible apply Keeps.ite | split)

theorem State.overrideView_keeps {md : Bool} {orig : State} {s : State} {u : Nat} {code : Nat} (hkeep : Keeps md orig
    s) :
    Keeps md orig (State.overrideView s u code) := by
  unfold State.overrideView
  try dsimp only
  repeat' (first
    | with_reducible assumption | with_reducible apply State.setMgView_keeps | with_reducible apply Keeps.ite
    | with_reducible apply State.rest_keeps | rw [State.rest_eq] | split)

theorem State.doView_keeps {md : Bool} {orig : State} {s : State} {b : List Byte} {set : Bool} (hkeep : Keeps md orig
    s) :
    Keeps md orig (State.doView s b set).1 := by
  unfold State.doView
  try dsimp only
  repeat' (first
    | with_reducible assumption | with_reducible apply State.overrideView_keeps
    | with_reducible apply Answer.state_keeps | with_reducible apply Keeps.ite
    | with_reducible apply State.rest_keeps | rw [State.rest_eq] | split)

theorem State.doFwWrite_keeps {md : Bool} {orig : State} {s : State} {b : List Byte} (hkeep : Keeps md orig s) :
    Keeps md orig (State.doFwWrite s b).1 := by
  unfold State.doFwWrite
  try dsimp only
  repeat' (first
    | with_reducible assumption | with_reducible apply State.norWrite_keeps | with_reducible apply Answer.state_keeps
    | with_reducible apply Keeps.ite | with_reducible apply State.rest_keeps | rw [State.rest_eq] | split)

theorem State.doFwVerify_keeps {md : Bool} {orig : State} {s : State} (hkeep : Keeps md orig s) :
    Keeps md orig (State.doFwVerify s).1 := by
  unfold State.doFwVerify
  try dsimp only
  repeat' (first
    | with_reducible assumption | with_reducible apply Answer.state_keeps | with_reducible apply State.rest_keeps
    | rw [State.rest_eq] | split)

theorem State.doFwActivate_keeps {md : Bool} {orig : State} {s : State} (hkeep : Keeps md orig s) :
    Keeps md orig (State.doFwActivate s).1 := by
  unfold State.doFwActivate
  try dsimp only
  repeat' (first
    | with_reducible assumption | with_reducible apply State.norWrite_keeps | with_reducible apply Answer.state_keeps
    | with_reducible apply Keeps.ite | with_reducible apply State.rest_keeps | rw [State.rest_eq] | split)

theorem State.ramWrite_keeps {md : Bool} {orig : State} {s : State} {o : Nat} {l : List Byte} (hkeep : Keeps md orig
    s) :
    Keeps md orig (State.ramWrite s o l) := by
  induction l generalizing s o with
  | nil =>
    unfold State.ramWrite
    try dsimp only
    repeat' (first
      | (with_reducible assumption)
      | fail
      | with_reducible apply State.rest_keeps
      | rw [State.rest_eq]
      | split)
  | cons x l ih =>
    unfold State.ramWrite
    try dsimp only
    repeat' (first
      | with_reducible assumption | with_reducible apply ih | with_reducible apply State.rest_keeps
      | rw [State.rest_eq] | split)

theorem State.doFwLoad_keeps {orig : State} {s : State} {b : List Byte} (hkeep : Keeps true orig s) :
    Keeps true orig (State.doFwLoad s b).1 := by
  unfold State.doFwLoad
  try dsimp only
  repeat' (first
    | with_reducible assumption | with_reducible apply State.ramWrite_keeps | with_reducible apply State.mgtUp_keeps
    | with_reducible apply State.startFirmware_keeps | with_reducible apply State.takeFirmware_keeps
    | with_reducible apply Answer.state_keeps | with_reducible apply Keeps.ite | split)

theorem State.doPlanWrite_keeps {orig : State} {s : State} {b : List Byte} (hkeep : Keeps true orig s) :
    Keeps true orig (State.doPlanWrite s b).1 := by
  unfold State.doPlanWrite
  try dsimp only
  repeat' (first
    | with_reducible assumption | with_reducible apply State.ddrWrite_keeps | with_reducible apply Answer.state_keeps
    | with_reducible apply Keeps.ite | split)

theorem State.doSlotWrite_keeps {md : Bool} {orig : State} {s : State} {b : List Byte} (hkeep : Keeps md orig s) :
    Keeps md orig (State.doSlotWrite s b).1 := by
  unfold State.doSlotWrite
  try dsimp only
  repeat' (first
    | with_reducible assumption | with_reducible apply State.norWrite_keeps | with_reducible apply Keeps.ite | split)

theorem State.doLog_keeps {md : Bool} {orig : State} {s : State} {b : List Byte} (hkeep : Keeps md orig s) :
    Keeps md orig (State.doLog s b).1 := by
  unfold State.doLog
  try dsimp only
  repeat' (first | with_reducible assumption)

theorem State.doRequest_keeps {orig : State} {s : State} {op : Nat} {b : List Byte} (hkeep : Keeps true orig s) :
    Keeps true orig (State.doRequest s op b).1 := by
  unfold State.doRequest
  try dsimp only
  repeat' (first
    | with_reducible assumption | with_reducible apply State.doLog_keeps
    | with_reducible apply State.doSlotWrite_keeps | with_reducible apply State.doPlanWrite_keeps
    | with_reducible apply State.doFwLoad_keeps | with_reducible apply State.doFwActivate_keeps
    | with_reducible apply State.doFwVerify_keeps | with_reducible apply State.doFwWrite_keeps
    | with_reducible apply State.doView_keeps | with_reducible apply State.doBoard_keeps
    | with_reducible apply State.doSensors_keeps | with_reducible apply State.doInfo_keeps
    | with_reducible apply State.rest_keeps | rw [State.rest_eq] | split)

theorem State.serve_keeps {orig : State} {s : State} {r : Road} {msg : List Byte} {want : Option Nat} (hkeep : Keeps
    true orig s) :
    Keeps true orig (State.serve s r msg want) := by
  unfold State.serve
  try dsimp only
  repeat' (first
    | with_reducible assumption | with_reducible apply State.doRequest_keeps | with_reducible apply State.reply_keeps
    | with_reducible apply Answer.state_keeps | with_reducible apply Keeps.ite
    | with_reducible apply State.rest_keeps | rw [State.rest_eq] | split)

theorem execGetInfo_keeps {orig : State} {r : Road} {msg : List Byte} {s : State} (hkeep : Keeps true orig s) :
    Keeps true orig (Answer.state (execGetInfo r msg s) s) := by
  unfold execGetInfo
  try unfold Answer.state
  try dsimp only
  repeat' (first | with_reducible assumption | with_reducible apply State.serve_keeps)

theorem execGetSensors_keeps {orig : State} {r : Road} {msg : List Byte} {s : State} (hkeep : Keeps true orig s) :
    Keeps true orig (Answer.state (execGetSensors r msg s) s) := by
  unfold execGetSensors
  try unfold Answer.state
  try dsimp only
  repeat' (first | with_reducible assumption | with_reducible apply State.serve_keeps)

theorem execGetBoard_keeps {orig : State} {r : Road} {msg : List Byte} {s : State} (hkeep : Keeps true orig s) :
    Keeps true orig (Answer.state (execGetBoard r msg s) s) := by
  unfold execGetBoard
  try unfold Answer.state
  try dsimp only
  repeat' (first | with_reducible assumption | with_reducible apply State.serve_keeps)

theorem execSetMgView_keeps {orig : State} {r : Road} {msg : List Byte} {s : State} (hkeep : Keeps true orig s) :
    Keeps true orig (Answer.state (execSetMgView r msg s) s) := by
  unfold execSetMgView
  try unfold Answer.state
  try dsimp only
  repeat' (first | with_reducible assumption | with_reducible apply State.serve_keeps)

theorem execClearMgView_keeps {orig : State} {r : Road} {msg : List Byte} {s : State} (hkeep : Keeps true orig s) :
    Keeps true orig (Answer.state (execClearMgView r msg s) s) := by
  unfold execClearMgView
  try unfold Answer.state
  try dsimp only
  repeat' (first | with_reducible assumption | with_reducible apply State.serve_keeps)

theorem execFwWrite_keeps {orig : State} {r : Road} {msg : List Byte} {s : State} (hkeep : Keeps true orig s) :
    Keeps true orig (Answer.state (execFwWrite r msg s) s) := by
  unfold execFwWrite
  try unfold Answer.state
  try dsimp only
  repeat' (first | with_reducible assumption | with_reducible apply State.serve_keeps)

theorem execFwVerify_keeps {orig : State} {r : Road} {msg : List Byte} {s : State} (hkeep : Keeps true orig s) :
    Keeps true orig (Answer.state (execFwVerify r msg s) s) := by
  unfold execFwVerify
  try unfold Answer.state
  try dsimp only
  repeat' (first | with_reducible assumption | with_reducible apply State.serve_keeps)

theorem execFwActivate_keeps {orig : State} {r : Road} {msg : List Byte} {s : State} (hkeep : Keeps true orig s) :
    Keeps true orig (Answer.state (execFwActivate r msg s) s) := by
  unfold execFwActivate
  try unfold Answer.state
  try dsimp only
  repeat' (first | with_reducible assumption | with_reducible apply State.serve_keeps)

theorem execFwLoad_keeps {orig : State} {r : Road} {msg : List Byte} {s : State} (hkeep : Keeps true orig s) :
    Keeps true orig (Answer.state (execFwLoad r msg s) s) := by
  unfold execFwLoad
  try unfold Answer.state
  try dsimp only
  repeat' (first | with_reducible assumption | with_reducible apply State.serve_keeps)

theorem execSysReset_keeps {orig : State} {r : Road} {msg : List Byte} {s : State} (hkeep : Keeps true orig s) :
    Keeps true orig (Answer.state (execSysReset r msg s) s) := by
  unfold execSysReset
  try unfold Answer.state
  try dsimp only
  repeat' (first | with_reducible assumption | with_reducible apply State.serve_keeps)

theorem execPlanWrite_keeps {orig : State} {r : Road} {msg : List Byte} {s : State} (hkeep : Keeps true orig s) :
    Keeps true orig (Answer.state (execPlanWrite r msg s) s) := by
  unfold execPlanWrite
  try unfold Answer.state
  try dsimp only
  repeat' (first | with_reducible assumption | with_reducible apply State.serve_keeps)

theorem execPlanSlotWrite_keeps {orig : State} {r : Road} {msg : List Byte} {s : State} (hkeep : Keeps true orig s) :
    Keeps true orig (Answer.state (execPlanSlotWrite r msg s) s) := by
  unfold execPlanSlotWrite
  try unfold Answer.state
  try dsimp only
  repeat' (first | with_reducible assumption | with_reducible apply State.serve_keeps)

theorem execGetLog_keeps {orig : State} {r : Road} {msg : List Byte} {s : State} (hkeep : Keeps true orig s) :
    Keeps true orig (Answer.state (execGetLog r msg s) s) := by
  unfold execGetLog
  try unfold Answer.state
  try dsimp only
  repeat' (first | with_reducible assumption | with_reducible apply State.serve_keeps)

theorem execSetNet_keeps {orig : State} {r : Road} {msg : List Byte} {s : State} (hkeep : Keeps true orig s) :
    Keeps true orig (Answer.state (execSetNet r msg s) s) := by
  unfold execSetNet
  try unfold Answer.state
  try dsimp only
  repeat' (first | with_reducible assumption | with_reducible apply State.serve_keeps)

theorem State.spdm_keeps {md : Bool} {orig : State} {s : State} {smbus : Bool} {msg : List Byte} {need : Nat} {next :
    Nat → Nat} (hkeep : Keeps md orig s) :
    Keeps md orig (State.spdm s smbus msg need next) := by
  unfold State.spdm
  try dsimp only
  repeat' (first
    | with_reducible assumption | with_reducible apply State.emit_keeps | with_reducible apply Keeps.ite
    | with_reducible apply State.rest_keeps | rw [State.rest_eq] | split)

theorem execGetVersion_keeps {md : Bool} {orig : State} {smbus : Bool} {msg : List Byte} {s : State} (hkeep : Keeps md
    orig s) :
    Keeps md orig (Answer.state (execGetVersion smbus msg s) s) := by
  unfold execGetVersion
  try unfold Answer.state
  try dsimp only
  repeat' (first | with_reducible assumption | with_reducible apply State.spdm_keeps)

theorem execGetCapabilities_keeps {md : Bool} {orig : State} {smbus : Bool} {msg : List Byte} {s : State} (hkeep :
    Keeps md orig s) :
    Keeps md orig (Answer.state (execGetCapabilities smbus msg s) s) := by
  unfold execGetCapabilities
  try unfold Answer.state
  try dsimp only
  repeat' (first | with_reducible assumption | with_reducible apply State.spdm_keeps)

theorem execNegotiateAlgorithms_keeps {md : Bool} {orig : State} {smbus : Bool} {msg : List Byte} {s : State} (hkeep :
    Keeps md orig s) :
    Keeps md orig (Answer.state (execNegotiateAlgorithms smbus msg s) s) := by
  unfold execNegotiateAlgorithms
  try unfold Answer.state
  try dsimp only
  repeat' (first | with_reducible assumption | with_reducible apply State.spdm_keeps)

theorem execGetDigests_keeps {md : Bool} {orig : State} {smbus : Bool} {msg : List Byte} {s : State} (hkeep : Keeps md
    orig s) :
    Keeps md orig (Answer.state (execGetDigests smbus msg s) s) := by
  unfold execGetDigests
  try unfold Answer.state
  try dsimp only
  repeat' (first | with_reducible assumption | with_reducible apply State.spdm_keeps | with_reducible apply id_keeps)

theorem execGetCertificate_keeps {md : Bool} {orig : State} {smbus : Bool} {msg : List Byte} {s : State} (hkeep :
    Keeps md orig s) :
    Keeps md orig (Answer.state (execGetCertificate smbus msg s) s) := by
  unfold execGetCertificate
  try unfold Answer.state
  try dsimp only
  repeat' (first | with_reducible assumption | with_reducible apply State.spdm_keeps | with_reducible apply id_keeps)

theorem execChallenge_keeps {md : Bool} {orig : State} {smbus : Bool} {msg : List Byte} {s : State} (hkeep : Keeps md
    orig s) :
    Keeps md orig (Answer.state (execChallenge smbus msg s) s) := by
  unfold execChallenge
  try unfold Answer.state
  try dsimp only
  repeat' (first | with_reducible assumption | with_reducible apply State.spdm_keeps | with_reducible apply id_keeps)

theorem execGetMeasurements_keeps {md : Bool} {orig : State} {smbus : Bool} {msg : List Byte} {s : State} (hkeep :
    Keeps md orig s) :
    Keeps md orig (Answer.state (execGetMeasurements smbus msg s) s) := by
  unfold execGetMeasurements
  try unfold Answer.state
  try dsimp only
  repeat' (first | with_reducible assumption | with_reducible apply State.spdm_keeps | with_reducible apply id_keeps)

theorem execSetEndpointId_keeps {md : Bool} {orig : State} {smbus : Bool} {eid : Nat} {s : State} (hkeep : Keeps md
    orig s) :
    Keeps md orig (Answer.state (execSetEndpointId smbus eid s) s) := by
  unfold execSetEndpointId
  try unfold Answer.state
  try dsimp only
  repeat' (first
    | with_reducible assumption | with_reducible apply State.emit_keeps | with_reducible apply Keeps.ite
    | with_reducible apply State.rest_keeps | rw [State.rest_eq] | split)

theorem execMgtPortReceive_keeps {orig : State} {b : List Byte} {s : State} (hkeep : Keeps true orig s) :
    Keeps true orig (Answer.state (execMgtPortReceive b s) s) := by
  unfold execMgtPortReceive
  try unfold Answer.state
  try dsimp only
  repeat' (first
    | with_reducible assumption | with_reducible apply State.serve_keeps | with_reducible apply State.emit_keeps
    | with_reducible apply Keeps.ite | split)

theorem execRestart_keeps {md : Bool} {orig : State} {req : Requester} {s : State} (hkeep : Keeps md orig s) :
    Keeps md orig (Answer.state (execRestart req s) s) := by
  unfold execRestart
  try unfold Answer.state
  try dsimp only
  repeat' (first
    | with_reducible assumption | (intro _; intros) | with_reducible apply State.mgtStart_keeps
    | with_reducible refine State.guarded_keeps ?_ ?_ | with_reducible apply State.defer_keeps
    | with_reducible apply State.setBit_keeps)

theorem execMgtCmdReserved_keeps {md : Bool} {orig : State} {req : Requester} {s : State} (hkeep : Keeps md orig s) :
    Keeps md orig (Answer.state (execMgtCmdReserved req s) s) := by
  unfold execMgtCmdReserved
  try unfold Answer.state
  try dsimp only
  repeat' (first
    | with_reducible assumption | (intro _; intros) | with_reducible refine State.guarded_keeps ?_ ?_
    | with_reducible apply State.result_keeps | with_reducible apply Answer.state_keeps)

theorem execMgtFwFault_keeps {md : Bool} {orig : State} {sram : Bool} {s : State} (hkeep : Keeps md orig s) :
    Keeps md orig (Answer.state (execMgtFwFault sram s) s) := by
  unfold execMgtFwFault
  try unfold Answer.state
  try dsimp only
  repeat' (first
    | with_reducible assumption | with_reducible apply State.mgtStart_keeps | with_reducible apply State.raise_keeps
    | with_reducible apply Keeps.ite | split)

theorem execMgtRestartDone_keeps {md : Bool} {orig : State} {s : State} (hkeep : Keeps md orig s) :
    Keeps md orig (Answer.state (execMgtRestartDone s) s) := by
  unfold execMgtRestartDone
  try unfold Answer.state
  try dsimp only
  repeat' (first
    | with_reducible assumption | with_reducible apply State.mgtUp_keeps | with_reducible apply State.tryCopies_keeps
    | with_reducible apply Keeps.ite | with_reducible apply State.rest_keeps | rw [State.rest_eq] | split)

theorem execSensorSample_keeps {orig : State} {temps : List Int} {rails : List (Nat × Nat)} {amps : Nat} {s : State}
    (hkeep : Keeps true orig s) :
    Keeps true orig (Answer.state (execSensorSample temps rails amps s) s) := by
  unfold execSensorSample
  try unfold Answer.state
  try dsimp only
  repeat' (first
    | with_reducible assumption | (intro _; intros) | with_reducible apply State.shutDown_keeps
    | with_reducible apply State.condition_keeps | with_reducible apply State.raise_keeps
    | with_reducible apply State.wrN_keeps | with_reducible refine forEach_keeps ?_ ?_
    | with_reducible refine foldl_keeps ?_ ?_ | with_reducible apply Keeps.ite
    | with_reducible apply State.rest_keeps | rw [State.rest_eq] | split)

theorem execMgViewWrite_keeps {md : Bool} {orig : State} {req : Requester} {u : Nat} {v : Reg} {s : State} (hkeep :
    Keeps md orig s) :
    Keeps md orig (Answer.state (execMgViewWrite req u v s) s) := by
  unfold execMgViewWrite
  try unfold Answer.state
  try dsimp only
  repeat' (first
    | with_reducible assumption | with_reducible apply State.overrideView_keeps
    | with_reducible apply State.setMgView_keeps | with_reducible apply State.csrTimeout_keeps
    | with_reducible apply State.inc_keeps | with_reducible apply Keeps.ite | with_reducible apply State.rest_keeps
    | rw [State.rest_eq] | split)

/-! ### Access -/

theorem State.readKey_keeps {md : Bool} {orig : State} {s : State} {r : Requester} {k : Nat} (hkeep : Keeps md orig s) :
    Keeps md orig (State.readKey s r k).2 := by
  unfold State.readKey
  try dsimp only
  repeat' (first
    | with_reducible assumption | with_reducible apply State.setWide_keeps | with_reducible apply State.wrWords_keeps
    | with_reducible apply State.wr_keeps | with_reducible apply Keeps.ite | with_reducible apply State.rest_keeps
    | rw [State.rest_eq] | split)

theorem State.answer_keeps {md : Bool} {orig : State} {s : State} {r : Requester} {v : Option Reg} (hkeep : Keeps md
    orig s) :
    Keeps md orig (State.answer s r v) := by
  unfold State.answer
  try dsimp only
  repeat' (first | with_reducible assumption | with_reducible apply State.emit_keeps)

theorem State.wakeReg_keeps {md : Bool} {orig : State} {s : State} {k : Nat} (hkeep : Keeps md orig s) :
    Keeps md orig (State.wakeReg s k) := by
  unfold State.wakeReg
  try dsimp only
  repeat' (first
    | with_reducible assumption | with_reducible apply State.wake_keeps | with_reducible apply State.rest_keeps
    | rw [State.rest_eq] | split)

theorem State.busRead_keeps {md : Bool} {orig : State} {s : State} {r : Requester} {off : Nat} (hkeep : Keeps md orig
    s) :
    Keeps md orig (State.busRead s r off).2 := by
  unfold State.busRead
  try dsimp only
  repeat' (first
    | with_reducible assumption | with_reducible apply State.wakeReg_keeps | with_reducible apply State.readKey_keeps
    | with_reducible apply State.csrTimeout_keeps | with_reducible apply Keeps.ite
    | with_reducible apply State.rest_keeps | rw [State.rest_eq] | split)

theorem State.readOne_keeps {md : Bool} {orig : State} {s : State} {r : Requester} {off : Nat} (hkeep : Keeps md orig
    s) :
    Keeps md orig (State.readOne s r off) := by
  unfold State.readOne
  try dsimp only
  repeat' (first
    | with_reducible assumption | with_reducible apply State.busRead_keeps | with_reducible apply State.answer_keeps)

theorem State.readAccess_keeps {md : Bool} {orig : State} {s : State} {r : Requester} {off : Nat} {size : Nat} (hkeep
    : Keeps md orig s) :
    Keeps md orig (State.readAccess s r off size) := by
  unfold State.readAccess
  try dsimp only
  repeat' (first
    | with_reducible assumption | with_reducible apply State.readOne_keeps | with_reducible apply State.answer_keeps
    | with_reducible apply Keeps.ite | split)

theorem State.plainWrite_keeps {md : Bool} {orig : State} {s : State} {k : Nat} {v : Reg} (hkeep : Keeps md orig s) :
    Keeps md orig (State.plainWrite s k v) := by
  unfold State.plainWrite
  try dsimp only
  repeat' (first
    | with_reducible assumption | with_reducible apply State.merge_keeps | with_reducible apply State.wrLater_keeps
    | with_reducible apply State.wr_keeps | with_reducible apply Keeps.ite | with_reducible apply State.rest_keeps
    | rw [State.rest_eq] | split)

theorem State.holdWord_keeps {md : Bool} {orig : State} {s : State} {r : Requester} {k : Nat} {v : Reg} (hkeep : Keeps
    md orig s) {res : State} (ht : State.holdWord s r k v = some res) :
    Keeps md orig res := by
  unfold State.holdWord at ht
  try dsimp only at ht
  repeat' (split at ht)
  all_goals first | contradiction | skip
  all_goals try (cases ht)
  all_goals try dsimp only
  all_goals repeat' (first
    | with_reducible assumption | with_reducible apply State.setWide_keeps | with_reducible apply Keeps.ite
    | with_reducible apply State.rest_keeps | rw [State.rest_eq] | split)

theorem State.putKey_keeps {md : Bool} {orig : State} {s : State} {r : Requester} {k : Nat} {v : Reg} (hkeep : Keeps
    md orig s) :
    Keeps md orig (State.putKey s r k v) := by
  unfold State.putKey
  try dsimp only
  repeat' (first
    | with_reducible assumption | with_reducible apply State.plainWrite_keeps
    | with_reducible apply State.txeqWritten_keeps | with_reducible apply State.setWide_keeps
    | with_reducible apply State.inc_keeps | with_reducible apply State.wrWords_keeps
    | with_reducible apply Keeps.ite | with_reducible apply State.rest_keeps | rw [State.rest_eq] | split)

theorem commandOnce_keeps {orig s : State} {r : Requester} {k : Nat} {v : Reg} {g : State → Answer} (hkeep : Keeps
    true orig s) (hg : commandOnce r k v = some g) :
    Keeps true orig (Answer.state (g s) s) := by
  unfold commandOnce at hg
  try dsimp only at hg
  repeat' (split at hg)
  all_goals first | contradiction | skip
  all_goals try (cases hg)
  all_goals repeat' (first
    | with_reducible assumption | with_reducible apply execMgtCmdReserved_keeps
    | with_reducible apply execRestart_keeps | with_reducible apply execSecCmdReserved_keeps
    | with_reducible apply execKeyWrite_keeps | with_reducible apply execRevoke_keeps
    | with_reducible apply execRollbackSet_keeps | with_reducible apply execTickCmdReserved_keeps
    | with_reducible apply execRecal_keeps | with_reducible apply execResync_keeps
    | with_reducible apply execPromote_keeps | with_reducible apply execPlanCmdReserved_keeps
    | with_reducible apply execPlanAbort_keeps | with_reducible apply execCommitReplan_keeps
    | with_reducible apply execCommitAmend_keeps | with_reducible apply execStage_keeps
    | with_reducible apply execFcrCmdReserved_keeps | with_reducible apply execUncontain_keeps
    | with_reducible apply execFcrRelease_keeps | with_reducible apply execStrCmdReserved_keeps
    | with_reducible apply execStrRelease_keeps | with_reducible apply execContain_keeps
    | with_reducible apply execRecovReset_keeps | with_reducible apply execRdnCmdReserved_keeps
    | with_reducible apply execRdnResync_keeps | with_reducible apply execRdnRelease_keeps
    | with_reducible apply execClaim_keeps | with_reducible apply execHandover_keeps
    | with_reducible apply execPrzInCmdReserved_keeps | with_reducible apply execPrzBreak_keeps
    | with_reducible apply execSetReorder_keeps | with_reducible apply execSetPathOfs_keeps
    | with_reducible apply execPgCmdReserved_keeps | with_reducible apply execPgRelease_keeps
    | with_reducible apply execPgContain_keeps | with_reducible apply Keeps.ite
    | with_reducible apply State.rest_keeps | rw [State.rest_eq] | split)

theorem commandUnit_keeps {md : Bool} {orig s : State} {r : Requester} {k : Nat} {v : Reg} {g : State → Answer} (hkeep
    : Keeps md orig s) (hg : commandUnit r k v = some g) :
    Keeps md orig (Answer.state (g s) s) := by
  unfold commandUnit at hg
  try dsimp only at hg
  repeat' (split at hg)
  all_goals first | contradiction | skip
  all_goals try (cases hg)
  all_goals repeat' (first
    | with_reducible assumption | with_reducible apply execQmCmdReserved_keeps
    | with_reducible apply execResetIdx_keeps | with_reducible apply execQmDisable_keeps
    | with_reducible apply execResume_keeps | with_reducible apply execQmStop_keeps
    | with_reducible apply execQmRelease_keeps | with_reducible apply execQmHold_keeps
    | with_reducible apply execQmEnable_keeps | with_reducible apply execSvpDisable_keeps
    | with_reducible apply execSvpEnable_keeps | with_reducible apply execSvpLoad_keeps
    | with_reducible apply execTxeCmdReserved_keeps | with_reducible apply execGcbDisable_keeps
    | with_reducible apply execGcbEnable_keeps | with_reducible apply execGcbCommit_keeps
    | with_reducible apply execLoadPending_keeps | with_reducible apply Keeps.ite
    | with_reducible apply State.rest_keeps | rw [State.rest_eq] | split)

theorem commandEach_keeps {orig s : State} {r : Requester} {k : Nat} {v : Reg} {g : State → Answer} (hkeep : Keeps
    true orig s) (hg : commandEach r k v = some g) :
    Keeps true orig (Answer.state (g s) s) := by
  unfold commandEach at hg
  try dsimp only at hg
  repeat' (split at hg)
  all_goals first | contradiction | skip
  all_goals try (cases hg)
  all_goals repeat' (first
    | with_reducible assumption | with_reducible apply execPrtCmdReserved_keeps
    | with_reducible apply execRetrain_keeps | with_reducible apply execTsuCmdReserved_keeps
    | with_reducible apply execEpochNext_keeps | with_reducible apply execAdjPhase_keeps
    | with_reducible apply execTsuSet_keeps | with_reducible apply execAccept_keeps
    | with_reducible apply execDmaCmdReserved_keeps | with_reducible apply execDmaDisable_keeps
    | with_reducible apply execDmaClear_keeps | with_reducible apply execDmaStop_keeps
    | with_reducible apply execDmaCommit_keeps | with_reducible apply execDmaEnable_keeps
    | with_reducible apply execSchCmdReserved_keeps | with_reducible apply execWithdraw_keeps
    | with_reducible apply execCommitNext_keeps | with_reducible apply execCommitAt_keeps
    | with_reducible apply Keeps.ite | with_reducible apply State.rest_keeps | rw [State.rest_eq] | split)

theorem commandAt_keeps {orig s : State} {r : Requester} {k : Nat} {v : Reg} {g : State → Answer} (hkeep : Keeps true
    orig s) (hg : commandAt r k v = some g) :
    Keeps true orig (Answer.state (g s) s) := by
  unfold commandAt at hg
  try dsimp only at hg
  repeat' (split at hg)
  all_goals first | contradiction | skip
  all_goals try (cases hg)
  all_goals repeat' (first
    | with_reducible assumption | with_reducible (refine commandEach_keeps ?_ (by assumption))
    | with_reducible (refine commandUnit_keeps ?_ (by assumption))
    | with_reducible (refine commandOnce_keeps ?_ (by assumption)) | with_reducible apply State.rest_keeps
    | rw [State.rest_eq] | split)

theorem State.fieldsWritten_keeps {md : Bool} {orig : State} {s : State} {k : Nat} (hkeep : Keeps md orig s) :
    Keeps md orig (State.fieldsWritten s k) := by
  unfold State.fieldsWritten
  try dsimp only
  repeat' (first
    | with_reducible assumption | with_reducible apply State.tryClaim_keeps
    | with_reducible apply State.hostState_keeps | with_reducible apply Keeps.ite
    | with_reducible apply State.rest_keeps | rw [State.rest_eq] | split)

theorem State.writeCommand_keeps {orig : State} {s : State} {r : Requester} {k : Nat} {v : Reg} (hkeep : Keeps true
    orig s) :
    Keeps true orig (State.writeCommand s r k v) := by
  have h1 : Keeps true orig ((s.plainWrite k v).fieldsWritten k) := State.fieldsWritten_keeps (State.plainWrite_keeps hkeep)
  unfold State.writeCommand
  split
  · split
    · exact State.inc_keeps hkeep
    · dsimp only
      split
      · next heq => exact commandAt_keeps h1 heq
      · exact h1
  · exact State.guarded_keeps hkeep (fun _ h => h)

theorem State.mailboxDoorbell_keeps {md : Bool} {orig : State} {s : State} {m : Nat} {len : Nat} (hkeep : Keeps md
    orig s) :
    Keeps md orig (State.mailboxDoorbell s m len) := by
  unfold State.mailboxDoorbell
  try dsimp only
  repeat' (first
    | with_reducible assumption | with_reducible apply State.incF_keeps | with_reducible apply State.setBit_keeps
    | with_reducible apply Keeps.ite | with_reducible apply State.rest_keeps | rw [State.rest_eq] | split)

theorem State.secWrite_keeps {md : Bool} {orig : State} {s : State} {r : Requester} {k : Nat} {v : Reg} (hkeep : Keeps
    md orig s) :
    Keeps md orig (State.secWrite s r k v) := by
  unfold State.secWrite
  try dsimp only
  repeat' (first
    | with_reducible assumption | with_reducible apply State.putKey_keeps | with_reducible apply State.inc_keeps
    | with_reducible apply Keeps.ite | split)

theorem actingWrite_keeps {orig s : State} {r : Requester} {k : Nat} {v : Reg} {g : State → Answer} (hkeep : Keeps
    true orig s) (hg : actingWrite r k v = some g) :
    Keeps true orig (Answer.state (g s) s) := by
  unfold actingWrite at hg
  try dsimp only at hg
  repeat' (split at hg)
  all_goals first | contradiction | skip
  all_goals try (cases hg)
  all_goals repeat' (first
    | with_reducible assumption | with_reducible apply execMgViewWrite_keeps
    | with_reducible apply execFlushMod_keeps | with_reducible apply execInjWrite_keeps
    | with_reducible apply execStrSelWrite_keeps | with_reducible apply execKick_keeps
    | with_reducible apply execAdjFreqWrite_keeps | with_reducible apply execTickActionDisarm_keeps
    | with_reducible apply execTickActionArm_keeps | with_reducible apply execDmaDoorbell_keeps
    | with_reducible apply execInSelWrite_keeps | with_reducible apply execRdSelWrite_keeps
    | with_reducible apply Keeps.ite | with_reducible apply State.rest_keeps | rw [State.rest_eq] | split)

theorem State.queueWrite_keeps {md : Bool} {orig : State} {s : State} {r : Requester} {k : Nat} {v : Reg} (hkeep :
    Keeps md orig s) :
    Keeps md orig (State.queueWrite s r k v) := by
  unfold State.queueWrite
  try dsimp only
  repeat' (first
    | with_reducible assumption | (intro _; intros) | with_reducible apply State.putKey_keeps
    | with_reducible refine State.qmWrite_keeps ?_ ?_ | with_reducible apply State.reportHead_keeps
    | with_reducible apply Keeps.ite | split)

theorem State.writeKey_keeps {orig : State} {s : State} {r : Requester} {k : Nat} {v : Reg} (hkeep : Keeps true orig
    s) :
    Keeps true orig (State.writeKey s r k v) := by
  unfold State.writeKey
  try dsimp only
  repeat' (first
    | with_reducible assumption | (intro _; intros) | with_reducible apply State.queueWrite_keeps
    | with_reducible (refine actingWrite_keeps ?_ (by assumption)) | with_reducible apply State.secWrite_keeps
    | with_reducible apply State.mailboxDoorbell_keeps | with_reducible apply State.writeCommand_keeps
    | with_reducible (refine commandAt_keeps ?_ (by assumption)) | with_reducible apply State.putKey_keeps
    | with_reducible (refine State.holdWord_keeps ?_ (by assumption)) | with_reducible apply State.plainWrite_keeps
    | with_reducible refine State.qmReach_keeps ?_ ?_ | with_reducible refine State.guarded_keeps ?_ ?_
    | with_reducible apply Answer.state_keeps | with_reducible apply Keeps.ite
    | with_reducible apply State.rest_keeps | rw [State.rest_eq] | split)

theorem State.vfModWrite_keeps {md : Bool} {orig : State} {s : State} {r : Requester} {j : Nat} {v : Reg} (hkeep :
    Keeps md orig s) :
    Keeps md orig (State.vfModWrite s r j v) := by
  unfold State.vfModWrite
  try dsimp only
  repeat' (first
    | with_reducible assumption | with_reducible apply State.csrTimeout_keeps | with_reducible apply Keeps.ite
    | with_reducible apply State.rest_keeps | rw [State.rest_eq] | split)

theorem State.busWrite_keeps {orig : State} {s : State} {r : Requester} {off : Nat} {v : Reg} (hkeep : Keeps true orig
    s) :
    Keeps true orig (State.busWrite s r off v) := by
  unfold State.busWrite
  try dsimp only
  repeat' (first
    | with_reducible assumption | with_reducible apply State.vfModWrite_keeps
    | with_reducible apply State.writeKey_keeps | with_reducible apply State.wakeReg_keeps
    | with_reducible apply Keeps.ite | with_reducible apply State.rest_keeps | rw [State.rest_eq] | split)

theorem State.bar2Write_keeps {md : Bool} {orig : State} {s : State} {r : Requester} {off : Nat} {v : Reg} {tags :
    List Nat} (hkeep : Keeps md orig s) :
    Keeps md orig (State.bar2Write s r off v tags) := by
  unfold State.bar2Write
  try dsimp only
  repeat' (first
    | with_reducible assumption | with_reducible apply execCrHead_keeps | with_reducible apply execInval_keeps
    | with_reducible apply execCancel_keeps | with_reducible apply execTail_keeps
    | with_reducible apply Answer.state_keeps | with_reducible apply Keeps.ite | split)

theorem State.barRead_keeps {md : Bool} {orig : State} {s : State} {r : Requester} {f : Nat → Option Reg} {off : Nat}
    {size : Nat} (hkeep : Keeps md orig s) :
    Keeps md orig (State.barRead s r f off size) := by
  unfold State.barRead
  try dsimp only
  repeat' (first
    | with_reducible assumption | with_reducible apply State.answer_keeps | with_reducible apply Keeps.ite | split)

theorem State.bar4Write_keeps {md : Bool} {orig : State} {s : State} {r : Requester} {off : Nat} {w : Reg} (hkeep :
    Keeps md orig s) :
    Keeps md orig (State.bar4Write s r off w) := by
  unfold State.bar4Write
  try dsimp only
  repeat' (first
    | with_reducible assumption | with_reducible apply State.sendPba_keeps | with_reducible apply State.setVec_keeps
    | with_reducible apply Keeps.ite | with_reducible apply State.rest_keeps | rw [State.rest_eq] | split)

theorem State.barWrite_keeps {orig : State} {s : State} {r : Requester} {bar : Bar} {off : Nat} {v : Reg} (hkeep :
    Keeps true orig s) :
    Keeps true orig (State.barWrite s r bar off v) := by
  unfold State.barWrite
  try dsimp only
  repeat' (first
    | with_reducible assumption | with_reducible apply State.bar4Write_keeps
    | with_reducible apply State.bar2Write_keeps | with_reducible apply State.busWrite_keeps
    | with_reducible apply State.rest_keeps | rw [State.rest_eq] | split)

theorem execRegisterWrite_keeps {orig : State} {req : Requester} {off : Nat} {size : Nat} {be : Bool} {v : BitVec 64}
    {bar : Bar} {s : State} (hkeep : Keeps true orig s) :
    Keeps true orig (Answer.state (execRegisterWrite req off size be v bar s) s) := by
  unfold execRegisterWrite
  try unfold Answer.state
  try dsimp only
  repeat' (first
    | with_reducible assumption | with_reducible apply State.barWrite_keeps | with_reducible apply Keeps.ite | split)

theorem execWideLowWrite_keeps {orig : State} {req : Requester} {off : Nat} {v : Reg} {s : State} (hkeep : Keeps true
    orig s) :
    Keeps true orig (Answer.state (execWideLowWrite req off v s) s) := by
  unfold execWideLowWrite
  try unfold Answer.state
  try dsimp only
  repeat' (first | with_reducible assumption | with_reducible apply State.busWrite_keeps)

theorem execWideHighWrite_keeps {orig : State} {req : Requester} {off : Nat} {v : Reg} {s : State} (hkeep : Keeps true
    orig s) :
    Keeps true orig (Answer.state (execWideHighWrite req off v s) s) := by
  unfold execWideHighWrite
  try unfold Answer.state
  try dsimp only
  repeat' (first | with_reducible assumption | with_reducible apply State.busWrite_keeps)

theorem execRcRead_keeps {md : Bool} {orig : State} {req : Requester} {off : Nat} {size : Nat} {bar : Bar} {s : State}
    (hkeep : Keeps md orig s) :
    Keeps md orig (Answer.state (execRcRead req off size bar s) s) := by
  unfold execRcRead
  try unfold Answer.state
  try dsimp only
  repeat' (first
    | with_reducible assumption | with_reducible apply State.barRead_keeps
    | with_reducible apply State.readAccess_keeps | with_reducible apply State.rest_keeps | rw [State.rest_eq]
    | split)

theorem execWideLowRead_keeps {md : Bool} {orig : State} {req : Requester} {off : Nat} {size : Nat} {s : State} (hkeep
    : Keeps md orig s) :
    Keeps md orig (Answer.state (execWideLowRead req off size s) s) := by
  unfold execWideLowRead
  try unfold Answer.state
  try dsimp only
  repeat' (first | with_reducible assumption | with_reducible apply State.readAccess_keeps)

theorem execTimeReadCapture_keeps {md : Bool} {orig : State} {req : Requester} {n : Nat} {s : State} (hkeep : Keeps md
    orig s) :
    Keeps md orig (Answer.state (execTimeReadCapture req n s) s) := by
  unfold execTimeReadCapture
  try unfold Answer.state
  try dsimp only
  repeat' (first
    | with_reducible assumption | with_reducible apply State.readAccess_keeps | with_reducible apply Keeps.ite
    | split)

theorem execCsrTimeout_keeps {md : Bool} {orig : State} {req : Requester} {off : Nat} {write : Option Reg} {s : State}
    (hkeep : Keeps md orig s) :
    Keeps md orig (Answer.state (execCsrTimeout req off write s) s) := by
  unfold execCsrTimeout
  try unfold Answer.state
  try dsimp only
  repeat' (first
    | with_reducible assumption | with_reducible apply State.answer_keeps
    | with_reducible apply State.csrTimeout_keeps | with_reducible apply Keeps.ite
    | with_reducible apply State.rest_keeps | rw [State.rest_eq] | split)

/-! ### Work -/

theorem State.workDone_keeps {md : Bool} {orig : State} {s : State} {q : Nat} {e : Entry} {status : Nat} {info : Nat}
    (hkeep : Keeps md orig s) :
    Keeps md orig (State.workDone s q e status info) := by
  unfold State.workDone
  try dsimp only
  repeat' (first
    | with_reducible assumption | with_reducible apply State.settleStop_keeps
    | with_reducible apply State.complete_keeps)

theorem State.issue_keeps {md : Bool} {orig : State} {s : State} {q : Nat} {op : Nat} {f : Entry → State → State}
    (hkeep : Keeps md orig s) (hstep : ∀ a0 y, Keeps md orig y → Keeps md orig (f a0 y)) :
    Keeps md orig (State.issue s q op f) := by
  unfold State.issue
  try dsimp only
  repeat' (first
    | with_reducible assumption | with_reducible apply hstep | with_reducible apply State.workDone_keeps
    | with_reducible apply State.stall_keeps | with_reducible apply State.reserve_keeps
    | with_reducible apply State.setEntry_keeps | with_reducible apply Keeps.ite
    | with_reducible apply State.rest_keeps | rw [State.rest_eq] | split)

theorem State.workTimeout_keeps {md : Bool} {orig : State} {s : State} {q : Nat} {e : Entry} {info : Nat} (hkeep :
    Keeps md orig s) :
    Keeps md orig (State.workTimeout s q e info) := by
  unfold State.workTimeout
  try dsimp only
  repeat' (first
    | with_reducible assumption | with_reducible apply State.workDone_keeps
    | with_reducible apply State.csrTimeout_keeps | with_reducible apply State.rest_keeps | rw [State.rest_eq]
    | split)

theorem execNop_keeps {md : Bool} {orig : State} {qid : Nat} {s : State} (hkeep : Keeps md orig s) :
    Keeps md orig (Answer.state (execNop qid s) s) := by
  unfold execNop
  try unfold Answer.state
  try dsimp only
  repeat' (first
    | with_reducible assumption | (intro _; intros) | with_reducible refine State.issue_keeps ?_ ?_
    | with_reducible apply State.workDone_keeps)

theorem execCsrWrite_keeps {orig : State} {qid : Nat} {s : State} (hkeep : Keeps true orig s) :
    Keeps true orig (Answer.state (execCsrWrite qid s) s) := by
  unfold execCsrWrite
  try unfold Answer.state
  try dsimp only
  repeat' (first
    | with_reducible assumption | (intro _; intros) | with_reducible apply State.workTimeout_keeps
    | with_reducible refine State.issue_keeps ?_ ?_ | with_reducible apply State.workDone_keeps
    | with_reducible apply State.busWrite_keeps | with_reducible apply Keeps.ite | split)

theorem execCsrRead_keeps {md : Bool} {orig : State} {qid : Nat} {s : State} (hkeep : Keeps md orig s) :
    Keeps md orig (Answer.state (execCsrRead qid s) s) := by
  unfold execCsrRead
  try unfold Answer.state
  try dsimp only
  repeat' (first
    | with_reducible assumption | (intro _; intros) | with_reducible apply State.workTimeout_keeps
    | with_reducible refine State.issue_keeps ?_ ?_ | with_reducible apply State.workDone_keeps
    | with_reducible apply State.busRead_keeps | with_reducible apply Keeps.ite
    | with_reducible apply State.rest_keeps | rw [State.rest_eq] | split)

theorem execCsrCmd_keeps {orig : State} {qid : Nat} {s : State} (hkeep : Keeps true orig s) :
    Keeps true orig (Answer.state (execCsrCmd qid s) s) := by
  unfold execCsrCmd
  dsimp only [Answer.state]
  refine State.issue_keeps hkeep fun e y hy => ?_
  split
  · exact State.workTimeout_keeps hy
  · refine State.settleStop_keeps ?_
    have h1 : ∀ a : State, a.out = y.out → a.pending = y.pending → a.regs = y.regs → a.mem = y.mem →
        Keeps true orig ((a.busWrite (.wq qid) (workArg e.bytes) (workData e.bytes)).answerCmds issuing Code.ok) := by
      intro a h1 h2 h3 h4
      have h5 : Keeps true a ((a.busWrite (.wq qid) (workArg e.bytes) (workData e.bytes))) := State.busWrite_keeps (Keeps.refl _ _)
      have h6 := State.answerCmds_keeps (j := issuing) (code := Code.ok) h5
      refine hy.trans ⟨fun h => h6.regs (by rw [h3]; exact h), fun h => h6.mem (by rw [h4]; exact h),
        fun _ => State.answerCmds_clears _ _, h6.queue.trans h2, ?_, fun h => nomatch h⟩
      obtain ⟨l, hl⟩ := h6.out
      exact ⟨l, by rw [hl, h1]⟩
    exact h1 _ rfl rfl rfl rfl

theorem execActWrite_keeps {orig : State} {qid : Nat} {s : State} (hkeep : Keeps true orig s) :
    Keeps true orig (Answer.state (execActWrite qid s) s) := by
  unfold execActWrite
  try unfold Answer.state
  try dsimp only
  repeat' (first
    | with_reducible assumption | (intro _; intros) | with_reducible refine State.issue_keeps ?_ ?_
    | with_reducible apply State.workDone_keeps | with_reducible apply State.busWrite_keeps
    | with_reducible apply State.csrTimeout_keeps | with_reducible refine forEach_keeps ?_ ?_
    | with_reducible apply Keeps.ite | split)

/-! ### Idle -/

theorem State.idle_keeps {orig : State} {s : State} (hkeep : Keeps true orig s) :
    Keeps true orig (State.idle s) := by
  unfold State.idle
  try dsimp only
  repeat' (first
    | with_reducible assumption | with_reducible apply State.warmReset_keeps | with_reducible apply State.edges_keeps
    | with_reducible apply Keeps.ite | split)

end Sys2Proof.Machine
end

