-- ==== Sys2Proof/Machine/Pins.lean ====
section
/-! DEFINITION. The ball map (18_pins_electrical, R502 to R509): what stands at each row and column of the package. -/

namespace Sys2Proof.Machine

/-- The rails of R513, and ground. -/
inductive Rail where
  | core
  | sram
  | sds085
  | sds12
  | ddq
  | pp
  | io
  | aon
  | v33
  | ground
  deriving DecidableEq, Repr

/-- What a ball carries: a supply, a ball of a lane's pair, a reference clock of a gallery or PCIe link, a DDR4 signal of a channel, a
ball of a Ustor pair (port U, D0, D1; pair ETX, ERX, STX, SRX), or one of the named signals. `neg` picks the N ball of a pair. -/
inductive Ball where
  | supply (r : Rail)
  | lane (l : Nat) (rx neg : Bool)
  | pcie (link i : Nat) (rx neg : Bool)
  | refclk (g : Nat) (neg : Bool)
  | pcieClk (link : Nat) (neg : Bool)
  | ddr (c : Nat) (name : String)
  | ustor (port pair : Nat) (neg : Bool)
  | named (name : String)
  deriving DecidableEq, Repr

/-! ### Row names (R502) -/

/-- The sequence L. -/
def rowLetters : List String :=
  ["A", "B", "C", "D", "E", "F", "G", "H", "J", "K", "L", "M", "N", "P", "T", "U", "V", "W", "Y"]

/-- The name of row index `i`. -/
def rowName (i : Nat) : String :=
  let l := fun (k : Nat) => rowLetters.getD (k - 1) ""
  if i ≤ 19 then l i else l ((i - 20) / 19 + 1) ++ l ((i - 20) % 19 + 1)

/-! ### Edge segments (R503, R504) -/

/-- The edge a ball of the outer ten lines stands on (0 top, 1 right, 2 bottom, 3 left), with its line index and depth. -/
def edgeOf (row col : Nat) : Option (Nat × Nat × Nat) :=
  if row ≤ 10 ∧ 11 ≤ col ∧ col ≤ 70 then some (0, col, row - 1)
  else if 71 ≤ col ∧ 11 ≤ row ∧ row ≤ 70 then some (1, row, 80 - col)
  else if 71 ≤ row ∧ 11 ≤ col ∧ col ≤ 70 then some (2, col, 80 - row)
  else if col ≤ 10 ∧ 11 ≤ row ∧ row ≤ 70 then some (3, row, col - 1)
  else none

/-- The segments: edge, k0, and the gallery (0 to 7) or PCIe link (8, 9) that occupies it. -/
def segments : List (Nat × Nat × Nat) :=
  [(0, 11, 0), (0, 36, 8), (0, 61, 1), (1, 11, 2), (1, 61, 3), (2, 11, 4), (2, 36, 9), (2, 61, 5), (3, 11, 6), (3, 61, 7)]

/-- The ball of segment `seg` at line `u` and depth `v` (R504). -/
def segmentBall (seg u v : Nat) : Ball :=
  if v = 9 then .supply (if u ≤ 5 then .sds085 else .sds12)
  else if u = 0 ∨ u = 5 then .supply .ground
  else if v = 8 then
    (if u = 2 ∨ u = 3 then (if seg < 8 then .refclk seg (u == 3) else .pcieClk (seg - 8) (u == 3)) else .supply .ground)
  else
    let c := if u ≤ 4 then u - 1 else u - 2
    let t := v / 2
    let s := c + 8 * (t % 2)
    if seg < 8 then .lane (16 * seg + s) (t / 2 == 1) (v % 2 == 1) else .pcie (seg - 8) s (t / 2 == 1) (v % 2 == 1)

/-! ### DDR4 blocks (R505, R506) -/

/-- Number `i` in decimal behind a name. -/
def nameAt (t : String) (i : Nat) : String := t ++ "[" ++ toString i ++ "]"

/-- Signal `n` of a DDR4 block. -/
def ddrSignal (n : Nat) : String :=
  if n < 108 then
    let k := n / 12
    let i := n % 12
    if i < 8 then (if k ≤ 7 then nameAt "DQ" (8 * k + i) else nameAt "CB" i)
    else nameAt "DQS" (2 * k + (i - 8) / 2) ++ (if i % 2 = 0 then "_t" else "_c")
  else
    (["CK_t", "CK_c", "ACT_n", "BG0", "BG1", "BA0", "BA1", "A0", "A1", "A2", "A3", "A4", "A5", "A6", "A7", "A8", "A9", "A10",
      "A11", "A12", "A13", "WE_n", "CAS_n", "RAS_n", "A17", "PAR", "ALERT_n"]).getD (n - 108) ""

/-- The ball of channel `c` at local position `x`, `y`. -/
def ddrBall (c x y : Nat) : Ball :=
  if y % 4 = 3 then
    if y = 11 ∧ 3 ≤ x ∧ x ≤ 11 then
      .ddr c ((["CS0_n", "CS1_n", "CKE0", "CKE1", "ODT0", "ODT1", "DRAM_RESET_n", "SPD_SCL", "SPD_SDA"]).getD (x - 3) "")
    else .supply (if x % 2 = 1 then .ddq else .ground)
  else .ddr c (ddrSignal (15 * (y - y / 4) + x))

/-- The DDR4 block a ball lies in: channel and local position. -/
def ddrBlock (row col : Nat) : Option (Nat × Nat × Nat) :=
  if col < 11 ∨ 70 < col then none
  else
    let at0 := fun (q y0 : Nat) => some (4 * q + (col - 11) / 15, (col - 11) % 15, row - y0)
    if 11 ≤ row ∧ row ≤ 22 then at0 0 11
    else if 23 ≤ row ∧ row ≤ 34 then at0 1 23
    else if 47 ≤ row ∧ row ≤ 58 then at0 2 47
    else if 59 ≤ row ∧ row ≤ 70 then at0 3 59
    else none

/-! ### Named balls (R507, R508) -/

/-- Named balls beside PPS_OUT and SCAN_IO: row index, column, signal. -/
def namedBalls : List (Nat × Nat × String) :=
  [(4, 73, "PPS_IN0"), (4, 75, "PPS_IN1"), (4, 77, "REF10M_IN"), (6, 73, "PAIR_ACT_OUT"), (6, 75, "PAIR_PEER_IN"),
   (6, 77, "THERMTRIP_N"), (8, 73, "SYSCLK_IN"), (72, 72, "TCK"), (72, 73, "TMS"), (72, 74, "TDI"), (72, 75, "TDO"),
   (72, 76, "TRST_N"), (72, 77, "TEST_EN")] ++
  [(40, 40, "VSENSE_CORE_P"), (41, 40, "VSENSE_CORE_N"), (74, 2, "SPI_SCK"), (74, 3, "SPI_CS_N"), (74, 4, "SPI_IO0"),
   (74, 5, "SPI_IO1"), (74, 6, "SPI_IO2"), (74, 7, "SPI_IO3"), (76, 2, "SMB_SCL"), (76, 3, "SMB_SDA"), (76, 5, "MGT_TXP"),
   (76, 6, "MGT_TXN"), (76, 8, "MGT_RXP"), (76, 9, "MGT_RXN")] ++
  [(78, 2, "PORST_N"), (78, 3, "SYSRST_N"), (78, 4, "PERST0_N"), (78, 5, "PERST1_N"), (80, 2, "PAIR_ROLE"), (80, 3, "BOOT_SRC0"),
   (80, 4, "BOOT_SRC1"), (80, 5, "SMB_ADDR0"), (80, 6, "SMB_ADDR1"), (80, 7, "SMB_ADDR2"), (80, 8, "MGT_PORT_EN")]

/-- The named signal of a ball. -/
def namedAt (row col : Nat) : Option Ball :=
  if row = 2 ∧ 72 ≤ col ∧ col ≤ 79 then some (.named ("PPS_OUT" ++ toString (col - 72)))
  else if 73 ≤ row ∧ row ≤ 80 ∧ 72 ≤ col ∧ col ≤ 79 then some (.named (nameAt "SCAN_IO" (8 * (row - 73) + (col - 72))))
  else if 2 ≤ row ∧ row ≤ 10 ∧ (row - 2) % 3 < 2 ∧ 2 ≤ col ∧ col ≤ 8 ∧ col % 2 = 0 then
    some (.ustor ((row - 2) / 3) ((col - 2) / 2) ((row - 2) % 3 == 1))
  else (namedBalls.find? (fun e => e.1 == row && e.2.1 == col)).map (fun e => .named e.2.2)

/-! ### Power and ground (R509) -/

/-- The supply of a position that nothing else names. -/
def supplyAt (row col : Nat) : Rail :=
  let checker := fun (r : Rail) => if (row + col) % 2 = 0 then r else .ground
  let m := (row + col) % 4
  if row ≤ 10 ∧ col ≤ 10 then (if m = 0 then .io else .ground)
  else if row ≤ 10 ∧ 71 ≤ col then (if m = 0 then .v33 else .ground)
  else if 71 ≤ row ∧ col ≤ 10 then (if m = 0 then .io else if m = 2 then .v33 else .ground)
  else if 71 ≤ row ∧ 71 ≤ col then (if m = 0 then .aon else .ground)
  else if row ≤ 10 ∨ 71 ≤ row then checker .core
  else if col ≤ 10 ∨ 71 ≤ col then checker .sram
  else if col = 11 ∨ col = 70 then .pp
  else checker .core

/-! ### The map -/

/-- The ball at row index `row` and column `col`, both 1 to 80. -/
def ballAt (row col : Nat) : Ball :=
  match namedAt row col with
  | some b => b
  | none =>
    match (edgeOf row col).bind (fun e =>
      (segments.find? (fun g => g.1 == e.1 && decide (g.2.1 ≤ e.2.1) && decide (e.2.1 < g.2.1 + 10))).map (fun g =>
        segmentBall g.2.2 (e.2.1 - g.2.1) e.2.2)) with
    | some b => b
    | none =>
      match ddrBlock row col with
      | some d => ddrBall d.1 d.2.1 d.2.2
      | none => .supply (supplyAt row col)

/-- How many balls a rail has (R509). -/
def railBalls (r : Rail) : Nat :=
  ((List.range 6400).filter (fun i => ballAt (i / 80 + 1) (i % 80 + 1) == .supply r)).length

end Sys2Proof.Machine
end

