-- ==== Sys2Proof/Tests/Slice0.lean ====
section
/-! SUPPORT. Tests: the refusal of ill-formed commands, values the spec works out, and for every obligation with hypotheses a
state and operands that meet them all. -/

namespace Sys2Proof.Machine

set_option Elab.async false

/-! ### Scenes -/

/-- The firmware runs and every clock has its PLL: BAR0 answers. -/
def up : State := { State.reset with boot := { BootSt.reset with stage := 6 } }

/-- Several registers written at once. -/
def State.with (s : State) (l : List (Nat × Nat)) : State := l.foldl (fun x e => x.wrN e.1 e.2) s

/-- A PORT_MAP record: port, first lane, lanes, role and partner; 10 GbE and an MTU of 1,522. -/
def portRow (p lane lanes role partner : Nat) : List Byte :=
  [p, lane, lanes, 1, 0, role, partner, 1, 0xFE, 0, 0xF2, 0x05, 0, 0, 0, 0].map (BitVec.ofNat 8)

/-- A submission-queue record of PF0: queue, kind, port. -/
def sqRow (q kind port : Nat) : List Byte := [q, 0, kind, 0, 0, 4, 0, 0, port, 1, 0, 0, 0, 0, 0, 0].map (BitVec.ofNat 8)

/-- A STREAMS record: handle, method, destination, recovery, and a reset time of 1 ms. -/
def streamRow (sh method dest recovery : Nat) : List Byte :=
  leBytes 2 sh ++ [BitVec.ofNat 8 method, BitVec.ofNat 8 dest] ++ leBytes 2 0 ++
    [BitVec.ofNat 8 recovery, 1] ++ leBytes 2 64 ++ leBytes 2 0xFFFF ++ leBytes 4 1000000 ++ leBytes 4 0 ++
    leBytes 4 4800 ++ List.replicate 24 0

/-- A plan: ports 0 to 5 (2 and 3 a PRP pair, 4 the mirror), one stream with recovery that feeds the prism, four queues of
PF0 on ring 0, and ring 1 for DMA, four time bases, a pane group, and a pair. -/
def plan0 : Image := ⟨false, 1, 1, 0, 0, [], [
  ⟨Sect.portMap, 0, portRow 0 0 1 0 255 ++ portRow 1 1 1 0 255 ++ portRow 2 2 1 1 3 ++ portRow 3 3 1 2 2 ++ portRow 4 4 1 5 255⟩,
  ⟨Sect.gallery, 0, [0, 0, 0, 0].map (BitVec.ofNat 8) ++ leBytes 4 3072 ++ leBytes 4 0 ++ leBytes 4 16 ++ leBytes 4 64 ++
    List.replicate 12 0⟩,
  ⟨Sect.tick, 0, leBytes 4 208333 ++ leBytes 4 1431655765 ++ [0, 8, 0, 0] ++ leBytes 2 7⟩,
  ⟨Sect.timeBase, 0, [0, 0, 0, 0] ++ leBytes 4 1000 ++ leBytes 4 100 ++ leBytes 4 0 ++ leBytes 16 1⟩,
  ⟨Sect.timeBase, 1, [0, 0, 0, 1] ++ leBytes 4 1000 ++ leBytes 4 100 ++ leBytes 4 0 ++ leBytes 16 0⟩,
  ⟨Sect.timeBase, 2, [0, 0, 0, 2] ++ leBytes 4 1000 ++ leBytes 4 100 ++ leBytes 4 0 ++ leBytes 16 0⟩,
  ⟨Sect.timeBase, 3, [0, 0, 0, 3] ++ leBytes 4 1000 ++ leBytes 4 100 ++ leBytes 4 0 ++ leBytes 16 0⟩,
  ⟨Sect.queues, 0, leBytes 2 4 ++ leBytes 2 2 ++ [0, 0, 0, 0] ++ sqRow 0 0 0 ++ sqRow 1 1 0 ++ sqRow 2 2 0 ++ sqRow 3 3 0 ++
    [0, 0, 0, 0, 4, 0, 0, 0] ++ [1, 0, 0, 0, 4, 0, 0, 0]⟩,
  ⟨Sect.streams, 0, streamRow 1 0 1 1⟩,
  ⟨Sect.paneGroup, 0, leBytes 4 1 ++ [0, 0, 0, 0] ++ leBytes 4 100000 ++ leBytes 4 4 ++ [0, 254, 1, 0] ++ List.replicate 12 0 ++
    leBytes 2 1 ++ [0, 0] ++ leBytes 4 1⟩,
  ⟨Sect.pair, 0, leBytes 2 1 ++ [4, 255] ++ leBytes 2 1000 ++ leBytes 2 0 ++ leBytes 2 3 ++ [0, 0] ++ leBytes 4 1⟩]⟩

/-- An amendment without sections. -/
def amend0 : Image := ⟨true, 1, 2, 0, 0, [], []⟩

/-- The plan is active and IDLE, the tick runs at tick 10 with a period of 200 us, L(10) is 1 ms, and it is 1.05 ms. -/
def run0 : State :=
  { (up.with [(R.planStatus, 1), (R.tickStatus, 0x40), (R.tickPeriodNs, 200000), (R.tickNow, 10), (R.tickBaseTick, 10)]).setBase
      10 (ofNs 1000000) with
    plan := { PlanSt.reset with active := some plan0, everCommitted := true },
    tbs := List.replicate 8 { TbSt.reset with count := ofNs 1050000 },
    clock := ofNs 1050000, tick := { TickSt.reset with cutTick := some 10 } }

/-! ### The machine as a whole -/

/-- The hypotheses of StepRunsFrontCommand (O1) are met. -/
theorem witness_StepRunsFrontCommand :
    ({ State.reset with pending := [.landing none [], .peerInAssert] } : State).pending = .landing none [] :: [.peerInAssert] := rfl

/-- The hypotheses of EmptyQueueLetsTimePass (O2) are met. -/
theorem witness_EmptyQueueLetsTimePass :
    State.reset.pending = [] ∧ State.resetDue { State.reset with boot := { BootSt.reset with resetAt := some 0 } } = true ∧
    State.reset.resetDue = false ∧ State.reset.landingDue = false ∧ State.resetDue run0 = false ∧
    State.landingDue { run0 with tbs := List.replicate 8 { TbSt.reset with count := ofNs 1200000 } } = true ∧
    State.landingDue { run0 with tbs := List.replicate 8 { TbSt.reset with count := ofNs 1200000 - 1 } } = false := by
  decide +kernel

/-- The hypotheses of StepKeepsTheStateSafe (O4) are met. -/
theorem witness_StepKeepsTheStateSafe : Sound State.reset ∧ step State.reset = .next State.reset.idle := by
  refine ⟨?_, rfl⟩
  unfold Sound
  decide +kernel

/-- The hypotheses of EveryCommandCompletes (O3) are met. -/
theorem witness_EveryCommandCompletes :
    mayWriteDdr .peerInAssert = false ∧ mayWriteDdr (.landing none []) = true := by decide

/-- The hypotheses of StorageReadsBack (O7) are met. -/
theorem witness_StorageReadsBack : Sound State.reset ∧ Sound run0 ∧ (0 : Nat) ≠ 4 ∧ (4 : Nat) < 5 := by
  unfold Sound
  decide +kernel

/-- The hypotheses of RegisterFieldsAreIndependent (O8) are met. -/
theorem witness_RegisterFieldsAreIndependent :
    (0 : Nat) ≤ 0 ∧ (31 : Nat) < 32 ∧ ((7 : Nat) < 8 ∨ (15 : Nat) < 0) ∧ ((31 : Nat) < 8 ∨ (15 : Nat) < 16) := by decide

/-- The hypotheses of StoredTicksCompareModulo (O13) are met. -/
theorem witness_StoredTicksCompareModulo :
    (-2147483648 : Int) ≤ ((0 : Nat) : Int) - (2147483648 : Nat) ∧ ((4294967296 : Nat) : Int) - (2147483649 : Nat) ≤ 2147483647 ∧
    (-2147483648 : Int) ≤ ((2147483657 : Nat) : Int) - run0.now ∧ ((2147483657 : Nat) : Int) - run0.now ≤ 2147483647 := by
  decide +kernel

/-- The hypotheses of BoardTakesTheSaferView (O14) are met. -/
theorem witness_BoardTakesTheSaferView : Sound run0 ∧ (231 : Nat) < 232 := by
  unfold Sound
  decide +kernel

/-- The hypotheses of CommandWritesAreGated (O10) are met. -/
theorem witness_CommandWritesAreGated :
    commandReg (.claim (.vf false 1)) = some (.vf false 1, R.rdnCtl) ∧ 6 ≤ up.boot.stage ∧ up.clockStopped R.rdnCtl = false ∧
    (up.acting (.vf false 1)).vfNum ≠ 0 ∧ (up.acting (.vf true 128)).vfNum ≠ 0 ∧
    commandReg (.claim .mgmt) = some (.mgmt, R.rdnCtl) ∧ (up.acting .mgmt).vfNum = 0 ∧ isMgmt (up.acting .mgmt) = true ∧
    commandReg (.tsuSet .mgmt 7) = some (.mgmt, R.tsuTbCtl 7) ∧ mgmtMayWrite (blockOf (R.tsuTbCtl 7)) = false ∧
    commandReg (.tsuSet .pf0 7) = some (.pf0, R.tsuTbCtl 7) ∧
    State.clockStopped { up with pwr := { up.pwr with stopped := [2] } } (R.tsuTbCtl 7) = true ∧
    State.reset.boot.stage < 6 ∧ State.reset.romServes (State.reset.acting .pf0) (R.tsuTbCtl 7) = false := by
  decide +kernel

/-- The hypotheses of ResultIsRecorded (O12) are met. -/
theorem witness_ResultIsRecorded :
    Sound up ∧ (0xFF : Nat) < 256 ∧ R.planStatus ≠ R.qmStateCnt ∧ ((15 : Nat) < resultField R.planStatus) ∧
    resultField R.planStatus + 7 < 24 ∧ ((23 : Nat) < resultField R.rdnStatus) ∧ R.rdnStatus ≠ R.qmStateCnt := by
  unfold Sound
  decide +kernel


/-! ### Plan, landing, tick actions -/

/-- `run0` with PLAN.STATUS.STATE `st`, PLAN.TARGET `t` and a staged image. -/
def planned (st t : Nat) (im : Option Image) : State :=
  { run0.with [(R.planStatus, st), (R.planTarget, t), (R.memChStatus 0, 2), (R.planLen, 3192)] with
    plan := { run0.plan with staged := im, target := t } }

/-- `s` with the HALL_SYNC that a command writes. -/
def hallSync (s : State) : State := s.setBit R.planCtl 7 true

/-- The standby of a pair, whose mirror owns banks and tick actions, with a staged amendment that swaps a bank. -/
def mirrored : State :=
  (planned 3 12 (some { amend0 with sections := [⟨Sect.schedule, 0, []⟩] })).with [(R.rdnStatus, 1)]

/-- The hypotheses of PlanCommandsTakeEffectAndFinish (O15, its part PlanCommandsTakeEffect) are met. -/
theorem witness_PlanCommandsTakeEffect :
    Reaches (planned 1 12 none) .pf0 R.planCtl ∧
    (∀ st ∈ [0, 1, 3, 4], (hallSync (planned st 12 none)).planState = st ∧ (hallSync (planned st 12 none)).getF (R.memChStatus 0) 2 0 = 2 ∧
      (hallSync (planned st 12 none)).rdN R.planLen = 3192) ∧
    (∀ n ∈ [3191, 16777217], ((planned 0 0 none).with [(R.planLen, n)]).rdN R.planLen = n) ∧
    ((planned 0 0 none).with [(R.planLen, 16777216)]).rdN R.planLen ≤ 16777216 ∧ up.getF (R.memChStatus 0) 2 0 ≠ 2 ∧ up.planState = 0 ∧
    (∀ st ∈ [2, 5, 6, 7], (hallSync (planned st 12 none)).planState = st) ∧
    (∀ t ∈ [12, 65546], (planned 3 t (some amend0)).inWindow = true ∧ (planned 4 t (some plan0)).inWindow = true) ∧
    (∀ t ∈ [11, 65547], (planned 3 t (some amend0)).inWindow = false ∧ (planned 4 t (some plan0)).inWindow = false) ∧
    (hallSync (planned 3 12 (some amend0))).plan.staged = some amend0 ∧
    ((planned 3 12 (some amend0)).mirrorOwns && (!amend0.scheduled.isEmpty || amend0.has Sect.tickActions 0)) = false ∧
    (∀ im ∈ mirrored.plan.staged, (mirrored.mirrorOwns && (!im.scheduled.isEmpty || im.has Sect.tickActions 0)) = true) ∧
    (planned 4 12 (some plan0)).hasPlan = true ∧ (planned 0 12 (some plan0)).planState ≠ 4 ∧
    (State.hasPlan { up.wrN R.planStatus 4 with plan := { PlanSt.reset with staged := some plan0 } }) = false ∧
    (planned 1 12 none).plan.staged = none ∧ (planned 7 13 none).beforeTarget = true ∧ (planned 5 13 (some amend0)).beforeTarget = true ∧
    (planned 5 10 (some amend0)).beforeTarget = false ∧ (planned 7 10 none).beforeTarget = false := by
  unfold Reaches
  decide +kernel

/-- `planned` in STAGING for a requester, with or without blocks of DDR4 that cannot be corrected. -/
def staging (r : Option Requester) (bad : List Nat) (d3 : Nat) : State :=
  let s := (planned 2 13 none).with [(R.pwrD3, d3)]
  { s with plan := { s.plan with source := r, len := 3192 }, ddr := { s.ddr with bad := bad } }

/-- The hypotheses of PlanCommandsTakeEffectAndFinish (O15, its part PlanEngineFinishes) are met. -/
theorem witness_PlanEngineFinishes :
    (∀ bad ∈ [[], [3], [49]], (staging none bad 0).planState = 2 ∧ (staging none bad 0).plan.source = none ∧
      (staging none bad 0).plan.len = 3192 ∧ (staging none bad 0).badRead 0 3192 = !bad.isEmpty ∧
      (staging none bad 0).badRead 0 256 = decide (bad = [3])) ∧
    (staging (some .pf1) [] 0).plan.source = some .pf1 ∧ (staging (some .pf1) [] 0).inD3 .pf1 = false ∧
    (staging (some .pf1) [] 2).inD3 .pf1 = true ∧
    (planned 5 13 (some amend0)).plan.staged = some amend0 ∧ (planned 5 13 (some amend0)).planState = 5 ∧
    (planned 5 13 (some amend0)).plan.loaded = false ∧ (planned 6 13 none).planState = 6 ∧ (planned 6 13 none).plan.loaded = false ∧
    (planned 1 13 none).planState ≠ 2 ∧ (planned 4 13 none).planState ≠ 5 ∧ (planned 5 13 none).plan.staged = none ∧
    (planned 7 13 none).planState ≠ 6 := by
  decide +kernel

/-- The hypotheses of AmendmentsCommitInTheirWindow (O16) are met. -/
theorem witness_AmendmentsCommitInTheirWindow :
    ∀ t ∈ [11, 12, 65546, 65547], Sound (planned 3 t (some amend0)) ∧ Reaches (planned 3 t (some amend0)) .pf0 R.planCtl ∧
      (hallSync (planned 3 t (some amend0))).planState = 3 ∧ (hallSync (planned 3 t (some amend0))).plan.staged = some amend0 ∧
      (planned 3 t (some amend0)).mirrorOwns = false ∧
      ((planned 3 t (some amend0)).rdN R.planTarget + 4294967296 - (planned 3 t (some amend0)).now % 4294967296) % 4294967296
        = t - 10 := by
  unfold Sound Reaches
  decide +kernel

/-- The tick runs but its source stands: no landing can come. -/
def stuck : State := { run0 with pwr := { run0.pwr with stopped := [0] } }

/-- The hypotheses of LandingTakesItsFiveSteps (O17) are met. -/
theorem witness_LandingTakesItsFiveSteps :
    run0.canLand = true ∧ run0.cutDue = true ∧ run0.nextTick = 11 ∧ up.canLand = false ∧
    State.cutDue { run0 with tick := { run0.tick with cutTick := some 11 } } = false := by
  decide +kernel

/-- The hypotheses of LandingTakesItsFiveSteps (O17, its part LandingSetsTheTick) are met. -/
theorem witness_LandingSetsTheTick :
    Sound run0 ∧ (11 : Nat) < 18446744073709551616 ∧ 11 = run0.now + 1 ∧ State.reset.running = false ∧ Sound State.reset := by
  unfold Sound
  decide +kernel

/-- Entry 4,095 armed with a good NOP for tick `t` at offset 0, 50 us or 60 us: its last word holds the CRC-16 of R79. -/
def armed (t ofs : Nat) : State :=
  let b := leBytes 4 t ++ leBytes 3 ofs ++ [0] ++ List.replicate 6 0
  (run0.with [(R.tickAct 4095, leAt b 0 4), (R.tickAct 4095 + 4, leAt b 4 4), (R.tickAct 4095 + 8, 0),
    (R.tickAct 4095 + 12, (crc16 b).toNat * 65536)]).setActSt 4095 1

/-- `run0` with entry 4,095 in the pending hall snapshot, and `run0` where a committed amendment brings the table. -/
def snapped : State := { run0 with tick := { run0.tick with snapEntries := [4095] } }
/-- See `snapped`. -/
def covered : State := planned 5 13 (some { amend0 with sections := [⟨Sect.tickActions, 0, leBytes 2 4095 ++ leBytes 2 1⟩] })

/-- The hypotheses of TickActionsArmAndFire (O18) are met. -/
theorem witness_TickActionsArmAndFire :
    Reaches run0 .pf0 (R.tickAct 4095) ∧ run0.mirrorOwns = false ∧ run0.actCovered 4095 = false ∧ run0.actOwned 4095 = false ∧
    mirrored.mirrorOwns = true ∧ covered.mirrorOwns = false ∧ covered.actCovered 4095 = true ∧ snapped.actCovered 4095 = false ∧
    snapped.actOwned 4095 = true ∧
    (∀ s ∈ [armed 10 60000, armed 12 0], s.actSt 4095 = 1 ∧ isSwapAct (actCode (s.actBytes 4095)) = false ∧ s.running = true ∧
      s.holds = false) ∧
    tickDiff ((armed 12 0).actNext 4095) (armed 12 0).now ≠ 0 ∧ tickDiff ((armed 10 60000).actNext 4095) (armed 10 60000).now = 0 ∧
    run0.actSt 4095 ≠ 1 := by
  unfold Reaches
  decide +kernel

/-- The hypotheses of TickActionsArmAndFire (O18, its part DueActionsFireOnce) are met. -/
theorem witness_DueActionsFireOnce :
    (∀ s ∈ [armed 10 50000, armed 10 0], s.actSt 4095 = 1 ∧ isSwapAct (actCode (s.actBytes 4095)) = false ∧ s.running = true ∧
      s.holds = false ∧ tickDiff (s.actNext 4095) s.now = 0 ∧ actRepeat (s.actBytes 4095) = 0 ∧
      s.landingNow + ofNs (actOfs (s.actBytes 4095)) ≤ s.srcNow ∧ s.actOk (s.actBytes 4095) = true) ∧
    (armed 10 50000).passed ((armed 10 50000).landingNow + ofNs 50000) = false ∧
    (armed 10 0).passed ((armed 10 0).landingNow + ofNs 0) = true ∧
    ((armed 10 0).wrN (R.tickAct 4095 + 12) 0).actOk (((armed 10 0).wrN (R.tickAct 4095 + 12) 0).actBytes 4095) = false := by
  decide +kernel

/-- The hypotheses of ReservedCommandsAnswerState (O11) are met. -/
theorem witness_ReservedCommandsAnswerState :
    run0.portUsed 4 = true ∧ run0.portUsed 5 = false ∧ isMgmt (up.acting .mgmt) = true ∧ Reaches up .mgmt R.secCmd ∧
    Reaches up .mgmt R.fcrCtl ∧ Reaches up .mgmt R.mgtCtl ∧
    (∀ k ∈ [R.planCtl, R.tickCtl, R.tsuTbCtl 7, R.strCmd, R.schPCtl 127, R.przInCmd, R.przPgCmd, R.txeCmd, R.dmaChCtl 255, R.rdnCtl,
      R.prtPCtl 4], Reaches up .pf1 k) ∧
    6 ≤ run0.boot.stage ∧ run0.clockStopped R.qmCmd = false ∧ run0.qmIndex .pf0 false 3 = 3 ∧ run0.qmOwner false 3 = some (0, 0) ∧
    run0.qmMay .pf0 0 0 = true ∧ run0.qmMay .pf1 0 0 = false ∧ run0.qmOwner false 4095 = none := by
  unfold Reaches
  decide +kernel


/-! ### Tick bus and time -/

/-- `run0` as a follower with bus state `bus`, and the tick block given. -/
def follower (bus : Nat) (t : TickSt) : State := { run0.with [(R.tickStatus, 0x42 + 8 * bus)] with tick := t }

/-- A TICK frame of tick 11 that fits `follower`, and one of a STATUS frame of hall 7. -/
def frame11 (s : State) : List Byte := s.tickFrame 11 [false, true, false, false]

/-- `run0` with a committed amendment that waits for the hall's GO at tick 11. -/
def hallWaits : State := { run0.with [(R.planStatus, 5)] with plan := { run0.plan with hall := true, target := 11 } }

/-- The hypotheses of TickBusFollowsFramesEdgesAndPulses (O19, its part TickFramesPass) are met. -/
theorem witness_TickFramesPass :
    run0.hasPlan = true ∧ run0.timeRuns = true ∧ run0.running = true ∧ run0.isSource = true ∧ run0.tick.missedTo = none ∧
    (run0.untilSrc (run0.landingNow + ofUs 4)).sourceVerdict run0.nextTick = none ∧
    (hallWaits.untilSrc (hallWaits.landingNow + ofUs 4)).sourceVerdict hallWaits.nextTick ≠ none ∧ hallWaits.isSource = true ∧
    hallWaits.running = true ∧ State.isSource { run0 with tick := { run0.tick with missedTo := some 12 } } = true ∧
    (follower 4 TickSt.reset).isSource = false ∧ (follower 4 TickSt.reset).bus = 4 ∧
    (follower 4 TickSt.reset).tick.frameTick ≠ (follower 4 TickSt.reset).nextTick ∧
    (∀ b ∈ [1, 3], (follower b TickSt.reset).follows = true ∧ (follower b TickSt.reset).hasPlan = true ∧
      (follower b TickSt.reset).timeRuns = true) ∧
    (frame11 (follower 3 TickSt.reset)).length = 16 ∧ beAt (frame11 (follower 3 TickSt.reset)) 0 1 = 1 ∧
    ustorOk (frame11 (follower 3 TickSt.reset)) = true ∧
    (follower 3 TickSt.reset).frameFits (frame11 (follower 3 TickSt.reset)) = true ∧
    ustorOk (ustorFrame ([1, 0] ++ beBytes 2 8 ++ beBytes 8 11 ++ [0, 0])) = true ∧
    (follower 1 TickSt.reset).frameFits (ustorFrame ([1, 0] ++ beBytes 2 8 ++ beBytes 8 11 ++ [0, 0])) = false ∧
    (ustorFrame ([1, 0] ++ beBytes 2 8 ++ beBytes 8 11 ++ [0, 0])).length = 16 ∧
    ustorOk ((frame11 (follower 3 TickSt.reset)).set 15 ((frame11 (follower 3 TickSt.reset)).getD 15 0 ^^^ 1)) = false := by
  decide +kernel

/-- A follower with the two children given. -/
def parent (c0 c1 : Child) : State := follower 3 { TickSt.reset with child0 := c0, child1 := c1 }

/-- A STATUS frame of hall `h`. -/
def status (h : Nat) : List Byte := ustorFrame ([2, 1] ++ beBytes 2 h ++ beBytes 8 11 ++ [0, 3])

/-- The hypotheses of TickBusFollowsFramesEdgesAndPulses (O19, its part StatusFramesPass) are met. -/
theorem witness_StatusFramesPass :
    (∀ s ∈ [follower 3 TickSt.reset, parent ⟨true, 11, true, false, 0, false, 0⟩ ⟨false, 0, false, false, 0, false, 0⟩,
        parent ⟨true, 10, true, false, 0, false, 0⟩ ⟨true, 11, true, false, 0, false, 0⟩],
      s.follows = true ∧ s.running = true ∧ s.nextTick = 11 ∧ s.hasPlan = true ∧ s.timeRuns = true) ∧
    ustorOk (status 7) = true ∧ beAt (status 7) 0 1 = 2 ∧ beAt (status 7) 2 2 = run0.im.tick.hallId ∧
    beAt (status 8) 2 2 ≠ run0.im.tick.hallId ∧ run0.getF R.tickStatus 1 0 = 0 ∧ (follower 3 TickSt.reset).getF R.tickStatus 1 0 ≠ 0 ∧
    run0.hasPlan = true ∧ run0.timeRuns = true := by
  decide +kernel

/-- The hypotheses of TickBusFollowsFramesEdgesAndPulses (O19, its part TickBusEdgesAreFollowed) are met. -/
theorem witness_TickBusEdgesAreFollowed :
    (∀ b ∈ [1, 2, 3, 4, 5], (follower b TickSt.reset).follows = true ∧ (follower b TickSt.reset).bus = b ∧
      (follower b TickSt.reset).tick.nextEdge = none ∧ (follower b TickSt.reset).tick.goodRun < 3 ∧
      (follower b TickSt.reset).tick.lockBy = none) ∧
    (follower 1 { TickSt.reset with nextEdge := some 11, goodRun := 3 }).follows = true ∧
    (follower 1 { TickSt.reset with nextEdge := some 11, goodRun := 3 }).tick.nextEdge = some 11 ∧
    3 ≤ (follower 1 { TickSt.reset with nextEdge := some 11, goodRun := 3 }).tick.goodRun ∧
    (follower 2 { TickSt.reset with lockBy := some 0 }).tick.lockBy = some 0 ∧
    (follower 2 { TickSt.reset with lockBy := some 0 }).tick.everLocked = false := by
  decide +kernel

/-- The hypotheses of TickBusFollowsFramesEdgesAndPulses (O19, its part CalibrationMeasuresTheDelay) are met. -/
theorem witness_CalibrationMeasuresTheDelay :
    (∀ s ∈ [follower 3 { TickSt.reset with calAt := 10 }, follower 3 { TickSt.reset with recal := true }, follower 2 TickSt.reset,
        follower 2 { TickSt.reset with calOut := true }, follower 5 TickSt.reset], s.follows = true ∧ s.running = true) ∧
    (follower 3 { TickSt.reset with calAt := 10 }).now < 10 + 2 ^ 20 ∧
    10 + 2 ^ 20 ≤ ((follower 3 { TickSt.reset with calAt := 10 }).wrN R.tickNow (10 + 2 ^ 20)).now ∧
    (∀ n ∈ [0, 14, 15], (follower 2 { TickSt.reset with calOut := true, calCount := n }).tick.calCount = n ∧
      (follower 2 { TickSt.reset with calOut := true, calCount := n }).tick.calOut = true ∧
      (follower 2 { TickSt.reset with calOut := true, calCount := n }).bus = 2) ∧
    (25600 : Nat) ≤ 25600 ∧ (25600 : Nat) < 25601 ∧ (follower 4 TickSt.reset).bus = 4 ∧ (follower 3 TickSt.reset).tick.calOut = false ∧
    run0.follows = false ∧ (follower 2 { TickSt.reset with calTicks := 255 }).tick.calTicks < 256 ∧
    run0.hasPlan = true ∧ run0.timeRuns = true ∧ (follower 2 TickSt.reset).hasPlan = true ∧ run0.dPorts.contains 1 = true := by
  decide +kernel

/-- The hypotheses of TickCommandsTakeEffect (O20) are met. -/
theorem witness_TickCommandsTakeEffect :
    (∀ b ∈ [1, 3, 4], Reaches (follower b TickSt.reset) .pf1 R.tickCtl ∧ (follower b TickSt.reset).follows = true ∧
      (follower b TickSt.reset).bus = b ∧ (follower b TickSt.reset).bit R.tickStatus 8 = false) ∧
    ((follower 4 TickSt.reset).setBit R.tickStatus 8 true).follows = true ∧ ((follower 4 TickSt.reset).setBit R.tickStatus 8 true).bus = 4 ∧
    ((follower 4 TickSt.reset).setBit R.tickStatus 8 true).bit R.tickStatus 8 = true ∧ run0.follows = false := by
  unfold Reaches
  decide +kernel



/-- `run0` with time bases 0 to 3 in state `st`. -/
def based (st : Nat) : State :=
  run0.with [(R.tsuTbStatus 0, st), (R.tsuTbStatus 1, st), (R.tsuTbStatus 2, st), (R.tsuTbStatus 3, st)]

/-- `s` with a tick that does not run: no landing comes first. -/
def State.halted (s : State) : State := s.setBit R.tickStatus 6 false

/-- `s` with a valid edge of PPS input 0. -/
def State.ppsSeen (s : State) : State := { s with pps := ⟨some 0, none⟩ }

/-- The hypotheses of ReferenceSamplesReachTheServo (O21) are met. -/
theorem witness_ReferenceSamplesReachTheServo :
    (∀ n ∈ List.range 4, (based 2).im.hasTb n = true ∧ ((based 2).im.timeBase n).ref = n) ∧
    (based 2).timeRuns = true ∧ ((based 2).tb 3).ref10mStop = false ∧ (based 2).pps.last0 = none ∧
    (based 2).ppsSeen.timeRuns = true ∧ (based 2).ppsSeen.im.hasTb 3 = true ∧ ((based 2).ppsSeen.im.timeBase 3).ref = 3 ∧
    (based 2).ppsSeen.pps.last0.isSome = true := by
  decide +kernel

/-- Foreign records of port 0, heard at 0 and 1 s, with an announce interval of 1 s. -/
def foreign0 : Foreign := ⟨0, [1], [], 1, 37, 0, 0⟩
/-- See `foreign0`. -/
def foreign1 : Foreign := ⟨0, [2], [], 2, 37, oneSec, 0⟩

/-- Time base 0 in state `st` with the foreign records `l`, the first of them selected, and an announceReceiptTimeout of 3. -/
def announced (st : Nat) (l : List Foreign) : State :=
  ((based st).setTb 0 { TbSt.reset with foreign := l, selected := some [1] }).with [(R.tsuTbPtpCfg 0, 0x30000)]

/-- The hypotheses of ReferenceSamplesReachTheServo (O21, its part LostReferencesAreNoticed) are met. -/
theorem witness_LostReferencesAreNoticed :
    (∀ n ∈ List.range 4, (based 3).halted.im.hasTb n = true ∧ (based 3).halted.tbOn n = true ∧ ((based 3).halted.im.timeBase n).ref = n) ∧
    ((based 3).halted.reachClock (ofMs ((based 3).halted.inForce (R.tsuTbLossMs 0)).toNat)).isSome = true ∧
    (run0.reachClock (ofMs (run0.inForce (R.tsuTbLossMs 0)).toNat)).isNone = true ∧ run0.tbOn 0 = true ∧ (based 0).tbOn 0 = false ∧
    (∀ l ∈ [[foreign0], [foreign0, foreign1]], ∀ st ∈ [1, 3, 5],
      ((announced st l).tb 0).foreign[0]? = some foreign0 ∧ (announced st l).halted.tbState 0 = st ∧
      ((announced st l).tb 0).selected = some foreign0.source ∧ (announced st l).getF (R.tsuTbStatus 0) 23 16 = foreign0.port ∧
      ((announced st l).halted.reachClock ((announced st l).halted.announceDue 0 foreign0)).isSome = true ∧
      ((announced st l).reachClock ((announced st l).announceDue 0 foreign0)).isNone = true) ∧
    ((announced 3 [foreign0, foreign1]).tb 0).foreign[1]? = some foreign1 ∧
    ((announced 3 [foreign0, foreign1]).tb 0).selected ≠ some foreign1.source ∧ (run0.tb 0).foreign[0]? = none := by
  decide +kernel

/-- `based` with time base 7 in host-assisted SERVO mode. -/
def hostBased : State :=
  { (based 1).with [(R.tsuTbStatus 7, 2)] with plan := { run0.plan with modes := [0, 0x80] } }

/-- The hypotheses of TimeBaseCommandsTakeEffect (O22) are met. -/
theorem witness_TimeBaseCommandsTakeEffect :
    (∀ n ∈ List.range 4, Reaches (based 5) .pf0 (R.tsuTbCtl n) ∧ (based 5).tbOn n = true ∧ (based 5).tbState n = 5 ∧
      (based 5).hostServo n = false ∧ (based 5).requested (.epoch n) = false) ∧
    (based 1).tbState 1 = 1 ∧ (based 1).tbOn 1 = true ∧ ((based 1).isSrc 1 && (based 1).running) = false ∧
    (based 1).tbState 0 = 1 ∧ ((based 1).isSrc 0 && (based 1).running) = true ∧ Reaches (based 1) .pf0 (R.tsuTbCtl 0) ∧
    Reaches hostBased .pf0 (R.tsuTbCtl 7) ∧ hostBased.hostServo 7 = true ∧ hostBased.tbOn 7 = true ∧
    State.requested { hostBased with tick := { hostBased.tick with reqs := [⟨.epoch 7, 11, false, false, none, true⟩] } } (.epoch 7)
      = true := by
  unfold Reaches
  decide +kernel

/-- The hypotheses of TimeBaseCommandsTakeEffect (O22, its part TimeBaseRegistersAreUsed) are met. -/
theorem witness_TimeBaseRegistersAreUsed :
    (∀ n ∈ List.range 8, (based 0).tbOn n = decide (3 < n) ∧ Reaches (based 0) .pf0 (R.tsuTbCtl n) ∧
      Reaches (based 0) .pf0 (R.tsuTbAdjFreq n) ∧ (based 0).hostServo n = false ∧ 6 ≤ (based 0).boot.stage ∧
      (based 0).clockStopped (R.tsuTbTime n) = false) ∧
    ((based 0).acting (.pf7 true)).vfNum = 0 ∧ ((based 0).acting .pf0).vfNum = 0 ∧ Reaches hostBased .pf0 (R.tsuTbAdjFreq 7) ∧
    hostBased.hostServo 7 = true ∧ hostBased.tbOn 7 = true := by
  unfold Reaches
  decide +kernel

/-- `run0` with a remaining slew of `r` on the tick source. -/
def slewing (r : Int) : State := run0.setTb 0 { run0.tb 0 with slewRem := r }

/-- `run0` with a step threshold of 1 ns. -/
def tight : State := run0.with [(R.tsuTbStepLimit 0, 1)]

/-- The hypotheses of CorrectionsCombineWithTheSlew (O23) are met. -/
theorem witness_CorrectionsCombineWithTheSlew :
    (∀ r ∈ [0, -1, -ofQ16 1], (slewing r).isSrc 0 = true ∧ ((slewing r).tb 0).slewRem = r ∧ r ≤ 0) ∧
    ofQ16 1 + -ofQ16 1 ≤ 0 ∧ 0 < ofQ16 1 + -1 ∧ ofQ16 0 + 0 ≤ 0 ∧ ofQ16 (-1) < 0 ∧ tight.isSrc 0 = true ∧
    ((65536 : Int).natAbs : Int) ≤ tight.stepLimit 0 ∧ (tight.stepLimit 0 : Int) < ((65537 : Int).natAbs : Int) := by
  decide +kernel

/-- Nothing runs but the time bases: an output of time base 7, and a slew of 1 of time base 0 at the rate `v`. -/
def ticking (v : Nat) : State :=
  (up.with [(R.tsuTbPpsOut 7, 0x80000005), (R.tsuTbStatus 7, 1), (R.tsuTbStatus 0, 1), (R.tsuTbSlewMax 0, v)]).setTb 0
    { TbSt.reset with slewRem := -1 }

/-- `run0` with an ordinary clock of P2P on port 0, whose last request went out at 0 or never. -/
def clocked (sent : Option Time) : State :=
  let s := run0.with [(R.tsuTbStatus 0, 2), (R.tsuTbPtpCfg 0, 1)]
  s.setPeer 0 0 { s.peer 0 0 with sentAt := sent }

/-- The hypotheses of TimeBasesPulseAndCapture (O24) are met. -/
theorem witness_TimeBasesPulseAndCapture :
    run0.timeRuns = true ∧ (1 : Nat) < 2 ∧ run0.ppsLast 0 = none ∧ run0.ppsLast 1 = none ∧
    (ticking 100).timeRuns = true ∧ (ticking 100).tbOn 7 = true ∧ (ticking 100).bit (R.tsuTbPpsOut 7) 31 = true ∧
    (ticking 100).bit (R.tsuTbPpsOut 0) 31 = false ∧ (ticking 100).tbOn 0 = true ∧ (ticking 100).running = false ∧
    (∀ sent ∈ [none, some 0], (clocked sent).sendsPtp 0 0 = true ∧ ((clocked sent).peer 0 0).sentAt = sent ∧
      (clocked sent).sendsPtp 0 1 = false ∧ ((clocked sent).halted.reachClock (0 + (clocked sent).ptpInterval 0)).isSome = true) ∧
    ((ticking 100).tb 0).slewRem < 0 ∧ 0 < (ticking 100).tbSlew 0 ∧ 0 ≤ ((ticking 100).tb 1).slewRem ∧ (slewing (-1)).timeRuns = true ∧
    (run0.with [(R.tsuTbPpsOut 0, 0x80000005)]).running = true ∧
    (run0.with [(R.tsuTbPpsOut 0, 0x80000005)]).bit (R.tsuTbPpsOut 0) 31 = true := by
  decide +kernel

/-- A whole frame that arrived in good order. -/
def arrival (b : List Byte) : RxIn := ⟨.frame, b, true, 0, true, none, none, none, none, 0, 0, 0, []⟩

/-- A gPTP frame of message type `t`. -/
def ptpArrival (t : Nat) : RxIn :=
  arrival (List.replicate 12 0 ++ [0x88, 0xF7, BitVec.ofNat 8 t, 2, 0, 44] ++ List.replicate 42 0)

/-- A mirror frame of type `t`. -/
def mirrorArrival (t : Nat) : RxIn := arrival (List.replicate 12 0 ++ [0x88, 0xB6, BitVec.ofNat 8 t, 1] ++ List.replicate 44 0)

/-- The hypotheses of ArrivalsTakeTheReceivePath (O25) are met. -/
theorem witness_ArrivalsTakeTheReceivePath :
    (∀ m ∈ [0, 8, 11, 2, 3, 10, 9], rxMsg (ptpArrival m) = some m) ∧ rxMsg (mirrorArrival 1) = none ∧
    (∀ t ∈ [1, 2, 3], rxMirror (mirrorArrival t) = t) ∧ rxMirror (ptpArrival 0) = 0 ∧ run0.isMirrorPort 4 = true ∧
    run0.isMirrorPort 5 = false := by
  decide +kernel


/-! ### Ports, streams, banks -/

/-- `run0` with ports 0 to 4 in link state `l`, their effective states at RUN. -/
def linked (l : Nat) : State :=
  run0.with ((List.range 5).flatMap (fun p => [(R.prtPStatus p, l), (R.topUsb p, 0x444)]))

/-- `linked l` with a port 4 that needs 1 ms of good conditions and holds a fault for 7 us. -/
def timed (l : Nat) : State := (linked l).with [(R.prtPLinkTmr 4, 7 * 65536 + 1)]

/-- The hypotheses of LinkStatesFollowTheirEvents (O26) are met. -/
theorem witness_LinkStatesFollowTheirEvents :
    (∀ l ∈ [1, 2, 3, 4], (linked l).portUsed 4 = true ∧ (linked l).link 4 = l ∧ (linked l).lanesClocked 4 = true ∧
      ((linked l).portLanes 4).contains 4 = true ∧ Reaches (linked l) .pf0 (R.prtPCtl 4)) ∧
    (timed 2).link 4 = 2 ∧ (timed 4).link 4 = 4 ∧ (timed 3).getF (R.prtPLinkTmr 4) 31 16 * 1000 < 7001 ∧
    7000 ≤ (timed 3).getF (R.prtPLinkTmr 4) 31 16 * 1000 ∧
    ((timed 4).reachClock (((timed 4).port 4).since + ofNs 0 + ofMs (max 1 ((timed 4).getF (R.prtPLinkTmr 4) 15 0)))).isSome = true ∧
    ((timed 2).reachClock (((timed 2).port 4).since + ofNs 500000000 +
      ofMs (max 1 ((timed 2).getF (R.prtPLinkTmr 4) 15 0)))).isNone = true ∧ (500000000 : Nat) ≤ 500000000 ∧
    ((timed 2).halted.reachClock (((timed 2).halted.port 4).since + ofMs 500)).isSome = true ∧
    ((timed 2).reachClock (((timed 2).port 4).since + ofMs 500)).isNone = true ∧
    (State.raise (linked 1) (Src.refclkLoss 0) []).lanesClocked 4 = false := by
  unfold Reaches
  decide +kernel

/-- A bank of two treads: all gates open, then one at 100 us with a hold. -/
def bank2 : List Byte :=
  [1, 0, 1, 0, 2, 0, 0, 0, 0, 0, 0, 0, 0, 0, 0, 0, 0, 0, 0, 0, 0xFF, 0, 0, 0] ++ leBytes 4 12500 ++ [0xFF, 1, 0, 0] ++
    List.replicate 8 0

/-- `linked 3` with that bank on port 0. -/
def banked : State := (linked 3).setBank 0 bank2

/-- A frame of class 3 for port 0. -/
def frame0 : TxFrame := ⟨0, .host 0 0, [0], 3, false, List.replicate 60 0, none, none, none, true, none, true⟩

/-- It on the line of port 0, launched or not, or preempted. -/
def line0 (launched : Bool) : LineSt where
  frame := frame0
  bytes := frame0.bytes
  smd := none
  frags := 0
  launched := launched
  since := ofNs 1050000
  first := ofNs 1050000
  sent := 0
  total := 64
  stopAt := none
  tick := 10
  tread := 0
  early := false
  preempted := false
  stomp := false
  cutFrag := false
  overrun := false
/-- `banked` with that frame on the line of port 0. -/
def online (launched : Bool) : State := banked.setPort 0 { banked.port 0 with line := some (line0 launched) }

/-- `linked 3` with port 4 verifying after `n` Verify mPackets of three. -/
def verifying (n : Nat) : State :=
  let s := (linked 3).with [(R.prtPStatus 4, 3 + 2 * 2 ^ 20), (R.prtPMmCfg 4, 3 * 2 ^ 16)]
  s.setPort 4 { s.port 4 with verifies := n }

/-- The hypotheses of FramesAreSelectedLaunchedAndEnded (O27, its part PortTimersAct) are met. -/
theorem witness_PortTimersAct :
    (∀ n ∈ [0, 2, 3], (verifying n).link 4 = 3 ∧ (verifying n).getF (R.prtPStatus 4) 23 20 = 2 ∧ (verifying n).portCarries 4 = true ∧
      ((verifying n).halted.reachClock (((verifying n).port 4).since +
        ofMs (((verifying n).port 4).verifies * (verifying n).verifyMs 4))).isSome = true ∧
      ((verifying n).halted.port 4).verifies = n ∧ (verifying n).halted.getF (R.prtPMmCfg 4) 19 16 = 3) ∧
    (linked 3).getF (R.prtPStatus 4) 23 20 ≠ 2 ∧ banked.running = true ∧ banked.portUsed 0 = true ∧
    (banked.nextTreadAt 0).isSome = true ∧ banked.nextTreadAt 1 = none ∧ banked.portUsed 5 = false ∧
    (((banked.settlePort 0).treadsAhead 0).head?.any (fun x => x.2.hold && decide (x.1 - ofNs ((banked.settlePort 0).rdN
      (R.prtPHoldAdv 0)) < (banked.settlePort 0).landingAt (banked.settlePort 0).nextTick))) = true ∧
    ((banked.setBank 0 []).settlePort 0).treadsAhead 0 = [] ∧ (banked.setBank 0 []).portUsed 0 = true := by
  decide +kernel

/-- `banked` with that frame ready. -/
def readied : State := { banked with tx := { banked.tx with ready := [frame0], nextId := 1 } }

/-- What TX_SELECT makes of the port before it looks for the best frame. -/
def selecting (s : State) (p : Nat) : State :=
  let w := if (s.port p).line.isNone then s.untilClock (s.port p).freeAt else s
  (((w.settlePort p).ripen p).noteBlocked p).flushPort p

/-- The best frame of port 0, the best express one, and whether its line is free and nothing preempted waits. -/
def choice (s : State) : Option TxFrame × Option TxFrame × Bool × Bool :=
  let b := (selecting s 0).countDefer 0
  let ok := (b.heads 0).filter (b.eligible 0)
  (b.bestOf 0 ok, b.bestOf 0 (ok.filter (fun f => b.express 0 f.tc)), (b.port 0).line.isNone, (b.port 0).preempted.isNone)

/-- The hypotheses of FramesAreSelectedLaunchedAndEnded (O27) are met. -/
theorem witness_FramesAreSelectedLaunchedAndEnded :
    (∀ s ∈ [readied, online true, online false], s.portUsed 0 = true ∧ s.holds = false ∧ s.coreRuns = true ∧
      (selecting s 0).portCarries 0 = true) ∧
    (choice readied).1.isSome = true ∧ (choice readied).2 = (some frame0, true, true) ∧ (choice (online true)).2 = (none, false, true) ∧
    (choice banked) = (none, none, true, true) ∧ readied.portUsed 5 = false ∧
    (selecting (readied.with [(R.topUsb 0, 0)]) 0).portCarries 0 = false ∧
    (∀ l ∈ [true, false], (((online l).settlePort 0).port 0).line = some (line0 l)) ∧
    (∀ k ∈ [0, 9], ((online false).settlePort 0).mayLaunch 0 (line0 false) (ofPs80 (k % 10)) = true) ∧
    (((online false).with [(R.topUsb 0, 0)]).settlePort 0).mayLaunch 0 (line0 false) (ofPs80 0) = false ∧
    (((readied.settlePort 0).port 0).line).isNone = true := by
  decide +kernel

/-- `linked 3` with handle 1 as given. -/
def handled (h : HandleSt) : State := (linked 3).setHandle 1 h

/-- The node table of `linked 3` with one entry of pair 2. -/
def noded (mac : Nat) : State := { linked 3 with str := { (linked 3).str with nodes := [⟨2, mac, none, none, none, 0⟩] } }

/-- Pair 2 sends supervision frames every `ms` ms, the last at `at'`. -/
def supervising (ms : Nat) (at' : Option Time) : State :=
  let s := (linked 3).with [(R.strRpCtl 2, ms * 65536 + 1), (R.strRpMac 2, 1)]
  { s with str := { s.str with supAt := Tab.put (fun _ => none) [] 2 at' } }

/-- The hypotheses of StreamTimersAndCommandsAct (O28, its part StreamTimersAct) are met. -/
theorem witness_StreamTimersAct :
    (∀ r ∈ (linked 3).stream? 1, (linked 3).pathsDue r 11 = (false, false) ∧
      (∀ t ∈ [5, 4], (handled { handleInit 1 with lastPass := some t }).twinDue r 11 = true) ∧
      (handled { handleInit 1 with lastPass := some 6 }).twinDue r 11 = false ∧
      (handled { handleInit 1 with lastPass := some 4 }).twinDue r 10 = true ∧
      ((handled { handleInit 1 with lastA := some 10 }).wrN R.strPathWin 9).pathsDue r 10 = (false, true) ∧
      ((handled { handleInit 1 with lastB := some 10 }).wrN R.strPathWin 9).pathsDue r 10 = (true, false)) ∧
    ((linked 3).stream? 1).isSome = true ∧ (linked 3).stream? 2 = none ∧
    (∀ m ∈ [0, 2 ^ 48 - 1], ((noded m).node? 2 m).isSome = true ∧
      ((noded m).halted.reachClock (0 + ofMs ((noded m).halted.getF (R.strRpForget 2) 15 0))).isSome = true ∧
      ((noded m).reachClock (0 + ofMs ((noded m).getF (R.strRpForget 2) 15 0))).isNone = true) ∧
    (noded 1).node? 2 2 = none ∧
    (∀ e ∈ [(1, none), (1, some 0), (2000, some 0)], (supervising e.1 e.2).pairOf 2 = some 2 ∧
      (supervising e.1 e.2).bit (R.strRpCtl 2) 0 = true ∧ (supervising e.1 e.2).rd64 (R.strRpMac 2) % 2 ^ 48 ≠ 0 ∧
      Tab.get (fun _ => none) (supervising e.1 e.2).str.supAt 2 = e.2) ∧
    ((supervising 1 none).reachClock (0 + ofMs 1)).isSome = true ∧ ((supervising 2000 none).reachClock (0 + ofMs 2000)).isNone = true ∧
    (linked 3).bit (R.strRpCtl 2) 0 = false := by
  decide +kernel

/-- `s` with the SH that a command writes to STR.CMD. -/
def shWritten (s : State) (sh : Nat) : State := s.setF R.strCmd 31 16 sh

/-- `linked 3` under a plan whose one stream, 65,535, has no recovery function. -/
def unrecovered : State :=
  { linked 3 with plan := { run0.plan with active := some { plan0 with sections := [⟨Sect.streams, 0, streamRow 65535 0 0 0⟩] } } }

/-- The hypotheses of StreamTimersAndCommandsAct (O28, its part StreamCommandsTakeEffect) are met. -/
theorem witness_StreamCommandsTakeEffect :
    Reaches (linked 3) .pf0 R.strCmd ∧ ((shWritten (linked 3) 1).stream? (1 % 65536)).isSome = true ∧
    (∀ r ∈ (shWritten (linked 3) 1).stream? 1, r.recovery ≠ 0 ∧ (shWritten (linked 3) 1).hostTwin ((shWritten (linked 3) 1).home r.sh) =
      false ∧ ((shWritten (linked 3) 1).handle r.sh).contained = false ∧
      ((shWritten (handled { handleInit 1 with contained := true }) 1).handle r.sh).contained = true) ∧
    ((shWritten unrecovered 65535).stream? (65535 % 65536)).isSome = true ∧
    (∀ r ∈ (shWritten unrecovered 65535).stream? 65535, r.recovery = 0) ∧
    (shWritten (linked 3) 65535).stream? (65535 % 65536) = none ∧ (shWritten (linked 3) 0).stream? (65536 % 65536) = none := by
  unfold Reaches
  decide +kernel

/-- The hypotheses of WindowSelectorsShowTheirUnit (O29) are met. -/
theorem witness_WindowSelectorsShowTheirUnit :
    Sound run0 ∧ Reaches run0 .pf0 R.strSel ∧ Reaches run0 .pf1 R.schRdSel ∧ Reaches run0 (.wq 0) R.przInSel ∧
    (0xFFFF#32).getLsbD 16 = false ∧ (0x10001#32).getLsbD 16 = true := by
  unfold Sound Reaches
  decide +kernel

/-- `linked 3` with SCH.P[p].TARGET `t` for port 4 and 0. -/
def swapping (t : Nat) : State := (linked 3).with [(R.schPTarget 4, t), (R.tickLateWin, 8)]

/-- It with port 4 in host-assisted SWAP mode. -/
def hostSwapped : State := { linked 3 with plan := { run0.plan with modes := List.replicate 8 0 ++ [0x10] } }

/-- It with a swap of port 4 requested by a command. -/
def swapAsked : State := (linked 3).addReq ⟨.bank 4, 11, false, false, none, true⟩

/-- The hypotheses of BankCommandsTakeEffect (O30) are met. -/
theorem witness_BankCommandsTakeEffect :
    (∀ s ∈ [swapping 11, swapping 3, swapping 2], Reaches s .pf0 (R.schPCtl 4) ∧ s.portUsed 4 = true ∧ s.hostSwap 4 = false ∧
      s.bankFree 4 = true ∧ s.portUsed 5 = false) ∧
    (swapping 11).joinTick ((swapping 11).rdN (R.schPTarget 4)) = some (11, false) ∧
    (swapping 3).joinTick ((swapping 3).rdN (R.schPTarget 4)) = some (11, true) ∧
    (swapping 2).joinTick ((swapping 2).rdN (R.schPTarget 4)) = none ∧
    hostSwapped.hostSwap 4 = true ∧ hostSwapped.bankFree 4 = true ∧ hostSwapped.portUsed 4 = true ∧
    swapAsked.mirrorOwns = false ∧ swapAsked.bankFree 4 = false ∧ mirrored.mirrorOwns = true ∧
    (swapAsked.tick.reqs.any (fun r => (decide (r.kind = .bank 4) && r.byCommand) && decide (swapAsked.openTick ≤ r.tick))) = true ∧
    ((linked 3).tick.reqs.any (fun r => (decide (r.kind = .bank 4) && r.byCommand) && decide ((linked 3).openTick ≤ r.tick)))
      = false := by
  unfold Reaches
  decide +kernel


/-! ### Prism, panes, GOOSE, publishers -/

/-- `run0` with PRZ.IN_ARG `v`, and the SH that a command writes. -/
def inputArg (v : Int) (sh : Nat) : State := (run0.wr R.przInArg (BitVec.ofInt 32 v)).setF R.przInCmd 31 16 sh

/-- A sequence with one sample, anchored at its slot 0. -/
def seq0 : Seq := ⟨1, 0, 0, 4, 0, 0, [], []⟩

/-- The hypotheses of PrismInputCommandsWaitForTheLanding (O31) are met. -/
theorem witness_PrismInputCommandsWaitForTheLanding :
    Reaches run0 .pf0 R.przInCmd ∧ ((inputArg 0 1).inputRec? 1).isSome = true ∧ ((inputArg 0 65535).inputRec? 65535).isNone = true ∧
    (∀ v ∈ [(0 : Int), 10000000, -10000000], signed 32 ((inputArg v 1).rdN R.przInArg) = v ∧ -10000000 ≤ v ∧ v ≤ 10000000) ∧
    (∀ v ∈ [(10000001 : Int), -10000001], signed 32 ((inputArg v 1).rdN R.przInArg) = v ∧ (v < -10000000 ∨ 10000000 < v)) ∧
    (run0.sin 1).cur = none ∧ ((run0.setSin 1 { run0.sin 1 with cur := some seq0 }).sin 1).cur = some seq0 := by
  unfold Reaches
  decide +kernel

/-- `run0` where the pane of tick 10 of group 0 is next to seal, 100 us after L(10), its seal work in time or not. -/
def paned (slow : Option (Bool × Bool)) : State := run0.setGroup 0 { run0.group 0 with nextSeal := 10, slow := slow }

/-- `run0` with group `g` contained or not, and the ARG that a command writes. -/
def contained (held : Bool) (g : Nat) : State :=
  (run0.with [(R.przPgStatus 0, held.toNat * 2 ^ 17)]).setF R.przPgCmd 15 8 g

/-- The hypotheses of PanesSealAndGroupsAreContained (O32) are met. -/
theorem witness_PanesSealAndGroupsAreContained :
    ((paned none).pg? 0).isSome = true ∧
    (∀ r ∈ (paned none).pg? 0, ((paned none).reach ((paned none).sealTime 0 r)).isSome = true ∧
      ((paned (some (false, true))).reach ((paned (some (false, true))).sealTime 0 r)).isNone = true ∧
      (State.reach { paned (some (false, true)) with tick := { TickSt.reset with missedTo := some 12 } }
        (ofNs 1050000)).isSome = true) ∧
    ((paned none).group 0).slow.isNone = true ∧ ((paned (some (false, true))).group 0).slow.isSome = true ∧
    (∀ w ∈ [none, some (false, true)], (paned w).paneBarred ((paned w).group 0).nextSeal = false) ∧ run0.pg? 1 = none ∧
    Reaches run0 .pf0 R.przPgCmd ∧
    (∀ held ∈ [false, true], (contained held 0).im.has Sect.paneGroup 0 = true ∧
      (((contained held 0).group 0).cmd.getD ((contained held 0).bit (R.przPgStatus 0) 17)) = held) ∧
    (((run0.setGroup 0 { run0.group 0 with cmd := some true }).group 0).cmd.getD false) = true ∧
    (contained false 255).im.has Sect.paneGroup 255 = false := by
  unfold Reaches
  decide +kernel

/-- A load of a template that waits. -/
def load0 : TplLoad := ⟨.pf0, 0, 64, 0, 1522⟩

/-- `run0` with GCB 4,095 in status `st`, for port `p`, once a command has written its unit. -/
def goosed (st p : Nat) : State := ((run0.with [(R.txeGcbStatus 4095, st), (R.txeGcbCfg 4095, p)]).setF R.txeCmd 15 12 0).setF R.txeCmd 27 16 4095

/-- It enabled, with a load of its template, and its next frame due at `d` ns. -/
def due (d : Nat) : State := (goosed 1 0).setGcb 4095 { (goosed 1 0).gcb 4095 with loading := some load0, due := ofNs d }

/-- The hypotheses of GooseBlocksLoadCommitAndSend (O33) are met. -/
theorem witness_GooseBlocksLoadCommitAndSend :
    (∀ st ∈ [0, 1, 8, 9], ∀ p ∈ [0, 5], (goosed st p).gcbMirrored 4095 = false ∧ ((goosed st p).gcb 4095).loading = none ∧
      (goosed st p).gcbOn 4095 = decide (st % 2 = 1) ∧ (goosed st p).bit (R.txeGcbStatus 4095) 3 = decide (8 ≤ st) ∧
      (goosed st p).gcbRuns 4095 = decide (st % 2 = 1) ∧
      ((goosed st p).portRec ((goosed st p).getF (R.txeGcbCfg 4095) 6 0)).lanes = (if p = 0 then 1 else 0)) ∧
    Reaches (goosed 9 0) .pf1 R.txeCmd ∧ (4095 : Nat) < 4096 ∧ ((due 1060000).gcb 4095).loading = some load0 ∧
    (due 1060000).inD3 load0.req = false ∧ ((due 1060000).with [(R.pwrD3, 1)]).inD3 load0.req = true ∧
    (due 1060000).gcbRuns 4095 = true ∧ ((due 1060000).reach ((due 1060000).gcb 4095).due).isSome = true ∧
    (due 1200000).gcbRuns 4095 = true ∧ ((due 1200000).reach ((due 1200000).gcb 4095).due).isNone = true ∧
    State.gcbMirrored (mirrored.with [(R.txeGcbCfg 4095, 2048)]) 4095 = true := by
  unfold Reaches
  decide +kernel

/-- `run0` with a curve of 2 ms, 1 s and `steps` steps. -/
def curved (steps : Nat) : State := run0.with [(R.txeGcbT1Us 0, 2000), (R.txeGcbT0Ms 0, 1000), (R.txeGcbCfg 0, steps * 65536)]

/-- The hypotheses of GooseBlocksLoadCommitAndSend (O33, its part GooseIntervalsDouble) are met. -/
theorem witness_GooseIntervalsDouble :
    (∀ e ∈ [(0, 1), (1, 1), (5, 5), (8, 8), (15, 8)], ((curved e.1).gcb 0).flat = false ∧
      max 1 (min 8 (((curved e.1).inForce (R.txeGcbCfg 0)).toNat / 65536 % 16)) = e.2 ∧ 1 ≤ e.2) ∧
    ((curved 5).inForce (R.txeGcbT1Us 0)).toNat % 16777216 = 2000 ∧ ((curved 5).inForce (R.txeGcbT0Ms 0)).toNat % 65536 = 1000 := by
  decide +kernel

/-- `linked 3` with publisher `n` in status `st`, one sample a tick on port 0 with octet offsets from L(n), once a command has
written its unit. -/
def published (n st : Nat) : State :=
  (State.setSvp ((linked 3).with [(R.txeSvpStatus n, st), (R.txeSvpCfg n, 65536)]) n { svpInit n with next := 10 }
    |>.setF R.txeCmd 15 12 1).setF R.txeCmd 27 16 n

/-- It with the slot of frame 10 read, and with a load of its template. -/
def slotted (v : Option (List Byte)) : State :=
  (published 63 3).setSvp 63 { (published 63 3).svp 63 with slots := [(10, v)], loading := some load0 }

/-- The hypotheses of PublishersLoadReadAndSend (O34) are met. -/
theorem witness_PublishersLoadReadAndSend :
    (∀ st ∈ [0, 1, 2, 3], (published 63 st).svpOn 63 = decide (st % 2 = 1) ∧
      (published 63 st).bit (R.txeSvpStatus 63) 1 = decide (2 ≤ st) ∧ ((published 63 st).svp 63).loading = none) ∧
    Reaches (published 63 3) .pf0 R.txeCmd ∧ Reaches (published 64 0) .pf0 R.txeCmd ∧ (64 : Nat) ≤ 64 ∧
    ((slotted none).svp 63).loading = some load0 ∧ (slotted none).inD3 load0.req = false ∧
    ((slotted none).with [(R.pwrD3, 1)]).inD3 load0.req = true ∧ (slotted none).inD3 ((slotted none).svpFunc 63) = false ∧
    ((slotted none).svp 63).next ≤ 11 ∧ 11 / max 1 ((slotted none).svpPerTick 63) ≤ (slotted none).now + 1 ∧
    (slotted none).now + 1 < 12 / max 1 ((slotted none).svpPerTick 63) ∧
    (∀ v ∈ [none, some [1]], (slotted v).svpOn 63 = true ∧ (slotted v).running = true ∧
      max ((slotted v).svp 63).next ((slotted v).now * (slotted v).svpPerTick 63) = 10 ∧
      10 - (slotted v).now * (slotted v).svpPerTick 63 < (slotted v).svpPerTick 63 ∧
      ((slotted v).reach ((slotted v).gridAt (slotted v).now (0 * (slotted v).svpAsdus 63 + (slotted v).svpAsdus 63 - 1)
        (fld ((slotted v).svpCfg 63) 31 16) * 65536)).isSome = true ∧
      ((slotted v).txPorts (fld ((slotted v).svpCfg 63) 6 0)).any (slotted v).portCarries = true ∧
      (((slotted v).svp 63).slots.find? (fun e => e.1 == 10)).bind (·.2) = v) ∧
    (((slotted none).with [(R.topUsb 0, 0)]).txPorts 0).any ((slotted none).with [(R.topUsb 0, 0)]).portCarries = false := by
  unfold Reaches
  decide +kernel


/-! ### Queues -/

/-- `run0` with queues 0 to 3 in state `st` (their kinds are their numbers, 16 entries), HEAD `h`, TAIL `t`, and ring 0 of 16
records with `n` of them not yet taken by the host. -/
def queued (st h t n : Nat) : State :=
  run0.with ([(R.qmCrInfo 0, 4 + 2 ^ 16 + 2 ^ 17), (R.qmCrTail 0, n)] ++ (List.range 4).flatMap (fun q =>
    [(R.qmQInfo q, q + 64), (R.qmQStatus q, 8 + st), (R.qmQHead q, h), (R.qmQFetched q, h), (R.qmQTail q, t)]))

/-- It with the given entries in queue `q`. -/
def holding (s : State) (q : Nat) (l : List Entry) : State :=
  s.setQueue q { s.queue q with entries := l, fetchMax := 64 }

/-- A cached entry with octets `b`. -/
def cached (i : Nat) (b : List Byte) : Entry := ⟨i, b, .cached, 0, [], 0, none, false⟩

/-- An entry whose read failed. -/
def unread (i : Nat) : Entry := ⟨i, [], .failed, 0, [], 0, none, false⟩

/-- Queues whose HEAD is 65,535 and whose TAIL is 0, and what TAIL's crossing makes of them. -/
def wrapped : State := queued 1 65535 0 0
/-- See `wrapped`. -/
def crossed : State := (wrapped.cross (Xing.tail 0) 9).2

/-- The hypotheses of DoorbellsAndHeadReports (O35, its part DoorbellsReachTheirOwnQueue) are met. -/
theorem witness_DoorbellsReachTheirOwnQueue :
    wrapped.barOpen = true ∧ (wrapped.sq? 0).isSome = true ∧ up.barOpen = true ∧ State.reset.barOpen = false ∧
    (∀ x ∈ wrapped.sq? 0, Requester.owns .pf0 x.func x.vf = true ∧ Requester.owns .pf1 x.func x.vf = false ∧
      Requester.owns (.vf false 1) x.func x.vf = false) ∧
    wrapped.qMirrored 0 = false ∧ crossed.qSize 0 = 16 ∧ idxDist (fld 15#32 15 0) (crossed.qHead 0) ≤ 16 ∧
    16 < idxDist (fld 16#32 15 0) (crossed.qHead 0) ∧ (∀ c ∈ [0, 1, 16, 17], fld (BitVec.ofNat 32 (c * 65536 + 65535)) 31 16 = c) ∧
    wrapped.qSize 0 = 16 ∧ idxDist 65535 (wrapped.qHead 0) < idxDist (wrapped.qTail 0) (wrapped.qHead 0) ∧
    (wrapped.queue 0).done.contains 65535 = false ∧ (wrapped.queue 0).fetching = none ∧ wrapped.sq? 4095 = none ∧
    ((queued 1 0 0 0).with [(R.rdnStatus, 1)]).qMirrored 0 = true := by
  decide +kernel

/-- Ring 0 with all of its 16 records untaken. -/
def ringFull : State := queued 1 0 0 16

/-- The hypotheses of DoorbellsAndHeadReports (O35, its part HeadReportsAreTakenOrLap) are met. -/
theorem witness_HeadReportsAreTakenOrLap :
    6 ≤ ringFull.boot.stage ∧ ringFull.clockStopped (R.qmCrHead 0) = false ∧ ringFull.qmIndex .pf0 true 0 = 0 ∧
    ringFull.qmOwner true 0 = some (0, 0) ∧ ringFull.qmMay .pf0 0 0 = true ∧ ringFull.qmMay .pf1 0 0 = false ∧
    ringFull.qmMay .mgmt 0 0 = false ∧ ringFull.qmOwner true 1023 = none ∧ ringFull.qmIndex .pf0 true 1023 = 1023 ∧
    (∀ h ∈ [0, 16], idxDist (ringFull.crTail 0) (fld (BitVec.ofNat 32 h) 15 0) ≤ ringFull.crSize 0) ∧
    (∀ h ∈ [65535, 17], ringFull.crSize 0 < idxDist (ringFull.crTail 0) (fld (BitVec.ofNat 32 h) 15 0)) := by
  decide +kernel

/-- A descriptor of `n` octets whose first fields are `b`, with its CRC-16. -/
def sealed (b : List Byte) (n : Nat) : List Byte :=
  let x := b ++ List.replicate (n - 2 - b.length) 0
  x ++ leBytes 2 (crc16 x).toNat

/-- A transmit descriptor of `len` octets, and an A-ring descriptor of 64 octets for tick `t`, posted as cancelled or not. -/
def txDesc (len : Nat) : List Byte := sealed (List.replicate 8 0 ++ leBytes 2 len ++ [7, 0]) 32
/-- See `txDesc`. -/
def aqDesc (t : Nat) (cancelled : Bool) : List Byte :=
  sealed (List.replicate 8 0 ++ leBytes 2 64 ++ [7, 0] ++ leBytes 4 t ++ List.replicate 5 0 ++ [BitVec.ofNat 8 cancelled.toNat]) 64

/-- A transmit queue in state `st` with one entry, and a ring with `n` records untaken. -/
def sending (st n len : Nat) : State := holding (queued st 0 1 n) 0 [cached 0 (txDesc len)]

/-- The hypotheses of TransmitEntriesAreUsedInOrder (O36) are met. -/
theorem witness_TransmitEntriesAreUsedInOrder :
    (∀ len ∈ [59, 60, 1518, 1519], ∀ st ∈ [1, 2], ((sending st 15 len).sq? 0).isSome = true ∧
      (sending st 15 len).oldestCached 0 = some (cached 0 (txDesc len)) ∧ (sending st 15 len).qState 0 = st ∧
      (sending st 15 len).inD3 ((sending st 15 len).qOwner 0) = false ∧ (sending st 15 len).readFailed 0 = false ∧
      (sending st 15 len).canReserve ((sending st 15 len).qRing 0) 1 = true ∧
      ∀ r ∈ (sending st 15 len).sq? 0, r.kind = 0 ∧ (sending st 15 len).txOk r.port (txDesc len) =
        (decide (60 ≤ len) && decide (len ≤ 1518))) ∧
    (sending 1 16 60).qState 0 = 1 ∧ (sending 1 16 60).canReserve ((sending 1 16 60).qRing 0) 1 = false ∧
    (sending 1 15 60).sq? 4095 = none ∧ (sending 3 15 60).qState 0 = 3 ∧ (queued 1 0 1 0).oldestCached 0 = none ∧
    (holding (queued 1 0 2 0) 0 [unread 0, cached 1 (txDesc 60)]).readFailed 0 = true ∧
    (∀ r ∈ (queued 1 0 1 0).sq? 3, r.kind ≠ 0 ∧ r.kind ≠ 2) := by
  decide +kernel

/-- An A-ring with one entry for tick `t`, a run-ahead depth of 1 tick, and `used` octets of its store in use. -/
def ahead (t used : Nat) (cancelled : Bool) : State :=
  (holding (queued 1 0 1 0) 2 [cached 0 (aqDesc t cancelled)]).with [(R.txeAqCfg 2, 1), (R.txeGRaUsed 0, used)]

/-- The entry of tick `t` bound. -/
def bound (t : Nat) : Entry := { cached 0 (aqDesc t false) with stage := .bound, slot := true }

/-- The hypotheses of TransmitEntriesAreUsedInOrder (O36, its part AporamEntriesBindOrAreLate) are met. -/
theorem witness_AporamEntriesBindOrAreLate :
    (∀ e ∈ [(9, false), (10, false), (11, false), (12, false), (11, true)], ((ahead e.1 0 e.2).sq? 2).isSome = true ∧
      (ahead e.1 0 e.2).oldestCached 2 = some (cached 0 (aqDesc e.1 e.2)) ∧ (ahead e.1 0 e.2).qState 2 = 1 ∧
      (ahead e.1 0 e.2).inD3 ((ahead e.1 0 e.2).qOwner 2) = false ∧ (ahead e.1 0 e.2).readFailed 2 = false ∧
      (ahead e.1 0 e.2).canReserve ((ahead e.1 0 e.2).qRing 2) 1 = true ∧
      (ahead e.1 0 e.2).aqExpired (aqDesc e.1 e.2) = decide (e.1 = 9) ∧
      decide (tickDiff (aqTarget (aqDesc e.1 e.2)) (ahead e.1 0 e.2).now ≤ ((ahead e.1 0 e.2).aqDepth 2 : Int)) = decide (e.1 ≤ 11) ∧
      leAt (aqDesc e.1 e.2) 0x15 1 = e.2.toNat ∧
      ∀ r ∈ (ahead e.1 0 e.2).sq? 2, r.kind = 2 ∧ (ahead e.1 0 e.2).aqOk r.port (aqDesc e.1 e.2) = true ∧
        (ahead e.1 0 e.2).portGallery r.port = 0) ∧
    (ahead 11 1048512 false).rdN (R.txeGRaUsed 0) + leAt (aqDesc 11 false) 8 2 ≤ 1048576 ∧
    1048576 < (ahead 11 1048513 false).rdN (R.txeGRaUsed 0) + leAt (aqDesc 11 false) 8 2 ∧
    (∀ t ∈ [9, 10], (holding (queued 1 0 1 0) 2 [bound t]).entry? 2 0 = some (bound t) ∧ (bound t).stage = .bound ∧
      (holding (queued 1 0 1 0) 2 [bound t]).qKind 2 = 2 ∧
      (holding (queued 1 0 1 0) 2 [bound t]).aqExpired (bound t).bytes = decide (t = 9)) ∧
    (ahead 9 0 false).entry? 2 0 = some (cached 0 (aqDesc 9 false)) ∧ (ahead 9 0 false).entry? 2 1 = none := by
  decide +kernel

/-- A receive descriptor of `len` octets. -/
def rxDesc (len : Nat) : List Byte := sealed (List.replicate 8 0 ++ leBytes 2 len ++ [7, 0]) 32

/-- A received frame of `n` octets that waits. -/
def rxWaiting (n : Nat) : RxFrame := ⟨List.replicate n 0, 10, [1, 1, 1, 1, 1, 1, 1, 1], [2, 2, 2, 2, 2, 2, 2, 2]⟩

/-- `queued` with entry 0 and a frame in queue 1, with receive timestamps or without. -/
def received (len n tail : Nat) (ts : Bool) : State :=
  (queued 1 0 1 tail).setQueue 1 { queueInit 1 with entries := [cached 0 (rxDesc len)], rxWait := [rxWaiting n], rxTs := ts }

/-- The next read of queue `q` is issued: entry 65,535, of two that are posted. -/
def reading (q : Nat) : State := (holding (queued 1 65535 1 0) q []).issueFetch q

/-- It with the read of entry 65,535 marked stale. -/
def staleRead (q : Nat) : State := (reading q).setQueue q { (reading q).queue q with fetching := some (65535, true) }

/-- The hypotheses of ReceiveQueuesFetchAndDeliver (O37) are met. -/
theorem witness_ReceiveQueuesFetchAndDeliver :
    (∀ q ∈ [0, 1, 2, 3], (((holding (queued 1 65535 1 0) q []).issueFetch q).queue q).fetching = some (65535, false) ∧
      ((reading q).queue q).done.contains 65535 = false ∧ ((reading q).entry? q 65535).isSome = false ∧
      State.mayFetch ((reading q).setQueue q { (reading q).queue q with fetching := none }) q = true ∧
      ((State.issueFetch (staleRead q) q).queue q).fetching = some (65535, true) ∧ (reading q).qKind q = q) ∧
    ((State.issueFetch (queued 1 0 0 0) 0).queue 0).fetching = none ∧ (ahead 11 1048513 false).qGallery 2 = 0 ∧
    (∀ t ∈ [11, 12], decide ((ahead t 0 false).aqDepth 2 < tickDiff (aqTarget (aqDesc t false)) (ahead t 0 false).now) =
      decide (t = 12)) ∧
    (∀ len ∈ [88, 96, 16384, 16392], (received len 60 0 false).rxNext 1 = some (cached 0 (rxDesc len)) ∧
      ((received len 60 0 false).queue 1).rxWait = [rxWaiting 60] ∧ (received len 60 0 false).qKind 1 = 1 ∧
      (received len 60 0 false).qState 1 = 1 ∧ (received len 60 0 false).inD3 ((received len 60 0 false).qOwner 1) = false ∧
      (received len 60 0 false).canReserve ((received len 60 0 false).qRing 1) 1 = true ∧
      rxOk (rxDesc len) = (decide (96 ≤ len) && decide (len ≤ 16384))) ∧
    (received 96 60 16 true).canReserve ((received 96 60 16 true).qRing 1) 1 = false ∧ (reading 1).rxNext 1 = none ∧
    (∀ e ∈ [(80, true, true), (81, true, false), (88, false, true), (89, false, false)],
      ((received 96 e.1 0 e.2.1).queue 1).rxTs = e.2.1 ∧ (rxWaiting e.1).stamp ≠ [] ∧
      decide ((e.1 + 7) / 8 * 8 + (if e.2.1 = true then (rxWaiting e.1).stamp ++ (rxWaiting e.1).twin else (rxWaiting e.1).twin).length
        ≤ leAt (rxDesc 96) 8 2) = e.2.2) := by
  decide +kernel

/-- A work descriptor: operation, octet 1, ARG and the first word of DATA. -/
def workDesc (op flags arg d : Nat) : List Byte :=
  sealed ([BitVec.ofNat 8 op, BitVec.ofNat 8 flags, 7, 0] ++ leBytes 4 arg ++ leBytes 4 d) 32

/-- `queued` with one work entry in queue 3. -/
def working (b : List Byte) : State := holding (queued 1 0 1 0) 3 [cached 0 b]

/-- It once the entry has its slot. -/
def workIssued (b : List Byte) : State :=
  ((working b).reserve 0 1).setEntry 3 { cached 0 b with stage := .issued, slot := true }

/-- `s` with the TIME clock stopped. -/
def timeless (s : State) : State := { s with pwr := { s.pwr with stopped := [2] } }

/-- The hypotheses of WorkEntriesIssueAndComplete (O38) are met. -/
theorem witness_WorkEntriesIssueAndComplete :
    (∀ x ∈ [(workDesc 0 1 0 0, 0), (workDesc 0 2 0 0, 1), (workDesc 5 0 0 0, 2), (workDesc 1 0 R.planSrc 0, 0), (workDesc 2 0 R.planStatus 0, 0),
        (workDesc 2 0 3 0, 4), (workDesc 3 0 R.strCmd 0, 0), (workDesc 3 0 R.planSrc 0, 4), (workDesc 4 0 4095 0, 0), (workDesc 4 0 4096 0, 5)],
      (working x.1).oldestCached 3 = some (cached 0 x.1) ∧ (working x.1).qKind 3 = 3 ∧ (working x.1).qState 3 = 1 ∧
      (working x.1).inD3 ((working x.1).qOwner 3) = false ∧ (working x.1).readFailed 3 = false ∧ (working x.1).coreRuns = true ∧
      (working x.1).canReserve ((working x.1).qRing 3) 1 = true ∧ (working x.1).qRing 3 = 0 ∧ (working x.1).workReason 3 x.1 = x.2) ∧
    (∀ op ∈ [0, 1, 2, 3, 4], workOp (workDesc op 0 0 0) = op) ∧ workFence (workDesc 0 1 0 0) = true ∧ workClean (workDesc 0 1 0 0) = true ∧
    workFence (workDesc 0 0 0 0) = false ∧ workClean (workDesc 0 2 0 0) = false ∧ (cached 0 (workDesc 0 1 0 0)).idx = (queued 1 0 1 0).qHead 3 ∧
    (cached 1 (workDesc 0 1 0 0)).idx ≠ (queued 1 0 2 0).qHead 3 ∧
    (∀ k ∈ [R.planSrc, R.planStatus, R.strCmd], (workIssued (workDesc 1 0 k 0)).workStopped 3 k = false) ∧
    (workIssued (workDesc 4 0 4095 0)).clockStopped (R.tickAct 4095) = false ∧
    (timeless (workIssued (workDesc 1 0 (R.tsuTbSetTime 7) 0))).workStopped 3 (R.tsuTbSetTime 7) = true ∧
    (timeless (working (workDesc 4 0 0 0))).clockStopped (R.tickAct 0) = true ∧
    (holding (queued 1 0 1 16) 3 [cached 0 (workDesc 0 0 0 0)]).canReserve 0 1 = false ∧ (queued 1 0 1 0).oldestCached 3 = none := by
  decide +kernel

/-- `queued` in state `st` as a command of QM.CMD on queue `i`, or on ring `i`, leaves it. -/
def qmWritten (s : State) (ring : Bool) (i : Nat) : State := (s.setBit R.qmCmd 15 ring).setF R.qmCmd 31 16 i

/-- The hypotheses of QueueAndRingCommandsTakeEffect (O39, its part QueueCommandsTakeEffect) are met. -/
theorem witness_QueueCommandsTakeEffect :
    (∀ st ∈ [0, 1, 2, 3, 4], 6 ≤ (queued st 0 0 0).boot.stage ∧ (queued st 0 0 0).clockStopped R.qmCmd = false ∧
      (qmWritten (queued st 0 0 0) false 1).qmIndex .pf0 false 1 = 1 ∧ (qmWritten (queued st 0 0 0) false 1).qmOwner false 1 = some (0, 0) ∧
      (qmWritten (queued st 0 0 0) false 1).qmMay .pf0 0 0 = true ∧ (qmWritten (queued st 0 0 0) false 1).qmMay .pf1 0 0 = false ∧
      (qmWritten (queued st 0 0 0) false 1).qMirrored 1 = false ∧ (qmWritten (queued st 0 0 0) false 1).qState 1 = st ∧
      (qmWritten (queued st 0 0 0) false 1).qBaseOk 1 = true ∧
      (qmWritten (queued st 0 0 0) false 1).crEnabled ((qmWritten (queued st 0 0 0) false 1).qRing 1) = true ∧
      (queued st 0 0 0).qExists 1 = true ∧ (queued st 0 0 0).qExists 4095 = false ∧
      (qmWritten (queued st 0 0 0) false 4095).qmOwner false 4095 = none) ∧
    ((qmWritten (queued 0 0 0 0) false 1).with [(R.qmQBase 1, 8)]).qBaseOk 1 = false ∧
    ((qmWritten (queued 0 0 0 0) false 0).with [(R.rdnStatus, 1)]).qMirrored 0 = true := by
  decide +kernel

/-- `queued` in state `st` with ring 0 enabled or not. -/
def ringed (st : Nat) (e : Bool) : State := (queued st 0 0 0).setBit (R.qmCrInfo 0) 16 e

/-- The hypotheses of QueueAndRingCommandsTakeEffect (O39, its part RingCommandsTakeEffect) are met. -/
theorem witness_RingCommandsTakeEffect :
    (∀ e ∈ [false, true], 6 ≤ (ringed 0 e).boot.stage ∧ (ringed 0 e).clockStopped R.qmCmd = false ∧
      (qmWritten (ringed 0 e) true 0).qmIndex .pf0 true 0 = 0 ∧ (qmWritten (ringed 0 e) true 0).qmOwner true 0 = some (0, 0) ∧
      (qmWritten (ringed 0 e) true 0).qmMay .pf0 0 0 = true ∧ (qmWritten (ringed 0 e) true 0).qmMay .pf1 0 0 = false ∧
      (qmWritten (ringed 0 e) true 0).crEnabled 0 = e ∧
      baseOk ((qmWritten (ringed 0 e) true 0).rd64 (R.qmCrBase 0)) ((qmWritten (ringed 0 e) true 0).crSize 0 * 16) = true ∧
      ((qmWritten (ringed 0 e) true 0).queuesOf 0).all (fun q => (qmWritten (ringed 0 e) true 0).qState q == 0) = true) ∧
    ((qmWritten (ringed 1 true) true 0).queuesOf 0).all (fun q => (qmWritten (ringed 1 true) true 0).qState q == 0) = false ∧
    (qmWritten (ringed 0 true) true 1023).qmOwner true 1023 = none ∧
    baseOk (((qmWritten (ringed 0 false) true 0).with [(R.qmCrBase 0, 8)]).rd64 (R.qmCrBase 0)) 256 = false := by
  decide +kernel

/-- The hypotheses of RecordsNameTheirEntry (O40) are met. -/
theorem witness_RecordsNameTheirEntry :
    (65535 : Nat) < 65536 ∧ (255 : Nat) < 256 ∧ (4095 : Nat) < 4096 ∧ (281474976710655 : Nat) < 281474976710656 := by decide

/-- Ring 0 with TAIL `n`. -/
def ringAt (n : Nat) : State := queued 1 0 0 n

/-- The hypotheses of PhaseInvertsWithEveryLap (O41) are met. -/
theorem witness_PhaseInvertsWithEveryLap :
    (ringAt 15).getF (R.qmCrInfo 0) 3 0 ≤ 15 ∧ (ringAt 15).crTail 0 < (ringAt 15).crSize 0 ∧
    (ringAt 31).getF (R.qmCrInfo 0) 3 0 = (ringAt 15).getF (R.qmCrInfo 0) 3 0 ∧
    (∀ e ∈ [(15, 31), (65535, 15)], (ringAt e.2).crTail 0 = ((ringAt e.1).crTail 0 + (ringAt e.1).crSize 0) % 65536) := by
  decide +kernel


/-! ### DMA and DDR4 -/

/-- `queued` with channel 255 in state `st`, `cfg` in CFG, a ring of its own, and a shadow set with COUNT `n` and CHK `chk`. -/
def channel (st cfg n chk : Nat) : State :=
  (queued 1 0 0 0).with [(R.dmaChStatus 255, st), (R.dmaChCfg 255, cfg), (R.dmaChCring 255, 1), (R.qmCrInfo 1, 4 + 2 ^ 16),
    (R.dmaChShadow 255 + 0x18, n),
    (R.dmaChShadow 255 + 0x1C, 1 + 16 * chk)]

/-- It with a swap of its shadow requested. -/
def setAsked (st cfg : Nat) : State := (channel st cfg 8 0).addReq ⟨.dmaSet 255, 11, false, false, none, true⟩

/-- The hypotheses of DmaCommandsTakeEffect (O42) are met. -/
theorem witness_DmaCommandsTakeEffect :
    (∀ st ∈ [0, 1, 2, 3, 4], Reaches (channel st 0 8 0) .pf0 (R.dmaChCtl 255) ∧ (channel st 0 8 0).chState 255 = st ∧
      (channel st 0 8 0).requested (.dmaSet 255) = false ∧ (channel st 0 8 0).chRingOk 255 = true ∧
      (channel st 0 8 0).chGroup 255 = none ∧ (channel st 0 8 0).armed 255 = false ∧ (channel (st + 256) 0 8 0).armed 255 = true ∧
      (∀ chk ∈ [0, 3], (channel st 0 8 chk).chSetOk 255 ((channel st 0 8 chk).shadowSet 255) = decide (chk = 0) ∧
        (channel st 0 8 chk).swapAtLanding 255 = false ∧ (channel st 16 8 chk).swapAtLanding 255 = true) ∧
      (setAsked st 0).requested (.dmaSet 255) = true ∧ (setAsked st 0).swapAtLanding 255 = false) ∧
    ((channel 0 0 8 0).with [(R.dmaChCring 255, 5)]).chRingOk 255 = false ∧ (run0.chGroup 254).isSome = true := by
  unfold Reaches
  decide +kernel

/-- `channel` with its shadow set loaded. -/
def loadedCh (st cfg : Nat) : State :=
  (channel st cfg 8 0).setChan 255 { chanInit 255 with loaded := some ((channel st cfg 8 0).shadowSet 255) }

/-- A set of 8 octets from 4,092 to 0, in buffers of 4,096 octets where `w` is 12. -/
def set8 (w : Nat) : List Byte :=
  leBytes 8 4092 ++ List.replicate 16 0 ++ leBytes 4 8 ++ [1, 0, 0, 0] ++ List.replicate 8 0 ++
    [BitVec.ofNat 8 w, BitVec.ofNat 8 w] ++ List.replicate 22 0

/-- `channel` with a run of it, as `f` has it. -/
def runningCh (cfg w : Nat) (f : DmaRun → DmaRun) : State :=
  State.setChan ((channel 2 cfg 8 0).with [(R.dmaChStatus 255, 2)]) 255
    { chanInit 255 with
      loaded := some (set8 w)
      run := some (f (newRun 0 (set8 w) 1 false (ofNs 1100000)))
      unanswered := [⟨0, 4⟩] }

/-- A pane run whose deadline is 1.04 ms or 1.1 ms. -/
def paneRun (d : Nat) : State := runningCh 1 0 (fun r => { r with pane := some 9, deadline := ofNs d })

/-- The hypotheses of DmaCommandsTakeEffect (O42, its part DmaDoorbellsTrigger) are met. -/
theorem witness_DmaDoorbellsTrigger :
    Reaches (loadedCh 1 0) .pf0 (R.dmaChDb 255) ∧ (loadedCh 1 4).getF (R.dmaChCfg 255) 3 2 ≠ 0 ∧
    setEmpty ((channel 1 0 8 0).chan 255).loaded = true ∧
    (∀ st ∈ [1, 2], setEmpty ((loadedCh st 0).chan 255).loaded = false ∧ (loadedCh st 0).getF (R.dmaChCfg 255) 3 2 = 0 ∧
      (loadedCh st 0).chState 255 = st ∧ ((loadedCh st 0).chan 255).run.isNone = true ∧ (loadedCh st 0).trigPend 255 = false ∧
      (loadedCh (st + 512) 0).trigPend 255 = true) ∧
    (loadedCh 4 0).chState 255 ≠ 1 ∧ (loadedCh 4 0).chState 255 ≠ 2 ∧ ((runningCh 0 0 id).chan 255).run.isSome = true ∧
    (runningCh 0 0 id).isPaneCh 255 = false ∧
    (∀ d ∈ [1050000, 1050001], (paneRun d).isPaneCh 255 = true ∧ (∀ r ∈ ((paneRun d).chan 255).run, r.phase = .move ∧
      decide (r.deadline ≤ (paneRun d).srcNow) = decide (d = 1050000))) ∧
    (loadedCh 1 0).canReserve ((loadedCh 1 0).chRing 255) 1 = true ∧
    ((loadedCh 1 0).with [(R.qmCrTail 1, 16)]).canReserve ((loadedCh 1 0).chRing 255) 1 = false := by
  unfold Reaches
  decide +kernel

/-- A burst of 4 octets in flight, its data read or not. -/
def burst4 (data : Option (List Byte)) : DmaBurst := ⟨0, 0, 4, 4092, 0, data⟩

/-- A run with it. -/
def bursting (data : Option (List Byte)) : State := runningCh 0 0 (fun r => { r with bursts := [burst4 data] })

/-- `run0` with a run of pane 9 on channel 254, which delivers group 0. -/
def delivering (pane : Option Nat) : State :=
  State.setChan (run0.with [(R.dmaChStatus 254, 2), (R.dmaChCfg 254, 1)]) 254
    { chanInit 254 with loaded := some (set8 0), run := some { newRun 0 (set8 0) 1 false (ofNs 1100000) with
      pane := pane, panes := [10], bursts := [burst4 none] } }

/-- A run whose write was answered and reported before. -/
def reported : State := (runningCh 0 0 id).setChan 255 { (runningCh 0 0 id).chan 255 with past := [⟨0, 7, 0⟩] }

/-- The hypotheses of DmaRunsMoveTheirBursts (O43, its part CopyRunsMoveTheirBursts) are met. -/
theorem witness_CopyRunsMoveTheirBursts :
    (loadedCh (1 + 512) 0).chState 255 = 1 ∧ (loadedCh (1 + 512) 0).trigPend 255 = true ∧ ((loadedCh 1 0).chan 255).run.isNone = true ∧
    (∀ w ∈ [0, 12], ((runningCh 0 w id).chan 255).run.isSome = true ∧ (runningCh 0 w id).chState 255 = 2 ∧
      (runningCh 0 w id).chGroup 255 = none ∧ (runningCh (2 ^ 25) w id).burstRoom 255 4 = true ∧
      (runningCh (2 ^ 25) w id).burstTurn 255 = true ∧ (∀ r ∈ ((runningCh (2 ^ 25) w id).chan 255).run,
        ((runningCh (2 ^ 25) w id).nextBurst 255 r).map (·.len) = some 4)) ∧
    (∀ r ∈ ((runningCh 0 0 (fun r => { r with phase := .drain })).chan 255).run, (runningCh 0 0 id).nextBurst 255 r = none) ∧
    (∀ p ∈ [none, some 9], (delivering p).isPaneCh 254 = true ∧ ((delivering p).chGroup 254).isSome = true ∧
      (∀ r ∈ ((delivering p).chan 254).run, r.pane = p ∧ r.phase = .move ∧ r.bursts[0]? = some (burst4 none))) ∧
    (∀ d ∈ [none, some [1, 2, 3, 4]], (bursting d).isPaneCh 255 = false ∧
      ∀ r ∈ ((bursting d).chan 255).run, r.bursts[0]? = some (burst4 d) ∧ r.bursts[1]? = none ∧ dSrcDdr r.cur = false) ∧
    (∀ r ∈ ((runningCh 0 0 (fun r => { r with phase := .fetch })).chan 255).run, r.phase = .fetch) ∧
    (runningCh 0 0 id).inD3 ((runningCh 0 0 id).chFunc 255) = false ∧
    (runningCh 0 0 id).setOk true (slice (sealed (slice (set8 0) 0 62) 64) 0 64) = true ∧ (runningCh 0 0 id).setOk true (slice [] 0 64) = false ∧
    ((runningCh 0 0 id).chan 255).unanswered[0]? = some ⟨0, 4⟩ ∧ ((runningCh 0 0 id).chan 255).unanswered[1]? = none ∧
    ((runningCh 0 0 id).chan 255).past.find? (fun p => p.run == 0) = none ∧
    (reported.chan 255).past.find? (fun p => p.run == 0) = some ⟨0, 7, 0⟩ ∧
    (∀ i ∈ [0, 1], ∀ ph ∈ [DmaPhase.move, .await, .barrier], ∀ r ∈ ((runningCh 0 0 (fun r => { r with id := i, phase := ph })).chan 255).run,
      r.id = i ∧ r.phase = ph) := by
  decide +kernel

/-- The hypotheses of DmaRunsMoveTheirBursts (O43, its part PaneRunsEndAtTheirDeadline) are met. -/
theorem witness_PaneRunsEndAtTheirDeadline :
    (∀ d ∈ [1050000, 1060000, 1200000], (paneRun d).isPaneCh 255 = true ∧ (∀ r ∈ ((paneRun d).chan 255).run, r.phase = .move ∧
      r.pane = some 9 ∧ r.panes = [] ∧ ((paneRun d).reach r.deadline).isSome = decide (d < 1200000))) ∧
    ((paneRun 1100000).chan 255).run.isSome = true ∧ ((loadedCh 1 0).chan 255).run.isNone = true ∧
    (runningCh 0 0 id).isPaneCh 255 = false := by
  decide +kernel

/-- The hypotheses of CircularBuffersWrap (O44) are met. -/
theorem witness_CircularBuffersWrap :
    (0 : Nat) < 12 ∧ (∀ w ∈ [0, 12], ((runningCh 0 w id).chan 255).run.isSome = true ∧ (runningCh 0 w id).isPaneCh 255 = false ∧
      ∀ r ∈ ((runningCh 0 w id).chan 255).run, ((runningCh 0 w id).copyBurst 255 r).isSome = true ∧
        leAt r.cur 0x28 1 = w ∧ leAt r.cur 0x29 1 = w) := by
  decide +kernel

/-- `run0` with channel 0 READY at 1 GiB: its next read is due after L(11). -/
def patrolWaits : State :=
  { run0.with [(R.memChStatus 0, 2 + 2 ^ 24)] with ddr := ⟨[], Tab.put scrubInit [] 0 ⟨10, 0, 1⟩⟩ }

/-- `up` with channel 0 READY at 1 GiB, the patrol at block `k`, and `bad` blocks. -/
def patrolled (k : Nat) (bad : List Nat) : State :=
  { up.with [(R.memChStatus 0, 2 + 2 ^ 24)] with ddr := ⟨bad, Tab.put scrubInit [] 0 ⟨k, 0, 1⟩⟩ }

/-- The hypotheses of PatrolScrubWalksTheChannel (O45) are met. -/
theorem witness_PatrolScrubWalksTheChannel :
    (∀ k ∈ [0, 7, 16777215], (patrolled k []).getF (R.memChStatus 0) 2 0 = 2 ∧ (patrolled k []).scrubBlocks 0 ≠ 0 ∧
      ((patrolled k []).reachClock ((patrolled k []).scrubAt 0)).isSome = true ∧ ((patrolled k []).scrub 0).next = k) ∧
    patrolWaits.scrubBlocks 0 ≠ 0 ∧ (patrolled 7 []).flatOf 0 (64 * 7) = some 448 ∧
    (patrolled 7 []).ddr.bad.contains (448 / 64) = false ∧ up.getF (R.memChStatus 0) 2 0 ≠ 2 ∧
    (up.with [(R.memChStatus 0, 2)]).scrubBlocks 0 = 0 ∧
    patrolWaits.getF (R.memChStatus 0) 2 0 = 2 ∧ (patrolWaits.reachClock (patrolWaits.scrubAt 0)).isNone = true := by
  decide +kernel


/-! ### Pair and mirror -/

/-- `run0` in role `r`, with the pair block given. -/
def roled (r : Nat) (x : RdnSt) : State := { run0.with [(R.rdnStatus, r)] with rdn := x }

/-- A line the peer asserts. -/
def peerOn : RdnSt := { RdnSt.reset with peerIn := true }

/-- A claim that stands since 1.05 ms, or since 100 ns before. -/
def claimed (ns : Nat) : RdnSt := { RdnSt.reset with claimAt := ofNs (1050000 - ns) }

/-- 50 ns before the next landing, in role `r`, with the pair block and guard time given. -/
def late (r guard : Nat) (x : RdnSt) : State :=
  let s := (roled r x).with [(R.rdnGuard, guard)]
  { s with clock := ofNs 1199950, tbs := List.replicate 8 { TbSt.reset with count := ofNs 1199950 } }

/-- A handover commanded for the landing 7, with a limit of `n` heartbeat ticks. -/
def handing (r n : Nat) : State := (roled r { RdnSt.reset with handoverAt := some 7 }).with [(R.rdnHbTicks, n)]

/-- The hypotheses of PairLineIsFollowed (O46) are met. -/
theorem witness_PairLineIsFollowed :
    up.rdn.peerIn = false ∧ up.hasPair = false ∧
    (∀ r ∈ [0, 1, 2, 3, 4], (roled r RdnSt.reset).rdn.peerIn = false ∧ (roled r RdnSt.reset).hasPair = true ∧
      ((roled r RdnSt.reset).setBit R.rdnStatus 19 true).role = r ∧ (roled r peerOn).rdn.peerIn = true) ∧
    (∀ e ∈ [(0, true), (50, false)], (late 1 e.1 { RdnSt.reset with freeSince := ofNs 1199950 }).rdn.peerIn = false ∧
      ((late 1 e.1 { RdnSt.reset with freeSince := ofNs 1199950 }).reachClock (ofNs 1199950 +
        (late 1 e.1 { RdnSt.reset with freeSince := ofNs 1199950 }).guardSpan)).isSome = e.2) ∧
    (∀ ns ∈ [0, 100], (roled 2 (claimed ns)).role = 2 ∧ (roled 2 (claimed ns)).rdn.peerIn = false ∧
      ((roled 2 (claimed ns)).reachClock (max (claimed ns).claimAt (claimed ns).freeSince + ofNs 100)).isSome = true) ∧
    (late 2 0 { RdnSt.reset with claimAt := ofNs 1199950 }).role = 2 ∧
    ((late 2 0 { RdnSt.reset with claimAt := ofNs 1199950 }).reachClock (ofNs 1199950 + ofNs 100)).isNone = true ∧
    (∀ e ∈ [(4, 3), (4, 4), (3, 3)], (handing e.1 e.2).rdn.handoverAt = some 7 ∧ (handing e.1 e.2).role = e.1 ∧
      decide (7 + (handing e.1 e.2).getF R.rdnHbTicks 10 0 ≤ (handing e.1 e.2).now) = decide (e.2 = 3)) ∧
    run0.rdn.handoverAt = none := by
  decide +kernel

/-- An ACTIVE device whose peer's last heartbeat has the flags `f`. -/
def partnered (f : Byte) : State := (roled 3 { RdnSt.reset with hbFlags := f }).with [(R.rdnStatus, 3 + 2 ^ 20 + 2 ^ 21)]

/-- A STANDBY all of whose sources are silent. -/
def calm (x : RdnSt) : State := (roled 1 x).with ((List.range 11).map (fun k => (R.fcrGLive k, 2 ^ 31)))

/-- The hypotheses of PairCommandsTakeEffect (O47) are met. -/
theorem witness_PairCommandsTakeEffect :
    Reaches (partnered 0) .pf0 R.rdnCtl ∧ (partnered 0).role = 3 ∧ (partnered 0).hasPair = true ∧
    (partnered 0).bit R.rdnStatus 20 = true ∧ (partnered 0).getF R.rdnStatus 23 21 = 1 ∧ (partnered 0).rdn.hbFlags.getLsbD 3 = false ∧
    (partnered 8).rdn.hbFlags.getLsbD 3 = true ∧ up.hasPair = false ∧ Reaches up .pf1 R.rdnCtl ∧
    (∀ r ∈ [0, 1, 2, 3, 4], Reaches (roled r RdnSt.reset) .pf1 R.rdnCtl ∧ (roled r RdnSt.reset).role = r ∧
      (roled r RdnSt.reset).hasPair = true) ∧
    (∀ r ∈ [0, 2, 3, 4], (roled r RdnSt.reset).mayClaim = false) ∧
    Reaches (calm RdnSt.reset) .pf0 R.rdnCtl ∧ (calm RdnSt.reset).mayClaim = true ∧ (calm RdnSt.reset).lineFree = true ∧
    (calm peerOn).mayClaim = true ∧ (calm peerOn).lineFree = false := by
  unfold Reaches
  decide +kernel

/-- The epoch of tick `n` waits to be sent. -/
def toSend (n : Nat) : RdnSt := { RdnSt.reset with sending := some (n, 8, [1, 2, 3], false, false) }

/-- The heartbeat of the present tick was sent. -/
def hbDone : RdnSt := { RdnSt.reset with hbTick := some 10 }

/-- The hypotheses of MirrorSendsItsFrames (O48) are met. -/
theorem witness_MirrorSendsItsFrames :
    run0.hasPair = true ∧ run0.rdn.hbTick ≠ some run0.now ∧ (run0.reach (run0.landingNow + ofUs 2)).isSome = true ∧
    run0.halted.hasPair = true ∧ (run0.halted.reach (run0.halted.landingNow + ofUs 2)).isNone = true ∧
    (roled 3 hbDone).rdn.hbTick = some (roled 3 hbDone).now ∧ run0.rdn.sending = none ∧
    (∀ r ∈ [1, 3, 4], ∀ n ∈ [9, 10], (roled r (toSend n)).role = r ∧ (toSend n).sending.map (·.1) = some n ∧
      ((roled r (toSend n)).reach ((roled r (toSend n)).landingAt (n + 1) + ofUs 10)).isSome = decide (n = 9)) := by
  decide +kernel

/-- `run0` with MGT.WDOG and WDOG_FO as given, at `ns`, when the last write was at 0. -/
def watched (w fo ns : Nat) : State :=
  { run0.with [(R.mgtWdog, w), (R.rdnCtl, fo * 512)] with clock := ofNs ns }

/-- The hypotheses of WatchdogRunsFromTheLastWrite (O49) are met. -/
theorem witness_WatchdogRunsFromTheLastWrite :
    Reaches run0 .mgmt R.mgtWdog ∧
    (∀ fo ∈ [0, 1], (watched 1 fo 10000000).plan.everCommitted = true ∧ (watched 1 fo 10000000).planState ≠ 0 ∧
      (watched 1 fo 10000000).bit R.mgtWdog 30 = false ∧ (watched 1 fo 10000000).bit R.rdnCtl 9 = decide (fo = 1) ∧
      ((watched 1 fo 10000000).reachClock ((watched 1 fo 10000000).rdn.wdogSince +
        ofMs (max 10 ((watched 1 fo 10000000).getF R.mgtWdog 15 0)))).isSome = true) ∧
    ((watched 1 0 1050000).reachClock ((watched 1 0 1050000).rdn.wdogSince +
      ofMs (max 10 ((watched 1 0 1050000).getF R.mgtWdog 15 0)))).isNone = true ∧
    (watched (2 ^ 30) 0 0).bit R.mgtWdog 30 = true ∧ up.plan.everCommitted = false := by
  unfold Reaches
  decide +kernel

/-! ### Faults and events -/

/-- `run0` with source 0 of class `c`, raised on the present edge or not, and injected on it or not. -/
def classed (c : Nat) (raised : List (Nat × List Nat)) (inj : List (Nat × Nat)) : State :=
  let s := run0.with [(R.fcrGClass 0 0, c), (R.fcrGInjCfg 0, c)]
  { s with fcr := { s.fcr with raisedNow := raised, injNow := inj } }

/-- The hypotheses of RaisesReactByClass (O50) are met. -/
theorem witness_RaisesReactByClass :
    (∀ c ∈ [0, 1, 2, 3, 4], ∀ r ∈ [[], [(0, [1])]], (classed c r []).fcr.injNow.find? (fun e => e.1 == 0) = none ∧
      (classed c r []).fcr.raisedNow.any (fun e => e.1 == 0) = !r.isEmpty ∧ (classed c r []).reactionOf 0 = c ∧ c ≤ 4) ∧
    (State.cross (State.noteRaise ((classed 4 [] []).setBit (R.fcrGLive 0) 0 true) 0) (Xing.source 0) 13).1 = false ∧
    (State.cross (State.cross (classed 4 [] []) (Xing.source 0) 13).2 (Xing.source 0) 13).1 = decide (0 < xingPs (Xing.source 0)) := by
  decide +kernel

/-- `run0` with the ARG that a command writes to FCR.CTL. -/
def argWritten (s : State) (arg : Nat) : State := s.setF R.fcrCtl 31 16 arg

/-- The hypotheses of CollectorCommandsAndInjections (O51, its part CollectorCommandsTakeEffect) are met. -/
theorem witness_CollectorCommandsTakeEffect :
    Reaches run0 .pf0 R.fcrCtl ∧ (argWritten (run0.with [(R.fcrStatus, 4)]) 0).latched = true ∧ (argWritten run0 65535).latched = false ∧
    (argWritten run0 65535).contained (65535 % 65536) = false ∧ (argWritten (run0.contain 3) 3).contained (3 % 65536) = true := by
  unfold Reaches
  decide +kernel

/-- The hypotheses of CollectorCommandsAndInjections (O51, its part InjectionsRaiseTheirSource) are met. -/
theorem witness_InjectionsRaiseTheirSource :
    Reaches up .pf0 (R.fcrGInj 0) ∧ Reaches up .pf0 (R.fcrGInj 19) ∧ (19 : Nat) < 20 ∧ (20 : Nat) ≤ 20 ∧
    (List.range 32).filter (fun i => (0x80000001#32).getLsbD i) = [0, 31] ∧ srcAssigned 0 = true ∧ srcAssigned 31 = false ∧
    (classed 4 [] []).detects 0 = true ∧ srcIsState (Src.refclkLoss 0) = true ∧
    ((run0.setBit (R.fcrGLive (Src.refclkLoss 0 / 32)) (Src.refclkLoss 0 % 32) true).detects (Src.refclkLoss 0)) = false ∧
    (∀ c ∈ [0, 1, 2, 3, 4], (classed c [] []).bit (R.fcrGInjCfg 0) 3 = false ∧ (classed c [] []).injClass 0 = c) ∧
    (up.with [(R.fcrGInjCfg 19, 8)]).bit (R.fcrGInjCfg 19) 3 = true ∧ (classed 4 [] [(0, 4)]).fcr.injNow.any (fun e => e.1 == 0) = true ∧
    (classed 4 [] []).fcr.injNow.any (fun e => e.1 == 0) = false ∧ (classed 4 [(0, [1])] []).fcr.raisedNow.filter (fun e => e.1 == 0) ≠ [] ∧
    (classed 4 [] []).fcr.raisedNow.filter (fun e => e.1 == 0) = [] := by
  unfold Reaches
  decide +kernel

/-- `up` with vector 5 of PF0 as given and its moderation register. -/
def vectored (n : Nat) (masked : Bool) (mod : Nat) : State :=
  (up.with [(R.fcrMod 0 5, mod)]).setVec (vecKey .pf0 5) ⟨n, 0, masked, false, 0, 0⟩

/-- One event pending on it under a time of 1 ms, while the tick runs: a landing lies before its instant. -/
def vecWaits : State :=
  (run0.with [(R.fcrMod 0 5, 2 * 65536 + 1000)]).setVec (vecKey .pf0 5) ⟨1, ofNs 1050000, false, false, 0, 0⟩

/-- The hypotheses of VectorsFireAndFlush (O52) are met. -/
theorem witness_VectorsFireAndFlush :
    (∀ m ∈ [false, true], ((vectored 1 m 0).vec (vecKey .pf0 5)).pending ≠ 0 ∧ (vectored 1 m 0).inD3 .pf0 = false ∧
      max 1 (fld ((vectored 1 m 0).modOf .pf0 5) 23 16) ≤ ((vectored 1 m 0).vec (vecKey .pf0 5)).pending ∧
      (vectored 1 m 0).vecMuted .pf0 5 = m) ∧
    (∀ s ∈ [vectored 1 false (2 * 65536 + 1), vecWaits, vectored 1 false (2 * 65536)], (s.vec (vecKey .pf0 5)).pending = 1 ∧
      1 < max 1 (fld (s.modOf .pf0 5) 23 16)) ∧
    (((vectored 1 false (2 * 65536 + 1)).vecDue .pf0 5).bind (vectored 1 false (2 * 65536 + 1)).reachClock).isSome = true ∧
    (vecWaits.vecDue .pf0 5).isSome = true ∧ ((vecWaits.vecDue .pf0 5).bind vecWaits.reachClock).isNone = true ∧
    (vectored 1 false (2 * 65536)).vecDue .pf0 5 = none ∧ ((vectored 0 false 0).vec (vecKey .pf0 5)).pending = 0 ∧
    (up.with [(R.pwrD3, 1)]).inD3 .pf0 = true ∧
    (2047 : Nat) < (if Requester.pf0.vfNum = 0 then 2048 else 64) ∧ (63 : Nat) < (if (Requester.vf true 128).vfNum = 0 then 2048 else 64) ∧
    Reaches up .pf0 R.pwrFlushMod ∧ (∀ f ∈ [0, 1, 7], up.inD3 (requesterOf f 0) = false) ∧ fld 7#32 2 0 = 7 ∧ fld 2#32 2 0 = 2 := by
  unfold Reaches
  decide +kernel


/-! ### Resets, boot, management, clocks, power, registers -/

/-- The device in boot stage `n`. -/
def staged (n : Nat) : State := { State.reset with boot := { BootSt.reset with stage := n } }

/-- The hypotheses of ResetsReturnTheirDomains (O53) are met. -/
theorem witness_ResetsReturnTheirDomains :
    up.boot.stage ≠ 0 ∧ (staged 0).boot.stage = 0 ∧ up.boot.fuses.splits = 0 ∧ (25 : Nat) ≤ 25 ∧ (24 : Nat) < 25 ∧ (1 : Nat) < 2 ∧
    (2 : Nat) ≤ 2 := by
  decide +kernel

/-- `staged n` with SEC.BOOT_STATUS `v`. -/
def straps (n v : Nat) : State := (staged n).with [(R.secBootStatus, v)]

/-- Boot stage 3 with a UDS that reads as uncorrectable. -/
def udsLost : State := { staged 3 with boot := { (staged 3).boot with fuses := { FuseSt.blank with udsOk := false } } }

/-- The hypotheses of BootStagesFollow (O54) are met. -/
theorem witness_BootStagesFollow :
    (∀ n ∈ [0, 1, 2, 3, 4, 5, 6], (staged n).boot.stage = n) ∧ (staged 3).boot.fuses.udsOk = true ∧ udsLost.boot.stage = 3 ∧
    udsLost.boot.fuses.udsOk = false ∧ (∀ c ∈ [1, 2, 3], fld (BitVec.ofNat 32 (0x1000 + c)) 2 0 = c) ∧
    (∀ e ∈ [(0, 0, 0), (1, 1, 0), (2, 2, 0), (2 ^ 24, 0, 1), (2 ^ 25, 0, 2)], (straps 5 e.1).boot.stage = 5 ∧
      (straps 5 e.1).getF R.secBootStatus 1 0 = e.2.1 ∧ (straps 5 e.1).getF R.secBootStatus 25 24 = e.2.2) := by
  decide +kernel

/-- `up` with fuses that hold keys in `slots` and have `gone` revoked, SEC.ARG `arg`, firmware of security version 64, and `n`
rollback fuses. -/
def fused (arg n : Nat) (slots : List Nat) (gone : BitVec 4) : State :=
  let k := (List.range 4).map (fun i => List.replicate 48 (if slots.contains i then (1 : Byte) else 0))
  { up.with [(R.secArg, arg), (R.secFwSecVersion, 64)] with boot := { up.boot with fuses := { FuseSt.blank with
    keyHash1 := k, keyHash2 := k, revoke1 := gone, rollback1 := BitVec.ofNat 64 (2 ^ n - 1), rollback2 := BitVec.ofNat 64 (2 ^ n - 1) } } }

/-- The slots with a key that is not revoked. -/
def usable (s : State) : List Nat := (List.range 4).filter (fun j => s.slotUsable j && !s.revoked j)

/-- The hypotheses of SecurityCommandsProgramFuses (O55) are met. -/
theorem witness_SecurityCommandsProgramFuses :
    Reaches up .pf0 R.secCmd ∧ isMgmt (up.acting .pf0) = false ∧ Reaches up .mgmt R.secCmd ∧ isMgmt (up.acting .mgmt) = true ∧
    up.bit R.secStatus 0 = false ∧ (up.with [(R.secStatus, 1)]).bit R.secStatus 0 = true ∧
    (∀ e ∈ [(5, 5), (64, 63), (65, 63)], (fused e.1 e.2 [0, 1] 0).getF R.secArg 6 0 = e.1 ∧ (fused e.1 e.2 [0, 1] 0).rollback = e.2 ∧
      (fused e.1 e.2 [0, 1] 0).rdN R.secFwSecVersion = 64 ∧ (fused e.1 e.2 [0, 1] 0).hasPlan = false) ∧
    run0.hasPlan = true ∧ run0.im.secVersion = 0 ∧ run0.im.keySlot = 0 ∧
    (fused 3 0 [0, 3] 8).getF R.secArg 1 0 = 3 ∧ (fused 3 0 [0, 3] 8).revoked 3 = true ∧ (fused 3 0 [0, 3] 0).revoked 3 = false ∧
    (fused 3 0 [0, 3] 0).getF R.secKeys 9 8 = 0 ∧ usable (fused 3 0 [0, 3] 0) ≠ [3] ∧ usable (fused 3 0 [3] 0) = [3] ∧
    (∀ e ∈ [(2, true), (0, false)], allZero ((fused 2 0 [0] 0).boot.fuses.keyHash1.getD e.1 []) = e.2 ∧
      allZero ((fused 2 0 [0] 0).boot.fuses.keyHash2.getD e.1 []) = e.2) := by
  unfold Reaches
  decide +kernel

/-- A request of `n` octets with opcode `op`, whose body begins with `d`. -/
def request (op n : Nat) (d : List Byte) : List Byte := leBytes 2 op ++ [1, 0] ++ leBytes 2 n ++ [0, 0] ++ d

/-- `s` with a FW_LOAD of 8 octets in mailbox 2. -/
def boxed (s : State) : State :=
  { s.with [(R.mgtMbStatus 2, 1), (R.mgtMbReq 2, 0x10013), (R.mgtMbReq 2 + 4, 8)] with mgt := { s.mgt with requests := [(2, 8)] } }

/-- The hypotheses of RequestsAreServedAndAnswered (O56) are met. -/
theorem witness_RequestsAreServedAndAnswered :
    up.fwRuns = true ∧ (staged 1).fwRuns = false ∧ (staged 1).inRecovery = false ∧
    (∀ op ∈ [0x01, 0x02, 0x03, 0x04, 0x05, 0x10, 0x11, 0x12, 0x14, 0x20, 0x21, 0x30, 0x40],
      up.requestOn (.mctp false) (request op 8 []) = some (request op 8 [], 8) ∧ leAt (request op 8 []) 0 2 = op ∧
      leAt (request op 8 []) 4 2 = 8 ∧ opcodes.contains op = true ∧ roadServes (.mctp false) op = true) ∧
    roadServes (.mctp false) 0x13 = false ∧ roadServes (.mailbox 2) 0x13 = true ∧ opcodes.contains 0x13 = true ∧
    (boxed up).fwRuns = true ∧ (boxed (straps 5 2)).inRecovery = true ∧ (boxed (straps 5 2)).fwRuns = false ∧
    (∀ s ∈ [boxed up, boxed (straps 5 2)], s.requestOn (.mailbox 2) [] = some ([0x13, 0, 1, 0, 8, 0, 0, 0], 8)) ∧
    (∀ n ∈ [7, 8, 4096, 4097], (up.requestOn (.mctp true) (List.replicate n 0)).map (·.2) = some n) ∧
    opcodes.contains (leAt (List.replicate 8 0) 0 2) = false ∧ up.requestOn (.mailbox 0) [] = none := by
  decide +kernel

/-- The opcode, first argument and data of a request. -/
def writeOf (op o n : Nat) : List Byte := request op (12 + n) (leBytes 4 o ++ List.replicate n 1)

/-- The hypotheses of RequestsAreServedAndAnswered (O56, its part RequestsHaveTheirEffects) are met. -/
theorem witness_RequestsHaveTheirEffects :
    run0.hasPlan = true ∧ up.hasPlan = false ∧ (∀ u ∈ [231, 232], leAt (request 4 11 (leBytes 2 u ++ [6])) 8 2 = u) ∧
    (∀ c ∈ [0, 1, 2], (straps 6 c).getF R.secBootStatus 1 0 = c) ∧
    (∀ e ∈ [(0x10, 4194303), (0x10, 4194304), (0x20, 16777215), (0x20, 16777216), (0x21, 16777215), (0x21, 16777216)],
      leAt (writeOf e.1 e.2 1) 8 4 = e.2 ∧ ((writeOf e.1 e.2 1).drop 12).length = 1) ∧
    ((writeOf 0x10 0 4064).drop 12).length ≤ 4064 ∧ 4064 < ((writeOf 0x10 0 4065).drop 12).length ∧ up.boot.lastVerify ≠ some 0 ∧
    (BootSt.lastVerify { up.boot with lastVerify := some 0 }) = some 0 ∧ up.inRecovery = false ∧ (straps 5 2).inRecovery = true ∧
    (∀ st ∈ [0, 1, 3, 4, 2, 7], (planned st 12 none).planState = st ∧ (planned st 12 none).getF (R.memChStatus 0) 2 0 = 2) := by
  decide +kernel

/-- The firmware runs and the SPDM connection of I2C0 is in state `n`. -/
def connected (n : Nat) : State := { up with mgt := { up.mgt with spdm := [(0, n)] } }

/-- The SGMII port has the address 10.0.0.1. -/
def sgmiiUp : State := { up.with [(R.secBootStatus, 2 ^ 27)] with mgt := { up.mgt with net := [10, 0, 0, 1] } }

/-- An ARP request for `ip`, and an IPv4 packet to it of protocol `proto` whose payload starts with `d`. -/
def arpFor (ip : List Byte) : List Byte :=
  List.replicate 12 0 ++ [0x08, 0x06] ++ List.replicate 6 0 ++ [0, 1] ++ List.replicate 16 0 ++ ip
/-- See `arpFor`. -/
def packetFor (proto : Nat) (ip d : List Byte) : List Byte :=
  List.replicate 12 0 ++ [0x08, 0, 0x45, 0, 0, 28] ++ List.replicate 5 0 ++ [BitVec.ofNat 8 proto] ++ List.replicate 6 0 ++ ip ++ d

/-- The hypotheses of AttestationFollowsItsConnection (O57) are met. -/
theorem witness_AttestationFollowsItsConnection :
    up.fwRuns = true ∧ up.bit R.secBootStatus 2 = false ∧ up.spdmState false = 0 ∧ (staged 1).fwRuns = false ∧
    (∀ n ∈ [0, 1, 2, 3], (connected n).spdmState false = n ∧ (connected n).fwRuns = true) ∧
    (straps 6 4).bit R.secBootStatus 2 = true ∧ (straps 6 4).fwRuns = true ∧ sgmiiUp.fwRuns = true ∧
    sgmiiUp.bit R.secBootStatus 27 = true ∧ sgmiiUp.mgtIp = 0x0A000001 ∧ up.mgtIp = 0 ∧
    beAt (arpFor [10, 0, 0, 1]) 12 2 = 0x0806 ∧ beAt (arpFor [10, 0, 0, 1]) 20 2 = 1 ∧ beAt (arpFor [10, 0, 0, 1]) 38 4 = 0x0A000001 ∧
    beAt (arpFor [10, 0, 0, 2]) 38 4 ≠ 0x0A000001 ∧
    (∀ e ∈ [(1, [8, 0, 0, 0]), (17, [0, 0, 0xA1, 0x40]), (6, [0, 0, 0, 0])], beAt (packetFor e.1 [10, 0, 0, 1] e.2) 12 2 = 0x0800 ∧
      beAt (packetFor e.1 [10, 0, 0, 1] e.2) 14 1 = 0x45 ∧ beAt (packetFor e.1 [10, 0, 0, 1] e.2) 23 1 = e.1 ∧
      beAt (packetFor e.1 [10, 0, 0, 1] e.2) 30 4 = 0x0A000001 ∧ beAt (packetFor e.1 [10, 0, 0, 1] e.2) 34 4 = beAt e.2 0 4) ∧
    beAt (packetFor 17 [10, 0, 0, 1] [0, 0, 0xA1, 0x40]) 36 2 = 41280 ∧ beAt (packetFor 1 [10, 0, 0, 1] [8, 0, 0, 0]) 34 2 = 0x0800 := by
  decide +kernel

/-- `up` whose management processor is in reset, with stage 3 to run again or not, and the boot ROM serving or not. -/
def mgtHeld (reload rom : Bool) : State := { up with pwr := { up.pwr with mgtReset := true, mgtReload := reload, mgtRom := rom } }

/-- The clocks `l` stand. -/
def State.clocksOff (s : State) (l : List Nat) : State := { s with pwr := { s.pwr with stopped := l } }

/-- The hypotheses of ManagementRestartsAndSamples (O58) are met. -/
theorem witness_ManagementRestartsAndSamples :
    Reaches up .mgmt R.mgtCtl ∧ up.fwRuns = true ∧ (staged 1).fwRuns = false ∧
    (∀ reload ∈ [false, true], (mgtHeld reload false).pwr.mgtReset = true ∧ (mgtHeld reload false).pwr.mgtRom = false ∧
      (mgtHeld reload false).pwr.mgtReload = reload ∧ (mgtHeld reload false).pwr.stopped.contains 3 = false) ∧
    (mgtHeld true true).pwr.mgtRom = true ∧ up.pwr.mgtReset = false ∧ ((mgtHeld false false).clocksOff [3]).pwr.stopped.contains 3 = true ∧
    up.bit R.mgtCtlStatus 0 = false ∧ (up.with [(R.mgtCtlStatus, 1)]).bit R.mgtCtlStatus 0 = true ∧
    (staged 0).boot.stage = 0 ∧ (staged 0).boot.shutdown = false ∧ up.boot.stage ≠ 0 ∧ up.boot.shutdown = false ∧
    (∀ t ∈ [439, 440, 459, 460, 519, 520], ((List.replicate 16 (t : Int)).take 16).foldl max ((List.replicate 16 (t : Int)).headD 0) = t) ∧
    signed 12 (up.getF R.mgtTempMax 11 0) < 520 ∧ 520 ≤ signed 12 ((up.with [(R.mgtTempMax, 520)]).getF R.mgtTempMax 11 0) ∧
    (up.acting (.pf7 false)).vfNum = 0 ∧ (up.acting (.vf false 1)).vfNum ≠ 0 ∧ up.clockStopped (R.topUsbMg 231) = false ∧
    (231 : Nat) < 232 ∧ run0.hasPlan = true ∧ run0.clockStopped (R.topUsbMg 231) = false ∧ run0.mgt.overrides.contains 231 = false ∧
    (run0.overrideView 231 6).mgt.overrides.contains 231 = true ∧ up.hasPlan = false ∧
    (up.clocksOff [0]).clockStopped (R.topUsbMg 231) = true := by
  unfold Reaches
  decide +kernel

/-- `up` whose gallery 7 has lost its reference clock. -/
def refLost : State := up.condition (Src.refclkLoss 7) [Cu.gallery 7] true

/-- The hypotheses of ClocksStopAndRestart (O59) are met. -/
theorem witness_ClocksStopAndRestart :
    (3 : Nat) < 4 ∧ (∀ i ∈ [0, 1, 2, 3], up.pwr.stopped.contains i = false ∧ (up.clocksOff [i]).pwr.stopped.contains i = true) ∧
    State.coreRuns ((up.clocksOff [2]).setBit R.pwrClkStatus 2 false) = true ∧
    State.coreRuns ((up.clocksOff [2, 0]).setBit R.pwrClkStatus 2 false) = false ∧ (7 : Nat) < 8 ∧
    refLost.isLive (Src.refclkLoss 7) = true ∧ up.isLive (Src.refclkLoss 7) = false ∧
    ((linked 3).setF (R.prtPStatus 0) 18 14 0).link 0 = 3 ∧ ((linked 3).setF (R.prtPStatus 0) 18 14 0).getF (R.prtPLinkTmr 0) 31 16 = 0 := by
  decide +kernel

/-- `run0` with port 0 in P1 and DDR4 channel 0 in P3. -/
def asleep : State := { run0 with pwr := { run0.pwr with states := [(0, 1), (148, 3)] } }

/-- `up` with PCIe link 1 in state `st` and an LTR latency of `ns`. -/
def pcieAt (st ns : Nat) : State := { up.with [(R.pwrLtr 1, ns)] with pwr := { up.pwr with link1 := st } }

/-- `up` with a write of channel 255, which is PF1's, unanswered. -/
def linkBusy : State := State.setChan ((pcieAt 1 0).with [(R.dmaChCfg 255, 256)]) 255 { chanInit 255 with unanswered := [⟨0, 4⟩] }

/-- `up` with PME_En of PF7 set or not, and its PME_Status. -/
def pmeAt (en : Bool) (v : Nat) : State := { up.with [(R.pwrD3, v)] with pwr := { up.pwr with pmeEn := if en then [2] else [] } }

/-- The hypotheses of PowerStatesChange (O60) are met. -/
theorem witness_PowerStatesChange :
    asleep.powerState 0 ≠ 0 ∧ asleep.powerState 148 ≠ 0 ∧ (asleep.setPower 148 0).wakeGroupOf 148 = none ∧
    (asleep.setPower 0 0).wakeGroupOf 0 = some 0 ∧ up.powerState 0 = 0 ∧
    (∀ st ∈ [0, 1, 2], (pcieAt st 0).pcie 1 = st ∧ (pcieAt st 1000).pcie 1 = st) ∧ (pcieAt 1 0).linkPending 1 = false ∧
    (pcieAt 1 0).linkDue 1 (ofNs (0 + 2000)) = false ∧ linkBusy.linkPending 1 = true ∧ linkBusy.pcie 1 = 1 ∧
    (pcieAt 1 0).getF (R.pwrLtr 1) 29 0 = 0 ∧ (pcieAt 1 1000).getF (R.pwrLtr 1) 29 0 ≠ 0 ∧ up.boot.stage ≠ 0 ∧
    (up.inD3 (requesterOf 0 0)) = false ∧ ((vectored 1 false 0).family 0).any (fun fn => ((vectored 1 false 0).vecsOf fn).any
      (fun v => decide (0 < ((vectored 1 false 0).vec (vecKey fn v)).pending))) = true ∧
    (up.family 0).any (fun fn => (up.vecsOf fn).any (fun v => decide (0 < (up.vec (vecKey fn v)).pending))) = false ∧
    (pmeAt true (2 ^ 10)).bit R.pwrD3 (8 + Requester.d3Bit (requesterOf 7 0)) = true ∧
    (pmeAt true (2 ^ 10)).pwr.pmeEn.contains (Requester.d3Bit (requesterOf 7 0)) = true ∧
    (pmeAt false (2 ^ 10)).pwr.pmeEn.contains (Requester.d3Bit (requesterOf 7 0)) = false := by
  decide +kernel

/-- What is known of register `k` of BAR0: whether it is wide and of type RC, its words, the word that `k` is, whether it is
writable, and its RW1C bits. -/
def facts (k : Nat) : List Nat :=
  (findReg regTable k).elim [] (fun x => [x.1.wide.toNat, x.1.rc.toNat, x.1.words, x.2, (x.1.rw != 0).toNat, x.1.w1c])

/-- The hypotheses of RegisterAccessesFollowTheirTypes (O9, its part ReadsAnswer) are met. -/
theorem witness_ReadsAnswer :
    (∀ k ∈ [R.topMgtWrDrop, R.topId, R.planActiveId, R.planActiveId + 4], k % 4 = 0 ∧ k < up.barSize .pf0 ∧ up.busReg .pf0 k = .reg k ∧
      6 ≤ up.boot.stage ∧ up.clockStopped k = false ∧ (up.clocksOff [0, 1, 2, 3]).clockStopped k = true) ∧
    (facts R.topMgtWrDrop).take 2 = [0, 1] ∧ (facts R.topId).take 2 = [0, 0] ∧ facts R.planActiveId = [1, 0, 2, 0, 0, 0] ∧
    facts (R.planActiveId + 4) = [1, 0, 2, 1, 0, 0] ∧
    ((up.setWide ⟨.pf0, some R.planActiveId, [7], none, []⟩).wideOf .pf0).latchReg = some (R.planActiveId + 4 - 4 * 1) ∧
    up.busReg .pf0 0x3FFFFC = .nothing ∧ 0x3FFFFC < up.barSize .pf0 ∧ (0x3FFFFC : Nat) % 4 = 0 ∧ (staged 1).boot.stage < 6 ∧
    (staged 1).romServes .pf0 R.topId = false ∧ (straps 5 2).romServes (.pf7 false) (R.mgtMbDb 2) = true ∧
    0xFFFFFC < up.bar2Size .pf0 ∧ up.barSize .pf0 ≤ up.barSize .pf0 := by
  decide +kernel

/-- The hypotheses of RegisterAccessesFollowTheirTypes (O9, its part WritesFollowTheirTypes) are met. -/
theorem witness_WritesFollowTheirTypes :
    up.busReg .pf0 0x3FFFFC = .nothing ∧
    (∀ k ∈ [R.planSrc, R.planSrc + 4, R.planLen, R.topId, R.planActiveId], k % 4 = 0 ∧ k < up.barSize .pf0 ∧ up.busReg .pf0 k = .reg k ∧
      up.clockStopped k = false ∧ (up.wakeReg k).clockStopped k = false ∧ Reaches (up.wakeReg k) .pf0 k ∧ plainReg k = true ∧
      (up.wakeReg k).ownedBy k = none ∧ (up.wakeReg k).writeBarred k = false ∧ 6 ≤ (up.wakeReg k).boot.stage) ∧
    facts R.planSrc = [1, 0, 2, 0, 1, 0] ∧ facts (R.planSrc + 4) = [1, 0, 2, 1, 1, 0] ∧ facts R.planLen = [0, 0, 1, 0, 1, 0] ∧
    isLater R.planLen = false ∧ isLater R.strPathWin = true ∧ plainReg R.strPathWin = true ∧
    elemAt (R.prtLTxeq 0) 0x1000 128 0 (R.prtLTxeq 5) = some 5 ∧ elemAt (R.prtLTxeq 0) 0x1000 128 0 R.planLen = none ∧
    (mirrored.ownedBy (R.schPShadow 0)).isSome = true ∧ plainReg (R.schPShadow 0) = true ∧
    (run0.with [(R.txeGcbStatus 0, 1)]).writeBarred (R.txeGcbStnum 0) = true ∧ plainReg (R.txeGcbStnum 0) = true ∧ (timeless up).clockStopped (R.tsuTbSetTime 0) = true := by
  unfold Reaches
  decide +kernel


/-! ### Values the spec works out -/

/-- R8: the check value of CRC-16 over the nine digits. -/
theorem test_crc16 : crc16 ("123456789".toUTF8.toList.map (fun c => BitVec.ofNat 8 c.toNat)) = 0x29B1#16 := by decide +kernel

/-- R9: the check value of CRC-32C over the nine digits. -/
theorem test_crc32c : crc32c ("123456789".toUTF8.toList.map (fun c => BitVec.ofNat 8 c.toNat)) = 0xE3069283#32 := by
  decide +kernel

/-- R71: tick numbers compare across the wrap of their 32 bits. -/
theorem test_tickDiff_wraps : tickDiff 2 0xFFFFFFFF = 3 ∧ tickDiff 0xFFFFFFFF 2 = -3 ∧ tickDiff 7 7 = 0 := by decide

/-- A tie goes to the even number, below zero too. -/
theorem test_roundHalfEven_ties :
    roundHalfEven 1 2 = 0 ∧ roundHalfEven 3 2 = 2 ∧ roundHalfEven (-1) 2 = 0 ∧ roundHalfEven (-3) 2 = -2 ∧
    roundHalfEven 5 3 = 2 := by decide

/-- R276: every phase has sixteen coefficients that sum to 131,072. -/
theorem test_coefficients_sum :
    (coefRowZero 0).foldl (· + ·) 0 = 131072 ∧ (coefRowZero 6).foldl (· + ·) 0 = 131072 ∧ (coefRowZero 6).length = 16 ∧
    (coefRowZero 255).foldl (· + ·) 0 = 131072 := by decide +kernel

/-- 19_register_index.md, Lookups: the addresses worked out there. -/
theorem test_register_lookups :
    R.tsuTbStepLimit 3 = 0x301C60 ∧ R.fcrGInj 8 = 0x2800320 ∧ R.dmaChPane 96 = 0x1C06118 := by
  decide

/-- 00_scope.md, Time notation: K = 3 and H = 50 us at the default period seal 674,999.99 ns after the landing. -/
theorem test_seal_instant :
    let s := run0.with [(R.tickPeriodNs, 208333), (R.tickPeriodFrac, 1431655765)]
    let ps := (s.landingAt (10 + 3) + ofNs 50000 - s.landingAt 10) * 1000 / 2 ^ 48
    674999990 ≤ ps ∧ ps < 675000000 := by decide +kernel

/-- 07_staircase.md, the bank of port 37: words 0x0000_1388 and 0x0020_30D4. -/
theorem test_treads :
    parseTread [0x88, 0x13, 0, 0, 0, 3, 0, 0] = ⟨40000 / 8, 0, 0x00, true, true⟩ ∧
    parseTread [0xD4, 0x30, 0x20, 0, 0x80, 1, 0, 0] = ⟨100000 / 8, 1, 0x80, true, false⟩ ∧ bankSize 5 = 64 := by decide

/-- 09_panes.md, Ambry Cross: 5.5296 rounds to 6, so m = 1 and the phase is 6. -/
theorem test_filter_position :
    let q : Seq := ⟨0, 1, 1500 * -(2 ^ 32), 20, 0, 0, [], []⟩
    q.position 14400 0 % 256 = 6 ∧ q.position 14400 0 / 256 = 1 := by decide +kernel

/-- 10_transmit.md, a trip from Ambry Cross: the frames fall due 1, 3, 7, ... 255 ms after the commit, then every second. -/
theorem test_goose_curve :
    let s := run0.with [(R.txeGcbCfg 17, 37 + 2 ^ 11 + 8 * 2 ^ 16 + 1 * 2 ^ 20), (R.txeGcbT1Us 17, 1000), (R.txeGcbT0Ms 17, 1000)]
    ((List.range 10).map (fun k => s.gcbInterval 17 (k + 1) / 1000000)) = [1, 2, 4, 8, 16, 32, 64, 128, 1000, 1000] := by
  decide +kernel

/-- 10_transmit.md, the same trip: the first frame carries a timeAllowedtoLive of 2 ms. -/
theorem test_goose_tal :
    let s := run0.with [(R.txeGcbCfg 17, 37 + 2 ^ 11 + 8 * 2 ^ 16 + 1 * 2 ^ 20), (R.txeGcbT1Us 17, 1000), (R.txeGcbT0Ms 17, 1000)]
    (s.setGcb 17 { s.gcb 17 with k := 1 }).gcbTal 17 = 2 := by decide +kernel

/-- 11_queues.md, a lap error at Tollenhay Hall: a queue of 16 entries with HEAD 65,528 takes TAIL 4. -/
theorem test_tail_accepted :
    let s := run0.with [(R.qmQStatus 0, 1), (R.qmQInfo 0, 4 * 16), (R.qmQHead 0, 65528), (R.qmQTail 0, 65534)]
    let t := Answer.state (exec (.tail .pf0 0 4) s) s
    (t.qTail 0, t.rdN (R.qmQLapErr 0)) = (4, 0) := by decide +kernel

/-- 11_queues.md, the same queue with HEAD 65,531: TAIL 21 is a lap error and TAIL is kept. -/
theorem test_tail_laps :
    let s := run0.with [(R.qmQStatus 0, 1), (R.qmQInfo 0, 4 * 16), (R.qmQHead 0, 65531), (R.qmQTail 0, 4)]
    let t := Answer.state (exec (.tail .pf0 0 21) s) s
    (t.qTail 0, t.rdN (R.qmQLapErr 0), fld (t.rd (R.qmQStatus 0)) 2 0) = (4, 1, 4) := by decide +kernel

/-- 11_queues.md, the ring of 64 entries there: records 62 and 63 carry PHASE 1, record 64 PHASE 0. -/
theorem test_phase :
    let s := run0.with [(R.qmCrInfo 0, 6)]
    let at' := fun (i : Nat) => (s.with [(R.qmCrTail 0, i)]).crPhase 0
    (at' 62, at' 63, at' 64) = (1, 1, 0) := by decide +kernel

/-! ### Decoding and well-formed commands -/

/-- The command table gives its rows no bits: no word spells a command. -/
theorem test_no_word_spells_a_command : decodeTableWord 32 0 = none ∧ decodeTableWord 64 0xFFFF = none := by decide

/-- Ports, lanes, galleries, time bases and queues out of range are refused. -/
theorem test_wf_units :
    Instr.wf (.linkUp 127 0) = true ∧ Instr.wf (.linkUp 128 0) = false ∧ Instr.wf (.cdrLossTimeout 0 128) = false ∧
    Instr.wf (.refclkLoss 7) = true ∧ Instr.wf (.refclkLoss 8) = false ∧ Instr.wf (.accept .pf1 8) = false ∧
    Instr.wf (.nop 4095) = true ∧ Instr.wf (.nop 4096) = false ∧ Instr.wf (.crHeadWrite .pf0 1024 0) = false := by decide

/-- GCBs, publishers, DMA channels, pane groups and DDR4 channels out of range are refused. -/
theorem test_wf_engines :
    Instr.wf (.gcbEnable .pf1 4096) = false ∧ Instr.wf (.svpFrameReady 63) = true ∧ Instr.wf (.svpFrameReady 64) = false ∧
    Instr.wf (.dmaStop .pf0 256) = false ∧ Instr.wf (.pgRelease .pf1 256) = false ∧ Instr.wf (.patrolScrub 16 none) = false := by
  decide

/-- Handles, indices, entries, words, groups and board entries out of range are refused. -/
theorem test_wf_numbers :
    Instr.wf (.twinResetTimer 65536) = false ∧ Instr.wf (.raWindowExpiry 0 65536) = false ∧
    Instr.wf (.tickActionFire 4096) = false ∧ Instr.wf (.tickActionDisarm .pf1 0 3 0) = false ∧
    Instr.wf (.injWrite .pf1 20 0 []) = false ∧ Instr.wf (.powerWake 256) = false ∧ Instr.wf (.cancel .pf0 0 0 65536) = false := by
  decide

/-- Pairs, PLLs, edge steps, functions, virtual functions and vectors out of range are refused. -/
theorem test_wf_platform :
    Instr.wf (.linkReset 2) = false ∧ Instr.wf (.pllUnlock 4) = false ∧ Instr.wf (.ustorEdgeReceive 10) = false ∧
    Instr.wf (.functionLevelReset 7 0) = true ∧ Instr.wf (.functionLevelReset 2 0) = false ∧
    Instr.wf (.functionLevelReset 0 129) = false ∧ Instr.wf (.vectorFire .pf0 2048) = false := by decide

/-- Octets, nibbles, straps, line status, MAC addresses and empty sizes out of range are refused. -/
theorem test_wf_fields :
    Instr.wf (.setEndpointId true 256) = false ∧ Instr.wf (.txeCmdReserved .pf1 16 0) = false ∧
    Instr.wf (.powerOnReset 128) = false ∧ Instr.wf (.linkFault 0 32 0) = false ∧
    Instr.wf (.nodeForget 0 (2 ^ 48)) = false ∧ Instr.wf (.rcRead .pf0 0 0 .bar0) = false := by decide

/-- Requesters, swaps and roads the device does not have are refused. -/
theorem test_wf_requesters :
    Instr.wf (.claim (.vf false 0)) = false ∧ Instr.wf (.claim (.vf true 129)) = false ∧ Instr.wf (.claim (.wq 4096)) = false ∧
    Instr.wf (.shadowVerify (.bank 128)) = false ∧ Instr.wf (.shadowVerify (.dmaSet 256)) = false ∧
    Instr.wf (.cutOff [.epoch 8]) = false ∧ Instr.wf (.getInfo (.mailbox 3) []) = false ∧
    Instr.wf (.getInfo (.sgmii []) []) = false := by decide

/-- R1: the device names itself after reset; no command waits. -/
theorem test_reset : State.reset.pending = [] ∧ Registers.wf State.reset.regs = true := by decide +kernel

/-! ### Balls -/

/-- R502: the rows named there. -/
theorem test_row_names : rowName 22 = "AC" ∧ rowName 51 = "BN" ∧ rowName 72 = "CT" ∧ rowName 80 = "DD" := by decide +kernel

/-- R504: lane 37 stands at W80, W79, W76 and W75; R506: DQ[37] of channel 8 at BN19; R508: D0 ETX at E2 and F2, D1 SRX at H8
and J8. -/
theorem test_balls :
    [80, 79, 76, 75].map (ballAt 18) = [.lane 37 false false, .lane 37 false true, .lane 37 true false, .lane 37 true true] ∧
    ballAt 51 19 = .ddr 8 "DQ[37]" ∧ [5, 6].map (fun r => ballAt r 2) = [.ustor 1 0 false, .ustor 1 0 true] ∧
    [8, 9].map (fun r => ballAt r 8) = [.ustor 2 3 false, .ustor 2 3 true] := by decide +kernel

end Sys2Proof.Machine
end

section
/-! What a field write leaves in a register, what the completion of a PLAN command leaves in PLAN.STATUS, and the window of
COMMIT_AMEND (R55). -/

namespace Sys2Proof.Machine

/-! ### A field replaced in a register -/

/-- The weight of the bit above a field: the width of the field over the weight of its lowest bit. -/
theorem two_pow_above_field {hi lo : Nat} (h : lo ≤ hi) : 2 ^ (hi + 1) = 2 ^ (hi + 1 - lo) * 2 ^ lo := by
  rw [← Nat.pow_add, Nat.sub_add_cancel (by omega)]

/-- A field and what lies below it stay under the bit above the field. -/
theorem field_add_below_lt (v n : Nat) {hi lo : Nat} (h : lo ≤ hi) :
    v % 2 ^ (hi + 1 - lo) * 2 ^ lo + n % 2 ^ lo < 2 ^ (hi + 1) := by
  have hbelow : n % 2 ^ lo < 2 ^ lo := Nat.mod_lt _ (by positivity)
  have hfield : (v % 2 ^ (hi + 1 - lo) + 1) * 2 ^ lo ≤ 2 ^ (hi + 1) := by
    rw [two_pow_above_field h]
    exact Nat.mul_le_mul_right _ (Nat.mod_lt _ (by positivity))
  rw [Nat.add_mul] at hfield
  omega

/-- A register splits at the two ends of a field: what lies above it, the field itself, what lies below it. -/
theorem toNat_eq_above_fld_below (r : Reg) {hi lo : Nat} (h : lo ≤ hi) :
    r.toNat = r.toNat / 2 ^ (hi + 1) * 2 ^ (hi + 1) + fld r hi lo * 2 ^ lo + r.toNat % 2 ^ lo := by
  have hhigh : r.toNat / 2 ^ lo = r.toNat / 2 ^ (hi + 1) * 2 ^ (hi + 1 - lo) + fld r hi lo := by
    rw [two_pow_above_field h, Nat.mul_comm _ (2 ^ lo), ← Nat.div_div_eq_div_mul]
    exact (Nat.div_add_mod' _ _).symm
  calc r.toNat = r.toNat / 2 ^ lo * 2 ^ lo + r.toNat % 2 ^ lo := (Nat.div_add_mod' _ _).symm
    _ = _ := by rw [hhigh, two_pow_above_field h, Nat.add_mul, Nat.mul_assoc]

/-- Replacing a field keeps what lies above it and what lies below it. -/
theorem withFld_toNat (r : Reg) {hi lo : Nat} (v : Nat) (h : lo ≤ hi) (hhi : hi < 32) :
    (withFld r hi lo v).toNat =
      r.toNat / 2 ^ (hi + 1) * 2 ^ (hi + 1) + (v % 2 ^ (hi + 1 - lo) * 2 ^ lo + r.toNat % 2 ^ lo) := by
  have hsplit := toNat_eq_above_fld_below r h
  have hlow := field_add_below_lt v r.toNat h
  have habove : (r.toNat / 2 ^ (hi + 1) + 1) * 2 ^ (hi + 1) ≤ 2 ^ 32 := by
    have hword : 2 ^ 32 = 2 ^ (hi + 1) * 2 ^ (31 - hi) := by rw [← Nat.pow_add]; congr 1; omega
    rw [hword, Nat.mul_comm]
    exact Nat.mul_le_mul_left _ (Nat.div_lt_of_lt_mul (hword ▸ r.isLt))
  rw [Nat.add_mul] at habove
  unfold withFld
  rw [BitVec.toNat_ofNat, Nat.mod_eq_of_lt] <;> omega

/-- A field reads back what was written to it, cut to its width. -/
theorem fld_withFld_self (r : Reg) {hi lo : Nat} (v : Nat) (h : lo ≤ hi) (hhi : hi < 32) :
    fld (withFld r hi lo v) hi lo = v % 2 ^ (hi + 1 - lo) := by
  unfold fld
  rw [withFld_toNat r v h hhi, two_pow_above_field h, ← Nat.mul_assoc, ← Nat.add_assoc, ← Nat.add_mul,
    Nat.mul_comm _ (2 ^ lo), Nat.mul_add_div (by positivity), Nat.div_eq_of_lt (Nat.mod_lt _ (by positivity)),
    Nat.add_zero, Nat.mul_add_mod_self_right, Nat.mod_mod]

/-- A field keeps its value when a field above it is replaced. -/
theorem fld_withFld_of_lt (r : Reg) {hi lo hi' lo' : Nat} (v : Nat) (h : lo ≤ hi) (hhi : hi < 32) (h' : lo' ≤ hi')
    (hlt : hi' < lo) : fld (withFld r hi lo v) hi' lo' = fld r hi' lo' := by
  have hfld (x : Reg) : fld x hi' lo' = x.toNat % 2 ^ lo % 2 ^ (hi' + 1) / 2 ^ lo' := by
    unfold fld
    rw [Nat.mod_mod_of_dvd _ (Nat.pow_dvd_pow 2 hlt), two_pow_above_field h', Nat.mul_comm, Nat.mod_mul_right_div_self]
  rw [hfld, hfld, withFld_toNat r v h hhi, two_pow_above_field h, ← Nat.mul_assoc, ← Nat.add_assoc, ← Nat.add_mul,
    Nat.mul_add_mod_self_right, Nat.mod_mod]

/-! ### A field of a register read after a write -/

/-- A field written reads back, cut to its width. -/
theorem State.getF_setF_self {s : State} (hs : Sound s) (k v : Nat) {hi lo : Nat} (h : lo ≤ hi) (hhi : hi < 32) :
    (s.setF k hi lo v).getF k hi lo = v % 2 ^ (hi + 1 - lo) := by
  unfold State.getF State.setF
  rw [State.rd_wr_self s k _ hs, fld_withFld_self _ v h hhi]

/-- A write of a field keeps the fields below it. -/
theorem State.getF_setF_of_lt {s : State} (hs : Sound s) (k v : Nat) {hi lo hi' lo' : Nat} (h : lo ≤ hi) (hhi : hi < 32)
    (h' : lo' ≤ hi') (hlt : hi' < lo) : (s.setF k hi lo v).getF k hi' lo' = s.getF k hi' lo' := by
  unfold State.getF State.setF
  rw [State.rd_wr_self s k _ hs, fld_withFld_of_lt _ v h hhi h' hlt]

/-- Fields of a register depend on that register only. -/
theorem State.getF_of_rd_eq {s t : State} {k : Nat} (h : t.rd k = s.rd k) (hi lo : Nat) :
    t.getF k hi lo = s.getF k hi lo := by
  unfold State.getF
  rw [h]

/-- The plan state depends on PLAN.STATUS only. -/
theorem State.planState_of_rd_eq {s t : State} (h : t.rd R.planStatus = s.rd R.planStatus) : t.planState = s.planState :=
  State.getF_of_rd_eq h 3 0

theorem State.setBit_sound {s : State} (hs : Sound s) (k i : Nat) (b : Bool) : Sound (s.setBit k i b) :=
  State.wr_sound s k _ hs

theorem State.setF_sound {s : State} (hs : Sound s) (k hi lo v : Nat) : Sound (s.setF k hi lo v) :=
  State.wr_sound s k _ hs

/-! ### The end of a PLAN command (R53) -/

/-- PLAN_EVT crosses no clock domain, so it sets its bit of FCR.EVT_PEND and steps its vector when the map enables it. -/
theorem State.event_plan_eq (s : State) : s.event Evt.plan =
    (if rbit (s.rd (R.fcrEvtMap Evt.plan)) 24 then
      (s.hwSet (R.fcrEvtPend 41) 6).bumpVec (s.eventVec Evt.plan) else s.hwSet (R.fcrEvtPend 41) 6) := rfl

/-- Setting a bit in hardware leaves every other register. -/
theorem State.rd_hwSet_of_ne (s : State) {k j : Nat} (i : Nat) (h : j ≠ k) : (s.hwSet k i).rd j = s.rd j := by
  unfold State.hwSet
  split <;> exact State.rd_setBit_of_ne s k j i true h

theorem State.hwSet_plan (s : State) (k i : Nat) : (s.hwSet k i).plan = s.plan := by
  unfold State.hwSet
  split <;> rfl

/-- PLAN_EVT leaves PLAN.STATUS. -/
theorem State.rd_planStatus_event_plan (s : State) : (s.event Evt.plan).rd R.planStatus = s.rd R.planStatus := by
  have hset := s.rd_hwSet_of_ne (k := R.fcrEvtPend 41) (j := R.planStatus) 6 (by decide)
  rw [State.event_plan_eq]
  split <;> exact hset

/-- PLAN_EVT leaves the plan. -/
theorem State.plan_event_plan (s : State) : (s.event Evt.plan).plan = s.plan := by
  have hset := s.hwSet_plan (R.fcrEvtPend 41) 6
  rw [State.event_plan_eq]
  split <;> exact hset

/-- A RESULT recorded in PLAN.STATUS stands in [23:16]; the count of a STATE lies in another register. -/
theorem State.rd_planStatus_noteResult (s : State) (code : Nat) :
    (s.noteResult R.planStatus code).rd R.planStatus = (s.setF R.planStatus 23 16 code).rd R.planStatus := by
  unfold State.noteResult
  split
  · exact State.rd_inc_of_ne _ R.qmStateCnt R.planStatus (by decide)
  · rfl

theorem State.noteResult_plan (s : State) (k code : Nat) : (s.noteResult k code).plan = s.plan := by
  unfold State.noteResult
  split <;> rfl

/-- The end of a PLAN command writes BUSY and RESULT in PLAN.STATUS, and nothing else there. -/
theorem State.rd_planStatus_planResult {s : State} (hs : Sound s) (code : Nat) :
    (s.planResult code).rd R.planStatus =
      ((s.setBit R.planStatus 4 (s.planState == PS.staging)).setF R.planStatus 23 16 code).rd R.planStatus := by
  unfold State.planResult
  rw [State.rd_planStatus_event_plan, result_of_quiet (State.setBit_sound hs _ _ _).2.2, State.rd_planStatus_noteResult]

/-- The end of a PLAN command leaves the plan state. -/
theorem State.planState_planResult {s : State} (hs : Sound s) (code : Nat) : (s.planResult code).planState = s.planState := by
  have hbusy := State.setBit_sound hs R.planStatus 4 (s.planState == PS.staging)
  calc (s.planResult code).planState
      = ((s.setBit R.planStatus 4 (s.planState == PS.staging)).setF R.planStatus 23 16 code).getF R.planStatus 3 0 :=
        State.planState_of_rd_eq (State.rd_planStatus_planResult hs code)
    _ = (s.setBit R.planStatus 4 (s.planState == PS.staging)).getF R.planStatus 3 0 :=
        State.getF_setF_of_lt hbusy R.planStatus code (by decide) (by decide) (by decide) (by decide)
    _ = s.planState :=
        State.getF_setF_of_lt hs R.planStatus _ (by decide) (by decide) (by decide) (by decide)

/-- The end of a PLAN command leaves its RESULT in PLAN.STATUS. -/
theorem State.result_planResult {s : State} (hs : Sound s) {code : Nat} (hcode : code < 256) :
    (s.planResult code).getF R.planStatus 23 16 = code := by
  have hbusy := State.setBit_sound hs R.planStatus 4 (s.planState == PS.staging)
  rw [State.getF_of_rd_eq (State.rd_planStatus_planResult hs code),
    State.getF_setF_self hbusy R.planStatus code (by decide) (by decide)]
  exact Nat.mod_eq_of_lt hcode

/-- The end of a PLAN command leaves the plan. -/
theorem State.plan_planResult {s : State} (hs : Sound s) (code : Nat) : (s.planResult code).plan = s.plan := by
  unfold State.planResult
  rw [State.plan_event_plan, result_of_quiet (State.setBit_sound hs _ _ _).2.2, State.noteResult_plan, State.setBit_plan]

/-! ### OWNED of the ports of an amendment -/

/-- No PORT_STATUS is PLAN.STATUS, so the settling of OWNED leaves the plan state. -/
theorem State.planState_settleOwned (s : State) (p : Nat) : (s.settleOwned p).planState = s.planState :=
  State.planState_of_rd_eq (State.rd_setBit_of_ne s (R.schPStatus p) R.planStatus 5 _ (by
    unfold R.schPStatus R.planStatus; omega))

/-- OWNED of a list of ports settled: the plan state and the safety of the state stand. -/
theorem planState_forEach_settleOwned (l : List Nat) (s : State) :
    (forEach l (fun p (x : State) => x.settleOwned p) s).planState = s.planState := by
  unfold forEach
  induction l generalizing s with
  | nil => rfl
  | cons p l ih => rw [List.foldl_cons, ih, State.planState_settleOwned]

theorem forEach_settleOwned_sound (l : List Nat) {s : State} (hs : Sound s) :
    Sound (forEach l (fun p (x : State) => x.settleOwned p) s) :=
  (forEach_keeps (Keeps.refl true s) (fun _ _ hy => State.settleOwned_keeps hy)).sound hs

/-! ### The window (R55) -/

/-- The signed difference of two ticks: their distance modulo 2^32, less 2^32 from 2^31 on. -/
theorem tickDiff_eq (a b : Nat) : tickDiff a b =
    if (a + 4294967296 - b % 4294967296) % 4294967296 < 2147483648
    then (((a + 4294967296 - b % 4294967296) % 4294967296 : Nat) : Int)
    else (((a + 4294967296 - b % 4294967296) % 4294967296 : Nat) : Int) - 4294967296 := by
  have hmod : unsigned 32 ((a : Int) - b) = (a + 4294967296 - b % 4294967296) % 4294967296 := by
    unfold unsigned
    omega
  unfold tickDiff signed
  rw [hmod, show 2 ^ 32 = 4294967296 from rfl, show 2 ^ (32 - 1) = 2147483648 from rfl, Nat.mod_mod]
  rfl

/-- The commit window is 2 to 65,536 ticks ahead. -/
theorem State.inWindow_iff (s : State) :
    s.inWindow = true ↔ 2 ≤ tickDiff (s.rdN R.planTarget) s.now ∧ tickDiff (s.rdN R.planTarget) s.now ≤ 65536 := by
  simp [State.inWindow]

/-- Writing HALL_SYNC moves neither PLAN.TARGET nor the current tick. -/
theorem State.inWindow_setBit_planCtl (s : State) (i : Nat) (b : Bool) :
    (s.setBit R.planCtl i b).inWindow = s.inWindow := by
  have hrd : ∀ j, j ≠ R.planCtl → (s.setBit R.planCtl i b).rd j = s.rd j :=
    fun j hj => State.rd_setBit_of_ne s R.planCtl j i b hj
  unfold State.inWindow State.now State.rd64 State.rdN
  rw [hrd R.planTarget (by decide), hrd R.tickNow (by decide), hrd (R.tickNow + 4) (by decide)]

/-- Writing PLAN.CTL moves neither the role nor the PAIR section. -/
theorem State.mirrorOwns_setBit_planCtl (s : State) (i : Nat) (b : Bool) :
    (s.setBit R.planCtl i b).mirrorOwns = s.mirrorOwns := by
  have hrole : (s.setBit R.planCtl i b).role = s.role :=
    State.getF_of_rd_eq (State.rd_setBit_of_ne s R.planCtl R.rdnStatus i b (by decide)) 2 0
  unfold State.mirrorOwns
  rw [hrole]
  rfl

/-! ### COMMIT_AMEND -/

/-- The state an accepted COMMIT_AMEND commits: the tick of PLAN.TARGET, HALL_SYNC, nothing loaded yet. -/
def State.amendCommitted (s : State) (hall : Bool) : State :=
  State.setPlan { s with plan := { s.plan with
    target := s.planTick
    hall := hall
    loaded := false
    saved := []
    failed := none } } PS.committed

/-- What COMMIT_AMEND does in STAGED_AMEND on a device whose mirror owns nothing: a commit inside the window, LATE outside. -/
theorem exec_commitAmend {s w : State} {req : Requester} {hall : Bool} {im : Image} (hreach : Reaches s req R.planCtl)
    (hw : w = s.setBit R.planCtl 7 hall) (hstate : w.planState = PS.stagedAmend) (hstaged : w.plan.staged = some im)
    (hmirror : w.mirrorOwns = false) :
    exec (.commitAmend req hall) s = .next (if w.inWindow then
      (forEach im.scheduled (fun p (x : State) => x.settleOwned p) (w.amendCommitted hall)).planResult Code.ok
      else w.planResult Code.late) := by
  change Host.Outcome.next (s.planCommand req hall _) = _
  unfold State.planCommand
  rw [guarded_of_reaches hreach, ← hw]
  cases hin : w.inWindow <;> simp [hstaged, hstate, hmirror, hin, State.amendCommitted]

theorem State.amendCommitted_sound {s : State} (hs : Sound s) (hall : Bool) : Sound (s.amendCommitted hall) :=
  State.setF_sound hs R.planStatus 3 0 PS.committed

theorem State.planState_amendCommitted {s : State} (hs : Sound s) (hall : Bool) :
    (s.amendCommitted hall).planState = PS.committed :=
  State.getF_setF_self hs R.planStatus PS.committed (by decide) (by decide)

/-- Settles O16: the window of R55 decides between the commit, which enters COMMITTED with OK, and LATE, which leaves the
staged amendment. From a distance of 2^31 on the statement's `d` subtracts natural numbers and is 0 where R55 reads a
negative distance; both lie outside the window. -/
theorem amendmentsCommitInTheirWindow : Obligations.AmendmentsCommitInTheirWindow := by
  unfold Obligations.AmendmentsCommitInTheirWindow
  intro s w req hall im d hs hreach hw hstate hstaged hmirror hd
  have hws : Sound w := hw ▸ State.setBit_sound hs R.planCtl 7 hall
  have hwin : w.inWindow = true ↔ 2 ≤ d ∧ d ≤ 65536 := by
    rw [hw, State.inWindow_setBit_planCtl, State.inWindow_iff, tickDiff_eq, hd]
    split <;> omega
  have hexec := exec_commitAmend hreach hw hstate hstaged (by rw [hw, State.mirrorOwns_setBit_planCtl, hmirror])
  constructor
  · intro hlo hhi
    rw [if_pos (hwin.mpr ⟨hlo, hhi⟩)] at hexec
    have hsettled := forEach_settleOwned_sound im.scheduled (State.amendCommitted_sound hws hall)
    refine ⟨_, hexec, ?_, State.result_planResult hsettled (by decide)⟩
    rw [State.planState_planResult hsettled, planState_forEach_settleOwned, State.planState_amendCommitted hws]
  · intro hout
    rw [if_neg (fun h => by obtain ⟨hlo, hhi⟩ := hwin.mp h; omega)] at hexec
    exact ⟨_, hexec, (State.planState_planResult hws _).trans hstate,
      (congrArg PlanSt.staged (State.plan_planResult hws _)).trans hstaged, State.result_planResult hws (by decide)⟩

end Sys2Proof.Machine
end

section
/-! What a correction does to the tick source (R118), and the threshold of R116. -/

namespace Sys2Proof.Machine

/-- A correction that leaves the tick source a remaining slew of at most 0 sets SLEW_REM; TB_SLEW is raised only where this
starts a slew (R117). -/
theorem State.applyCorr_of_add_slewRem_nonpos {s : State} {n : Nat} {c : Int} (hsrc : s.isSrc n = true)
    (hsum : ofQ16 c + (s.tb n).slewRem ≤ 0) :
    s.applyCorr n c = (if (s.tb n).slewRem = 0 ∧ ofQ16 c < 0
      then (s.setSlew n (ofQ16 c + (s.tb n).slewRem)).raise (Src.tbSlew n) [Cu.tb n]
      else s.setSlew n (ofQ16 c + (s.tb n).slewRem)) := by
  unfold State.applyCorr
  rw [if_pos hsrc]
  exact if_pos hsum

/-- A correction that exceeds the remaining slew of the tick source ends the slew and steps by the excess. -/
theorem State.applyCorr_of_add_slewRem_pos {s : State} {n : Nat} {c : Int} (hsrc : s.isSrc n = true)
    (hsum : 0 < ofQ16 c + (s.tb n).slewRem) :
    s.applyCorr n c = (s.setSlew n 0).stepTb n (ofQ16 c + (s.tb n).slewRem) := by
  unfold State.applyCorr
  rw [if_pos hsrc]
  exact if_neg (not_le.mpr hsum)

/-- A correction up to STEP_LIMIT applies. -/
theorem State.tryCorr_of_le {s : State} {n : Nat} {c : Int} (hle : c.natAbs ≤ s.stepLimit n) :
    s.tryCorr n c = s.applyCorr n c :=
  if_neg (not_lt.mpr hle)

/-- A correction above STEP_LIMIT is refused. -/
theorem State.tryCorr_of_lt {s : State} {n : Nat} {c : Int} (hlt : s.stepLimit n < c.natAbs) :
    s.tryCorr n c = s.refuseCorr n c :=
  if_pos hlt

/-- Settles O23: the sign of the correction plus the remaining slew decides between a slew and a step, and STEP_LIMIT is
compared with the correction alone. -/
theorem correctionsCombineWithTheSlew : Obligations.CorrectionsCombineWithTheSlew := by
  unfold Obligations.CorrectionsCombineWithTheSlew
  rintro s n c r d hsrc rfl - rfl
  refine ⟨?slews, ?steps, ?applies, ?refused⟩
  case slews => exact State.applyCorr_of_add_slewRem_nonpos hsrc
  case steps => exact State.applyCorr_of_add_slewRem_pos hsrc
  case applies => exact fun hle => State.tryCorr_of_le (Int.ofNat_le.mp hle)
  case refused => exact fun hlt => State.tryCorr_of_lt (Int.ofNat_lt.mp hlt)

end Sys2Proof.Machine
end

section
/-! PHASE of a completion record (R346): bit LOG2_SIZE of TAIL, which a lap flips. -/

namespace Sys2Proof.Machine

/-- R346's own words for PHASE, over the model's quotient of TAIL by the size. -/
theorem State.crPhase_eq_testBit (s : State) (r : Nat) :
    s.crPhase r = 1 - ((s.crTail r).testBit (s.getF (R.qmCrInfo r) 3 0)).toNat := by
  rw [Nat.toNat_testBit]
  rfl

/-- The first lap, with TAIL below the size. -/
theorem State.crPhase_of_crTail_lt_crSize {s : State} {r : Nat} (hlt : s.crTail r < s.crSize r) : s.crPhase r = 1 := by
  rw [s.crPhase_eq_testBit, Nat.testBit_lt_two_pow hlt]
  rfl

/-- Adding 2^i flips bit `i`, and a counter of more than `i` bits keeps that bit where it wraps. -/
theorem testBit_add_two_pow_mod_two_pow {i w : Nat} (hi : i < w) (x : Nat) :
    ((x + 2 ^ i) % 2 ^ w).testBit i = !x.testBit i := by
  rw [Nat.testBit_mod_two_pow, decide_eq_true hi, Bool.true_and, Nat.add_comm, Nat.testBit_two_pow_add_eq]

/-- A lap later, with the 16-bit counter wrapped or not, PHASE is inverted: LOG2_SIZE is at most 15, so the wrap is of an even
number of laps. -/
theorem State.crPhase_next_lap {s t : State} {r : Nat} (hle : s.getF (R.qmCrInfo r) 3 0 ≤ 15)
    (hlog : t.getF (R.qmCrInfo r) 3 0 = s.getF (R.qmCrInfo r) 3 0)
    (htail : t.crTail r = (s.crTail r + s.crSize r) % 2 ^ 16) : t.crPhase r = 1 - s.crPhase r := by
  have hflip : (t.crTail r).testBit (s.getF (R.qmCrInfo r) 3 0) = !(s.crTail r).testBit (s.getF (R.qmCrInfo r) 3 0) := by
    rw [htail, State.crSize, testBit_add_two_pow_mod_two_pow (Nat.lt_succ_of_le hle)]
  rw [t.crPhase_eq_testBit, s.crPhase_eq_testBit, hlog, hflip]
  cases (s.crTail r).testBit (s.getF (R.qmCrInfo r) 3 0) <;> rfl

/-- Settles O41: the first lap writes 1, and a lap, which adds the size to TAIL, flips the bit that PHASE is read from. -/
theorem phaseInvertsWithEveryLap : Obligations.PhaseInvertsWithEveryLap := by
  unfold Obligations.PhaseInvertsWithEveryLap
  intro s r hle
  refine ⟨?bit, ?firstLap, ?laterLap⟩
  case bit => exact s.crPhase_eq_testBit r
  case firstLap => exact State.crPhase_of_crTail_lt_crSize
  case laterLap => exact fun t hlog htail => State.crPhase_next_lap hle hlog htail

end Sys2Proof.Machine
end

section
/-! Circular buffers (R368), and the boundaries at which a burst of a copy run ends (R362). -/

namespace Sys2Proof.Machine

/-! ### Where an octet stands -/

@[simp] theorem circAt_linear (a i : Nat) : circAt a 0 i = a + i := if_pos rfl

theorem circAt_of_pos {w : Nat} (hw : 0 < w) (a i : Nat) :
    circAt a w i = a - a % 2 ^ w + (a % 2 ^ w + i) % 2 ^ w :=
  if_neg hw.ne'

/-- A circular buffer of a whole number of pages begins at a page boundary, so within a page nothing wraps. -/
theorem circAt_add_of_same_page {a w o i : Nat} (hw : w = 0 ∨ 12 ≤ w) (hpage : circAt a w o % 4096 + i < 4096) :
    circAt a w (o + i) = circAt a w o + i := by
  obtain rfl | hw := hw
  · simp [Nat.add_assoc]
  have hpages : 4096 ∣ 2 ^ w := pow_dvd_pow 2 hw
  have hbase : 4096 ∣ a - a % 2 ^ w := hpages.trans (Nat.dvd_sub_mod a)
  rw [circAt_of_pos (by omega)] at hpage ⊢
  rw [circAt_of_pos (by omega), ← Nat.add_assoc (a % 2 ^ w), Nat.add_assoc (a - a % 2 ^ w)]
  congr 1
  have hlt : (a % 2 ^ w + o) % 2 ^ w < 2 ^ w := Nat.mod_lt _ (Nat.two_pow_pos w)
  have hfits : (a % 2 ^ w + o) % 2 ^ w + i < 2 ^ w := by omega
  rw [← Nat.mod_add_mod, Nat.mod_eq_of_lt hfits]

/-! ### The burst of a copy run -/

/-- A copy channel issues the burst of its copy run. -/
theorem State.nextBurst_of_copy {s : State} {c : Nat} (r : DmaRun) (hcopy : s.isPaneCh c = false) :
    s.nextBurst c r = s.copyBurst c r := by
  unfold State.nextBurst
  rw [hcopy]
  rfl

/-- A burst of a copy run has octets, begins where the run's next octet stands on either side, and ends with the page there
at the latest. -/
theorem State.copyBurst_some {s : State} {c : Nat} {r : DmaRun} {b : DmaBurst} (h : s.copyBurst c r = some b) :
    0 < b.len ∧ b.src = circAt (leAt r.cur 0 8) (leAt r.cur 0x28 1) r.ofs ∧
      b.dst = circAt (leAt r.cur 8 8) (leAt r.cur 0x29 1) r.ofs ∧
      b.src % 4096 + b.len ≤ 4096 ∧ b.dst % 4096 + b.len ≤ 4096 := by
  unfold State.copyBurst at h
  dsimp only at h
  split at h
  · cases h
  next hissue =>
    rw [not_or, not_or] at hissue
    obtain ⟨-, hlen, -⟩ := hissue
    cases h
    refine ⟨Nat.pos_of_ne_zero hlen, rfl, rfl, ?_, ?_⟩ <;> dsimp only <;> omega

/-- Settles O44: a burst stays within a page of either side, and a page of a circular buffer does not wrap. -/
theorem circularBuffersWrap : Obligations.CircularBuffersWrap := by
  unfold Obligations.CircularBuffersWrap
  refine ⟨?place, fun s c r => s.nextBurst_of_copy r, ?contiguous⟩
  case place =>
    intro a w i hw
    rw [circAt_of_pos hw, Nat.sub_sub_self (Nat.mod_le a _)]
  case contiguous =>
    intro s c r b hb hsw hdw
    obtain ⟨hlen, hsrc, hdst, hsrcEnd, hdstEnd⟩ := State.copyBurst_some hb
    refine ⟨hlen, fun i hi => ⟨?_, ?_, by omega, by omega⟩⟩
    · rw [hsrc] at hsrcEnd ⊢
      exact circAt_add_of_same_page hsw (by omega)
    · rw [hdst] at hdstEnd ⊢
      exact circAt_add_of_same_page hdw (by omega)

end Sys2Proof.Machine
end

section
/-! Every command completes and keeps the state safe; the step, the reset state and the storage. -/

namespace Sys2Proof.Machine

/-! ### Every command -/

/-- A command whose meaning is written as a next state answers it. -/
theorem Keeps.of_answer {m : Bool} {s x : State} {a : Answer} (ha : a = .next x) (h : Keeps m s (a.state s)) :
    ∃ t, a = .next t ∧ Keeps m s t := by
  subst ha
  exact ⟨x, rfl, h⟩

/-- Every command answers a next state and keeps what every operation keeps, DDR4 included where it stores nothing there. -/
theorem exec_keeps (c : Instr) (s : State) : ∃ t, exec c s = .next t ∧ Keeps (mayWriteDdr c) s t := by
  cases c with
  | landing => exact Keeps.of_answer rfl (execLanding_keeps (Keeps.refl _ s))
  | rebuildDone => exact Keeps.of_answer rfl (execRebuildDone_keeps (Keeps.refl _ s))
  | cutOff => exact Keeps.of_answer rfl (execCutOff_keeps (Keeps.refl _ s))
  | shadowVerify => exact Keeps.of_answer rfl (execShadowVerify_keeps (Keeps.refl _ s))
  | amendmentLoad => exact Keeps.of_answer rfl (execAmendmentLoad_keeps (Keeps.refl _ s))
  | tickActionFire => exact Keeps.of_answer rfl (execTickActionFire_keeps (Keeps.refl _ s))
  | tickActionArm => exact Keeps.of_answer rfl (execTickActionArm_keeps (Keeps.refl _ s))
  | tickActionDisarm => exact Keeps.of_answer rfl (execTickActionDisarm_keeps (Keeps.refl _ s))
  | stage => exact Keeps.of_answer rfl (execStage_keeps (Keeps.refl _ s))
  | stagingDone => exact Keeps.of_answer rfl (execStagingDone_keeps (Keeps.refl _ s))
  | commitAmend => exact Keeps.of_answer rfl (execCommitAmend_keeps (Keeps.refl _ s))
  | commitReplan => exact Keeps.of_answer rfl (execCommitReplan_keeps (Keeps.refl _ s))
  | planAbort => exact Keeps.of_answer rfl (execPlanAbort_keeps (Keeps.refl _ s))
  | planCmdReserved => exact Keeps.of_answer rfl (execPlanCmdReserved_keeps (Keeps.refl _ s))
  | tickFrameSend => exact Keeps.of_answer rfl (execTickFrameSend_keeps (Keeps.refl _ s))
  | tickFrameReceive => exact Keeps.of_answer rfl (execTickFrameReceive_keeps (Keeps.refl _ s))
  | statusFrameSend => exact Keeps.of_answer rfl (execStatusFrameSend_keeps (Keeps.refl _ s))
  | statusFrameReceive => exact Keeps.of_answer rfl (execStatusFrameReceive_keeps (Keeps.refl _ s))
  | ustorEdgeReceive => exact Keeps.of_answer rfl (execUstorEdgeReceive_keeps (Keeps.refl _ s))
  | ustorEdgeMissing => exact Keeps.of_answer rfl (execUstorEdgeMissing_keeps (Keeps.refl _ s))
  | ustorNoLock => exact Keeps.of_answer rfl (execUstorNoLock_keeps (Keeps.refl _ s))
  | calPulseSend => exact Keeps.of_answer rfl (execCalPulseSend_keeps (Keeps.refl _ s))
  | calPulseReturn => exact Keeps.of_answer rfl (execCalPulseReturn_keeps (Keeps.refl _ s))
  | calPulseArrive => exact Keeps.of_answer rfl (execCalPulseArrive_keeps (Keeps.refl _ s))
  | calPulseTimeout => exact Keeps.of_answer rfl (execCalPulseTimeout_keeps (Keeps.refl _ s))
  | promote => exact Keeps.of_answer rfl (execPromote_keeps (Keeps.refl _ s))
  | resync => exact Keeps.of_answer rfl (execResync_keeps (Keeps.refl _ s))
  | recal => exact Keeps.of_answer rfl (execRecal_keeps (Keeps.refl _ s))
  | tickCmdReserved => exact Keeps.of_answer rfl (execTickCmdReserved_keeps (Keeps.refl _ s))
  | servoSample => exact Keeps.of_answer rfl (execServoSample_keeps (Keeps.refl _ s))
  | referenceLoss => exact Keeps.of_answer rfl (execReferenceLoss_keeps (Keeps.refl _ s))
  | announceTimeout => exact Keeps.of_answer rfl (execAnnounceTimeout_keeps (Keeps.refl _ s))
  | accept => exact Keeps.of_answer rfl (execAccept_keeps (Keeps.refl _ s))
  | tsuSet => exact Keeps.of_answer rfl (execTsuSet_keeps (Keeps.refl _ s))
  | adjPhase => exact Keeps.of_answer rfl (execAdjPhase_keeps (Keeps.refl _ s))
  | epochNext => exact Keeps.of_answer rfl (execEpochNext_keeps (Keeps.refl _ s))
  | tsuCmdReserved => exact Keeps.of_answer rfl (execTsuCmdReserved_keeps (Keeps.refl _ s))
  | adjFreqWrite => exact Keeps.of_answer rfl (execAdjFreqWrite_keeps (Keeps.refl _ s))
  | timeReadCapture => exact Keeps.of_answer rfl (execTimeReadCapture_keeps (Keeps.refl _ s))
  | ptpSyncReceive => exact Keeps.of_answer rfl (execPtpSyncReceive_keeps (Keeps.refl _ s))
  | ptpAnnounceReceive => exact Keeps.of_answer rfl (execPtpAnnounceReceive_keeps (Keeps.refl _ s))
  | pdelayReqReceive => exact Keeps.of_answer rfl (execPdelayReqReceive_keeps (Keeps.refl _ s))
  | pdelayRespReceive => exact Keeps.of_answer rfl (execPdelayRespReceive_keeps (Keeps.refl _ s))
  | delayRespReceive => exact Keeps.of_answer rfl (execDelayRespReceive_keeps (Keeps.refl _ s))
  | ptpMessageSend => exact Keeps.of_answer rfl (execPtpMessageSend_keeps (Keeps.refl _ s))
  | ppsInputEdge => exact Keeps.of_answer rfl (execPpsInputEdge_keeps (Keeps.refl _ s))
  | ppsOutputEdge => exact Keeps.of_answer rfl (execPpsOutputEdge_keeps (Keeps.refl _ s))
  | linkAligning => exact Keeps.of_answer rfl (execLinkAligning_keeps (Keeps.refl _ s))
  | linkUp => exact Keeps.of_answer rfl (execLinkUp_keeps (Keeps.refl _ s))
  | alignTimeout => exact Keeps.of_answer rfl (execAlignTimeout_keeps (Keeps.refl _ s))
  | linkFault => exact Keeps.of_answer rfl (execLinkFault_keeps (Keeps.refl _ s))
  | cdrLossTimeout => exact Keeps.of_answer rfl (execCdrLossTimeout_keeps (Keeps.refl _ s))
  | retrain => exact Keeps.of_answer rfl (execRetrain_keeps (Keeps.refl _ s))
  | prtCmdReserved => exact Keeps.of_answer rfl (execPrtCmdReserved_keeps (Keeps.refl _ s))
  | frameReceive => exact Keeps.of_answer rfl (execFrameReceive_keeps (Keeps.refl _ s))
  | rxFrameDeliver => exact Keeps.of_answer rfl (execRxFrameDeliver_keeps (Keeps.refl _ s))
  | twinResetTimer => exact Keeps.of_answer rfl (execTwinResetTimer_keeps (Keeps.refl _ s))
  | pathDown => exact Keeps.of_answer rfl (execPathDown_keeps (Keeps.refl _ s))
  | nodeForget => exact Keeps.of_answer rfl (execNodeForget_keeps (Keeps.refl _ s))
  | supervisionSend => exact Keeps.of_answer rfl (execSupervisionSend_keeps (Keeps.refl _ s))
  | recovReset => exact Keeps.of_answer rfl (execRecovReset_keeps (Keeps.refl _ s))
  | contain => exact Keeps.of_answer rfl (execContain_keeps (Keeps.refl _ s))
  | strRelease => exact Keeps.of_answer rfl (execStrRelease_keeps (Keeps.refl _ s))
  | strCmdReserved => exact Keeps.of_answer rfl (execStrCmdReserved_keeps (Keeps.refl _ s))
  | strSelWrite => exact Keeps.of_answer rfl (execStrSelWrite_keeps (Keeps.refl _ s))
  | verifyTimer => exact Keeps.of_answer rfl (execVerifyTimer_keeps (Keeps.refl _ s))
  | treadStart => exact Keeps.of_answer rfl (execTreadStart_keeps (Keeps.refl _ s))
  | mmHoldAssert => exact Keeps.of_answer rfl (execMmHoldAssert_keeps (Keeps.refl _ s))
  | txSelect => exact Keeps.of_answer rfl (execTxSelect_keeps (Keeps.refl _ s))
  | txLaunch => exact Keeps.of_answer rfl (execTxLaunch_keeps (Keeps.refl _ s))
  | txEnd => exact Keeps.of_answer rfl (execTxEnd_keeps (Keeps.refl _ s))
  | commitAt => exact Keeps.of_answer rfl (execCommitAt_keeps (Keeps.refl _ s))
  | commitNext => exact Keeps.of_answer rfl (execCommitNext_keeps (Keeps.refl _ s))
  | withdraw => exact Keeps.of_answer rfl (execWithdraw_keeps (Keeps.refl _ s))
  | schCmdReserved => exact Keeps.of_answer rfl (execSchCmdReserved_keeps (Keeps.refl _ s))
  | rdSelWrite => exact Keeps.of_answer rfl (execRdSelWrite_keeps (Keeps.refl _ s))
  | setPathOfs => exact Keeps.of_answer rfl (execSetPathOfs_keeps (Keeps.refl _ s))
  | setReorder => exact Keeps.of_answer rfl (execSetReorder_keeps (Keeps.refl _ s))
  | przBreak => exact Keeps.of_answer rfl (execPrzBreak_keeps (Keeps.refl _ s))
  | przInCmdReserved => exact Keeps.of_answer rfl (execPrzInCmdReserved_keeps (Keeps.refl _ s))
  | inSelWrite => exact Keeps.of_answer rfl (execInSelWrite_keeps (Keeps.refl _ s))
  | paneSeal => exact Keeps.of_answer rfl (execPaneSeal_keeps (Keeps.refl _ s))
  | pgContain => exact Keeps.of_answer rfl (execPgContain_keeps (Keeps.refl _ s))
  | pgRelease => exact Keeps.of_answer rfl (execPgRelease_keeps (Keeps.refl _ s))
  | pgCmdReserved => exact Keeps.of_answer rfl (execPgCmdReserved_keeps (Keeps.refl _ s))
  | txFetchDone => exact Keeps.of_answer rfl (execTxFetchDone_keeps (Keeps.refl _ s))
  | loadPending => exact Keeps.of_answer rfl (execLoadPending_keeps (Keeps.refl _ s))
  | templateLoadDone => exact Keeps.of_answer rfl (execTemplateLoadDone_keeps (Keeps.refl _ s))
  | gcbCommit => exact Keeps.of_answer rfl (execGcbCommit_keeps (Keeps.refl _ s))
  | gcbEnable => exact Keeps.of_answer rfl (execGcbEnable_keeps (Keeps.refl _ s))
  | gcbDisable => exact Keeps.of_answer rfl (execGcbDisable_keeps (Keeps.refl _ s))
  | txeCmdReserved => exact Keeps.of_answer rfl (execTxeCmdReserved_keeps (Keeps.refl _ s))
  | gcbFrameDue => exact Keeps.of_answer rfl (execGcbFrameDue_keeps (Keeps.refl _ s))
  | svpLoad => exact Keeps.of_answer rfl (execSvpLoad_keeps (Keeps.refl _ s))
  | svpEnable => exact Keeps.of_answer rfl (execSvpEnable_keeps (Keeps.refl _ s))
  | svpDisable => exact Keeps.of_answer rfl (execSvpDisable_keeps (Keeps.refl _ s))
  | svpSlotRead => exact Keeps.of_answer rfl (execSvpSlotRead_keeps (Keeps.refl _ s))
  | svpFrameReady => exact Keeps.of_answer rfl (execSvpFrameReady_keeps (Keeps.refl _ s))
  | raWindowExpiry => exact Keeps.of_answer rfl (execRaWindowExpiry_keeps (Keeps.refl _ s))
  | cancel => exact Keeps.of_answer rfl (execCancel_keeps (Keeps.refl _ s))
  | tail => exact Keeps.of_answer rfl (execTail_keeps (Keeps.refl _ s))
  | inval => exact Keeps.of_answer rfl (execInval_keeps (Keeps.refl _ s))
  | crHead => exact Keeps.of_answer rfl (execCrHead_keeps (Keeps.refl _ s))
  | crHeadWrite => exact Keeps.of_answer rfl (execCrHeadWrite_keeps (Keeps.refl _ s))
  | descFetchDone => exact Keeps.of_answer rfl (execDescFetchDone_keeps (Keeps.refl _ s))
  | nop => exact Keeps.of_answer rfl (execNop_keeps (Keeps.refl _ s))
  | csrWrite => exact Keeps.of_answer rfl (execCsrWrite_keeps (Keeps.refl _ s))
  | csrRead => exact Keeps.of_answer rfl (execCsrRead_keeps (Keeps.refl _ s))
  | csrCmd => exact Keeps.of_answer rfl (execCsrCmd_keeps (Keeps.refl _ s))
  | actWrite => exact Keeps.of_answer rfl (execActWrite_keeps (Keeps.refl _ s))
  | qmEnable => exact Keeps.of_answer rfl (execQmEnable_keeps (Keeps.refl _ s))
  | qmHold => exact Keeps.of_answer rfl (execQmHold_keeps (Keeps.refl _ s))
  | qmRelease => exact Keeps.of_answer rfl (execQmRelease_keeps (Keeps.refl _ s))
  | qmStop => exact Keeps.of_answer rfl (execQmStop_keeps (Keeps.refl _ s))
  | resume => exact Keeps.of_answer rfl (execResume_keeps (Keeps.refl _ s))
  | qmDisable => exact Keeps.of_answer rfl (execQmDisable_keeps (Keeps.refl _ s))
  | resetIdx => exact Keeps.of_answer rfl (execResetIdx_keeps (Keeps.refl _ s))
  | qmCmdReserved => exact Keeps.of_answer rfl (execQmCmdReserved_keeps (Keeps.refl _ s))
  | queueStopped => exact Keeps.of_answer rfl (execQueueStopped_keeps (Keeps.refl _ s))
  | functionLevelReset => exact Keeps.of_answer rfl (execFunctionLevelReset_keeps (Keeps.refl _ s))
  | dmaEnable => exact Keeps.of_answer rfl (execDmaEnable_keeps (Keeps.refl _ s))
  | dmaCommit => exact Keeps.of_answer rfl (execDmaCommit_keeps (Keeps.refl _ s))
  | dmaStop => exact Keeps.of_answer rfl (execDmaStop_keeps (Keeps.refl _ s))
  | dmaClear => exact Keeps.of_answer rfl (execDmaClear_keeps (Keeps.refl _ s))
  | dmaDisable => exact Keeps.of_answer rfl (execDmaDisable_keeps (Keeps.refl _ s))
  | dmaCmdReserved => exact Keeps.of_answer rfl (execDmaCmdReserved_keeps (Keeps.refl _ s))
  | dmaDoorbell => exact Keeps.of_answer rfl (execDmaDoorbell_keeps (Keeps.refl _ s))
  | dmaBurstIssue => exact Keeps.of_answer rfl (execDmaBurstIssue_keeps (Keeps.refl _ s))
  | dmaReadDone => exact Keeps.of_answer rfl (execDmaReadDone_keeps (Keeps.refl _ s))
  | dmaDescFetchDone => exact Keeps.of_answer rfl (execDmaDescFetchDone_keeps (Keeps.refl _ s))
  | dmaWriteResponse => exact Keeps.of_answer rfl (execDmaWriteResponse_keeps (Keeps.refl _ s))
  | dmaRunDeadline => exact Keeps.of_answer rfl (execDmaRunDeadline_keeps (Keeps.refl _ s))
  | patrolScrub => exact Keeps.of_answer rfl (execPatrolScrub_keeps (Keeps.refl _ s))
  | peerInAssert => exact Keeps.of_answer rfl (execPeerInAssert_keeps (Keeps.refl _ s))
  | peerInDeassert => exact Keeps.of_answer rfl (execPeerInDeassert_keeps (Keeps.refl _ s))
  | guardExpiry => exact Keeps.of_answer rfl (execGuardExpiry_keeps (Keeps.refl _ s))
  | claimConfirm => exact Keeps.of_answer rfl (execClaimConfirm_keeps (Keeps.refl _ s))
  | handover => exact Keeps.of_answer rfl (execHandover_keeps (Keeps.refl _ s))
  | handoverTimeout => exact Keeps.of_answer rfl (execHandoverTimeout_keeps (Keeps.refl _ s))
  | claim => exact Keeps.of_answer rfl (execClaim_keeps (Keeps.refl _ s))
  | rdnRelease => exact Keeps.of_answer rfl (execRdnRelease_keeps (Keeps.refl _ s))
  | rdnResync => exact Keeps.of_answer rfl (execRdnResync_keeps (Keeps.refl _ s))
  | rdnCmdReserved => exact Keeps.of_answer rfl (execRdnCmdReserved_keeps (Keeps.refl _ s))
  | heartbeatSend => exact Keeps.of_answer rfl (execHeartbeatSend_keeps (Keeps.refl _ s))
  | heartbeatReceive => exact Keeps.of_answer rfl (execHeartbeatReceive_keeps (Keeps.refl _ s))
  | epochSend => exact Keeps.of_answer rfl (execEpochSend_keeps (Keeps.refl _ s))
  | epochData => exact Keeps.of_answer rfl (execEpochData_keeps (Keeps.refl _ s))
  | epochTrailer => exact Keeps.of_answer rfl (execEpochTrailer_keeps (Keeps.refl _ s))
  | kick => exact Keeps.of_answer rfl (execKick_keeps (Keeps.refl _ s))
  | mgtWdog => exact Keeps.of_answer rfl (execMgtWdog_keeps (Keeps.refl _ s))
  | fcrRelease => exact Keeps.of_answer rfl (execFcrRelease_keeps (Keeps.refl _ s))
  | uncontain => exact Keeps.of_answer rfl (execUncontain_keeps (Keeps.refl _ s))
  | fcrCmdReserved => exact Keeps.of_answer rfl (execFcrCmdReserved_keeps (Keeps.refl _ s))
  | injWrite => exact Keeps.of_answer rfl (execInjWrite_keeps (Keeps.refl _ s))
  | vectorFire => exact Keeps.of_answer rfl (execVectorFire_keeps (Keeps.refl _ s))
  | msixUnmask => exact Keeps.of_answer rfl (execMsixUnmask_keeps (Keeps.refl _ s))
  | flushMod => exact Keeps.of_answer rfl (execFlushMod_keeps (Keeps.refl _ s))
  | powerOnReset => exact Keeps.of_answer rfl (execPowerOnReset_keeps (Keeps.refl _ s))
  | warmReset => exact Keeps.of_answer rfl (execWarmReset_keeps (Keeps.refl _ s))
  | linkReset => exact Keeps.of_answer rfl (execLinkReset_keeps (Keeps.refl _ s))
  | fwCopyVerify => exact Keeps.of_answer rfl (execFwCopyVerify_keeps (Keeps.refl _ s))
  | diceDerive => exact Keeps.of_answer rfl (execDiceDerive_keeps (Keeps.refl _ s))
  | ddrTrain => exact Keeps.of_answer rfl (execDdrTrain_keeps (Keeps.refl _ s))
  | fwStart => exact Keeps.of_answer rfl (execFwStart_keeps (Keeps.refl _ s))
  | rollbackSet => exact Keeps.of_answer rfl (execRollbackSet_keeps (Keeps.refl _ s))
  | revoke => exact Keeps.of_answer rfl (execRevoke_keeps (Keeps.refl _ s))
  | keyWrite => exact Keeps.of_answer rfl (execKeyWrite_keeps (Keeps.refl _ s))
  | secCmdReserved => exact Keeps.of_answer rfl (execSecCmdReserved_keeps (Keeps.refl _ s))
  | getInfo => exact Keeps.of_answer rfl (execGetInfo_keeps (Keeps.refl _ s))
  | getSensors => exact Keeps.of_answer rfl (execGetSensors_keeps (Keeps.refl _ s))
  | getBoard => exact Keeps.of_answer rfl (execGetBoard_keeps (Keeps.refl _ s))
  | setMgView => exact Keeps.of_answer rfl (execSetMgView_keeps (Keeps.refl _ s))
  | clearMgView => exact Keeps.of_answer rfl (execClearMgView_keeps (Keeps.refl _ s))
  | fwWrite => exact Keeps.of_answer rfl (execFwWrite_keeps (Keeps.refl _ s))
  | fwVerify => exact Keeps.of_answer rfl (execFwVerify_keeps (Keeps.refl _ s))
  | fwActivate => exact Keeps.of_answer rfl (execFwActivate_keeps (Keeps.refl _ s))
  | fwLoad => exact Keeps.of_answer rfl (execFwLoad_keeps (Keeps.refl _ s))
  | sysReset => exact Keeps.of_answer rfl (execSysReset_keeps (Keeps.refl _ s))
  | planWrite => exact Keeps.of_answer rfl (execPlanWrite_keeps (Keeps.refl _ s))
  | planSlotWrite => exact Keeps.of_answer rfl (execPlanSlotWrite_keeps (Keeps.refl _ s))
  | getLog => exact Keeps.of_answer rfl (execGetLog_keeps (Keeps.refl _ s))
  | setNet => exact Keeps.of_answer rfl (execSetNet_keeps (Keeps.refl _ s))
  | getVersion => exact Keeps.of_answer rfl (execGetVersion_keeps (Keeps.refl _ s))
  | getCapabilities => exact Keeps.of_answer rfl (execGetCapabilities_keeps (Keeps.refl _ s))
  | negotiateAlgorithms => exact Keeps.of_answer rfl (execNegotiateAlgorithms_keeps (Keeps.refl _ s))
  | getDigests => exact Keeps.of_answer rfl (execGetDigests_keeps (Keeps.refl _ s))
  | getCertificate => exact Keeps.of_answer rfl (execGetCertificate_keeps (Keeps.refl _ s))
  | challenge => exact Keeps.of_answer rfl (execChallenge_keeps (Keeps.refl _ s))
  | getMeasurements => exact Keeps.of_answer rfl (execGetMeasurements_keeps (Keeps.refl _ s))
  | setEndpointId => exact Keeps.of_answer rfl (execSetEndpointId_keeps (Keeps.refl _ s))
  | mgtPortReceive => exact Keeps.of_answer rfl (execMgtPortReceive_keeps (Keeps.refl _ s))
  | restart => exact Keeps.of_answer rfl (execRestart_keeps (Keeps.refl _ s))
  | mgtCmdReserved => exact Keeps.of_answer rfl (execMgtCmdReserved_keeps (Keeps.refl _ s))
  | mgtFwFault => exact Keeps.of_answer rfl (execMgtFwFault_keeps (Keeps.refl _ s))
  | sensorSample => exact Keeps.of_answer rfl (execSensorSample_keeps (Keeps.refl _ s))
  | mgViewWrite => exact Keeps.of_answer rfl (execMgViewWrite_keeps (Keeps.refl _ s))
  | pllUnlock => exact Keeps.of_answer rfl (execPllUnlock_keeps (Keeps.refl _ s))
  | pllRestart => exact Keeps.of_answer rfl (execPllRestart_keeps (Keeps.refl _ s))
  | sysoscLoss => exact Keeps.of_answer rfl (execSysoscLoss_keeps (Keeps.refl _ s))
  | sysclkRestore => exact Keeps.of_answer rfl (execSysclkRestore_keeps (Keeps.refl _ s))
  | refclkLoss => exact Keeps.of_answer rfl (execRefclkLoss_keeps (Keeps.refl _ s))
  | refclkRestore => exact Keeps.of_answer rfl (execRefclkRestore_keeps (Keeps.refl _ s))
  | csrTimeout => exact Keeps.of_answer rfl (execCsrTimeout_keeps (Keeps.refl _ s))
  | powerWake => exact Keeps.of_answer rfl (execPowerWake_keeps (Keeps.refl _ s))
  | l1Entry => exact Keeps.of_answer rfl (execL1Entry_keeps (Keeps.refl _ s))
  | l1Exit => exact Keeps.of_answer rfl (execL1Exit_keeps (Keeps.refl _ s))
  | ltrSend => exact Keeps.of_answer rfl (execLtrSend_keeps (Keeps.refl _ s))
  | d3hotEntry => exact Keeps.of_answer rfl (execD3hotEntry_keeps (Keeps.refl _ s))
  | d0Return => exact Keeps.of_answer rfl (execD0Return_keeps (Keeps.refl _ s))
  | pmeResend => exact Keeps.of_answer rfl (execPmeResend_keeps (Keeps.refl _ s))
  | rcRead => exact Keeps.of_answer rfl (execRcRead_keeps (Keeps.refl _ s))
  | wideLowRead => exact Keeps.of_answer rfl (execWideLowRead_keeps (Keeps.refl _ s))
  | wideLowWrite => exact Keeps.of_answer rfl (execWideLowWrite_keeps (Keeps.refl _ s))
  | wideHighWrite => exact Keeps.of_answer rfl (execWideHighWrite_keeps (Keeps.refl _ s))
  | registerWrite => exact Keeps.of_answer rfl (execRegisterWrite_keeps (Keeps.refl _ s))
  | slewComplete => exact Keeps.of_answer rfl (execSlewComplete_keeps (Keeps.refl _ s))
  | pcieLinkUp => exact Keeps.of_answer rfl (execPcieLinkUp_keeps (Keeps.refl _ s))
  | pcieLinkLost => exact Keeps.of_answer rfl (execPcieLinkLost_keeps (Keeps.refl _ s))
  | porstAssert => exact Keeps.of_answer rfl (execPorstAssert_keeps (Keeps.refl _ s))
  | mgtRestartDone => exact Keeps.of_answer rfl (execMgtRestartDone_keeps (Keeps.refl _ s))

/-- Settles O3: what every command keeps says it. -/
theorem everyCommandCompletes : Obligations.EveryCommandCompletes := by
  intro c s
  obtain ⟨t, ht, hk⟩ := exec_keeps c s
  refine ⟨t, ht, hk.queue, hk.out, fun hm a => ?_⟩
  unfold State.memGet
  rw [hk.ddr hm]

/-- Settles O4: a command keeps the state safe, and so does the device that idles. -/
theorem stepKeepsTheStateSafe : Obligations.StepKeepsTheStateSafe := by
  intro s t hs hstep
  unfold step at hstep
  split at hstep
  case h_1 =>
    cases hstep
    exact (State.idle_keeps (Keeps.refl true s)).sound hs
  case h_2 c rest _ =>
    obtain ⟨u, hu, hk⟩ := exec_keeps c { s with pending := rest }
    rw [hu] at hstep
    cases hstep
    exact hk.sound hs

end Sys2Proof.Machine
end

section
/-! The step of the queue and of an idle edge, the reset state, and what registers and DDR4 read after a write. -/

namespace Sys2Proof.Machine

/-! ### One step -/

/-- Settles O1: `step` takes the queue apart. -/
theorem stepRunsFrontCommand : Obligations.StepRunsFrontCommand := by
  intro s c rest h
  unfold step
  rw [h]

theorem step_of_no_command {s : State} (h : s.pending = []) : step s = .next s.idle := by
  unfold step
  rw [h]

/-! ### TIME edges -/

theorem State.advTb_clock (s : State) (k n : Nat) : (s.advTb k n).clock = s.clock := by
  unfold State.advTb State.setTb
  split
  · rfl
  · dsimp only
    split <;> rfl

theorem State.advTb_plan (s : State) (k n : Nat) : (s.advTb k n).plan = s.plan := by
  unfold State.advTb State.setTb
  split
  · rfl
  · dsimp only
    split <;> rfl

theorem State.advTb_out (s : State) (k n : Nat) : (s.advTb k n).out = s.out := by
  unfold State.advTb State.setTb
  split
  · rfl
  · dsimp only
    split <;> rfl

/-- What every step of a loop leaves alone, the loop leaves alone. -/
theorem forEach_invariant {α β : Type} (g : State → β) {f : α → State → State} (hf : ∀ a x, g (f a x) = g x) (l : List α)
    (s : State) : g (forEach l f s) = g s := by
  unfold forEach
  induction l generalizing s with
  | nil => rfl
  | cons a l ih => rw [List.foldl_cons, ih, hf]

/-- One edge: the local TIME count advances while the TIME domain has its clock. -/
theorem State.edges_one_clock (s : State) :
    (s.edges 1).clock = s.clock + (if s.pwr.stopped.contains 2 then 0 else 225179981368525) := by
  have hbases := forEach_invariant State.clock (f := fun n (x : State) => x.advTb 1 n) (fun n x => x.advTb_clock 1 n)
    (List.range 8) s
  unfold State.edges State.timeRuns State.newEdge
  cases s.pwr.stopped.contains 2
  · simp [hbases, inc0]
  · simp

theorem State.edges_plan (s : State) (k : Nat) : (s.edges k).plan = s.plan := by
  unfold State.edges State.newEdge
  split
  · rfl
  · split
    · exact forEach_invariant State.plan (fun n x => x.advTb_plan k n) _ s
    · rfl

theorem State.edges_out (s : State) (k : Nat) : (s.edges k).out = s.out := by
  unfold State.edges State.newEdge
  split
  · rfl
  · split
    · exact forEach_invariant State.out (fun n x => x.advTb_out k n) _ s
    · rfl

/-- Settles O2: an idle step is a reset that falls due, a landing that is waited for, or one edge. -/
theorem emptyQueueLetsTimePass : Obligations.EmptyQueueLetsTimePass := by
  intro s hempty
  rw [step_of_no_command hempty]
  unfold State.idle
  refine ⟨fun hreset => ?reset, fun hreset hland => ?landing, fun hreset hland => ?edge⟩
  case reset => rw [if_pos hreset]
  case landing => rw [if_neg (by simp [hreset]), if_pos hland]
  case edge =>
    rw [if_neg (by simp [hreset]), if_neg (by simp [hland])]
    have hkeep : Keeps false s (s.edges 1) := State.edges_keeps (Keeps.refl _ s)
    exact ⟨s.edges 1, rfl, s.edges_one_clock, hkeep.ddr rfl, hkeep.queue.trans hempty, s.edges_plan 1, s.edges_out 1⟩

/-! ### Reset -/

/-- Settles O5: the reset state lists no register and no octet, and no work entry waits. -/
theorem resetIsSafe : Obligations.ResetIsSafe := ⟨rfl, rfl, rfl⟩

/-- Without a plan every entry is ABSENT (R52). -/
theorem State.dpView_of_no_plan {s : State} (h : s.hasPlan = false) (u : Nat) : s.dpView u = 0 := by
  unfold State.dpView
  rw [h]
  rfl

theorem State.link_reset {p : Nat} (h : p < 128) : State.reset.link p = 0 := by
  have hall : ∀ i : Fin 128, State.reset.link i = 0 := by decide +kernel
  exact hall ⟨p, h⟩

theorem State.eff_reset {u : Nat} (h : u < 256) : State.reset.eff u = 0 := by
  have hall : ∀ i : Fin 256, State.reset.eff i = 0 := by decide +kernel
  exact hall ⟨u, h⟩

/-- Settles O6: the reset values of the registers named, and the tables of the reset state. -/
theorem resetLeavesTheStatedValues : Obligations.ResetLeavesTheStatedValues := by
  have hparts : State.reset.getF R.topId 15 0 = 0x1280 ∧ State.reset.getF R.topId 23 20 = 0xB ∧
      State.reset.getF R.topId 19 16 = 0 ∧ State.reset.getF R.planStatus 3 0 = 0 ∧ State.reset.running = false ∧
      State.reset.now = 0 := by decide +kernel
  have hbases : ∀ n : Fin 8, State.reset.tbState n = 1 ∧ (State.reset.tb n).count = 0 ∧ State.reset.freq n = 0 ∧
      (State.reset.tb n).slewRem = 0 := by decide +kernel
  have hplan : State.reset.hasPlan = false := by decide +kernel
  obtain ⟨hpart, hrev, hver, hstate, hruns, hnow⟩ := hparts
  exact ⟨hpart, hrev, hver, hstate, hruns, hnow, fun p => State.link_reset,
    fun u hu => ⟨State.eff_reset hu, State.dpView_of_no_plan hplan u⟩, fun n hn => hbases ⟨n, hn⟩, rfl, rfl⟩

/-! ### DDR4 octets -/

/-- Octets written leave every other octet. -/
theorem State.memGet_memWrite_of_outside (l : List Byte) {s : State} {a b : Nat} (h : b < a ∨ a + l.length ≤ b) :
    (s.memWrite a l).memGet b = s.memGet b := by
  induction l generalizing s a with
  | nil => rfl
  | cons x l ih =>
    rw [List.length_cons] at h
    unfold State.memWrite
    rw [ih (by omega), State.memGet_memPut_of_ne s a b x (by omega)]

/-- Octets written read back. -/
theorem State.memRead_memWrite (l : List Byte) {s : State} (hs : Sound s) (a : Nat) :
    (s.memWrite a l).memRead a l.length = l := by
  induction l generalizing s a with
  | nil => rfl
  | cons x l ih =>
    have hput := State.memPut_sound s a x hs
    unfold State.memWrite
    rw [List.length_cons, State.memRead, State.memGet_memWrite_of_outside l (by omega), State.memGet_memPut_self s a x hs, ih hput]

theorem State.rd_memWrite (l : List Byte) (s : State) (a k : Nat) : (s.memWrite a l).rd k = s.rd k := by
  induction l generalizing s a with
  | nil => rfl
  | cons x l ih => exact ih (s.memPut a x) (a + 1)

/-- Settles O7: the laws of the two arrays, a register at a time and octet by octet. -/
theorem storageReadsBack : Obligations.StorageReadsBack :=
  ⟨fun s k v hs => ⟨s.rd_wr_self k v hs, fun j hj => s.rd_wr_of_ne k j v hj, fun _ => rfl, s.wr_sound k v hs⟩,
    fun s a l hs => ⟨State.memRead_memWrite l hs a, fun _ hb => State.memGet_memWrite_of_outside l hb,
      fun k => State.rd_memWrite l s a k, State.memWrite_sound l s a hs⟩⟩

end Sys2Proof.Machine
end

section
/-! Fields of a register, the RESULT of a command, stored ticks, and the compare of the unit state board. -/

namespace Sys2Proof.Machine

/-! ### Fields -/

/-- A field keeps its value when a field below it is replaced. -/
theorem fld_withFld_of_gt (r : Reg) {hi lo hi' lo' : Nat} (v : Nat) (h : lo ≤ hi) (hhi : hi < 32) (hgt : hi < lo') :
    fld (withFld r hi lo v) hi' lo' = fld r hi' lo' := by
  have hlow := field_add_below_lt v r.toNat h
  have habove (x : Nat) : x / 2 ^ lo' = x / 2 ^ (hi + 1) / 2 ^ (lo' - (hi + 1)) := by
    rw [Nat.div_div_eq_div_mul, ← Nat.pow_add, Nat.add_sub_cancel' hgt]
  unfold fld
  rw [habove, habove r.toNat, withFld_toNat r v h hhi, Nat.mul_comm, Nat.mul_add_div (by positivity),
    Nat.div_eq_of_lt hlow, Nat.add_zero]

/-- Settles O8: the field itself, a field below it, a field above it. -/
theorem registerFieldsAreIndependent : Obligations.RegisterFieldsAreIndependent := by
  intro r hi lo v hi' lo' hlo hhi hlo' hhi'
  refine ⟨fld_withFld_self r v hlo hhi, ?other⟩
  case other =>
    rintro (hbelow | habove)
    · exact fld_withFld_of_lt r v hlo hhi hlo' hbelow
    · exact fld_withFld_of_gt r v hlo hhi habove

/-- A write of a field keeps the fields above it. -/
theorem State.getF_setF_of_gt {s : State} (hs : Sound s) (k v : Nat) {hi lo hi' lo' : Nat} (h : lo ≤ hi) (hhi : hi < 32)
    (hgt : hi < lo') : (s.setF k hi lo v).getF k hi' lo' = s.getF k hi' lo' := by
  unfold State.getF State.setF
  rw [State.rd_wr_self s k _ hs, fld_withFld_of_gt _ v h hhi hgt]

/-! ### RESULT (R360) -/

/-- The RESULT field is octet 2 or 3 of its register. -/
theorem resultField_lt (k : Nat) : resultField k + 7 < 32 := by
  unfold resultField
  split <;> omega

/-- Only QM.STATE_CNT changes beside the status register. -/
theorem State.rd_noteResult_of_ne (s : State) {k j : Nat} (code : Nat) (h : j ≠ R.qmStateCnt) :
    (s.noteResult k code).rd j = (s.setF k (resultField k + 7) (resultField k) code).rd j := by
  unfold State.noteResult
  split
  · exact State.rd_inc_of_ne _ R.qmStateCnt j h
  · rfl

/-- A saturating counter reads one more, up to its largest value. -/
theorem State.rdN_inc_self {s : State} (hs : Sound s) (k : Nat) : (s.inc k).rdN k = min (s.rdN k + 1) 0xFFFFFFFF := by
  unfold State.inc State.incBy State.wrN State.rdN satAdd
  rw [State.rd_wr_self s k _ hs, BitVec.toNat_ofNat]
  exact Nat.mod_eq_of_lt (by omega)

/-- A STATE is counted. -/
theorem State.rdN_qmStateCnt_noteResult {s : State} (hs : Sound s) {k : Nat} (code : Nat) (hk : k ≠ R.qmStateCnt) :
    (s.noteResult k code).rdN R.qmStateCnt =
      if code = 0x02 then min (s.rdN R.qmStateCnt + 1) 0xFFFFFFFF else s.rdN R.qmStateCnt := by
  have hstays : (s.setF k (resultField k + 7) (resultField k) code).rdN R.qmStateCnt = s.rdN R.qmStateCnt := by
    unfold State.rdN
    rw [State.rd_setF_of_ne s k _ _ _ _ hk.symm]
  unfold State.noteResult
  by_cases hcode : code = 0x02
  · rw [if_pos hcode, if_pos hcode, State.rdN_inc_self (State.setF_sound hs k _ _ code), hstays]
  · rw [if_neg hcode, if_neg hcode, hstays]

/-- Settles O12: RESULT is a field of the status register, and the count of a STATE another register. -/
theorem resultIsRecorded : Obligations.ResultIsRecorded := by
  intro s k code hi lo hs hcode hk hlo hhi
  have hfield := resultField_lt k
  have hstatus := State.rd_noteResult_of_ne s (k := k) code hk
  refine ⟨?field, ?others, State.rdN_qmStateCnt_noteResult hs code hk, fun j hj hcnt => ?registers⟩
  case field =>
    rw [State.getF_of_rd_eq hstatus, State.getF_setF_self hs k code (Nat.le_add_right _ _) hfield]
    exact Nat.mod_eq_of_lt (by rw [show resultField k + 7 + 1 - resultField k = 8 by omega]; exact hcode)
  case others =>
    rw [State.getF_of_rd_eq hstatus]
    rintro (hbelow | habove)
    · exact State.getF_setF_of_lt hs k code (Nat.le_add_right _ _) hfield hlo hbelow
    · exact State.getF_setF_of_gt hs k code (Nat.le_add_right _ _) hfield habove
  case registers => rw [State.rd_noteResult_of_ne s code hcnt, State.rd_setF_of_ne s k j _ _ _ hj]

/-! ### Stored ticks (R71) -/

/-- The signed difference depends on the low 32 bits only, and is the difference of ticks less than 2^31 apart. -/
theorem tickDiff_eq_sub {a b x y : Nat} (hx : x % 4294967296 = a % 4294967296) (hy : y % 4294967296 = b % 4294967296)
    (hlo : -2147483648 ≤ (a : Int) - b) (hhi : (a : Int) - b ≤ 2147483647) : tickDiff x y = (a : Int) - b := by
  rw [tickDiff_eq]
  split <;> omega

/-- Settles O13: a stored field is a tick cut to 32 bits. -/
theorem storedTicksCompareModulo : Obligations.StoredTicksCompareModulo := by
  refine ⟨fun a b hlo hhi => tickDiff_eq_sub (Nat.mod_mod _ _) (Nat.mod_mod _ _) hlo hhi, fun s t hlo hhi => ?_⟩
  unfold State.fullTick
  rw [tickDiff_eq_sub (Nat.mod_mod _ _) rfl hlo hhi, add_sub_cancel, Int.toNat_natCast]

/-! ### The unit state board (R25) -/

theorem foldl_min_le {α : Type} (f : α → Nat) (l : List α) (v : Nat) : l.foldl (fun v a => min v (f a)) v ≤ v := by
  induction l generalizing v with
  | nil => exact le_refl v
  | cons a l ih => exact (ih _).trans (min_le_left v (f a))

theorem State.viewQuad_le (s : State) (k : Nat) : s.viewQuad k ≤ 4 := by
  unfold State.viewQuad
  dsimp only
  split
  · exact Nat.zero_le 4
  · exact (foldl_min_le s.viewPg _ View.run).trans (by decide)

theorem State.viewPort_le (s : State) (p : Nat) : s.viewPort p ≤ 4 := by
  unfold State.viewPort
  split_ifs <;> decide

theorem State.viewGallery_le (s : State) (g : Nat) : s.viewGallery g ≤ 4 := by
  unfold State.viewGallery
  split_ifs <;> decide

theorem State.viewTb_le (s : State) (n : Nat) : s.viewTb n ≤ 4 := by
  unfold State.viewTb
  split_ifs <;> decide

theorem State.viewRole_le (s : State) : s.viewRole ≤ 4 := by
  unfold State.viewRole
  split_ifs <;> decide

theorem State.viewTick_le (s : State) : s.viewTick ≤ 4 := by
  unfold State.viewTick
  dsimp only
  split_ifs <;> decide

theorem State.viewLink_le (s : State) (h : Nat) : s.viewLink h ≤ 4 := by
  unfold State.viewLink
  split_ifs <;> decide

theorem State.viewChannel_le (s : State) (c : Nat) : s.viewChannel c ≤ 4 := by
  unfold State.viewChannel
  dsimp only
  split_ifs <;> decide

theorem State.viewMirror_le (s : State) : s.viewMirror ≤ 4 := by
  unfold State.viewMirror
  split_ifs <;> decide

theorem State.viewMgt_le (s : State) : s.viewMgt ≤ 4 := by
  unfold State.viewMgt
  split_ifs <;> decide

/-- A bound of both branches is a bound of the choice. -/
theorem ite_le_of_le {c : Prop} [Decidable c] {a b n : Nat} (ha : a ≤ n) (hb : b ≤ n) : (if c then a else b) ≤ n := by
  split
  · exact ha
  · exact hb

/-- A data-path view is one of the codes of R22. -/
theorem State.dpView_le (s : State) (u : Nat) : s.dpView u ≤ 4 := by
  unfold State.dpView
  refine ite_le_of_le (Nat.zero_le 4) (ite_le_of_le (s.viewPort_le u) (ite_le_of_le (s.viewGallery_le _)
    (ite_le_of_le (s.viewTb_le _) (ite_le_of_le s.viewRole_le (ite_le_of_le s.viewTick_le (ite_le_of_le (s.viewLink_le _)
    (ite_le_of_le (s.viewChannel_le _) (ite_le_of_le (s.viewQuad_le _) (ite_le_of_le ?prism
    (ite_le_of_le s.viewMirror_le (ite_le_of_le s.viewMgt_le (ite_le_of_le (by decide) (Nat.zero_le 4)))))))))))))
  case prism => exact ite_le_of_le (Nat.zero_le 4) (ite_le_of_le (by decide) (by decide))

/-- The word that a compare writes: the two views, the lower one, SPLIT and the ticks it stands for. -/
theorem State.rd_compareEntry_self {s : State} (hs : Sound s) {u : Nat} (hu : u < 232) :
    ∃ split ticks, (s.compareEntry u).rd (R.topUsb u) = BitVec.ofNat 32
      (s.dpView u + s.mgView u * 16 + min (s.dpView u) (s.mgView u) * 256 + split * 4096 + ticks * 65536) := by
  refine ⟨if s.dpView u = s.mgView u then 0 else 1,
    if s.dpView u = s.mgView u then 0 else min 255 (fld (s.rd (R.topUsb u)) 23 16 + 1), ?_⟩
  unfold State.compareEntry State.wrN
  rw [State.rd_wr_self s _ _ hs, if_pos hu]
  by_cases heq : s.dpView u = s.mgView u <;> simp [heq]

/-- Settles O14: the views are codes of four bits, so the fields of the word do not overlap. -/
theorem boardTakesTheSaferView : Obligations.BoardTakesTheSaferView := by
  intro s u hs hu
  have hdp := s.dpView_le u
  have hmg : s.mgView u < 16 := Nat.mod_lt _ (by decide)
  have hmin : min (s.dpView u) (s.mgView u) ≤ 4 := (min_le_left _ _).trans hdp
  obtain ⟨split, ticks, hword⟩ := State.rd_compareEntry_self hs hu
  have hfield (hi lo : Nat) : (s.compareEntry u).getF (R.topUsb u) hi lo = fld (BitVec.ofNat 32
      (s.dpView u + s.mgView u * 16 + min (s.dpView u) (s.mgView u) * 256 + split * 4096 + ticks * 65536)) hi lo := by
    rw [← hword]
    rfl
  refine ⟨?_, ?_, ?_, fun k hk => State.rd_wrN_of_ne s _ k _ hk, rfl⟩
  · rw [hfield]; unfold fld; rw [BitVec.toNat_ofNat]; omega
  · rw [hfield]; unfold fld; rw [BitVec.toNat_ofNat]; omega
  · unfold State.eff; rw [hfield]; unfold fld; rw [BitVec.toNat_ofNat]; omega

/-! ### Arrivals -/

/-- A meaning with one condition: its effect where the condition holds, and nothing else otherwise. -/
theorem Answer.of_ite {c : Prop} [Decidable c] {a : Answer} {t u : State} (h : a = .next (if c then t else u)) :
    (c → a = .next t) ∧ (¬c → a = .next u) := by
  subst h
  exact ⟨fun hc => by rw [if_pos hc], fun hc => by rw [if_neg hc]⟩

/-- A meaning with a condition and a flag. -/
theorem Answer.of_ite_and {c : Prop} {b : Bool} [Decidable c] {a : Answer} {t u : State}
    (h : a = .next (if c ∧ b = true then t else u)) :
    (c → b = true → a = .next t) ∧ (¬c ∨ b = false → a = .next u) := by
  subst h
  refine ⟨fun hc hb => by rw [if_pos ⟨hc, hb⟩], fun hno => ?_⟩
  rw [if_neg (by rw [not_and_or, Bool.not_eq_true]; exact hno)]

/-- Settles O25: each row is the receive path of its port behind the type of its message or mirror frame. -/
theorem arrivalsTakeTheReceivePath : Obligations.ArrivalsTakeTheReceivePath := by
  intro s p x t ht
  subst ht
  refine ⟨rfl, ?messages, ?mirror⟩
  case messages =>
    simp only [List.forall_mem_cons, List.exists_mem_cons_iff, List.not_mem_nil, false_and, exists_false, or_false,
      IsEmpty.forall_iff, implies_true, and_true]
    have hsync := Answer.of_ite (a := exec (.ptpSyncReceive p x) s) rfl
    have hresp := Answer.of_ite (a := exec (.pdelayRespReceive p x) s) rfl
    rw [not_or] at hsync hresp
    exact ⟨hsync, Answer.of_ite rfl, Answer.of_ite rfl, hresp, Answer.of_ite rfl⟩
  case mirror =>
    simp only [List.forall_mem_cons, List.not_mem_nil, IsEmpty.forall_iff, implies_true, and_true]
    exact ⟨Answer.of_ite_and rfl, Answer.of_ite_and rfl, Answer.of_ite_and rfl⟩

end Sys2Proof.Machine
end

section
/-! Commands written to a register: the gate before their effect, and the reserved codes. -/

namespace Sys2Proof.Machine

/-- Every command of a command register is an effect behind the gate of its register. -/
theorem exec_guarded {c : Instr} {r : Requester} {k : Nat} (h : commandReg c = some (r, k)) (s : State) :
    ∃ f, exec c s = .next (s.guarded r k f) := by
  cases c <;> cases h <;> exact ⟨_, rfl⟩

/-- Settles O10: the gate decides before the command. -/
theorem commandWritesAreGated : Obligations.CommandWritesAreGated := by
  refine ⟨fun c r k s h hboot hclock hvf => ?vf, fun c r k s h hboot hclock hpf hmgmt hblock => ?dropped,
    fun c r k s h => ⟨fun hboot hclock => ?stopped, fun hboot hrom => ?boot⟩⟩
  all_goals
    obtain ⟨f, hf⟩ := exec_guarded h s
    rw [hf]
  case vf => rw [guarded_of_vf hboot hclock hvf]
  case dropped => rw [guarded_of_dropped hboot hclock hpf hmgmt hblock]
  case stopped => rw [guarded_of_stopped hboot hclock]; rfl
  case boot => rw [guarded_of_boot hboot hrom]

/-- A command that reaches its register has its effect. -/
theorem exec_of_reaches {c : Instr} {s t : State} {r : Requester} {k : Nat} {f : State → State} (h : Reaches s r k)
    (hc : exec c s = .next (s.guarded r k f)) (ht : f s = t) : exec c s = .next t := by
  rw [hc, guarded_of_reaches h, ht]

/-- An access that R16 does not limit passes while BAR0 answers and the clock of the register runs. -/
theorem State.qmReach_of_open {s : State} {k : Nat} (hboot : 6 ≤ s.boot.stage) (hclock : s.clockStopped k = false)
    (f : State → State) : s.qmReach k f = f s := by
  unfold State.qmReach
  rw [if_neg (by omega), if_neg (by simp [hclock])]

/-! ### Commands of QM.CMD (R352, R358)

While BAR0 answers and CORE runs, INDEX and RING are written (state `w`) and name queue or ring `i`; the right to issue the
command and the owner of the queue decide. -/

section
variable {s w : State} {req : Requester} {ring : Bool} {index i : Nat} (f : Nat → State → State)
  (hboot : 6 ≤ s.boot.stage) (hclock : s.clockStopped R.qmCmd = false)
  (hw : w = (s.setBit R.qmCmd 15 ring).setF R.qmCmd 31 16 index) (hi : i = w.qmIndex req ring index)
include hboot hclock hw hi

/-- A queue or ring that is not in the plan: STATE. -/
theorem State.qmCommand_of_not_planned (howner : w.qmOwner ring i = none) :
    s.qmCommand req ring index f = w.result R.qmStatus 0x02 := by
  unfold State.qmCommand
  rw [State.qmReach_of_open hboot hclock]
  dsimp only
  rw [← hw, ← hi, howner]

/-- A requester that may not address it: counted, and STATE. -/
theorem State.qmCommand_of_foreign {o : Nat × Nat} (howner : w.qmOwner ring i = some o) (hmay : w.qmMay req o.1 o.2 = false) :
    s.qmCommand req ring index f = (w.inc R.qmForeignWr).result R.qmStatus 0x02 := by
  unfold State.qmCommand
  rw [State.qmReach_of_open hboot hclock]
  dsimp only
  rw [← hw, ← hi, howner]
  simp only [hmay, Bool.not_false, if_true]

/-- A queue that a mirror owns: STATE. -/
theorem State.qmCommand_of_mirrored {o : Nat × Nat} (howner : w.qmOwner ring i = some o) (hmay : w.qmMay req o.1 o.2 = true)
    (hring : (!ring) = true) (hmirror : w.qMirrored i = true) :
    s.qmCommand req ring index f = w.result R.qmStatus 0x02 := by
  unfold State.qmCommand
  rw [State.qmReach_of_open hboot hclock]
  dsimp only
  rw [← hw, ← hi, howner]
  simp only [hmay, hring, hmirror, Bool.not_true, Bool.and_self, if_true, if_false, Bool.false_eq_true]

/-- Otherwise the command has its effect. -/
theorem State.qmCommand_of_may {o : Nat × Nat} (howner : w.qmOwner ring i = some o) (hmay : w.qmMay req o.1 o.2 = true)
    (hfree : ring = true ∨ w.qMirrored i = false) : s.qmCommand req ring index f = f i w := by
  have hmine : (!ring && w.qMirrored i) = false := by
    rcases hfree with h | h <;> simp [h]
  unfold State.qmCommand
  rw [State.qmReach_of_open hboot hclock]
  dsimp only
  rw [← hw, ← hi, howner]
  simp only [hmay, hmine, Bool.not_true, if_false, Bool.false_eq_true]

end

/-! ### Reserved codes -/

/-- A reserved code of QM.CMD by a requester that may address the queue or ring, if it is in the plan. -/
theorem exec_qmCmdReserved {s w : State} {req : Requester} {ring : Bool} {index : Nat} (hboot : 6 ≤ s.boot.stage)
    (hclock : s.clockStopped R.qmCmd = false) (hw : w = (s.setBit R.qmCmd 15 ring).setF R.qmCmd 31 16 index)
    (hmay : ∀ o, w.qmOwner ring (w.qmIndex req ring index) = some o → w.qmMay req o.1 o.2 = true) :
    exec (.qmCmdReserved req ring index) s = .next (w.result R.qmStatus 0x02) := by
  refine congrArg Host.Outcome.next ?_
  cases howner : w.qmOwner ring (w.qmIndex req ring index) with
  | none => exact State.qmCommand_of_not_planned _ hboot hclock hw rfl howner
  | some o =>
    by_cases hmirror : (!ring) = true ∧ w.qMirrored (w.qmIndex req ring index) = true
    · exact State.qmCommand_of_mirrored _ hboot hclock hw rfl howner (hmay o howner) hmirror.1 hmirror.2
    · have hfree : ring = true ∨ w.qMirrored (w.qmIndex req ring index) = false := by
        rwa [not_and_or, Bool.not_eq_eq_eq_not, Bool.not_true, Bool.not_eq_false, Bool.not_eq_true] at hmirror
      exact State.qmCommand_of_may _ hboot hclock hw rfl howner (hmay o howner) hfree

/-- A reserved code of SEC.CMD by the management plane: STATE whether SEC is busy or not (R465). -/
theorem exec_secCmdReserved {s : State} {req : Requester} (h : Reaches s req R.secCmd) (hmgmt : isMgmt (s.acting req) = true) :
    exec (.secCmdReserved req) s = .next (s.result R.secStatus 0x02) := by
  refine exec_of_reaches h rfl ?_
  dsimp only
  rw [if_pos hmgmt, ite_self]

/-- Settles O11: each reserved code reaches its register and completes there. -/
theorem reservedCommandsAnswerState : Obligations.ReservedCommandsAnswerState := by
  intro s req
  refine ⟨fun hall h => exec_of_reaches h rfl rfl, fun h => exec_of_reaches h rfl rfl, fun n h => ?timeBase, fun p h => ?port,
    fun sh h => ?stream, fun p h => exec_of_reaches h rfl rfl, fun sh h => exec_of_reaches h rfl rfl,
    fun g h => exec_of_reaches h rfl rfl, fun unit index h => exec_of_reaches h rfl rfl, fun c h => ?channel,
    fun h => exec_of_reaches h rfl rfl, fun arg h => exec_of_reaches h rfl rfl, exec_secCmdReserved,
    fun h => exec_of_reaches h rfl rfl, fun ring index t hboot hclock ht =>
      ⟨fun hmay => exec_qmCmdReserved hboot hclock ht hmay, fun o howner hmay => ?foreign⟩⟩
  case timeBase =>
    refine exec_of_reaches h rfl ?_
    dsimp only
    rw [if_neg (fun hlegal => Bool.false_ne_true hlegal.2.2)]
  case port =>
    have hif := Answer.of_ite (exec_of_reaches (c := .prtCmdReserved req p) h rfl rfl)
    exact ⟨hif.1, fun hno => hif.2 (by simp [hno])⟩
  case stream =>
    refine exec_of_reaches h rfl ?_
    dsimp only
    split <;> rfl
  case channel =>
    have hif := Answer.of_ite (exec_of_reaches (c := .dmaCmdReserved req c) h rfl rfl)
    exact ⟨hif.1, fun hout => hif.2 (by omega)⟩
  case foreign => exact congrArg Host.Outcome.next (State.qmCommand_of_foreign _ hboot hclock ht rfl howner hmay)

end Sys2Proof.Machine
end

section
/-! The PLAN commands, and how staging, loading and rebuilding end (R51 to R62). -/

namespace Sys2Proof.Machine

/-! ### The commands of PLAN.CTL -/

/-- A PLAN command that reaches PLAN.CTL acts after HALL_SYNC is written with it. -/
theorem exec_planCommand {c : Instr} {s t : State} {req : Requester} {hall : Bool} {f : State → State}
    (h : Reaches s req R.planCtl) (hc : exec c s = .next (s.planCommand req hall f))
    (ht : f (s.setBit R.planCtl 7 hall) = t) : exec c s = .next t :=
  exec_of_reaches h hc ht

/-- The plan states in which STAGE is legal: NONE, IDLE, STAGED_AMEND and STAGED_PLAN. -/
theorem stageStates (st : Nat) :
    (!(st == PS.none || st == PS.idle || st == PS.stagedAmend || st == PS.stagedPlan)) = decide (st ∉ [0, 1, 3, 4]) := by
  simp [Bool.beq_eq_decide_eq, Bool.and_assoc]

section
variable {s w : State} {req : Requester} {hall : Bool} (h : Reaches s req R.planCtl) (hw : w = s.setBit R.planCtl 7 hall)
include h hw

/-- STAGE is legal in NONE, IDLE, STAGED_AMEND and STAGED_PLAN only. -/
theorem exec_stage_illegal (hstate : w.planState ∉ [0, 1, 3, 4]) : exec (.stage req hall) s = .next (w.planResult 0x02) := by
  refine exec_planCommand h rfl ?_
  dsimp only
  rw [← hw, if_pos (by rw [stageStates]; exact decide_eq_true hstate)]

/-- STAGE needs channel 0 of DDR4. -/
theorem exec_stage_not_ready (hstate : w.planState ∈ [0, 1, 3, 4]) (hready : w.getF (R.memChStatus 0) 2 0 ≠ 2) :
    exec (.stage req hall) s = .next (w.planResult 0x0D) := by
  refine exec_planCommand h rfl ?_
  dsimp only
  rw [← hw, if_neg (by rw [stageStates, decide_eq_true_eq]; exact not_not_intro hstate), if_pos hready]

/-- A legal STAGE holds no image any more and names the address space it reads from; its length is judged first. -/
theorem exec_stage_legal {x : State} (hstate : w.planState ∈ [0, 1, 3, 4]) (hready : w.getF (R.memChStatus 0) 2 0 = 2)
    (hx : x = { w with plan := { w.plan with
      staged := none, source := if w.acting req = Requester.mgmt then none else some (w.acting req), len := w.rdN R.planLen } }) :
    exec (.stage req hall) s = .next (if w.rdN R.planLen < 3192 ∨ 16777216 < w.rdN R.planLen then x.stageFailed (0x03, 0, 0)
      else ((x.setF R.planStatus 3 0 2).setBit R.planStatus 4 true).defer R.planStatus) := by
  refine exec_planCommand h rfl ?_
  dsimp only
  rw [← hw, if_neg (by rw [stageStates, decide_eq_true_eq]; exact not_not_intro hstate), if_neg (not_not_intro hready), hx]
  rfl

/-- Without a staged image a commit completes with STATE. -/
theorem exec_commit_unstaged (hstaged : w.plan.staged = none) :
    exec (.commitAmend req hall) s = .next (w.planResult 0x02) ∧
      exec (.commitReplan req hall) s = .next (w.planResult 0x02) := by
  constructor
  all_goals
    refine exec_planCommand h rfl ?_
    dsimp only
    rw [← hw, hstaged]

/-- COMMIT_AMEND with a staged image: its state and the mirror, then the window, then the commit. -/
theorem exec_commitAmend_staged {im : Image} (hstaged : w.plan.staged = some im) :
    exec (.commitAmend req hall) s = .next (
      if (decide (w.planState ≠ 3) || (w.mirrorOwns && (!im.scheduled.isEmpty || im.has Sect.tickActions 0))) = true then
        w.planResult 0x02
      else if (!w.inWindow) = true then w.planResult 0x06
      else State.planResult (forEach im.scheduled (fun p x => x.settleOwned p) (State.setF { w with plan := { w.plan with
        target := w.planTick, hall := hall, loaded := false, saved := [], failed := none } } R.planStatus 3 0 5)) 0x00) := by
  refine exec_planCommand h rfl ?_
  dsimp only
  rw [← hw, hstaged]
  rfl

/-- COMMIT_REPLAN with a staged image: its state, then an active plan, then the window, then the commit. -/
theorem exec_commitReplan_staged {im : Image} (hstaged : w.plan.staged = some im) :
    exec (.commitReplan req hall) s = .next (
      if w.planState ≠ 4 then w.planResult 0x02
      else if (!w.hasPlan) = true then (w.firstPlan im).planResult 0x00
      else if (!w.inWindow) = true then w.planResult 0x06
      else State.planResult (State.setF { w with plan := { w.plan with
        target := w.planTick, rebuilding := some im, loaded := false } } R.planStatus 3 0 7) 0x00) := by
  refine exec_planCommand h rfl ?_
  dsimp only
  rw [← hw, hstaged]
  rfl

/-- PLAN_ABORT: `x` is the state in which nothing is staged or rebuilt any more. -/
theorem exec_planAbort_eq {x : State} (hx : x = State.answerCmds (State.planResult (State.planRest { w with plan :=
    { w.plan with staged := none, rebuilding := none, source := none } }) 0x00) R.planStatus 0x01) :
    exec (.planAbort req hall) s = .next (
      if w.planState = 2 ∨ w.planState = 3 ∨ w.planState = 4 ∨ (w.planState = 7 ∧ w.beforeTarget = true) then
        (if w.planState = 7 then x.panesFree else x)
      else if w.planState = 5 ∧ w.beforeTarget = true then w.releaseAmend.planResult 0x00
      else w.planResult 0x02) := by
  refine exec_planCommand h rfl ?_
  rw [hx, hw]

end

/-! ### Staging, loading and rebuilding end -/

/-- While the function it reads from is in D3hot the copy waits (R499). -/
theorem exec_stagingDone_asleep {s : State} {r : Requester} (hsource : s.plan.source = some r) (hsleep : s.inD3 r = true)
    (data : Option (List Byte)) (unplaced : Bool) (ecc : List (Nat × Bool)) :
    exec (.stagingDone data unplaced ecc) s = .next s := by
  refine congrArg Host.Outcome.next (if_pos (Or.inr ?_))
  rw [hsource]
  exact hsleep

theorem exec_stagingDone_idle {s : State} (hstate : s.planState ≠ 2) (data : Option (List Byte)) (unplaced : Bool)
    (ecc : List (Nat × Bool)) : exec (.stagingDone data unplaced ecc) s = .next s :=
  congrArg Host.Outcome.next (if_pos (Or.inl hstate))

/-- A read of PLAN.SRC that failed (R54). -/
theorem exec_stagingDone_failed {s : State} {r : Requester} (hstate : s.planState = 2) (hsource : s.plan.source = some r)
    (hawake : s.inD3 r = false) (unplaced : Bool) (ecc : List (Nat × Bool)) : exec (.stagingDone none unplaced ecc) s =
      .next ((s.emit (.hostRead r (s.rd64 R.planSrc) s.plan.len)).stageFailed (0x11, 0, 0)) := by
  refine congrArg Host.Outcome.next ?_
  rw [hsource]
  dsimp only
  rw [if_neg (by simp [hstate, hawake])]
  rfl

/-- The outcome of the checks of a staged copy of `n` octets: held with the state of its kind, or failed with the reason
found. -/
def State.stagedOutcome (d : State) (n : Nat) (unplaced : Bool) : State :=
  match plainIf (d.badRead 0 256) 0x02 <|> d.checkImage (d.memRead 0 n) n (d.unread (d.memRead 0 n) n) unplaced with
  | some r => d.stageFailed r
  | none => State.stageResult (State.setF { d with plan := { d.plan with
      staged := some (imageOf (d.memRead 0 n) n) } } R.planStatus 3 0 (if (imageOf (d.memRead 0 n) n).amend then 3 else 4)) 0x00

/-- The copy has come (`a`), what ECC found is noted (`c`), an uncorrectable read reported, and the checks decide. -/
theorem exec_stagingDone_copied {s a c : State} {n : Nat} {data : Option (List Byte)} (ecc : List (Nat × Bool))
    (hn : n = s.plan.len) (hstate : s.planState = 2)
    (ha : (s.plan.source = none ∧ a = s) ∨ (∃ r b0, s.plan.source = some r ∧ s.inD3 r = false ∧ data = some b0 ∧
      a = (s.emit (.hostRead r (s.rd64 R.planSrc) n)).ddrWrite 0 (slice b0 0 n))) (hc : c = a.eccFound 0 n ecc)
    (unplaced : Bool) : exec (.stagingDone data unplaced ecc) s =
      .next ((if c.badRead 0 n then c.ueReport 0 n else c).stagedOutcome n unplaced) := by
  subst hn hc
  refine congrArg Host.Outcome.next ?_
  obtain ⟨hsource, rfl⟩ | ⟨r, b0, hsource, hawake, rfl, rfl⟩ := ha
  · rw [hsource]
    exact (if_neg (by simp [hstate])).trans rfl
  · rw [hsource]
    exact (if_neg (by simp [hstate, hawake])).trans rfl

/-- The load of a committed amendment keeps the shadows that it covers, as they stood, and loads its sections. -/
theorem exec_amendmentLoad_committed {s c d x : State} {im : Image} {n : Nat} {ecc : List (Nat × Bool)}
    {lost : Option (Nat × Nat)} (hn : n = s.plan.len) (hstaged : s.plan.staged = some im) (hstate : s.planState = 5)
    (hloaded : s.plan.loaded = false) (hc : c = s.eccFound 0 n ecc) (hd : d = (if c.badRead 0 n then c.ueReport 0 n else c))
    (hlost : lost = (if d.badRead 0 n then some ((d.badSect (d.memRead 0 n) n).getD (0, 0)) else none))
    (hx : x = forEach im.scheduled (fun p (y : State) => y.setShadow p (scheduleBank (im.body Sect.schedule p))) d) :
    exec (.amendmentLoad ecc) s = .next { x with plan := { x.plan with
      loaded := true, failed := lost, saved := im.scheduled.flatMap (fun p =>
        (d.listed (shadowSpan p).1 (shadowSpan p).2).map (fun k => (k, d.rd k))) } } := by
  refine congrArg Host.Outcome.next ?_
  unfold State.loadAmend
  rw [hstaged]
  dsimp only
  rw [if_pos (by simp [hstate, hloaded]), ← hn, ← hc, ← hd, ← hx, hlost]
  cases d.badSect (d.memRead 0 n) n <;> rfl

theorem exec_amendmentLoad_idle {s : State} (h : s.planState ≠ 5 ∨ s.plan.loaded = true ∨ s.plan.staged = none)
    (ecc : List (Nat × Bool)) : exec (.amendmentLoad ecc) s = .next s := by
  refine congrArg Host.Outcome.next ?_
  unfold State.loadAmend
  split
  next im hstaged =>
    refine if_neg fun hruns => ?_
    simp [hruns.1, hstaged] at h
    simp [h] at hruns
  next => rfl

/-- The end of a rebuild, with what ECC found while the staging area was read. -/
theorem exec_rebuildDone_eq (s : State) (ecc : List (Nat × Bool)) : exec (.rebuildDone ecc) s = .next (
    if s.planState = 6 ∧ (!s.plan.loaded) = true then
      (if (s.eccFound 0 s.plan.len ecc).badRead 0 s.plan.len = true then
        (((s.eccFound 0 s.plan.len ecc).ueReport 0 s.plan.len).enterFault Src.memUeCtrl).planNone
       else { s.eccFound 0 s.plan.len ecc with plan := { (s.eccFound 0 s.plan.len ecc).plan with loaded := true } })
    else s) := rfl

/-- Settles O15: each command in the plan states that allow it, and each end of a job while the job runs. -/
theorem planCommandsTakeEffectAndFinish : Obligations.PlanCommandsTakeEffectAndFinish := by
  refine ⟨fun s w req hall h hw => ⟨fun hstate => ⟨fun hready x hx => ?stage, exec_stage_not_ready h hw hstate⟩,
    exec_stage_illegal h hw, fun im hstaged => ?commit, exec_commit_unstaged h hw, fun x hx => ?abort, fun hstate hbefore => ?release,
    fun hno => ?abortNone⟩, fun s ecc n hn => ⟨fun hstate data unplaced => ⟨fun a c d b ha hc hd hb => ?copied,
      fun r hsource hawake => ?failed, fun r hsource hsleep => exec_stagingDone_asleep hsource hsleep data unplaced ecc⟩,
    fun im c d x lost hstaged hstate hloaded hc hd hlost hx =>
      exec_amendmentLoad_committed hn hstaged hstate hloaded hc hd hlost hx, fun hstate hloaded c hc => ?rebuilt,
    fun hstate data unplaced => exec_stagingDone_idle hstate data unplaced ecc, fun h => exec_amendmentLoad_idle h ecc,
    fun hno => ?notRebuilding⟩⟩
  case stage =>
    rw [exec_stage_legal h hw hstate hready hx]
    exact ⟨fun hlo hhi => by rw [if_neg (by omega)], fun hlen => by rw [if_pos hlen]⟩
  case commit =>
    rw [exec_commitAmend_staged h hw hstaged, exec_commitReplan_staged h hw hstaged]
    refine ⟨fun hstate howned => ⟨fun hwin => ?_, fun hwin => ?_⟩, fun hno => ?_,
      fun hstate => ⟨fun hplan => ?_, fun hplan hwin => ?_, fun hplan hwin => ?_⟩, fun hstate => ?_⟩
    · simp [hstate, howned, hwin]
    · simp [hstate, howned, hwin]
    · rw [if_pos (by simpa using hno)]
    · simp [hstate, hplan]
    · simp [hstate, hplan, hwin]
    · simp [hstate, hplan, hwin]
    · rw [if_pos hstate]
  case abort =>
    rw [exec_planAbort_eq h hw hx]
    refine ⟨fun hstate => ?_, fun hstate hbefore => ?_⟩
    · simp only [List.mem_cons, List.not_mem_nil, or_false] at hstate
      rw [if_pos (by omega), if_neg (by omega)]
    · rw [if_pos (by simp [hstate, hbefore]), if_pos hstate]
  case release =>
    rw [exec_planAbort_eq h hw rfl, if_neg (by omega), if_pos ⟨hstate, hbefore⟩]
  case abortNone =>
    simp only [List.mem_cons, List.not_mem_nil, or_false] at hno
    rw [exec_planAbort_eq h hw rfl, if_neg (by grind), if_neg (by grind)]
  case copied =>
    rw [exec_stagingDone_copied ecc hn hstate ha hc unplaced, ← hd, hb]
    refine congrArg Host.Outcome.next ?_
    unfold State.stagedOutcome
    cases (plainIf (d.badRead 0 256) 0x02 <|> d.checkImage (d.memRead 0 n) n (d.unread (d.memRead 0 n) n) unplaced) <;> rfl
  case failed =>
    subst hn
    exact exec_stagingDone_failed hstate hsource hawake unplaced ecc
  case rebuilt =>
    subst hn hc
    rw [exec_rebuildDone_eq, if_pos (by simp [hstate, hloaded])]
    exact ⟨fun hok => by rw [if_neg (by simp [hok])], fun hbad => by rw [if_pos hbad]⟩
  case notRebuilding => rw [exec_rebuildDone_eq, if_neg (by simpa [imp_iff_not_or] using hno)]

end Sys2Proof.Machine
end

section
/-! What a raise of a fault leaves alone: every register below the staircase block, the plan and the tick. Its own registers
stand in SCH (gate overruns), RDN, FCR and PWR. -/

namespace Sys2Proof.Machine

/-- `t` has the registers of TOP, PLAN, TICK, TSU, PRT and STR of `s`. -/
def KeepsLow (s t : State) : Prop := ∀ k, k < 0xC00000 → t.rd k = s.rd k

theorem KeepsLow.refl (s : State) : KeepsLow s s := fun _ _ => rfl

theorem KeepsLow.trans {s t u : State} (h : KeepsLow s t) (h' : KeepsLow t u) : KeepsLow s u :=
  fun k hk => (h' k hk).trans (h k hk)

theorem KeepsLow.wr {s0 s : State} (h : KeepsLow s0 s) {j : Nat} (hj : 0xC00000 ≤ j) (v : Reg) : KeepsLow s0 (s.wr j v) :=
  h.trans fun k hk => State.rd_wr_of_ne s j k v (by omega)

/-- A change of anything but registers. -/
theorem KeepsLow.of_regs {s0 s t : State} (h : KeepsLow s0 s) (hregs : t.regs = s.regs) : KeepsLow s0 t :=
  h.trans fun k _ => by unfold State.rd; rw [hregs]

theorem KeepsLow.ite {s0 a b : State} {c : Prop} [Decidable c] (ha : KeepsLow s0 a) (hb : KeepsLow s0 b) :
    KeepsLow s0 (if c then a else b) := by
  split
  · exact ha
  · exact hb

theorem KeepsLow.foldl {α : Type} {s0 s : State} {f : State → α → State} (h : KeepsLow s0 s)
    (hf : ∀ y a, KeepsLow s0 y → KeepsLow s0 (f y a)) (l : List α) : KeepsLow s0 (l.foldl f s) := by
  induction l generalizing s with
  | nil => exact h
  | cons a l ih => exact ih (hf s a h)

section
variable {s0 s : State} (h : KeepsLow s0 s)
include h

theorem State.hwSet_keepsLow {j : Nat} (hj : 0xC00000 ≤ j) (i : Nat) : KeepsLow s0 (s.hwSet j i) := by
  have hset : KeepsLow s0 (s.setBit j i true) := h.wr hj _
  unfold State.hwSet
  exact hset.ite (hset.of_regs rfl)

theorem State.cross_keepsLow (x b : Nat) : KeepsLow s0 (s.cross x b).2 := by
  have hfresh : ∀ p, KeepsLow s0 { s with pwr := p } := fun p => h.of_regs rfl
  have hmerged : KeepsLow s0 ((s.hwSet R.pwrXingOvr b).wrN (R.pwrXingMerged b) (min 255 (s.rdN (R.pwrXingMerged b) + 1))) :=
    (State.hwSet_keepsLow h (by decide) b).wr (by unfold R.pwrXingMerged; omega) _
  unfold State.cross
  split
  · exact h
  · dsimp only
    split
    · split
      · exact hmerged
      · exact hfresh _
    · exact hfresh _

theorem State.event_keepsLow (e : Nat) : KeepsLow s0 (s.event e) := by
  have hcross := State.cross_keepsLow h (Xing.event e) 13
  unfold State.event
  extract_lets o s1
  have h1 : KeepsLow s0 s1 := State.hwSet_keepsLow hcross (by unfold R.fcrEvtPend; omega) _
  exact KeepsLow.ite hcross (KeepsLow.ite (h1.of_regs rfl) h1)

theorem State.setRole_keepsLow (r : Nat) : KeepsLow s0 (s.setRole r) := by
  unfold State.setRole
  extract_lets s1 s2 s3 rdn4 s4 rdn5 s5
  have h3 : KeepsLow s0 s3 := ((h.wr (by decide) _).wr (by decide) _).wr (by decide) _
  have h4 : KeepsLow s0 s4 := KeepsLow.ite (h3.of_regs rfl) h3
  have h5 : KeepsLow s0 s5 := KeepsLow.ite (h4.of_regs rfl) h4
  exact KeepsLow.ite h5 (State.event_keepsLow h5 _)

theorem State.enterFault_keepsLow (src : Nat) : KeepsLow s0 (s.enterFault src) := by
  unfold State.enterFault
  extract_lets s1 fcr s2 s3 s4
  have h1 : KeepsLow s0 s1 := h.wr (by decide) _
  have h2 : KeepsLow s0 s2 := h1.of_regs rfl
  have h3 : KeepsLow s0 s3 := ((h2.wr (by decide) _).wr (by decide) _).wr (by decide) _
  have h4 : KeepsLow s0 s4 := State.event_keepsLow (h3.wr (by decide) _) _
  exact KeepsLow.ite h2 (KeepsLow.ite h4 (KeepsLow.ite h4 (State.setRole_keepsLow h4 _)))

theorem State.reactLow_keepsLow (lo hi src : Nat) (units : List Nat) : KeepsLow s0 (s.reactLow lo hi src units) := by
  unfold State.reactLow
  extract_lets s1 s2
  have h1 : KeepsLow s0 s1 := KeepsLow.ite (State.event_keepsLow h _) h
  have h2 : KeepsLow s0 s2 := KeepsLow.ite (h1.foldl (f := State.contain) (fun y u hy => hy.of_regs rfl) units) h1
  exact KeepsLow.ite (State.enterFault_keepsLow h2 src) h2

theorem State.takeRaise_keepsLow (src : Nat) (units : List Nat) : KeepsLow s0 (s.takeRaise src units).2 := by
  unfold State.takeRaise
  extract_lets s1 fcr s2 c
  have h1 : KeepsLow s0 s1 := h.wr (by unfold R.fcrGLive; omega) _
  have h2 : KeepsLow s0 s2 := h1.of_regs rfl
  split
  · refine State.hwSet_keepsLow (j := R.fcrGCoincide (src / 32)) ?_ ?_ _
    · exact h2.of_regs rfl
    · unfold R.fcrGCoincide
      omega
  · split
    · exact h2
    · refine State.cross_keepsLow ?_ _ _
      exact (State.hwSet_keepsLow h2 (by unfold R.fcrGSticky; omega) _).wr (by unfold R.fcrGRaises; omega) _

theorem State.raiseLow_keepsLow (src : Nat) (units : List Nat) : KeepsLow s0 (s.raiseLow src units) :=
  State.reactLow_keepsLow (State.takeRaise_keepsLow h src units) _ _ src units

theorem State.preemptNow_keepsLow (p : Nat) : KeepsLow s0 (s.preemptNow p) := by
  unfold State.preemptNow
  dsimp only
  repeat' split
  all_goals exact h.of_regs rfl

theorem State.cutGates_keepsLow : KeepsLow s0 s.cutGates := by
  unfold State.cutGates
  refine KeepsLow.foldl h (fun y p hy => ?_) _
  dsimp only
  split
  · refine KeepsLow.ite (State.preemptNow_keepsLow (State.raiseLow_keepsLow ?_ _ _) p) hy
    exact (hy.of_regs (t := y.setPort p _) rfl).wr (by unfold R.schPGateOverrun; omega) _
  · exact hy

theorem State.giveUp_keepsLow : KeepsLow s0 s.giveUp := by
  unfold State.giveUp
  refine KeepsLow.ite (State.cutGates_keepsLow (State.raiseLow_keepsLow ?_ _ _)) h
  exact ((State.setRole_keepsLow h _).wr (by decide) _).wr (by decide) _

/-- A raise with its reaction. -/
theorem State.raise_keepsLow (src : Nat) (units : List Nat) : KeepsLow s0 (s.raise src units) := by
  have htake := State.takeRaise_keepsLow h src units
  unfold State.raise State.detect State.react
  extract_lets o s1 s2
  have h1 : KeepsLow s0 s1 := State.reactLow_keepsLow htake _ _ src units
  have h2 : KeepsLow s0 s2 := KeepsLow.ite (State.giveUp_keepsLow h1) h1
  exact KeepsLow.ite (State.cutGates_keepsLow h2) h2

end

end Sys2Proof.Machine
end

section
/-! The landing: its cut-off, its five steps, and the number that the tick counter takes (R70 to R89). -/

namespace Sys2Proof.Machine

/-! ### Bits of a register -/

/-- A bit is the field of width one at its place. -/
theorem rbit_eq_fld (r : Reg) (i : Nat) : rbit r i = decide (fld r i i = 1) := by
  unfold rbit fld
  rw [BitVec.getLsbD, Nat.testBit_eq_decide_div_mod_eq, Nat.add_sub_cancel_left, pow_one]

theorem State.bit_eq_getF (s : State) (k i : Nat) : s.bit k i = decide (s.getF k i i = 1) := rbit_eq_fld _ i

/-- A bit written reads back. -/
theorem State.bit_setBit_self {s : State} (hs : Sound s) (k : Nat) {i : Nat} (hi : i < 32) (b : Bool) :
    (s.setBit k i b).bit k i = b := by
  have hself := State.getF_setF_self hs k b.toNat (le_refl i) hi
  rw [Nat.add_sub_cancel_left, pow_one] at hself
  rw [State.bit_eq_getF]
  unfold State.setF at hself
  unfold State.setBit withBit
  rw [hself]
  cases b <;> rfl

/-- A write of a bit keeps the bits below it. -/
theorem State.bit_setBit_of_lt {s : State} (hs : Sound s) (k : Nat) {i j : Nat} (hi : i < 32) (hj : j < i) (b : Bool) :
    (s.setBit k i b).bit k j = s.bit k j := by
  rw [State.bit_eq_getF, State.bit_eq_getF]
  exact congrArg (fun n => decide (n = 1)) (State.getF_setF_of_lt hs k b.toNat (le_refl i) hi (le_refl j) hj)

/-- A 64-bit quantity written reads back. -/
theorem State.rd64_wr64_self {s : State} (hs : Sound s) (k : Nat) {v : Nat} (hv : v < 18446744073709551616) :
    (s.wr64 k v).rd64 k = v := by
  have hlow := State.wr_sound s k (BitVec.ofNat 32 v) hs
  unfold State.wr64 State.rd64 State.rdN State.wrN
  rw [State.rd_wr_self _ _ _ hlow, State.rd_wr_of_ne _ _ _ _ (Nat.ne_of_lt (Nat.lt_add_of_pos_right (by decide))),
    State.rd_wr_self _ _ _ hs, BitVec.toNat_ofNat, BitVec.toNat_ofNat]
  omega

/-- A 64-bit quantity depends on its two registers. -/
theorem State.rd64_of_rd_eq {s t : State} {k : Nat} (h : t.rd k = s.rd k) (h' : t.rd (k + 4) = s.rd (k + 4)) :
    t.rd64 k = s.rd64 k := by
  unfold State.rd64 State.rdN
  rw [h, h']

theorem State.now_of_rd_eq {s t : State} (h : t.rd R.tickNow = s.rd R.tickNow)
    (h' : t.rd (R.tickNow + 4) = s.rd (R.tickNow + 4)) : t.now = s.now :=
  State.rd64_of_rd_eq h h'

theorem State.bit_of_rd_eq {s t : State} {k : Nat} (h : t.rd k = s.rd k) (i : Nat) : t.bit k i = s.bit k i := by
  unfold State.bit
  rw [h]

/-! ### Step 1 -/

/-- What step 1 leaves: the number of the tick, and a tick that runs. -/
def TickRuns (t : Nat) (s : State) : Prop := s.now = t ∧ s.running = true

/-- Only TICK.NOW and TICK.STATUS say which tick runs. -/
theorem TickRuns.of_rd {t : Nat} {s u : State} (h : TickRuns t s) (hnow : u.rd R.tickNow = s.rd R.tickNow)
    (hhigh : u.rd (R.tickNow + 4) = s.rd (R.tickNow + 4)) (hstatus : u.rd R.tickStatus = s.rd R.tickStatus) : TickRuns t u :=
  ⟨(State.now_of_rd_eq hnow hhigh).trans h.1, (State.bit_of_rd_eq hstatus 6).trans h.2⟩

theorem TickRuns.of_regs {t : Nat} {s u : State} (h : TickRuns t s) (hregs : u.regs = s.regs) : TickRuns t u := by
  have hrd : ∀ k, u.rd k = s.rd k := fun k => by unfold State.rd; rw [hregs]
  exact h.of_rd (hrd _) (hrd _) (hrd _)

/-- No other register matters. -/
theorem TickRuns.wr {t : Nat} {s : State} (h : TickRuns t s) {k : Nat} (hnow : R.tickNow ≠ k) (hhigh : R.tickNow + 4 ≠ k)
    (hstatus : R.tickStatus ≠ k) (v : Reg) : TickRuns t (s.wr k v) :=
  h.of_rd (s.rd_wr_of_ne k _ v hnow) (s.rd_wr_of_ne k _ v hhigh) (s.rd_wr_of_ne k _ v hstatus)

/-- Writing the number of the tick and setting RUN. -/
theorem TickRuns.of_count {s : State} (hs : Sound s) {t : Nat} (ht : t < 18446744073709551616) :
    TickRuns t ((s.wr64 R.tickNow t).setBit R.tickStatus 6 true) := by
  have hcount : Sound (s.wr64 R.tickNow t) := State.wr_sound _ _ _ (State.wr_sound _ _ _ hs)
  refine ⟨?_, State.bit_setBit_self hcount R.tickStatus (by decide) true⟩
  exact (State.now_of_rd_eq (State.rd_setBit_of_ne _ _ _ _ _ (by decide)) (State.rd_setBit_of_ne _ _ _ _ _ (by decide))).trans
    (State.rd64_wr64_self hs R.tickNow ht)

/-- UNLOCKED lies above RUN. -/
theorem TickRuns.settleUnlocked {t : Nat} {s : State} (hs : Sound s) (h : TickRuns t s) : TickRuns t s.settleUnlocked := by
  unfold State.settleUnlocked
  refine ⟨?_, (State.bit_setBit_of_lt hs R.tickStatus (by decide) (by decide) _).trans h.2⟩
  exact (State.now_of_rd_eq (State.rd_setBit_of_ne _ _ _ _ _ (by decide)) (State.rd_setBit_of_ne _ _ _ _ _ (by decide))).trans
    h.1

theorem TickRuns.forEach {α : Type} {t : Nat} {f : α → State → State} (hf : ∀ a x, TickRuns t x → TickRuns t (f a x))
    (l : List α) {s : State} (h : TickRuns t s) : TickRuns t (forEach l f s) := by
  unfold Machine.forEach
  induction l generalizing s with
  | nil => exact h
  | cons a l ih => exact ih (hf a s h)

/-- Missed ticks are counted and raised beside the tick. -/
theorem TickRuns.missed {t : Nat} {s : State} (h : TickRuns t s) (n m : Nat) :
    TickRuns t (((s.incBy R.tickMissed n).wrN R.tickLastMissed m).raise Src.tickMissed []) := by
  have hcounted : TickRuns t ((s.incBy R.tickMissed n).wrN R.tickLastMissed m) := by
    refine TickRuns.wr (k := R.tickLastMissed) (TickRuns.wr (k := R.tickMissed) h ?_ ?_ ?_ _) ?_ ?_ ?_ _
    all_goals decide
  have hraise := State.raise_keepsLow (KeepsLow.refl ((s.incBy R.tickMissed n).wrN R.tickLastMissed m)) Src.tickMissed []
  exact hcounted.of_rd (hraise _ (by decide)) (hraise _ (by decide)) (hraise _ (by decide))

/-- Step 1 takes the number of the tick, whatever it missed. -/
theorem TickRuns.landCount {s : State} (hs : Sound s) {t : Nat} (ht : t < 18446744073709551616) (work : List Nat) :
    TickRuns t (s.landCount t work) := by
  unfold State.landCount
  extract_lets s1 missed s2 fcr tick s3 s4 tick4 s5 s6
  have hs1 : Keeps true s s1 := forEach_keeps (Keeps.refl true s) fun _ _ hy => State.wr_keeps hy
  have hs2 : Keeps true s s2 := State.setBit_keeps (State.wr64_keeps hs1)
  have h2 : TickRuns t s2 := TickRuns.of_count (hs1.sound hs) ht
  clear_value s2
  have hs3 : Keeps true s s3 := hs2.core rfl rfl rfl rfl rfl
  have h3 : TickRuns t s3 := h2.of_regs rfl
  clear_value s3
  have h4 : TickRuns t s4 := TickRuns.settleUnlocked (hs3.sound hs) h3
  have h5 : TickRuns t s5 := h4.of_regs rfl
  clear_value s5
  have h6 : TickRuns t s6 := TickRuns.forEach (fun e x hx => hx.wr (by unfold R.tickNow R.tickBudgetMax; omega)
    (by unfold R.tickNow R.tickBudgetMax; omega) (by unfold R.tickStatus R.tickBudgetMax; omega) _) _ h5
  clear_value s6
  split
  · exact h6
  · exact h6.missed _ _

/-! ### The landing and its cut-off -/

/-- What comes before the landing edge: the cut-off, the seals, the time, the treads of the tick that ends. -/
theorem State.landNow_of_canLand {s a b b1 c : State} {t : Nat} (h : s.canLand = true) (ht : t = s.nextTick)
    (ha : a = (if s.cutDue then s.cutOff t [] else s)) (hb : b = a.sealsBefore (a.landingAt t) (2 * a.im.pgs.length + 2))
    (hb1 : b1 = b.untilSrc (b.landingAt t)) (hc : c = forEach b1.im.ports (fun p (x : State) => x.settlePort p) b1)
    (ue : Option Nat) (work : List Nat) : s.landNow ue work = (c.land t ue work).phaseEdge := by
  unfold State.landNow
  rw [if_pos h, hc, hb1, hb, ha, ht]

/-- The five steps of a landing. -/
theorem State.land_steps {c d e f g : State} {t : Nat} {ue : Option Nat} {work : List Nat}
    (hd : d = ((c.landCount t work).landSwaps t c.fcr.c4Raised (!c.running) ue).landBoard)
    (he : e = (if c.planState = 7 ∧ d.planState = 6 then d.replanPanes else d))
    (hf : f = (if e.rdn.takeoverDue && e.role == 3 then e.takeover ue else e))
    (hg : g = ((f.landActs (if !c.running then [t] else
      (List.range (t - c.now)).map (fun i => c.now + 1 + i))).landHandover).landStalls) :
    c.land t ue work = ((g.landEdges t).settleHeld).powerLand := by
  unfold State.land
  rw [hg, hf, he, hd]

/-- Settles O17: the landing is its steps in order, and the cut-off and the verification are theirs. -/
theorem landingTakesItsFiveSteps : Obligations.LandingTakesItsFiveSteps := by
  refine ⟨fun s ue work => ⟨?steps, fun hno => ?noLanding, ?cutOff, fun unverified hno => ?noCutOff, fun k => rfl⟩,
    fun s t work hs ht _ => TickRuns.landCount hs ht work⟩
  case steps =>
    intro hland t a b b1 c d e f g ht ha hb hb1 hc hd he hf hg
    refine congrArg Host.Outcome.next ?_
    rw [State.landNow_of_canLand hland ht ha hb hb1 hc, State.land_steps hd he hf hg]
  case noLanding => exact congrArg Host.Outcome.next (if_neg (by simp [hno]))
  case cutOff =>
    intro unverified a b bad late x hland hcut ha hb hlate hbad hx
    refine congrArg Host.Outcome.next ?_
    rw [if_pos (by simp [hland, hcut]), hx, hlate, hbad, hb, ha]
    rfl
  case noCutOff => exact congrArg Host.Outcome.next (if_neg (by simpa [imp_iff_not_or] using hno))

end Sys2Proof.Machine
end

section
/-! Tick actions (R77 to R84): their words are written, and they are evaluated. -/

namespace Sys2Proof.Machine

/-! ### A write of an entry (R78, R419, R59, R104) -/

section
variable {s : State} {i : Nat} (f : State → State)

theorem State.actWrite_of_free (hmirror : s.mirrorOwns = false) (hcover : s.actCovered i = false) (hown : s.actOwned i = false) :
    s.actWrite i f = f s := by
  unfold State.actWrite
  rw [hmirror, hcover, hown]
  rfl

theorem State.actWrite_of_mirror (hmirror : s.mirrorOwns = true) : s.actWrite i f = s.inc R.rdnOwnedDrop := if_pos hmirror

theorem State.actWrite_of_amendment (hmirror : s.mirrorOwns = false) (hcover : s.actCovered i = true) :
    s.actWrite i f = s.inc R.planConflict := by
  unfold State.actWrite
  rw [hmirror, hcover]
  rfl

theorem State.actWrite_of_snapshot (hmirror : s.mirrorOwns = false) (hcover : s.actCovered i = false)
    (hown : s.actOwned i = true) : s.actWrite i f = s.inc R.tickSwapConflict := by
  unfold State.actWrite
  rw [hmirror, hcover, hown]
  rfl

end

/-- A command that writes an entry of the table reaches it when its register is reached. -/
theorem exec_actWrite {c : Instr} {s t : State} {req : Requester} {i : Nat} {f : State → State} (hi : i < 4096)
    (h : Reaches s req (R.tickAct i))
    (hc : exec c s = .next (s.guarded req (R.tickAct i) (fun x => if i < 4096 then x.actWrite i f else x)))
    (ht : s.actWrite i f = t) : exec c s = .next t := by
  refine exec_of_reaches h hc ?_
  rw [if_pos hi, ht]

/-! ### Evaluation (R80, R82) -/

/-- The instant at which an entry fires in the current tick. -/
theorem State.actInstant_of_now {s : State} {i : Nat} (hswap : isSwapAct (actCode (s.actBytes i)) = false)
    (hnow : tickDiff (s.actNext i) s.now = 0) : s.actInstant i = some (s.landingNow + ofNs (actOfs (s.actBytes i))) := by
  unfold State.actInstant
  rw [if_neg (by simp [hswap, hnow])]

theorem State.actInstant_of_other_tick {s : State} {i : Nat} (hother : tickDiff (s.actNext i) s.now ≠ 0) :
    s.actInstant i = none := by
  unfold State.actInstant
  rw [if_pos (Or.inr hother)]

/-- An armed entry that is not swap-type, in a tick that runs, fires with what comes before it, or is evaluated at once. -/
theorem exec_tickActionFire_armed {s : State} {i : Nat} (harmed : s.actSt i = 1)
    (hswap : isSwapAct (actCode (s.actBytes i)) = false) (hruns : s.running = true) (hholds : s.holds = false) :
    (tickDiff (s.actNext i) s.now ≠ 0 → exec (.tickActionFire i) s = .next (s.actEval i)) ∧
      (tickDiff (s.actNext i) s.now = 0 → exec (.tickActionFire i) s =
        .next (s.firesTo (s.landingNow + ofNs (actOfs (s.actBytes i))) s.armedActs.length)) := by
  have hopen : ¬(s.actSt i ≠ ActS.armed ∨ isSwapAct (actCode (s.actBytes i)) = true ∨ (!s.running) = true ∨ s.holds = true) := by
    simp [harmed, hswap, hruns, hholds]
  refine ⟨fun hother => ?_, fun hnow => ?_⟩
  all_goals refine congrArg Host.Outcome.next ((if_neg hopen).trans ?_)
  · rw [State.actInstant_of_other_tick hother]
  · rw [State.actInstant_of_now hswap hnow]

/-- The evaluation of a once-only entry whose instant of the current tick has come: it fires for that instant. -/
theorem State.actEval_due_once {s : State} {i : Nat} (harmed : s.actSt i = 1)
    (hswap : isSwapAct (actCode (s.actBytes i)) = false) (hruns : s.running = true) (hholds : s.holds = false)
    (hnow : tickDiff (s.actNext i) s.now = 0) (honce : actRepeat (s.actBytes i) = 0)
    (hcome : s.landingNow + ofNs (actOfs (s.actBytes i)) ≤ s.srcNow) :
    s.actEval i = s.actFire i (s.actNext i % 2 ^ 32) (s.passed (s.landingNow + ofNs (actOfs (s.actBytes i)))) := by
  have hdue (b : Int) : overdue b 0 0 = (0, 0) := if_pos (Or.inl rfl)
  have hopen : ¬(s.actSt i ≠ ActS.armed ∨ isSwapAct (actCode (s.actBytes i)) = true ∨ (!s.running) = true ∨ s.holds = true ∨
      (0 : Int) < 0) := by
    simp [harmed, hswap, hruns, hholds]
  unfold State.actEval State.actEvalOne
  rw [hnow, if_neg (by decide)]
  dsimp only
  rw [hnow, if_neg hopen, honce, hdue, if_pos rfl, if_pos rfl, if_neg (not_lt.mpr hcome)]
  rfl

/-- A bad entry that fires fails its check (R79, R82). -/
theorem State.actFire_of_bad {s : State} {i : Nat} (h : s.actOk (s.actBytes i) = false) (t : Nat) (late : Bool) :
    s.actFire i t late = ((s.setActSt i 5).inc R.tickActCheck).raise Src.tickActCheck [] := by
  unfold State.actFire
  dsimp only
  rw [h]
  rfl

/-- A good once-only entry that fires is FIRED or FIRED_LATE, and its unit acts. -/
theorem State.actFire_of_ok {s : State} {i : Nat} (h : s.actOk (s.actBytes i) = true) (honce : actRepeat (s.actBytes i) = 0)
    (t : Nat) (late : Bool) : s.actFire i t late = State.doAction (if late = true then (s.setActSt i 3).inc R.tickActLate
      else s.setActSt i 2) (actCode (s.actBytes i)) (actArg (s.actBytes i)) late := by
  unfold State.actFire State.actDone
  dsimp only
  rw [h, honce]
  cases late <;> rfl

/-- Settles O18: a write goes to the entry or to its owner's counter; an armed entry fires by its instant and its check. -/
theorem tickActionsArmAndFire : Obligations.TickActionsArmAndFire := by
  refine ⟨fun s i hi => ⟨fun req v w h => ⟨fun hmirror hcover hown => ⟨?arm, fun hw => ?disarm⟩, ?owned⟩,
    fun harmed hswap hruns hholds => exec_tickActionFire_armed harmed hswap hruns hholds, fun hidle => ?idle⟩,
    fun s i harmed hswap hruns hholds hnow honce hcome => ?due⟩
  case arm => exact exec_actWrite hi h rfl (State.actWrite_of_free _ hmirror hcover hown)
  case disarm =>
    refine exec_actWrite hi h rfl ((State.actWrite_of_free _ hmirror hcover hown).trans ?_)
    rw [Nat.mod_eq_of_lt hw]
    rfl
  case owned =>
    simp only [List.forall_mem_cons, List.not_mem_nil, IsEmpty.forall_iff, implies_true, and_true]
    refine ⟨⟨fun hmirror => ?_, fun hmirror hcover => ?_, fun hmirror hcover hown => ?_⟩,
      fun hmirror => ?_, fun hmirror hcover => ?_, fun hmirror hcover hown => ?_⟩
    · exact exec_actWrite hi h rfl (State.actWrite_of_mirror _ hmirror)
    · exact exec_actWrite hi h rfl (State.actWrite_of_amendment _ hmirror hcover)
    · exact exec_actWrite hi h rfl (State.actWrite_of_snapshot _ hmirror hcover hown)
    · exact exec_actWrite hi h rfl (State.actWrite_of_mirror _ hmirror)
    · exact exec_actWrite hi h rfl (State.actWrite_of_amendment _ hmirror hcover)
    · exact exec_actWrite hi h rfl (State.actWrite_of_snapshot _ hmirror hcover hown)
  case idle => exact congrArg Host.Outcome.next (if_pos (Or.inl hidle))
  case due =>
    rw [State.actEval_due_once harmed hswap hruns hholds hnow honce hcome]
    refine ⟨fun hok hfresh => ?_, fun hok hpassed => ?_, fun hbad => State.actFire_of_bad hbad _ _⟩
    · rw [State.actFire_of_ok hok honce, hfresh]
      rfl
    · rw [State.actFire_of_ok hok honce, hpassed]
      rfl

end Sys2Proof.Machine
end

section
/-! Completion records (R345, R346): where each field of the 16 octets stands. -/

namespace Sys2Proof.Machine

@[simp] theorem length_leBytes (n v : Nat) : (leBytes n v).length = n := by
  induction n generalizing v with
  | zero => rfl
  | succ n ih => simp [leBytes, ih]

theorem leNat_leBytes (n v : Nat) : leNat (leBytes n v) = v % 256 ^ n := by
  induction n generalizing v with
  | zero => simp [leBytes, leNat, Nat.mod_one]
  | succ n ih =>
    rw [leBytes, leNat, ih, BitVec.toNat_ofNat, Nat.pow_succ' (m := 256), Nat.mod_mul]

/-- A stretch of octets that stands after `a` is the slice at the length of `a`. -/
theorem slice_append (a b c : List Byte) : slice (a ++ (b ++ c)) a.length b.length = b := by
  simp [slice]

/-- A little-endian field reads back from where it stands. -/
theorem leAt_of_leBytes {l a c : List Byte} {o n v : Nat} (hl : l = a ++ (leBytes n v ++ c)) (ho : a.length = o)
    (hv : v < 256 ^ n) : leAt l o n = v := by
  have hslice : slice l o n = leBytes n v := by
    rw [hl, ← ho]
    exact (congrArg _ (length_leBytes n v).symm).trans (slice_append a _ c)
  rw [leAt, hslice, leNat_leBytes, Nat.mod_eq_of_lt hv]

theorem length_recordBody (tag status qid phase info : Nat) (amend : Bool) :
    (recordBody tag status qid phase info amend).length = 14 := by
  simp [recordBody]

theorem take_recordBytes (tag status qid phase info : Nat) (amend : Bool) :
    (recordBytes tag status qid phase info amend).take 14 = recordBody tag status qid phase info amend :=
  List.take_left' (length_recordBody ..)

/-- Settles O40: every field reads back from its octets, the last two being the CRC of the first fourteen. -/
theorem recordsNameTheirEntry : Obligations.RecordsNameTheirEntry := by
  rintro s r tag status qid info amend b htag hstatus hqid hinfo rfl
  have hphase : s.crPhase r ≤ 1 := Nat.sub_le ..
  have hamend : amend.toNat ≤ 1 := amend.toNat_le
  have hword : qid % 4096 + s.crPhase r % 2 * 4096 + amend.toNat * 8192 = qid + s.crPhase r * 4096 + amend.toNat * 8192 := by
    rw [Nat.mod_eq_of_lt hqid, Nat.mod_eq_of_lt (by omega)]
  have hcrc : (crc16 (recordBody tag status qid (s.crPhase r) info amend)).toNat < 256 ^ 2 := BitVec.isLt _
  refine ⟨by simp [recordBytes, recordBody], ?tag, ?status, ?zero, ?word, ?info, ?pad, ?crc, s.crPhase_eq_testBit r⟩
  case tag => exact leAt_of_leBytes (a := []) (by simp only [recordBytes, recordBody, List.append_assoc]; rfl) rfl htag
  case status =>
    exact leAt_of_leBytes (a := leBytes 2 tag) (by simp only [recordBytes, recordBody, List.append_assoc]; rfl) (by simp) hstatus
  case zero =>
    exact leAt_of_leBytes (a := leBytes 2 tag ++ leBytes 1 status) (v := 0)
      (by simp only [recordBytes, recordBody, List.append_assoc]; rfl) (by simp) (by decide)
  case word =>
    rw [← hword]
    exact leAt_of_leBytes (a := leBytes 2 tag ++ leBytes 1 status ++ [0])
      (by simp only [recordBytes, recordBody, List.append_assoc]; rfl) (by simp) (by omega)
  case info =>
    exact leAt_of_leBytes (a := leBytes 2 tag ++ leBytes 1 status ++ [0] ++
      leBytes 2 (qid % 4096 + s.crPhase r % 2 * 4096 + amend.toNat * 8192))
      (by simp only [recordBytes, recordBody, List.append_assoc]; rfl) (by simp) hinfo
  case pad =>
    exact leAt_of_leBytes (a := leBytes 2 tag ++ leBytes 1 status ++ [0] ++
      leBytes 2 (qid % 4096 + s.crPhase r % 2 * 4096 + amend.toNat * 8192) ++ leBytes 6 info) (v := 0)
      (by simp only [recordBytes, recordBody, List.append_assoc]; rfl) (by simp) (by decide)
  case crc =>
    rw [take_recordBytes]
    exact leAt_of_leBytes (a := recordBody tag status qid (s.crPhase r) info amend) (c := [])
      (by rw [List.append_nil]; rfl) (length_recordBody ..) hcrc

end Sys2Proof.Machine
end

section
/-! The commands of the tick (R95, R100) and of the pair (R405, R406, R423). -/

namespace Sys2Proof.Machine

/-- A TICK command that reaches TICK.CTL where it is legal has its effect. -/
theorem exec_tickCommand_legal {c : Instr} {s t : State} {req : Requester} {legal : State → Bool} {f : State → State}
    (h : Reaches s req R.tickCtl) (hc : exec c s = .next (s.tickCommand req legal f)) (hlegal : legal s = true)
    (ht : f s = t) : exec c s = .next t :=
  exec_of_reaches h hc ((if_pos hlegal).trans ht)

/-- A TICK command elsewhere completes with STATE. -/
theorem exec_tickCommand_illegal {c : Instr} {s : State} {req : Requester} {legal : State → Bool} {f : State → State}
    (h : Reaches s req R.tickCtl) (hc : exec c s = .next (s.tickCommand req legal f)) (hlegal : legal s = false) :
    exec c s = .next (s.result R.tickStatus 0x02) :=
  exec_of_reaches h hc (if_neg (by rw [hlegal]; decide))

/-- Settles O20: each TICK command has its effect where it is legal, and completes with STATE elsewhere. -/
theorem tickCommandsTakeEffect : Obligations.TickCommandsTakeEffect := by
  refine fun s req h => ⟨fun hfollows hbus => ?_, fun hill => ?_, fun hfollows hbus hahead => ?_, fun hill => ?_,
    fun hfollows hbus => ?_, fun hill => ?_⟩
  · exact exec_tickCommand_legal h rfl (by simp [hfollows, hbus]) rfl
  · exact exec_tickCommand_illegal h rfl (by simpa only [Bool.and_eq_false_iff, beq_eq_false_iff_ne] using hill)
  · exact exec_tickCommand_legal h rfl (by simp [hfollows, hbus, hahead]) rfl
  · exact exec_tickCommand_illegal h rfl (by simpa only [Bool.and_eq_false_iff, beq_eq_false_iff_ne, Bool.not_eq_false', or_assoc] using hill)
  · exact exec_tickCommand_legal h rfl (by simp [hfollows, hbus]) rfl
  · exact exec_tickCommand_illegal h rfl (by simpa only [Bool.and_eq_false_iff, beq_eq_false_iff_ne] using hill)

/-- A command of RDN.CTL that reaches it where it is legal has its effect, with OK. -/
theorem exec_rdnCommand_legal {c : Instr} {s t : State} {req : Requester} {legal : State → Bool} {f : State → State}
    (h : Reaches s req R.rdnCtl) (hc : exec c s = .next (s.rdnCommand req legal f)) (hlegal : legal s = true)
    (ht : f s = t) : exec c s = .next (t.result R.rdnStatus 0x00) :=
  exec_of_reaches h hc ((if_pos hlegal).trans (by rw [ht]))

/-- A command of RDN.CTL elsewhere completes with STATE. -/
theorem exec_rdnCommand_illegal {c : Instr} {s : State} {req : Requester} {legal : State → Bool} {f : State → State}
    (h : Reaches s req R.rdnCtl) (hc : exec c s = .next (s.rdnCommand req legal f)) (hlegal : legal s = false) :
    exec c s = .next (s.result R.rdnStatus 0x02) :=
  exec_of_reaches h hc (if_neg (by rw [hlegal]; decide))

/-- Settles O47: each pair command has its effect where it is legal, and completes with STATE elsewhere. -/
theorem pairCommandsTakeEffect : Obligations.PairCommandsTakeEffect := by
  refine fun s req h => ⟨fun hrole hpair hpeer hstandby hfault => ?_, fun hill => ?_, fun hmay hfree u hu => ?_, fun hill => ?_,
    fun hpair hrole => ?_, fun hill => ?_, fun hrole u hu => ?_, fun hrole => ?_⟩
  · exact exec_rdnCommand_legal h rfl (by rw [hrole, hpair, hpeer, hstandby, hfault]; rfl) rfl
  · exact exec_rdnCommand_illegal h rfl (by simpa only [Bool.and_eq_false_iff, beq_eq_false_iff_ne, Bool.not_eq_false', or_assoc] using hill)
  · exact exec_rdnCommand_legal h rfl (by simp [hmay, hfree]) hu.symm
  · exact exec_rdnCommand_illegal h rfl (by simpa only [Bool.and_eq_false_iff, beq_eq_false_iff_ne] using hill)
  · exact exec_rdnCommand_legal h rfl (by simpa [hpair, or_comm] using hrole) rfl
  · exact exec_rdnCommand_illegal h rfl (by
      simpa only [Bool.and_eq_false_iff, Bool.or_eq_false_iff, beq_eq_false_iff_ne, and_comm] using hill)
  · exact exec_rdnCommand_legal h rfl (by simp [hrole]) (by rw [hu]; rfl)
  · exact exec_rdnCommand_illegal h rfl (by simpa using hrole)

end Sys2Proof.Machine
end

section
/-! Rows that wait for their instant: what a landing that lies before it leaves of them. -/

namespace Sys2Proof.Machine

/-- A row with an instant has its effect on the state that reached it, and none before. -/
theorem Answer.of_reach {a : Answer} {s : State} {o : Option State} {f : State → State} 
    (h : a = .next (match o with | some u => f u | none => s)) :
    (∀ u, o = some u → a = .next (f u)) ∧ (o = none → a = .next s) := by
  constructor
  · rintro u rfl
    exact h
  · rintro rfl
    exact h

/-- The branch that an answer takes where its condition holds. -/
theorem Answer.of_pos {p : Prop} [Decidable p] (hp : p) {a : Answer} {t u : State} (h : a = .next (if p then t else u)) :
    a = .next t :=
  h.trans (congrArg _ (if_pos hp))

/-- The branch that an answer takes where its condition fails. -/
theorem Answer.of_neg {p : Prop} [Decidable p] (hp : ¬p) {a : Answer} {t u : State} (h : a = .next (if p then t else u)) :
    a = .next u :=
  h.trans (congrArg _ (if_neg hp))

/-! ### The watchdog (R424) -/

/-- Settles O49: the watchdog that runs expires at its instant, and its time runs from the last write. -/
theorem watchdogRunsFromTheLastWrite : Obligations.WatchdogRunsFromTheLastWrite := by
  refine fun s => ⟨?kick, fun hcommitted hplan hexpired => ?runs, fun hidle => ?idle⟩
  case kick =>
    rintro req v w h rfl
    exact exec_of_reaches h rfl rfl
  case runs =>
    have hopen : (s.plan.everCommitted && s.planState != PS.none && !s.bit R.mgtWdog 30) = true := by
      simpa [hcommitted, hexpired] using hplan
    obtain ⟨hsome, hnone⟩ := Answer.of_reach (Answer.of_pos hopen (rfl : exec .mgtWdog s = _))
    refine ⟨?_, hnone⟩
    rintro u w hu rfl
    rw [hsome u hu]
    exact ⟨fun hfo => congrArg _ (if_pos hfo), fun hfo => congrArg _ (if_neg (by rw [hfo]; decide))⟩
  case idle =>
    refine congrArg Host.Outcome.next (if_neg ?_)
    rw [Bool.not_eq_true]
    simpa only [Bool.and_eq_false_iff, bne_eq_false_iff_eq, Bool.not_eq_false', or_assoc] using hidle

/-! ### The mirror (R410, R412, R415) -/

/-- The frames of the epoch that is being sent, from the state that reached its instant. -/
def State.sendEpochFrames (s : State) (n base : Nat) (stream : List Byte) (full final : Bool) : State :=
  let sl := slices ((s.mirrorPorts.map (fun p => (s.portRec p).mtu - 42)).foldl min 16384) stream.length stream
  let data := ((List.range sl.length).zip sl).map (fun e => s.epochData n e.1 e.2)
  let v := forEach data (fun c x => x.sendMirror .epoch 10 8 c) s
  let w := v.sendMirror .epoch 10 8 (v.epochTrailer n base stream full final data)
  State.inc { w with rdn := { w.rdn with sending := none } } R.rdnEpochTx

theorem exec_epochSend {s : State} {n base : Nat} {stream : List Byte} {full final : Bool}
    (h : s.rdn.sending = some (n, base, stream, full, final)) :
    exec .epochSend s = .next (
      if s.role ≠ Role.active ∧ s.role ≠ Role.releasing then { s with rdn := { s.rdn with sending := none } }
      else match s.reach (s.landingAt (n + 1) + ofUs 10) with
        | some u => u.sendEpochFrames n base stream full final
        | none => s) := by
  refine congrArg Host.Outcome.next ?_
  rw [h]
  rfl

/-- Settles O48: a heartbeat leaves once in a tick, and the epoch being sent from its instant, if the device still sends. -/
theorem mirrorSendsItsFrames : Obligations.MirrorSendsItsFrames := by
  refine fun s => ⟨fun hpair hfresh => ?beats, fun hidle => ?silent, fun n base stream full final hsending => ⟨fun hrole => ?sends,
    fun hactive hreleasing => ?drops⟩, fun hnone => ?nothing⟩
  case beats =>
    have hopen : (s.hasPair && s.rdn.hbTick != some s.now) = true := by simpa [hpair] using hfresh
    obtain ⟨hsome, hnone⟩ := Answer.of_reach (Answer.of_pos hopen (rfl : exec .heartbeatSend s = _))
    refine ⟨?_, hnone⟩
    rintro u w hu rfl
    exact hsome u hu
  case silent =>
    refine congrArg Host.Outcome.next (if_neg ?_)
    rw [Bool.not_eq_true]
    simpa only [Bool.and_eq_false_iff, bne_eq_false_iff_eq] using hidle
  case sends =>
    have hopen : ¬(s.role ≠ Role.active ∧ s.role ≠ Role.releasing) := by
      rintro ⟨hactive, hreleasing⟩
      exact hrole.elim hactive hreleasing
    obtain ⟨hsome, hnone⟩ := Answer.of_reach (Answer.of_neg hopen (exec_epochSend hsending))
    refine ⟨?_, hnone⟩
    rintro u sl data v w hu rfl rfl rfl rfl
    exact hsome u hu
  case drops => exact Answer.of_pos ⟨hactive, hreleasing⟩ (exec_epochSend hsending)
  case nothing =>
    refine congrArg Host.Outcome.next ?_
    rw [hnone]

/-! ### The pair line (R401 to R406) -/

/-- The peer's line goes high while it is low: PEER_IN is set, and a claimant or holder of a pair has a contest. -/
theorem exec_peerInAssert_of_low {s w : State} (hlow : s.rdn.peerIn = false)
    (hw : w = State.setBit { s with rdn := { s.rdn with peerIn := true } } R.rdnStatus 19 true) :
    exec .peerInAssert s = .next (if (w.hasPair && (w.role == Role.claiming || w.role == Role.active)) = true then
      ((State.inc (if w.secondary = true then (w.setRole 1).cutGates else w) R.rdnContests).raise Src.pairContest []).settleHeld
      else w) := by
  subst hw
  exact Answer.of_neg (by rw [hlow]; decide) rfl

/-- With the peer's line high the rows that wait for a free line, and a second rise, do nothing. -/
theorem exec_of_line_high {s : State} (hhigh : s.rdn.peerIn = true) :
    exec .peerInAssert s = .next s ∧ exec .guardExpiry s = .next s ∧ exec .claimConfirm s = .next s := by
  refine ⟨Answer.of_pos hhigh rfl, Answer.of_pos hhigh rfl, Answer.of_neg ?_ rfl⟩
  rw [hhigh]
  exact fun h => absurd h.2 (by decide)

theorem exec_handoverTimeout {s : State} {h : Nat} (hat : s.rdn.handoverAt = some h) :
    exec .handoverTimeout s = .next (if s.role = Role.releasing ∧ h + s.getF R.rdnHbTicks 10 0 ≤ s.now then
      (s.writeHeld (fun _ _ => true) true).endRelease else s) := by
  refine congrArg Host.Outcome.next ?_
  rw [hat]

/-- Settles O46: each edge and each instant of the pair line has its effect in the states it belongs to. -/
theorem pairLineIsFollowed : Obligations.PairLineIsFollowed := by
  refine fun s => ⟨fun hlow w hw => ⟨fun hnone => ?quiet, fun hpair hrole => ?contest⟩, exec_of_line_high,
    fun hhigh => Answer.of_pos hhigh rfl, fun hlow => ?low, fun hrole => Answer.of_neg (fun h => hrole h.1) rfl,
    fun h hat => ⟨fun hrole hover => ?elapsed, fun hwait => ?wait⟩, fun hnone => ?none⟩
  case quiet =>
    refine Answer.of_neg ?_ (exec_peerInAssert_of_low hlow hw)
    rw [Bool.not_eq_true]
    simpa only [Bool.and_eq_false_iff, Bool.or_eq_false_iff, beq_eq_false_iff_ne] using hnone
  case contest => exact Answer.of_pos (by simpa [hpair] using hrole) (exec_peerInAssert_of_low hlow hw)
  case low =>
    have hguard := Answer.of_reach (Answer.of_neg (by rw [hlow]; decide) (rfl : exec .guardExpiry s = _))
    refine ⟨Answer.of_neg (by rw [hlow]; decide) rfl, hguard.1, hguard.2, fun hrole => ?_⟩
    exact Answer.of_reach (Answer.of_pos ⟨hrole, hlow⟩ (rfl : exec .claimConfirm s = _))
  case elapsed => exact Answer.of_pos ⟨hrole, hover⟩ (exec_handoverTimeout hat)
  case wait =>
    refine Answer.of_neg ?_ (exec_handoverTimeout hat)
    rintro ⟨hrole, hover⟩
    exact hwait.elim (fun hne => hne hrole) (not_lt.mpr hover)
  case none =>
    refine congrArg Host.Outcome.next ?_
    rw [hnone]

end Sys2Proof.Machine
end

section
/-! Commands that wait for a landing: banks (R230 to R235), prism inputs (R250, R265), pane groups (R281, R295). -/

namespace Sys2Proof.Machine

/-! ### The SCH commands -/

section
variable {s : State} {req : Requester} {p : Nat} (h : Reaches s req (R.schPCtl p))
include h

theorem exec_commitAt (hused : s.portUsed p = true) (hfree : s.bankFree p = true) (hmode : s.hostSwap p = false) :
    exec (.commitAt req p) s = .next (match s.joinTick (s.rdN (R.schPTarget p)) with
      | some (t, late) => ((s.addReq ⟨.bank p, t, late, false, none, true⟩).settleOwned p).result (R.schPStatus p) 0x00
      | none => ((s.lastSwap p Swap.discarded).raise Src.swapDiscard []).result (R.schPStatus p) 0x00) :=
  exec_of_reaches h rfl ((if_pos (by rw [hused, hfree, hmode]; rfl)).trans rfl)

theorem exec_commitNext (hused : s.portUsed p = true) (hfree : s.bankFree p = true) (hmode : s.hostSwap p = true) :
    exec (.commitNext req p) s = .next (((s.requestNext (.bank p)).settleOwned p).result (R.schPStatus p) 0x00) :=
  exec_of_reaches h rfl (if_pos (by rw [hused, hfree, hmode]; rfl))

theorem exec_withdraw {mine : SwapReq → Bool} (hmine : mine = (fun r => decide (r.kind = .bank p) && r.byCommand)) :
    exec (.withdraw req p) s = .next (
      if (!s.mirrorOwns && s.tick.reqs.any (fun r => mine r && decide (s.openTick ≤ r.tick))) = true then
        (((s.dropReqs mine).lastSwap p Swap.withdrawn).settleOwned p).result (R.schPStatus p) 0x00
      else s.result (R.schPStatus p) 0x02) := by
  subst hmine
  exact exec_of_reaches h rfl rfl

end

/-- Settles O30: each SCH command joins or leaves a swap set where it is legal, and completes with STATE elsewhere. -/
theorem bankCommandsTakeEffect : Obligations.BankCommandsTakeEffect := by
  refine fun s req p mine h hmine => ⟨fun hused hfree => ⟨fun hmode => ⟨fun t late hjoin => ?_, fun hjoin => ?_⟩, exec_commitNext h hused hfree⟩,
    fun hill => ?_, fun hill => ?_, fun hmirror hreq => ?_, fun hill => ?_⟩
  · rw [exec_commitAt h hused hfree hmode, hjoin]
  · rw [exec_commitAt h hused hfree hmode, hjoin]
    rfl
  · refine exec_of_reaches h rfl (if_neg ?_)
    rw [Bool.not_eq_true]
    simp only [Bool.and_eq_false_iff, Bool.not_eq_false']
    tauto
  · refine exec_of_reaches h rfl (if_neg ?_)
    rw [Bool.not_eq_true]
    simp only [Bool.and_eq_false_iff]
    tauto
  · exact Answer.of_pos (by rw [hmirror, hreq]; rfl) (exec_withdraw h hmine)
  · refine Answer.of_neg ?_ (exec_withdraw h hmine)
    rw [Bool.not_eq_true]
    simpa only [Bool.and_eq_false_iff, Bool.not_eq_false'] using hill

/-! ### The PRZ input commands -/

/-- Settles O31: an input command waits for the landing, which sets the offset, the window or the break. -/
theorem prismInputCommandsWaitForTheLanding : Obligations.PrismInputCommandsWaitForTheLanding := by
  rintro s w req sh h rfl
  refine ⟨fun hinput => ?input, fun hnone => ?other, fun v => rfl, fun n q hq => ?window, fun n hq => ?noWindow, rfl⟩
  case input =>
    have hsome : ¬((s.setInField sh).inputRec? sh).isNone = true := by
      rw [Bool.not_eq_true, Option.isNone_eq_false_iff]
      exact hinput
    refine ⟨?_, exec_of_reaches h rfl (if_neg hsome), exec_of_reaches h rfl (if_neg hsome)⟩
    rintro v rfl
    refine ⟨fun hlow hhigh => ?_, fun hout => ?_⟩
    · exact exec_of_reaches h rfl ((if_neg hsome).trans (if_neg (not_or.mpr ⟨not_lt.mpr hlow, not_lt.mpr hhigh⟩)))
    · exact exec_of_reaches h rfl ((if_neg hsome).trans (if_pos hout))
  case other =>
    exact ⟨exec_of_reaches h rfl (if_pos hnone), exec_of_reaches h rfl (if_pos hnone), exec_of_reaches h rfl (if_pos hnone)⟩
  case window =>
    unfold State.applyIn
    dsimp only
    rw [hq]
  case noWindow =>
    unfold State.applyIn
    dsimp only
    rw [hq]

/-! ### Pane groups -/

/-- Of a group of the plan whose next pane is not held back, a pane seals once its instant is reached. -/
theorem exec_paneSeal {s : State} {g : Nat} {r : PgRec} (uncomputed : List (Nat × Nat)) (slow : Bool) (hr : s.pg? g = some r)
    (hbarred : s.paneBarred (s.group g).nextSeal = false) : exec (.paneSeal g uncomputed slow) s = .next (
      match s.reach (s.sealTime g r) with
      | some u => if (u.group g).slow.isSome = true then u.sealNext g (u.sealKind g)
        else if slow = true then u.sealSlow g uncomputed else u.sealNext g { sealPlain with uncomputed := uncomputed }
      | none => s) := by
  refine congrArg Host.Outcome.next ?_
  rw [hr]
  exact if_neg (by rw [hbarred]; decide)

theorem exec_paneSeal_idle {s : State} {g : Nat} (uncomputed : List (Nat × Nat)) (slow : Bool)
    (hidle : s.pg? g = none ∨ s.paneBarred (s.group g).nextSeal = true) : exec (.paneSeal g uncomputed slow) s = .next s := by
  refine congrArg Host.Outcome.next ?_
  cases hr : s.pg? g with
  | none => rfl
  | some r =>
    rw [hr] at hidle
    exact if_pos (hidle.resolve_left (Option.some_ne_none r))

/-- What waits for the next landing counts for the containment of a group. -/
theorem State.pgCommand_eq {w : State} {g : Nat} {held contain : Bool}
    (hheld : held = (w.group g).cmd.getD (w.bit (R.przPgStatus g) 17)) :
    w.pgCommand g contain = if (w.im.has Sect.paneGroup g && held != contain) = true then
      (w.setGroup g { w.group g with cmd := some contain }).result R.przPgCmdStatus 0x00
      else w.result R.przPgCmdStatus 0x02 := by
  subst hheld
  unfold State.pgCommand
  cases (w.group g).cmd <;> rfl

section
variable {s w : State} {req : Requester} {g : Nat} {held : Bool} (h : Reaches s req R.przPgCmd)
  (hw : w = s.setF R.przPgCmd 15 8 g) (hg : g < 256) (hheld : held = (w.group g).cmd.getD (w.bit (R.przPgStatus g) 17))
include h hw hg hheld

theorem exec_pgContain : exec (.pgContain req g) s = .next (if (w.im.has Sect.paneGroup g && held != true) = true then
    (w.setGroup g { w.group g with cmd := some true }).result R.przPgCmdStatus 0x00 else w.result R.przPgCmdStatus 0x02) := by
  subst hw
  refine exec_of_reaches h rfl ?_
  rw [Nat.mod_eq_of_lt hg]
  exact State.pgCommand_eq hheld

theorem exec_pgRelease : exec (.pgRelease req g) s = .next (if (w.im.has Sect.paneGroup g && held != false) = true then
    (w.setGroup g { w.group g with cmd := some false }).result R.przPgCmdStatus 0x00 else w.result R.przPgCmdStatus 0x02) := by
  subst hw
  refine exec_of_reaches h rfl ?_
  rw [Nat.mod_eq_of_lt hg]
  exact State.pgCommand_eq hheld

end

/-- Settles O32: a pane seals at its instant or goes on to its deadline, and a command of a group waits where it changes it. -/
theorem panesSealAndGroupsAreContained : Obligations.PanesSealAndGroupsAreContained := by
  refine fun s => ⟨fun g r uncomputed slow hr hbarred => ⟨fun u hu => ⟨fun hslow => ?goesOn, fun hslow => ?seals⟩, fun hwait => ?early⟩,
    fun g uncomputed slow => exec_paneSeal_idle uncomputed slow, fun w req g held h hw hg hheld => ?commands⟩
  case goesOn =>
    rw [exec_paneSeal uncomputed slow hr hbarred, hu]
    exact congrArg _ (if_pos hslow)
  case seals =>
    have hfresh : ¬(u.group g).slow.isSome = true := by rw [hslow]; decide
    constructor
    · rw [exec_paneSeal uncomputed false hr hbarred, hu]
      exact congrArg _ (if_neg hfresh)
    · rw [exec_paneSeal uncomputed true hr hbarred, hu]
      exact congrArg _ (if_neg hfresh)
  case early => rw [exec_paneSeal uncomputed slow hr hbarred, hwait]
  case commands =>
    rw [exec_pgContain h hw hg hheld, exec_pgRelease h hw hg hheld]
    refine ⟨fun hhas hfree => ?_, fun hhas hcontained => ?_, fun hill => ?_, fun hill => ?_⟩
    · rw [if_pos (by rw [hhas, hfree]; rfl)]
    · rw [if_pos (by rw [hhas, hcontained]; rfl)]
    · rw [if_neg]
      rw [Bool.not_eq_true, Bool.and_eq_false_iff, bne_eq_false_iff_eq]
      exact hill
    · rw [if_neg]
      rw [Bool.not_eq_true, Bool.and_eq_false_iff, bne_eq_false_iff_eq]
      exact hill

end Sys2Proof.Machine
end

section
/-! Patrol scrub (R392, R393, R395). -/

namespace Sys2Proof.Machine

/-- A read of the next block of a channel, as what it finds. -/
theorem State.scrubRead_of_mapped {s : State} {c a : Nat} (ha : s.flatOf c (64 * (s.scrub c).next) = some a)
    (hgood : s.ddr.bad.contains (a / 64) = false) {y : State}
    (hy : y = State.inc { s with ddr := { s.ddr with bad := a / 64 :: s.ddr.bad } } (R.memChUe c)) :
    s.scrubRead c none = s ∧ s.scrubRead c (some false) = s.correctable c ∧
      s.scrubRead c (some true) = y.raise (y.ueSource (a / 64)) (y.ueUnits (a / 64)) := by
  subst hy
  have hmapped : (s.flatOf c (64 * (s.scrub c).next)).map (· / 64) = some (a / 64) := by rw [ha, Option.map_some]
  refine ⟨?_, ?_, ?_⟩ <;> simp only [State.scrubRead, hmapped, hgood] <;> rfl

/-- Settles O45: the scrub of a channel that is READY and mapped reads at its instants; what a read finds decides the rest. -/
theorem patrolScrubWalksTheChannel : Obligations.PatrolScrubWalksTheChannel := by
  refine fun s c find => ⟨fun hc hready hmapped => ?reads, fun hidle => ?idle, fun a ha hgood => ?finds⟩
  case reads =>
    have hopen : ¬(16 ≤ c ∨ s.getF (R.memChStatus c) 2 0 ≠ 2 ∨ s.scrubBlocks c = 0) := by
      rw [not_or, not_or, not_not]
      exact ⟨not_le.mpr hc, hready, hmapped⟩
    have hexec : exec (.patrolScrub c find) s = .next _ := Answer.of_neg hopen rfl
    rw [hexec]
    refine ⟨fun u hu => ?_, fun hwait => ?_⟩
    · rw [hu]
    · rw [hwait]
  case idle => exact Answer.of_pos hidle rfl
  case finds =>
    obtain ⟨hnone, hcorrectable, -⟩ := State.scrubRead_of_mapped ha hgood rfl
    exact ⟨hnone, hcorrectable, fun y hy => (State.scrubRead_of_mapped ha hgood hy).2.2⟩

end Sys2Proof.Machine
end

section
/-! Raises and injections of fault sources (R430 to R444, R483), and the commands of FCR.CTL (R442). -/

namespace Sys2Proof.Machine

/-! ### A raise without an injection on its edge -/

section
variable {s w : State} {src : Nat} {units : List Nat} (hw : w = s.setBit (R.fcrGLive (src / 32)) (src % 32) true)
  (hinj : s.fcr.injNow.find? (fun e => e.1 == src) = none)
include hw hinj

theorem State.takeRaise_first (hfirst : s.fcr.raisedNow.any (fun e => e.1 == src) = false) {o : Bool × State}
    (ho : o = (State.noteRaise { w with fcr := { w.fcr with raisedNow := (src, units) :: w.fcr.raisedNow } } src).cross
      (Xing.source src) 13) :
    s.takeRaise src units = ((if o.1 = true then s.reactionOf src else 0, s.reactionOf src), o.2) := by
  subst hw ho
  unfold State.takeRaise
  dsimp only
  rw [hinj]
  exact if_neg (by rw [hfirst]; decide)

theorem State.takeRaise_again (hagain : s.fcr.raisedNow.any (fun e => e.1 == src) = true) :
    s.takeRaise src units = ((s.reactionOf src, s.reactionOf src),
      { w with fcr := { w.fcr with raisedNow := (src, units) :: w.fcr.raisedNow } }) := by
  subst hw
  unfold State.takeRaise
  dsimp only
  rw [hinj]
  exact if_pos hagain

end

/-! ### The reaction by class (R434 to R436) -/

/-- What a class does before the grant is looked at: nothing, the event, containment, the grant, the fault state. -/
theorem State.react_from_zero {s x y : State} {hi src : Nat} {units : List Nat} (hle : hi ≤ 4) (hzero : hi = 0 → x = s)
    (hone : hi = 1 → x = s.event (Evt.fault (src / 32)))
    (hy : hi = 2 ∨ hi = 3 ∨ hi = 4 → y = units.foldl State.contain (s.event (Evt.fault (src / 32))))
    (htwo : hi = 2 → x = y) (hthree : hi = 3 → x = y.giveUp) (hfour : hi = 4 → x = (y.enterFault src).giveUp) :
    s.react 0 hi src units = if (s.granted && !x.granted) = true then x.cutGates else x := by
  have hx : x = (if 0 < 3 ∧ 3 ≤ hi then (s.reactLow 0 hi src units).giveUp else s.reactLow 0 hi src units) := by
    obtain rfl | rfl | rfl | rfl | rfl : hi = 0 ∨ hi = 1 ∨ hi = 2 ∨ hi = 3 ∨ hi = 4 := by omega
    · exact hzero rfl
    · exact hone rfl
    · rw [htwo rfl, hy (by decide)]
      rfl
    · rw [hthree rfl, hy (by decide)]
      rfl
    · rw [hfour rfl, hy (by decide)]
      rfl
  rw [hx]
  rfl

/-- Settles O50: a raise is taken by its edge, and reacts by its class. -/
theorem raisesReactByClass : Obligations.RaisesReactByClass := by
  refine fun s src units => ⟨fun w o hw hinj => ⟨fun hfirst ho => ?first, fun hagain => ?again⟩,
    fun hi x y hle hzero hone hy htwo hthree hfour => State.react_from_zero hle hzero hone hy htwo hthree hfour⟩
  case first =>
    unfold State.raise State.detect
    rw [State.takeRaise_first hw hinj hfirst ho]
    exact ⟨fun hmerged => by rw [hmerged]; rfl, fun hmerged => by rw [hmerged]; rfl⟩
  case again =>
    unfold State.raise State.detect
    rw [State.takeRaise_again hw hinj hagain]

/-! ### The commands of FCR.CTL -/

section
variable {c : Instr} {s w t : State} {req : Requester} {arg : Nat} {legal : State → Bool} {f : State → State}
  (h : Reaches s req R.fcrCtl) (hw : w = s.setF R.fcrCtl 31 16 arg)
  (hc : exec c s = .next (s.fcrCommand req arg legal f))
include h hw hc

theorem exec_fcrCommand_legal (hlegal : legal w = true) (ht : f w = t) : exec c s = .next (t.result R.fcrStatus 0x00) := by
  subst hw ht
  exact exec_of_reaches h hc (if_pos hlegal)

theorem exec_fcrCommand_illegal (hlegal : legal w = false) : exec c s = .next (w.result R.fcrStatus 0x02) := by
  subst hw
  exact exec_of_reaches h hc (if_neg (by rw [hlegal]; decide))

end

/-! ### Injections (R443, R444) -/

section
variable {s : State} {src : Nat}

theorem State.inject_of_reserved (h : srcAssigned src = false) (real : Option (List Nat)) : s.inject src real = s := by
  unfold State.inject
  rw [h]
  rfl

theorem State.inject_of_assigned (h : srcAssigned src = true) (us : List Nat) : s.inject src none = s.injectBit src ∧
    (s.detects src = true → s.inject src (some us) = (s.detect src us).injectBit src) ∧
    (s.detects src = false → s.inject src (some us) = s.injectBit src) := by
  unfold State.inject
  rw [h]
  refine ⟨rfl, fun hdetects => ?_, fun hdetects => ?_⟩
  all_goals
    simp only [hdetects, Option.filter]
    rfl

theorem State.injectBit_again (h : s.fcr.injNow.any (fun e => e.1 == src) = true) : s.injectBit src = s := if_pos h

variable {k b : Nat} (hsrc : 32 * k + b = src) (hb : b < 32)
include hsrc hb

theorem State.injectBit_first {c : Nat} {o : Bool × State} {w : State} (hsilent : s.bit (R.fcrGInjCfg k) 3 = true → c = 0)
    (hloud : s.bit (R.fcrGInjCfg k) 3 = false → c = s.injClass src)
    (ho : o = (s.noteRaise src).cross (Xing.source src) 13)
    (hw : w = { o.2 with fcr := { o.2.fcr with injNow := (src, c) :: o.2.fcr.injNow } })
    (hfresh : s.fcr.injNow.any (fun e => e.1 == src) = false) (hquiet : s.fcr.raisedNow.filter (fun e => e.1 == src) = []) :
    s.injectBit src = w.react (if o.1 = true then c else 0) c src (injUnits src) := by
  have hk : src / 32 = k := by omega
  have hc : (if s.bit (R.fcrGInjCfg k) 3 = true then 0 else s.injClass src) = c := by
    split
    next hbit => exact (hsilent hbit).symm
    next hbit => exact (hloud (Bool.eq_false_of_not_eq_true hbit)).symm
  unfold State.injectBit
  dsimp only
  rw [if_neg (by rw [hfresh]; decide), hquiet, hk, hc, ← ho, hw]

theorem State.injectBit_coincides {found : List (Nat × List Nat)} {x : State}
    (hfresh : s.fcr.injNow.any (fun e => e.1 == src) = false) (hfound : found = s.fcr.raisedNow.filter (fun e => e.1 == src))
    (hne : found ≠ []) (hx : x = s.hwSet (R.fcrGCoincide k) b) :
    s.injectBit src = State.react { x with fcr := { x.fcr with injNow := (src, s.bothClass src) :: x.fcr.injNow } }
      (s.reactionOf src) (s.bothClass src) src (found.flatMap (·.2)) := by
  have hk : src / 32 = k := by omega
  have hm : src % 32 = b := by omega
  unfold State.injectBit
  dsimp only
  rw [if_neg (by rw [hfresh]; decide), ← hfound, hk, hm, ← hx]
  cases found with
  | nil => exact absurd rfl hne
  | cons e es => rfl

end

/-- Settles O51: the commands wait for the landing, and an injection is taken by what its edge has seen of its source. -/
theorem collectorCommandsAndInjections : Obligations.CollectorCommandsAndInjections := by
  refine ⟨fun s w req arg h hw => ⟨fun hlatched => ?_, fun hlatched => ?_, fun hcontained => ?_, fun hcontained => ?_⟩,
    fun s req k v real => ⟨fun hk h => ?_, fun hk => ?_, fun src us => ⟨fun hres => ?_, fun hassigned => ?_⟩,
      fun src b c o w hsrc hb hsilent hloud ho hw => ⟨State.injectBit_again, fun hfresh hquiet => ?_,
        fun found x hfresh hfound hne hx => State.injectBit_coincides hsrc hb hfresh hfound hne hx⟩⟩⟩
  · exact exec_fcrCommand_legal h hw rfl hlatched rfl
  · exact exec_fcrCommand_illegal h hw rfl hlatched
  · exact exec_fcrCommand_legal h hw rfl hcontained rfl
  · exact exec_fcrCommand_illegal h hw rfl hcontained
  · exact exec_of_reaches h (Answer.of_pos hk rfl) rfl
  · exact Answer.of_neg (not_lt.mpr hk) rfl
  · exact ⟨State.inject_of_reserved hres none, State.inject_of_reserved hres (some us)⟩
  · exact State.inject_of_assigned hassigned us
  · rw [State.injectBit_first hsrc hb hsilent hloud ho hw hfresh hquiet]
    exact ⟨fun hmerged => by rw [if_pos hmerged], fun hmerged => by rw [hmerged]; rfl⟩

end Sys2Proof.Machine
end

section
/-! Vectors (R447 to R449, R498) and window selectors (R210, R236, R264). -/

namespace Sys2Proof.Machine

/-! ### Vectors -/

/-- PF0, PF1 and PF7 have 2,048 vectors, a virtual function has 64. -/
theorem vecCount_eq (fn : Requester) : vecCount fn = if fn.vfNum = 0 then 2048 else 64 := by
  unfold vecCount
  rw [ite_not]

/-- A vector with events pending of a function that is awake fires by its count, else by its instant. -/
theorem exec_vectorFire_pending {s : State} {fn : Requester} {v : Nat} {x : VecSt} (hx : x = s.vec (vecKey fn v))
    (hpending : x.pending ≠ 0) (hawake : s.inD3 fn = false) :
    exec (.vectorFire fn v) s = .next (if max 1 (fld (s.modOf fn v) 23 16) ≤ x.pending then s.fireVec fn v
      else match s.vecDue fn v with
        | some t => (match s.reachClock t with | some u => u.fireVec fn v | none => s)
        | none => s) := by
  subst hx
  refine congrArg Host.Outcome.next ((if_neg ?_).trans rfl)
  rw [not_or, hawake]
  exact ⟨hpending, by decide⟩

/-- FLUSH_MOD fires the vectors of a function that is awake. -/
theorem exec_flushMod {s : State} {req : Requester} {f : Nat} {y : Reg} (h : Reaches s req R.pwrFlushMod) (hf : f = fld y 2 0) :
    exec (.flushMod req y) s = .next (if (f = 0 ∨ f = 1 ∨ f = 7) ∧ s.inD3 (requesterOf f 0) = false then s.fireAll f else s) := by
  subst hf
  exact exec_of_reaches h rfl rfl

/-- Settles O52: a vector fires by its count or its instant, mutes by its PBA bit, and is unmasked or flushed by command. -/
theorem vectorsFireAndFlush : Obligations.VectorsFireAndFlush := by
  rintro s fn v x hx
  refine ⟨fun hpending hawake => ?pending, fun hidle => ?idle, fun hmuted => ?muted, fun hopen => ?sent, fun hv => ?unmask,
    fun hv => ?beyond, ?enable, fun req f y h hf => ?flush⟩
  case pending =>
    rw [exec_vectorFire_pending hx hpending hawake]
    refine ⟨fun hcount => by rw [if_pos hcount], fun hcount => ?_⟩
    rw [if_neg (not_le.mpr hcount)]
    refine ⟨fun t u hdue hreach => ?_, fun t hdue hreach => ?_, fun hdue => ?_⟩
    · simp only [hdue, hreach]
    · simp only [hdue, hreach]
    · rw [hdue]
  case idle =>
    subst hx
    exact Answer.of_pos hidle rfl
  case muted =>
    subst hx
    exact if_pos hmuted
  case sent =>
    subst hx
    exact if_neg (by rw [hopen]; decide)
  case unmask =>
    subst hx
    rw [← vecCount_eq] at hv
    exact Answer.of_pos hv rfl
  case beyond =>
    rw [← vecCount_eq] at hv
    exact Answer.of_neg (not_lt.mpr hv) rfl
  case enable =>
    rintro w rfl
    rfl
  case flush =>
    refine ⟨fun hfn hawake => Answer.of_pos ⟨hfn, hawake⟩ (exec_flushMod h hf), fun hidle => Answer.of_neg ?_ (exec_flushMod h hf)⟩
    rintro ⟨hfn, hawake⟩
    rw [hawake] at hidle
    obtain ⟨hzero, hone, hseven⟩ := hidle.resolve_right (by decide)
    obtain h0 | h1 | h7 := hfn
    · exact hzero h0
    · exact hone h1
    · exact hseven h7

/-! ### Window selectors -/

/-- Settles O29: each selector shows the record of its unit in its window, and CLEAR empties the counters. -/
theorem windowSelectorsShowTheirUnit : Obligations.WindowSelectorsShowTheirUnit := by
  refine fun s req v => ⟨?stream, ?bank, ?input⟩
  case stream =>
    rintro h sh r a b rfl rfl rfl rfl
    exact ⟨fun hkeep => exec_of_reaches h rfl (if_neg (by rw [show rbit v 16 = false from hkeep]; decide)),
      fun hclear => exec_of_reaches h rfl (if_pos hclear)⟩
  case bank =>
    rintro h p rfl
    exact exec_of_reaches h rfl rfl
  case input =>
    rintro h sh x cls w a b rfl rfl hcls hw ha hb
    have hcls' : cls = (match s.inputRec? (fld v 15 0) with | some r => r.dest | none => 0) := by
      rw [hcls]
      cases s.inputRec? (fld v 15 0) <;> rfl
    subst hcls' hw ha hb
    exact ⟨fun hkeep => exec_of_reaches h rfl (if_neg (by rw [show rbit v 16 = false from hkeep]; decide)),
      fun hclear => exec_of_reaches h rfl (if_pos hclear)⟩

end Sys2Proof.Machine
end

section
/-! Resets (R357, R451 to R454, R516): what a warm reset and a carried state keep. -/

namespace Sys2Proof.Machine

@[simp] theorem longLow_iff {n : Nat} : longLow n = true ↔ 25 ≤ n := decide_eq_true_iff

/-- A warm reset keeps memory, fuses, SPI NOR, the marks of uncorrectable blocks and the queue, and returns the rest. -/
theorem State.warm_keeps_outside {s t : State} (ht : t = s.warm 1) : t.boot.stage = 1 ∧ t.mem = s.mem ∧ t.pending = s.pending ∧
    t.boot.fuses = s.boot.fuses ∧ t.boot.nor = s.boot.nor ∧ t.ddr.bad = s.ddr.bad ∧ t.queues = [] ∧ t.dma = State.reset.dma ∧
    t.plan = State.reset.plan ∧ t.tick = State.reset.tick ∧ t.tbs = State.reset.tbs := by
  subst ht
  exact ⟨rfl, rfl, rfl, rfl, rfl, rfl, rfl, rfl, rfl, rfl, rfl⟩

/-- What PORST_N low carries over: the queue, fuses and SPI NOR. -/
theorem State.carry_keeps_fuses {s t : State} {n : Nat} (ht : t = s.carry n) : t.boot.stage = n ∧ t.regs = [] ∧ t.mem = [] ∧
    t.pending = s.pending ∧ t.boot.fuses = s.boot.fuses ∧ t.boot.nor = s.boot.nor ∧ t.plan = State.reset.plan ∧
    t.tbs = State.reset.tbs := by
  subst ht
  exact ⟨rfl, rfl, rfl, rfl, rfl, rfl, rfl, rfl⟩

/-- Settles O53: each reset asks for its length, and leaves what its level leaves. -/
theorem resetsReturnTheirDomains : Obligations.ResetsReturnTheirDomains := by
  refine fun s => ⟨fun n => ⟨fun hlong hstage => ?warm, fun hnone => ?idle, ?porst, fun hshort => ?short⟩,
    fun t => State.warm_keeps_outside, fun t n => State.carry_keeps_fuses, ?release, fun h => ⟨fun hh => ?link, fun hh => ?noLink⟩,
    fun func vf => rfl⟩
  case warm => exact Answer.of_pos (longLow_iff.mpr hlong) (congrArg Host.Outcome.next (by rw [State.warmReset, if_neg hstage]))
  case idle =>
    obtain hshort | hoff := hnone
    · exact Answer.of_neg (by rw [longLow_iff]; omega) rfl
    · exact congrArg Host.Outcome.next ((congrArg (ite _ · s) (if_pos hoff)).trans (ite_self s))
  case porst =>
    rintro u hlong rfl
    exact Answer.of_pos (longLow_iff.mpr hlong) rfl
  case short => exact Answer.of_neg (by rw [longLow_iff]; omega) rfl
  case release =>
    rintro straps u rfl
    rfl
  case link => exact Answer.of_neg (not_le.mpr hh) rfl
  case noLink => exact Answer.of_pos hh rfl

end Sys2Proof.Machine
end

section
/-! The boot (R455 to R468): each stage acts in its turn and does nothing in any other. -/

namespace Sys2Proof.Machine

/-- A stage's row in any other stage does nothing. -/
theorem Answer.of_other_stage {a : Answer} {s t : State} {n : Nat} (h : a = .next (if s.boot.stage ≠ n then s else t)) :
    (s.boot.stage = n → a = .next t) ∧ (s.boot.stage ≠ n → a = .next s) :=
  ⟨fun hstage => Answer.of_neg (not_not_intro hstage) h, fun hstage => Answer.of_pos hstage h⟩

/-- Stage 4 with UDS: CDI, the two keys and the certificate, and UDS locked. -/
theorem exec_diceDerive_ok {s : State} {v : Nat} {cdi : List Byte} {device own : KeyPair} (hstage : s.boot.stage = 3)
    (huds : s.boot.fuses.udsOk = true) (hv : v = s.rdN R.secFwSecVersion)
    (hcdi : cdi = Config.hmacSha384 s.udsRead (s.fwid ++ leBytes 4 v ++ leBytes 1 (s.getF R.secKeys 9 8)))
    (hdevice : device = deriveKey s.udsRead "OT-1280 DeviceID") (hown : own = deriveKey cdi "OT-1280 Alias") :
    exec .diceDerive s = .next { s with boot := { s.boot with
      stage := 4, udsLocked := true, cdi := cdi, deviceKey := some device, aliasKey := some own,
      aliasCert := Config.aliasCertificate device.scalar (slice (Config.sha384 own.point) 0 20) own.point v s.fwid } } := by
  subst hv hcdi hdevice hown
  exact Answer.of_pos huds (Answer.of_neg (not_not_intro hstage) rfl)

/-- The outcome of one channel's training: a READY one has its scrub begun, a FAILED one is raised, any other reads 0. -/
theorem trainingOutcome_eq {outcome : List Reg} {f : Nat → State → State}
    (hready : ∀ c x, fld (outcome.getD c 0) 2 0 = 2 → f c x =
      (x.wr (R.memChStatus c) (outcome.getD c 0 &&& 0xFFFF01E7#32)).setScrub c ⟨0, x.clock, x.scrubHours⟩)
    (hfailed : ∀ c x, fld (outcome.getD c 0) 2 0 = 3 → f c x =
      (x.wr (R.memChStatus c) (outcome.getD c 0 &&& 0xFFFF01E7#32)).raise Src.memTrain [Cu.ch c])
    (hother : ∀ c x, fld (outcome.getD c 0) 2 0 ≠ 2 → fld (outcome.getD c 0) 2 0 ≠ 3 → f c x = x.wr (R.memChStatus c) 0) :
    f = fun c x => if fld (outcome.getD c 0) 2 0 = 2 then
        (x.wr (R.memChStatus c) (outcome.getD c 0 &&& 0xFFFF01E7#32)).setScrub c ⟨0, x.clock, x.scrubHours⟩
      else if fld (outcome.getD c 0) 2 0 = 3 then
        (x.wr (R.memChStatus c) (outcome.getD c 0 &&& 0xFFFF01E7#32)).raise Src.memTrain [Cu.ch c]
      else x.wr (R.memChStatus c) 0 := by
  funext c x
  split
  next htwo => exact hready c x htwo
  next htwo =>
    split
    next hthree => exact hfailed c x hthree
    next hthree => exact hother c x htwo hthree

/-- Settles O54: stages 3 to 6 each act after the stage before and in no other. -/
theorem bootStagesFollow : Obligations.BootStagesFollow := by
  refine fun s => ⟨?verify, fun hone htwo => Answer.of_neg (not_or.mpr ⟨hone, htwo⟩) rfl, fun hstage => ⟨?derive, fun huds => ?noUds⟩,
    (Answer.of_other_stage rfl).2, fun outcome => ⟨fun hstage => ?train, (Answer.of_other_stage rfl).2⟩,
    fun unplaced ecc => ⟨fun hstage hroad => Answer.of_pos ⟨hstage, hroad⟩ rfl, fun hidle => ?idle, ?plan⟩⟩
  case verify =>
    rintro u r hstage rfl rfl
    exact Answer.of_pos hstage rfl
  case derive => exact fun v cdi device own huds hv hcdi hdevice hown => exec_diceDerive_ok hstage huds hv hcdi hdevice hown
  case noUds => exact Answer.of_neg (by rw [huds]; decide) ((Answer.of_other_stage rfl).1 hstage)
  case train =>
    rintro f t hready hfailed hother rfl
    rw [trainingOutcome_eq hready hfailed hother]
    exact (Answer.of_other_stage rfl).1 hstage
  case idle => exact Answer.of_neg (fun ⟨hstage, hroad⟩ => hidle.elim (· hstage) hroad) rfl
  case plan =>
    rintro t rfl
    exact ⟨fun hsrc => if_neg (not_lt.mpr hsrc), fun hsrc => if_pos hsrc⟩

end Sys2Proof.Machine
end

section
/-! The commands of SEC.CMD (R463 to R465). -/

namespace Sys2Proof.Machine

section
variable {c : Instr} {s t : State} {req : Requester} {f : State → State} (h : Reaches s req R.secCmd)
  (hc : exec c s = .next (s.secCommand req f))
include h hc

theorem exec_secCommand_of_other (hmgmt : isMgmt (s.acting req) = false) : exec c s = .next (s.inc R.secCmdDrop) :=
  exec_of_reaches h hc (if_neg (by rw [hmgmt]; decide))

theorem exec_secCommand_busy (hmgmt : isMgmt (s.acting req) = true) (hbusy : s.bit R.secStatus 0 = true) :
    exec c s = .next (s.result R.secStatus 0x02) :=
  exec_of_reaches h hc ((if_pos hmgmt).trans (if_pos hbusy))

theorem exec_secCommand_free (hmgmt : isMgmt (s.acting req) = true) (hbusy : s.bit R.secStatus 0 = false) (ht : f s = t) :
    exec c s = .next t :=
  exec_of_reaches h hc ((if_pos hmgmt).trans ((if_neg (by rw [hbusy]; decide)).trans ht))

end

section
variable {s : State} {req : Requester} {f : FuseSt} (h : Reaches s req R.secCmd) (hf : f = s.boot.fuses)
  (hmgmt : isMgmt (s.acting req) = true) (hbusy : s.bit R.secStatus 0 = false)
include h hf hmgmt hbusy

theorem exec_rollbackSet {v : Nat} {m : BitVec 64} (hv : v = s.getF R.secArg 6 0) (hm : m = BitVec.ofNat 64 (2 ^ v - 1)) :
    exec (.rollbackSet req) s = .next (if v ≤ s.rollback then s.result R.secStatus 0x00
      else if 64 < v ∨ s.rdN R.secFwSecVersion < v ∨ (s.hasPlan ∧ s.im.secVersion < v) then s.result R.secStatus 0x03
      else (s.program { f with rollback1 := f.rollback1 ||| m, rollback2 := f.rollback2 ||| m }).result R.secStatus 0x00) := by
  subst hf hv hm
  exact exec_secCommand_free h rfl hmgmt hbusy rfl

theorem exec_revoke {k : Nat} {m : BitVec 4} {left : List Nat} (hk : k = s.getF R.secArg 1 0) (hm : m = BitVec.ofNat 4 (2 ^ k))
    (hleft : left = (List.range 4).filter (fun j => s.slotUsable j && !s.revoked j)) :
    exec (.revoke req) s = .next (if s.revoked k then s.result R.secStatus 0x02
      else if k = s.getF R.secKeys 9 8 ∨ (s.hasPlan ∧ k = s.im.keySlot) ∨ left = [k] then s.result R.secStatus 0x03
      else (s.program { f with revoke1 := f.revoke1 ||| m, revoke2 := f.revoke2 ||| m }).result R.secStatus 0x00) := by
  subst hf hk hm hleft
  exact exec_secCommand_free h rfl hmgmt hbusy rfl

theorem exec_keyWrite {k : Nat} (hk : k = s.getF R.secArg 1 0) :
    exec (.keyWrite req) s = .next (
      if (allZero (f.keyHash1.getD k []) && allZero (f.keyHash2.getD k []) && !s.revoked k) = true then
        (s.program { f with keyHash1 := f.keyHash1.set k (s.rdBytes R.secKeyStage 12),
                            keyHash2 := f.keyHash2.set k (s.rdBytes R.secKeyStage 12) }).result R.secStatus 0x00
      else s.result R.secStatus 0x02) := by
  subst hf hk
  exact exec_secCommand_free h rfl hmgmt hbusy rfl

end

/-- Settles O55: a fuse command asks for the management plane, for SEC to be free, and for its own checks, in that order. -/
theorem securityCommandsProgramFuses : Obligations.SecurityCommandsProgramFuses := by
  refine fun s req f h hf => ⟨fun hmgmt => ?other, fun hmgmt hbusy => ?busy, fun hmgmt hbusy => ⟨fun v m hv hm => ?rollback,
    fun k m left hk hm hleft => ?slot⟩⟩
  case other =>
    simp only [List.forall_mem_cons, List.not_mem_nil, IsEmpty.forall_iff, implies_true, and_true]
    exact ⟨exec_secCommand_of_other h rfl hmgmt, exec_secCommand_of_other h rfl hmgmt, exec_secCommand_of_other h rfl hmgmt,
      exec_secCommand_of_other h rfl hmgmt⟩
  case busy =>
    simp only [List.forall_mem_cons, List.not_mem_nil, IsEmpty.forall_iff, implies_true, and_true]
    exact ⟨exec_secCommand_busy h rfl hmgmt hbusy, exec_secCommand_busy h rfl hmgmt hbusy, exec_secCommand_busy h rfl hmgmt hbusy⟩
  case rollback =>
    rw [exec_rollbackSet h hf hmgmt hbusy hv hm]
    refine ⟨fun hle => by rw [if_pos hle], fun hlt hbad => by rw [if_neg (not_le.mpr hlt), if_pos hbad],
      fun hlt hmax hfw hplan => ?_⟩
    rw [if_neg (not_le.mpr hlt), if_neg]
    rintro (hover | hover | ⟨hhas, hover⟩)
    · omega
    · omega
    · exact absurd (hplan hhas) (not_le.mpr hover)
  case slot =>
    rw [exec_revoke h hf hmgmt hbusy hk hm hleft, exec_keyWrite h hf hmgmt hbusy hk]
    refine ⟨fun hrevoked => by rw [if_pos hrevoked], fun hgood hbad => by rw [if_neg (by rw [hgood]; decide), if_pos hbad],
      fun hgood hfw hplan hlast => ?_, fun hone htwo hgood => by rw [if_pos (by rw [hone, htwo, hgood]; rfl)], fun hbad => ?_⟩
    · rw [if_neg (by rw [hgood]; decide), if_neg]
      rintro (hk | ⟨hhas, hk⟩ | hk)
      · exact hfw hk
      · exact hplan hhas hk
      · exact hlast hk
    · rw [if_neg]
      rw [Bool.not_eq_true]
      simpa only [Bool.and_eq_false_iff, Bool.not_eq_false', or_assoc] using hbad

end Sys2Proof.Machine
end

section
/-! Power (R24, R492, R495, R496, R499). -/

namespace Sys2Proof.Machine

/-! ### Units and links -/

/-- An entry that sleeps is woken, and its group's selector with it. -/
theorem State.wake_of_asleep {s t : State} {u : Nat} (hasleep : s.powerState u ≠ 0) (ht : t = s.setPower u 0) :
    s.wake u = match t.wakeGroupOf u with | some g => t.settleSel g | none => t := by
  subst ht
  unfold State.wake
  rw [if_neg hasleep] <;> rfl

/-- A row of a link that does not exist does nothing. -/
theorem exec_of_no_link {s : State} {h : Nat} (x : Nat) (hh : 2 ≤ h) :
    ∀ c ∈ [Instr.l1Entry h x, .l1Exit h, .pcieLinkUp h, .pcieLinkLost h, .ltrSend h], exec c s = .next s := by
  have hno {p : Prop} : ¬(h < 2 ∧ p) := fun hp => absurd hp.1 (not_lt.mpr hh)
  simp only [List.forall_mem_cons, List.not_mem_nil, IsEmpty.forall_iff, implies_true, and_true]
  exact ⟨Answer.of_neg hno rfl, Answer.of_neg hno rfl, Answer.of_neg hno rfl, Answer.of_neg hno rfl, Answer.of_neg hno rfl⟩

/-- LTR of a link that is up carries its register's latency, rounded up, or none for 0. -/
theorem exec_ltrSend {s : State} {h : Nat} (hh : h < 2) (hup : s.pcie h ≠ 0) :
    exec (.ltrSend h) s = .next (s.emit (.ltr h (if s.getF (R.pwrLtr h) 29 0 = 0 then none
      else some (ltrRound (s.getF (R.pwrLtr h) 29 0) 5 1)))) :=
  Answer.of_pos ⟨hh, hup⟩ rfl

/-! ### D3hot and its end -/

section
variable {s : State} {func b : Nat} {f : Requester} (hfunc : func = 0 ∨ func = 1 ∨ func = 7) (hf : f = requesterOf func 0)
  (hb : b = Requester.d3Bit f)
include hfunc hf hb

/-- D3hot sets the function's bit; a function that was awake with vectors pending asks to be woken. -/
theorem exec_d3hotEntry {pmeEn : Bool} {t : State} (ht : t = State.setBit { s with pwr := { s.pwr with
      pmeEn := (if pmeEn = true then [b] else []) ++ s.pwr.pmeEn.filter (· != b) } } R.pwrD3 b true) :
    exec (.d3hotEntry func pmeEn) s = .next (if s.inD3 f = false ∧ ((s.family func).any (fun fn =>
        (s.vecsOf fn).any (fun v => decide (0 < (s.vec (vecKey fn v)).pending)))) = true then t.setPme f else t) := by
  subst ht hb hf
  exact Answer.of_pos hfunc rfl

/-- The return to D0 writes what was held, fires what is pending and resumes the reads. -/
theorem exec_d0Return {pmeEn clear : Bool} {mine : List HeldWrite} {t u : State}
    (hmine : mine = s.pwr.held.filter (fun h => s.crOwner h.ring == f))
    (ht : t = State.setBit { s with pwr := { s.pwr with
      held := s.pwr.held.filter (fun h => s.crOwner h.ring != f),
      pmeEn := (if pmeEn = true then [b] else []) ++ s.pwr.pmeEn.filter (· != b) } } R.pwrD3 b false)
    (hu : u = forEach mine (fun h (x : State) => x.finishRecord h) (if clear = true then t.setBit R.pwrD3 (8 + b) false else t)) :
    exec (.d0Return func pmeEn clear) s = .next (((forEach (mine.filterMap (fun h => h.idx.map (fun _ => h.qid)))
      (fun q (x : State) => x.drainQueue q) u).fireAll func).readsResume f) := by
  subst hu ht hmine hb hf
  exact Answer.of_pos hfunc rfl

end

/-- A row of a number that is no function does nothing. -/
theorem exec_of_no_function {s : State} {func : Nat} (pmeEn clear : Bool) (hfunc : ¬(func = 0 ∨ func = 1 ∨ func = 7)) :
    ∀ c ∈ [Instr.d3hotEntry func pmeEn, .d0Return func pmeEn clear, .pmeResend func], exec c s = .next s := by
  simp only [List.forall_mem_cons, List.not_mem_nil, IsEmpty.forall_iff, implies_true, and_true]
  exact ⟨Answer.of_neg hfunc rfl, Answer.of_neg hfunc rfl, Answer.of_neg (fun h => hfunc h.1) rfl⟩

/-- Settles O60: each power row acts in the states it belongs to, and does nothing elsewhere. -/
theorem powerStatesChange : Obligations.PowerStatesChange := by
  refine fun s => ⟨fun u => ⟨fun hidle => ?awake, fun t hu hasleep ht => ?wakes⟩, fun h hh => ?link, fun h x hh => exec_of_no_link x hh,
    fun func f b hfunc hf hb => ⟨fun pmeEn t ht => ?sleeps, fun pmeEn clear mine t u hmine ht hu => exec_d0Return hfunc hf hb hmine ht hu,
      fun hpme hen => ?resend, fun hidle => ?quiet⟩, fun func pmeEn clear hzero hone hseven => ?none⟩
  case awake =>
    obtain hbeyond | hawake := hidle
    · exact Answer.of_neg (not_lt.mpr hbeyond) rfl
    · refine congrArg Host.Outcome.next ((congrArg (ite _ · s) ?_).trans (ite_self s))
      exact if_pos hawake
  case wakes =>
    have hexec : exec (.powerWake u) s = .next (s.wake u) := Answer.of_pos hu rfl
    rw [hexec, State.wake_of_asleep hasleep ht]
    exact ⟨fun hgroup => by rw [hgroup], fun g hgroup => by rw [hgroup]⟩
  case link =>
    refine ⟨fun x => ⟨fun hpcie hpending hdue => Answer.of_pos ⟨hh, hpcie, hpending, hdue⟩ rfl, fun hidle => ?_⟩,
      fun hpcie => Answer.of_pos ⟨hh, hpcie⟩ rfl, fun hpcie => Answer.of_neg (fun hp => hpcie hp.2) rfl,
      fun hstage hpcie => Answer.of_pos ⟨hh, hstage, hpcie⟩ rfl, fun hidle => ?_, fun hup => Answer.of_pos ⟨hh, hup⟩ rfl,
      fun hdown => ⟨Answer.of_neg (fun hp => hp.2 hdown) rfl, Answer.of_neg (fun hp => hp.2 hdown) rfl⟩, fun hup hltr => ?_,
      fun hup hltr => ?_⟩
    · refine Answer.of_neg ?_ rfl
      rintro ⟨-, hpcie, hpending, hdue⟩
      rw [hpending, hdue] at hidle
      exact hidle.elim (· hpcie) (by decide)
    · refine Answer.of_neg ?_ rfl
      rintro ⟨-, hstage, hpcie⟩
      exact hidle.elim hstage (· hpcie)
    · rw [exec_ltrSend hh hup, if_pos hltr]
    · rw [exec_ltrSend hh hup, if_neg hltr]
  case sleeps =>
    rw [exec_d3hotEntry hfunc hf hb ht]
    refine ⟨fun hawake hany => by rw [if_pos ⟨hawake, hany⟩], fun hidle => ?_⟩
    rw [if_neg]
    rintro ⟨hawake, hany⟩
    rw [hawake, hany] at hidle
    exact absurd hidle (by decide)
  case resend =>
    subst hb hf
    exact Answer.of_pos ⟨hfunc, hpme, hen⟩ rfl
  case quiet =>
    subst hb hf
    refine Answer.of_neg ?_ rfl
    rintro ⟨-, hpme, hen⟩
    rw [hpme, hen] at hidle
    exact absurd hidle (by decide)
  case none => exact exec_of_no_function pmeEn clear (by simp [hzero, hone, hseven])

end Sys2Proof.Machine
end

section
/-! Management requests (R459, R472, R473, R476): which row takes one, and what it does. -/

namespace Sys2Proof.Machine

/-! ### How a request that waits is taken -/

section
variable {s : State} {r : Road} {msg b : List Byte} {n op : Nat}

theorem State.serve_of_nothing (h : s.requestOn r msg = none ∨ (s.fwRuns = false ∧ (s.inRecovery = false ∨ r ≠ .mailbox 2)))
    (want : Option Nat) : s.serve r msg want = s := by
  unfold State.serve
  cases hreq : s.requestOn r msg with
  | none => rfl
  | some e =>
    obtain ⟨hruns, hroad⟩ := h.resolve_left (by rw [hreq]; exact Option.some_ne_none e)
    refine if_pos ?_
    rw [hruns]
    obtain hrec | hroad := hroad
    · rw [hrec]
      rfl
    · simp [hroad]

variable (hreq : s.requestOn r msg = some (b, n)) (hserver : s.fwRuns = true ∨ (s.inRecovery = true ∧ r = .mailbox 2))
include hreq hserver

/-- A request that has a server goes by its length and code, then by the row, the road and RECOVERY. -/
theorem State.serve_of_server : s.serve r msg (some op) =
    if (decide (n < 8) || decide (4096 < n) || leAt b 4 2 != n || !opcodes.contains (leAt b 0 2)) = true then s.reply r b 0x03 []
    else if op ≠ leAt b 0 2 then s
    else if roadServes r (leAt b 0 2) = false then s.reply r b 0x03 []
    else if s.inRecovery = true ∧ leAt b 0 2 ≠ 0x13 then s.reply r b 0x02 []
    else (s.doRequest (leAt b 0 2) b).1.reply r b (s.doRequest (leAt b 0 2) b).2.1 (s.doRequest (leAt b 0 2) b).2.2 := by
  have hopen : ¬(!(s.fwRuns || (s.inRecovery && r == .mailbox 2))) = true := by
    obtain hruns | ⟨hrec, hroad⟩ := hserver
    · simp [hruns]
    · simp [hrec, hroad]
  unfold State.serve
  rw [hreq]
  dsimp only
  rw [if_neg hopen]
  simp

/-- One of a wrong length or an unknown code is answered with CHECK. -/
theorem State.serve_of_bad (hbad : n < 8 ∨ 4096 < n ∨ leAt b 4 2 ≠ n ∨ opcodes.contains (leAt b 0 2) = false) :
    s.serve r msg (some op) = s.reply r b 0x03 [] := by
  rw [State.serve_of_server hreq hserver, if_pos]
  simpa [or_assoc] using hbad

variable (hmin : 8 ≤ n) (hmax : n ≤ 4096) (hlen : leAt b 4 2 = n) (hop : opcodes.contains (leAt b 0 2) = true)
include hmin hmax hlen hop

theorem State.serve_of_good : s.serve r msg (some op) =
    if op ≠ leAt b 0 2 then s
    else if roadServes r (leAt b 0 2) = false then s.reply r b 0x03 []
    else if s.inRecovery = true ∧ leAt b 0 2 ≠ 0x13 then s.reply r b 0x02 []
    else (s.doRequest (leAt b 0 2) b).1.reply r b (s.doRequest (leAt b 0 2) b).2.1 (s.doRequest (leAt b 0 2) b).2.2 := by
  rw [State.serve_of_server hreq hserver, if_neg]
  simpa [hlen, hmin, hmax] using hop

/-- One of the row's code goes by its road, by RECOVERY, and is done. -/
theorem State.serve_of_own (hown : leAt b 0 2 = op) :
    (roadServes r op = false → s.serve r msg (some op) = s.reply r b 0x03 []) ∧
    (roadServes r op = true → s.inRecovery = true → op ≠ 0x13 → s.serve r msg (some op) = s.reply r b 0x02 []) ∧
    (roadServes r op = true → s.inRecovery = false ∨ op = 0x13 → s.serve r msg (some op) =
      (s.doRequest op b).1.reply r b (s.doRequest op b).2.1 (s.doRequest op b).2.2) := by
  rw [State.serve_of_good hreq hserver hmin hmax hlen hop, hown, if_neg (not_not_intro rfl)]
  refine ⟨fun hroad => if_pos hroad, fun hroad hrec hload => ?_, fun hroad hopen => ?_⟩
  · rw [if_neg (by rw [hroad]; decide), if_pos ⟨hrec, hload⟩]
  · rw [if_neg (by rw [hroad]; decide), if_neg]
    rintro ⟨hrec, hload⟩
    rw [hrec] at hopen
    exact hload (hopen.resolve_left (by decide))

end

/-! ### What the requests do -/

section
variable (s : State) (b : List Byte)

/-- A request about a board entry: the entry, a plan in force, then its effect. -/
theorem State.doView_eq (set : Bool) : s.doView b set = if 231 < leAt b 8 2 then (s, 0x03, [])
    else if s.hasPlan = false then (s, 0x02, [])
    else if set = true then (s.overrideView (leAt b 8 2) (leAt b 10 1 % 16), 0x00, [])
    else ({ s with mgt := { s.mgt with overrides := s.mgt.overrides.filter (· != leAt b 8 2) } }, 0x00, []) := by
  simp only [State.doView, Bool.not_eq_true']

/-- With neither copy running there is no copy to write. -/
theorem State.spareCopy_none (h : 2 ≤ s.getF R.secBootStatus 1 0) : s.spareCopy = none := if_neg (not_lt.mpr h)

theorem State.spareCopy_some (h : s.getF R.secBootStatus 1 0 < 2) : s.spareCopy = some (1 - s.getF R.secBootStatus 1 0) :=
  if_pos h

theorem State.doFw_of_no_copy (h : s.spareCopy = none) :
    s.doFwWrite b = (s, 0x02, []) ∧ s.doFwVerify = (s, 0x02, []) ∧ s.doFwActivate = (s, 0x02, []) := by
  unfold State.doFwWrite State.doFwVerify State.doFwActivate
  rw [h]
  exact ⟨rfl, rfl, rfl⟩

section
variable {s b} {c : Nat} (h : s.spareCopy = some c)
include h

theorem State.doFwWrite_eq : s.doFwWrite b = if 4064 < (b.drop 12).length ∨ 4194304 < leAt b 8 4 + (b.drop 12).length then (s, 0x03, [])
    else (s.norWrite (0x100000 + c * 0x400000 + leAt b 8 4) (b.drop 12), 0x00, []) := by
  unfold State.doFwWrite
  rw [h]
  rfl

theorem State.doFwVerify_eq {e : Nat} (he : e = s.fwCode (s.norRead (0x100000 + c * 0x400000) 4194304)) :
    s.doFwVerify = ({ s with boot := { s.boot with lastVerify := some e } }, 0x00, leBytes 1 e) := by
  subst he
  unfold State.doFwVerify
  rw [h]
  rfl

theorem State.doFwActivate_eq : s.doFwActivate = if s.boot.lastVerify = some 0 then
      (s.norWrite 0 (beBytes 4 0x4F544244 ++ leBytes 4 c ++ leBytes 4 (crc32c (beBytes 4 0x4F544244 ++ leBytes 4 c)).toNat), 0x00, [])
    else (s, 0x02, []) := by
  unfold State.doFwActivate
  rw [h]

end

/-- PLAN_WRITE: a plan state that allows it, channel 0 READY, then the room of the staging area. -/
theorem State.doPlanWrite_eq : s.doPlanWrite b = if s.planState ∉ [0, 1, 3, 4] then (s, 0x02, [])
    else if s.getF (R.memChStatus 0) 2 0 ≠ 2 then (s, 0x0D, [])
    else if 16777216 < leAt b 8 4 + (b.drop 12).length then (s, 0x03, [])
    else (s.ddrWrite (leAt b 8 4) (b.drop 12), 0x00, []) := by
  unfold State.doPlanWrite
  dsimp only
  rw [stageStates]
  simp only [decide_eq_true_eq]
  rfl

theorem State.doSlotWrite_eq : s.doSlotWrite b = if 16777216 < leAt b 8 4 + (b.drop 12).length then (s, 0x03, [])
    else (s.norWrite (0x1000000 + leAt b 8 4) (b.drop 12), 0x00, []) := rfl

end

/-- Settles O56: a row serves the request of its code on the roads that serve it, and the requests have their effects. -/
theorem requestsAreServedAndAnswered : Obligations.RequestsAreServedAndAnswered := by
  refine ⟨fun s r msg p hp => ?served, fun s b d u o hu ho hd => ?done⟩
  case served =>
    have hexec : exec p.2 s = .next (s.serve r msg (some p.1)) := by
      revert p
      simp only [List.forall_mem_cons, List.not_mem_nil, IsEmpty.forall_iff, implies_true, and_true]
      refine ⟨?_, ?_, ?_, ?_, ?_, ?_, ?_, ?_, ?_, ?_, ?_, ?_, ?_, ?_⟩ <;> rfl
    rw [hexec]
    refine ⟨fun b n hreq hserver => ⟨fun hbad => ?_, fun hmin hmax hlen hop => ⟨fun hother => ?_, fun hown => ?_⟩⟩, fun hnone => ?_⟩
    · rw [State.serve_of_bad hreq hserver hbad]
    · rw [State.serve_of_good hreq hserver hmin hmax hlen hop, if_pos (Ne.symm hother)]
    · obtain ⟨hforeign, hwait, hdone⟩ := State.serve_of_own hreq hserver hmin hmax hlen hop hown
      exact ⟨fun hroad => congrArg _ (hforeign hroad), fun hroad hrec hload => congrArg _ (hwait hroad hrec hload),
        fun hroad hopen => congrArg _ (hdone hroad hopen)⟩
    · rw [State.serve_of_nothing hnone]
  case done =>
    subst hu ho hd
    refine ⟨?reads, fun hbeyond => ?beyond, fun hu hplan => ?noPlan, fun hu hplan => ?views, fun c hc => ⟨fun hnone => ?noCopy,
      fun hcopy => ⟨fun hlen hroom => ?write, fun hlong => ?long, fun e he => ?verify, fun hbad => ?unverified, fun e hgood he => ?activate⟩⟩,
      fun hrec => ?load, fun hstate hready => ⟨fun hroom => ?plan, fun hlong => ?planLong⟩, fun hzero hone hthree hfour => ?planState,
      fun hroom => ?slot, fun hlong => ?slotLong, rfl, rfl⟩
    case reads =>
      rintro op (rfl | rfl | rfl | rfl)
      all_goals exact ⟨rfl, rfl⟩
    case beyond => exact ⟨if_pos hbeyond, if_pos hbeyond⟩
    case noPlan =>
      have hset (set : Bool) : s.doView b set = (s, 0x02, []) := by rw [State.doView_eq, if_neg (not_lt.mpr hu), if_pos hplan]
      exact ⟨hset true, hset false⟩
    case views =>
      have hno : ¬s.hasPlan = false := by rw [hplan]; decide
      constructor
      · exact (State.doView_eq s b true).trans ((if_neg (not_lt.mpr hu)).trans ((if_neg hno).trans (if_pos rfl)))
      · exact (State.doView_eq s b false).trans ((if_neg (not_lt.mpr hu)).trans ((if_neg hno).trans (if_neg (by decide))))
    case noCopy => exact State.doFw_of_no_copy s b (State.spareCopy_none s (hc ▸ hnone))
    case write =>
      subst hc
      exact (State.doFwWrite_eq (State.spareCopy_some s hcopy)).trans (if_neg (by omega))
    case long =>
      subst hc
      exact (State.doFwWrite_eq (State.spareCopy_some s hcopy)).trans (if_pos hlong)
    case verify =>
      subst hc
      exact State.doFwVerify_eq (State.spareCopy_some s hcopy) he
    case unverified =>
      subst hc
      exact (State.doFwActivate_eq (State.spareCopy_some s hcopy)).trans (if_neg hbad)
    case activate =>
      subst hc he
      exact (State.doFwActivate_eq (State.spareCopy_some s hcopy)).trans (if_pos hgood)
    case load => exact if_pos (by rw [hrec]; rfl)
    case plan =>
      exact (State.doPlanWrite_eq s b).trans ((if_neg (not_not_intro (by simpa using hstate))).trans
        ((if_neg (not_not_intro hready)).trans (if_neg (not_lt.mpr hroom))))
    case planLong =>
      exact (State.doPlanWrite_eq s b).trans ((if_neg (not_not_intro (by simpa using hstate))).trans
        ((if_neg (not_not_intro hready)).trans (if_pos hlong)))
    case planState => exact (State.doPlanWrite_eq s b).trans (if_pos (by simp [hzero, hone, hthree, hfour]))
    case slot => exact (State.doSlotWrite_eq s b).trans (if_neg (not_lt.mpr hroom))
    case slotLong => exact (State.doSlotWrite_eq s b).trans (if_pos hlong)
end Sys2Proof.Machine
end

section
/-! SPDM, MCTP and the SGMII port (R462, R469 to R471, R474). -/

namespace Sys2Proof.Machine

/-- A request that the binding's connection state allows, of a device with an identity, is answered and moves it on. -/
theorem State.spdm_of_allowed {s : State} {smbus : Bool} {need : Nat} {next : Nat → Nat} (msg : List Byte) (hruns : s.fwRuns = true)
    (hid : s.bit R.secBootStatus 2 = false) (hneed : need ≤ s.spdmState smbus) {t : State}
    (ht : t = { s with mgt := { s.mgt with spdm := Tab.put (fun _ => 0) s.mgt.spdm smbus.toNat (next (s.spdmState smbus)) } }) :
    s.spdm smbus msg need next =
      t.emit (.mgtMessage smbus.toNat (Config.spdmReply (t.spdmContext (s.spdmState smbus)) msg)) := by
  subst ht
  unfold State.spdm
  rw [hruns, hid]
  exact (if_neg (by decide)).trans (if_neg (by simpa using hneed))

theorem State.spdm_of_refused {s : State} {smbus : Bool} {need : Nat} {next : Nat → Nat} (msg : List Byte) (hruns : s.fwRuns = true)
    (hrefused : s.bit R.secBootStatus 2 = true ∨ s.spdmState smbus < need) :
    s.spdm smbus msg need next = s.emit (.mgtMessage smbus.toNat (Config.spdmError msg)) := by
  unfold State.spdm
  rw [hruns]
  exact (if_neg (by decide)).trans (if_pos (by simpa using hrefused))

theorem State.spdm_of_stopped {s : State} (smbus : Bool) (msg : List Byte) (need : Nat) (next : Nat → Nat)
    (hruns : s.fwRuns = false) : s.spdm smbus msg need next = s :=
  if_pos (by rw [hruns]; rfl)

/-- A row of a request that asks for connection state `need` and leaves state `after`. -/
theorem exec_spdm {c : Instr} {s : State} {smbus : Bool} {msg : List Byte} {need after : Nat} {next : Nat → Nat}
    (hc : exec c s = .next (s.spdm smbus msg need next)) (hafter : next (s.spdmState smbus) = after) :
    (s.fwRuns = true → s.bit R.secBootStatus 2 = false → need ≤ s.spdmState smbus → ∀ t : State,
      t = { s with mgt := { s.mgt with spdm := Tab.put (fun _ => 0) s.mgt.spdm smbus.toNat after } } →
      exec c s = .next (t.emit (.mgtMessage smbus.toNat (Config.spdmReply (t.spdmContext (s.spdmState smbus)) msg)))) ∧
    (s.fwRuns = true → s.bit R.secBootStatus 2 = true ∨ s.spdmState smbus < need →
      exec c s = .next (s.emit (.mgtMessage smbus.toNat (Config.spdmError msg)))) ∧
    (s.fwRuns = false → exec c s = .next s) := by
  subst hafter
  rw [hc]
  exact ⟨fun hruns hid hneed t ht => congrArg _ (State.spdm_of_allowed msg hruns hid hneed ht),
    fun hruns hrefused => congrArg _ (State.spdm_of_refused msg hruns hrefused),
    fun hruns => congrArg _ (State.spdm_of_stopped smbus msg need next hruns)⟩

section
variable {s : State} {b : List Byte} (hruns : s.fwRuns = true) (hon : s.bit R.secBootStatus 27 = true) (hip : s.mgtIp ≠ 0)
include hruns hon hip

/-- A frame on the SGMII port that is enabled and has an address. -/
theorem exec_mgtPortReceive {ip : Nat → List Byte} (hck : ∀ ck, ip ck = slice b 14 10 ++ beBytes 2 ck ++ slice b 30 4 ++ slice b 26 4) :
    exec (.mgtPortReceive b) s = .next (
      if beAt b 12 2 = 0x0806 ∧ beAt b 20 2 = 1 ∧ beAt b 38 4 = s.mgtIp then
        s.emit (.mgtMessage 2 (slice b 6 6 ++ beBytes 6 Config.mgtMac ++ slice b 12 8 ++ beBytes 2 2 ++ beBytes 6 Config.mgtMac ++
          beBytes 4 s.mgtIp ++ slice b 22 10))
      else if beAt b 12 2 = 0x0800 ∧ beAt b 14 1 = 0x45 ∧ beAt b 30 4 = s.mgtIp then
        if beAt b 23 1 = 1 ∧ beAt b 34 2 = 0x0800 then
          s.emit (.mgtMessage 2 (slice b 6 6 ++ beBytes 6 Config.mgtMac ++ slice b 12 2 ++ ip (ipCheck (ip 0)) ++ [0, 0] ++
            beBytes 2 (ipCheck (slice b 38 (beAt b 16 2 - 24))) ++ slice b 38 (beAt b 16 2 - 24)))
        else if beAt b 23 1 = 17 ∧ beAt b 36 2 = 41280 then
          s.serve (.sgmii (slice b 0 42)) (slice b 42 (beAt b 38 2 - 8)) none
        else s
      else s) := by
  obtain rfl := funext hck
  exact Answer.of_neg (by simp [hruns, hon, hip]) rfl

end

/-- Settles O57: each request follows its binding's connection, and a frame of the SGMII port is answered by its kind. -/
theorem attestationFollowsItsConnection : Obligations.AttestationFollowsItsConnection := by
  refine fun s smbus msg => ⟨?spdm, fun eid => ⟨fun hruns => Answer.of_pos hruns rfl,
    fun hruns => Answer.of_neg (by rw [hruns]; decide) rfl⟩, fun b => ⟨fun hruns hon hip => ?port, fun hidle => ?idle⟩⟩
  case spdm =>
    simp only [List.forall_mem_cons, List.not_mem_nil, IsEmpty.forall_iff, implies_true, and_true]
    exact ⟨exec_spdm rfl rfl, exec_spdm rfl rfl, exec_spdm rfl rfl, exec_spdm rfl rfl, exec_spdm rfl rfl, exec_spdm rfl rfl,
      exec_spdm rfl rfl⟩
  case port =>
    have hexec := exec_mgtPortReceive (b := b) hruns hon hip (fun _ => rfl)
    refine ⟨fun htype hop haddr => Answer.of_pos ⟨htype, hop, haddr⟩ hexec, fun htype hver haddr => ?_, fun harp hipv4 => ?_⟩
    · have hnarp : ¬(beAt b 12 2 = 0x0806 ∧ beAt b 20 2 = 1 ∧ beAt b 38 4 = s.mgtIp) := by
        rw [htype]
        exact fun h => absurd h.1 (by decide)
      refine ⟨?_, fun hproto hport => ?_, fun hecho hudp => ?_⟩
      · rintro ip rest hproto hkind rfl hck
        exact Answer.of_pos ⟨hproto, hkind⟩ (Answer.of_pos ⟨htype, hver, haddr⟩ (Answer.of_neg hnarp
          (exec_mgtPortReceive hruns hon hip hck)))
      · refine Answer.of_pos ⟨hproto, hport⟩ (Answer.of_neg ?_ (Answer.of_pos ⟨htype, hver, haddr⟩ (Answer.of_neg hnarp hexec)))
        rw [hproto]
        exact fun h => absurd h.1 (by decide)
      · exact Answer.of_neg (not_and_or.mpr hudp) (Answer.of_neg (not_and_or.mpr hecho)
          (Answer.of_pos ⟨htype, hver, haddr⟩ (Answer.of_neg hnarp hexec)))
    · refine Answer.of_neg ?_ (Answer.of_neg ?_ hexec)
      · simpa only [not_and_or] using hipv4
      · simpa only [not_and_or] using harp
  case idle =>
    refine Answer.of_pos ?_ rfl
    simpa [or_assoc] using hidle

end Sys2Proof.Machine
end

section
/-! Management resets, sensors and views (R28, R476, R478 to R480). -/

namespace Sys2Proof.Machine

/-! ### The end of a management reset -/

/-- The firmware runs again: RESTART, where it waits, completes. -/
theorem State.mgtUp_eq {s t : State} (ht : t = { s with pwr := { s.pwr with mgtReset := false, mgtReload := false, mgtRom := false } }) :
    s.mgtUp = if t.bit R.mgtCtlStatus 0 = true then (t.setBit R.mgtCtlStatus 0 false).finish R.mgtCtlStatus R.mgtCtlStatus 0x00
      else t := by
  subst ht
  rfl

/-- With nothing that keeps the processor from running, a management reset ends, by way of the copies where they are read anew. -/
theorem exec_mgtRestartDone {s : State} (hreset : s.pwr.mgtReset = true) (hrom : s.pwr.mgtRom = false)
    (hclock : s.pwr.stopped.contains 3 = false) {a : State × Bool} {t : State} (ha : a = s.tryCopies s.copyOrder)
    (ht : t = if a.2 then a.1 else (a.1.tryCopies (s.copyOrder.drop 1)).1) :
    exec .mgtRestartDone s = .next (if s.pwr.mgtReload = true then
      if t.getF R.secBootStatus 1 0 = 2 then { t with pwr := { t.pwr with mgtReload := false, mgtRom := true } } else t.mgtUp
      else s.mgtUp) := by
  subst ht ha
  exact Answer.of_neg (by rw [hreset, hrom, hclock]; decide) rfl

/-! ### Sensors -/

/-- A sample of a device that is not in PORST, or was shut down, shows; then the temperature alarms follow its highest value. -/
theorem exec_sensorSample {s t u v : State} {temps : List Int} {rails : List (Nat × Nat)} {amps : Nat} {top : Int}
    (hlive : s.boot.stage ≠ 0 ∨ s.boot.shutdown = true) (htop : top = (temps.take 16).foldl max (temps.headD 0))
    (ht : t = ((forEach (List.range 16) (fun i (x : State) => x.wrN (R.mgtTemp i) (unsigned 12 (temps.getD i 0))) s).wrN R.mgtTempMax
      (unsigned 12 top)).wrN R.mgtCurr (amps % 65536))
    (hu : u = forEach (List.range 9) (fun r (x : State) => (x.wrN (R.mgtVolt r) ((rails.getD r (0, 0)).1 % 65536)).condition
      (Src.voltAlarm r) [] (railOut r (rails.getD r (0, 0)).1 && decide (10000 ≤ (rails.getD r (0, 0)).2))) t)
    (hv : v = State.condition { u with pwr := { u.pwr with
      railOut := (List.range 9).any (fun r => railOut r (rails.getD r (0, 0)).1) } } Src.currAlarm []
      (decide (u.getF R.mgtCurrLimit 15 0 < amps)))
    {w : State} (hw : w = if 460 ≤ top then v.condition Src.tempWarn [] true
      else if top < 440 then v.condition Src.tempWarn [] false else v) :
    exec (.sensorSample temps rails amps) s = .next (
      if 520 ≤ top ∧ signed 12 (s.getF R.mgtTempMax 11 0) < 520 ∧ s.boot.shutdown = false then
        (w.raise Src.tempCrit []).shutDown else w) := by
  subst hw hv hu ht htop
  refine Answer.of_neg ?_ rfl
  obtain hstage | hshut := hlive
  · simp [hstage]
  · simp [hshut]

/-! ### Views -/

/-- A write of a management view by a requester that reaches it. -/
theorem exec_mgViewWrite {s : State} {req : Requester} {u : Nat} {v : Reg} (hstage : 6 ≤ s.boot.stage)
    (hpf : (s.acting req).vfNum = 0) (hclock : s.clockStopped (R.topUsbMg u) = false) :
    exec (.mgViewWrite req u v) s = .next (match (generalizing := false) req with
      | .pf7 _ => if (decide (u < 232) && s.hasPlan) = true then s.overrideView u (fld v 3 0) else s.inc R.topUsbWrDrop
      | .mgmt => if (!(decide (u < 232) && s.hasPlan)) = true then s.inc R.topUsbWrDrop
        else if s.mgt.overrides.contains u = true then s else s.setMgView u (fld v 3 0)
      | _ => s.inc R.topUsbWrDrop) := by
  refine congrArg Host.Outcome.next ((if_neg ?_).trans ((if_neg (by rw [hclock]; decide)).trans rfl))
  rw [not_or, not_lt, not_not]
  exact ⟨hstage, hpf⟩

/-- Settles O58: a management reset ends where nothing holds it, a sample shows with its alarms, and a view goes by its writer. -/
theorem managementRestartsAndSamples : Obligations.ManagementRestartsAndSamples := by
  refine fun s => ⟨fun req h => exec_of_reaches h rfl rfl, fun sram => ⟨fun hruns => Answer.of_pos hruns rfl,
      fun hruns => Answer.of_neg (by rw [hruns]; decide) rfl⟩, fun hreset hrom hclock => ⟨fun hreload => ?resume,
        fun a t hreload ha ht => ?reload⟩, fun hidle => ?idle, fun t ht => ?up,
    fun temps rails amps => ⟨fun hstage hshut => ?porst, fun hlive top t u v w htop ht hu hv hhot hcool hwarm => ?sample⟩,
    fun req u v => ⟨fun hstage hpf hclock => ?views, fun hidle => Answer.of_pos ?_ rfl, fun hstage hpf hclock => ?stopped⟩⟩
  case resume => exact Answer.of_neg (by rw [hreload]; decide) (exec_mgtRestartDone hreset hrom hclock rfl rfl)
  case reload =>
    have hexec := Answer.of_pos hreload (exec_mgtRestartDone hreset hrom hclock ha ht)
    exact ⟨fun hrec => Answer.of_pos hrec hexec, fun hrec => Answer.of_neg hrec hexec⟩
  case idle =>
    refine Answer.of_pos ?_ rfl
    simpa [or_assoc] using hidle
  case up =>
    rw [State.mgtUp_eq ht]
    exact ⟨fun hnone => if_neg (by rw [hnone]; decide), fun hwait => if_pos hwait⟩
  case porst => exact Answer.of_pos (by rw [hstage, hshut]; rfl) rfl
  case sample =>
    have hw : w = if 460 ≤ top then v.condition Src.tempWarn [] true
        else if top < 440 then v.condition Src.tempWarn [] false else v := by
      split
      next h => exact hhot h
      next h =>
        split
        next hlow => exact hcool hlow
        next hlow => exact hwarm (not_lt.mp hlow) (not_le.mp h)
    have hexec := exec_sensorSample hlive htop ht hu hv hw
    refine ⟨fun hcrit hwas hshut => Answer.of_pos ⟨hcrit, hwas, hshut⟩ hexec, fun hidle => Answer.of_neg ?_ hexec⟩
    rintro ⟨hcrit, hwas, hshut⟩
    rw [hshut] at hidle
    obtain hlow | hhigh | hfalse := hidle
    · exact absurd hcrit (not_le.mpr hlow)
    · exact absurd hwas (not_lt.mpr hhigh)
    · exact absurd hfalse (by decide)
  case views =>
    rw [exec_mgViewWrite hstage hpf hclock]
    refine ⟨fun hu hplan => ?_, fun hillegal => ?_, fun hpf7 hmgmt => ?_⟩
    · have hlegal : (decide (u < 232) && s.hasPlan) = true := by rw [decide_eq_true hu, hplan]; rfl
      refine ⟨?_, ?_, ?_⟩
      · rintro b rfl
        exact congrArg _ (if_pos hlegal)
      · rintro rfl hover
        exact congrArg _ ((if_neg (by rw [hlegal]; decide)).trans (if_pos hover))
      · rintro rfl hover
        exact congrArg _ ((if_neg (by rw [hlegal]; decide)).trans (if_neg (by rw [hover]; decide)))
    · have hlegal : (decide (u < 232) && s.hasPlan) = false := by
        rw [Bool.and_eq_false_iff, decide_eq_false_iff_not, not_lt]
        exact hillegal
      cases req with
      | pf7 b => exact congrArg _ (if_neg (by rw [hlegal]; decide))
      | mgmt => exact congrArg _ (if_pos (by rw [hlegal]; rfl))
      | pf0 | pf1 | vf | wq => rfl
    · cases req with
      | pf7 b => exact absurd rfl (hpf7 b)
      | mgmt => exact absurd rfl hmgmt
      | pf0 | pf1 | vf | wq => rfl
  case stopped =>
    refine congrArg Host.Outcome.next ((if_neg ?_).trans (if_pos hclock))
    rw [not_or, not_lt, not_not]
    exact ⟨hstage, hpf⟩
  exact hidle

end Sys2Proof.Machine
end

section
/-! Register accesses (R3 to R6, R487 to R489, R522, R523): what a read answers, what a write does. -/

namespace Sys2Proof.Machine

/-! ### Sizes and alignment -/

/-- A request of 4 octets is one access, of 8 two, and of any other size or alignment none. -/
theorem Answer.of_size {a : Answer} {size off : Nat} {one two none : State}
    (h : a = .next (if size = 4 ∧ off % 4 = 0 then one else if size = 8 ∧ off % 8 = 0 then two else none)) :
    (size = 4 → off % 4 = 0 → a = .next one) ∧ (size = 8 → off % 8 = 0 → a = .next two) ∧
      ((size ≠ 4 ∨ off % 4 ≠ 0) → (size ≠ 8 ∨ off % 8 ≠ 0) → a = .next none) := by
  refine ⟨fun hs ho => Answer.of_pos ⟨hs, ho⟩ h, fun hs ho => Answer.of_pos ⟨hs, ho⟩ (Answer.of_neg ?_ h),
    fun hfour height => Answer.of_neg (not_and_or.mpr height) (Answer.of_neg (not_and_or.mpr hfour) h)⟩
  rw [hs]
  exact fun hfour => absurd hfour.1 (by decide)

/-! ### What a read answers -/

theorem not_unserved {s : State} {req : Requester} {k : Nat} (h : 6 ≤ s.boot.stage ∨ s.romServes req k = true) :
    ¬(s.boot.stage < 6 ∧ s.romServes req k = false) := by
  rintro ⟨hboot, hrom⟩
  rw [hrom] at h
  exact h.elim (fun h => absurd hboot (not_lt.mpr h)) (by decide)

section
variable {s u : State} {req : Requester} {off k w : Nat} {d : RegDesc}

theorem State.readOne_beyond (h : s.barSize req ≤ off) : s.readOne req off = s.answer req none := by
  unfold State.readOne State.busRead
  rw [if_pos (Or.inl h)]

variable (hoff : off < s.barSize req) (halign : off % 4 = 0)
include hoff halign

theorem State.readOne_nothing (hreg : s.busReg req off = .nothing) (hboot : 6 ≤ s.boot.stage) :
    s.readOne req off = s.answer req (some 0) := by
  unfold State.readOne State.busRead
  rw [if_neg (by omega), hreg]
  dsimp only
  rw [if_neg (by omega)]

variable (hreg : s.busReg req off = .reg k)
include hreg

/-- A word of a register goes by who serves it, then by its clock. -/
theorem State.busRead_reg : s.busRead req off = if s.boot.stage < 6 ∧ s.romServes req k = false then (none, s)
    else if s.clockStopped k = true then (some 0xFFFFFFFF, s.csrTimeout k)
    else (some ((s.wakeReg k).readKey req k).1, ((s.wakeReg k).readKey req k).2) := by
  unfold State.busRead
  rw [if_neg (by omega), hreg]

theorem State.readOne_unserved (hboot : s.boot.stage < 6) (hrom : s.romServes req k = false) :
    s.readOne req off = s.answer req none := by
  unfold State.readOne
  rw [State.busRead_reg hoff halign hreg, if_pos ⟨hboot, hrom⟩]

variable (hserved : 6 ≤ s.boot.stage ∨ s.romServes req k = true)
include hserved

theorem State.readOne_stopped (hclock : s.clockStopped k = true) :
    s.readOne req off = (s.raise (Src.csrTimeout (blockOf k)) []).answer req (some 0xFFFFFFFF) := by
  unfold State.readOne
  rw [State.busRead_reg hoff halign hreg, if_neg (not_unserved hserved), if_pos hclock]
  rfl

/-- A register whose clock runs is woken and read. -/
theorem State.readOne_running (hclock : s.clockStopped k = false) (hu : u = s.wakeReg k) :
    s.readOne req off = (u.readKey req k).2.answer req (some (u.readKey req k).1) := by
  subst hu
  unfold State.readOne
  rw [State.busRead_reg hoff halign hreg, if_neg (not_unserved hserved), if_neg (by rw [hclock]; decide)]

end

/-! ### What the read of a register does -/

section
variable {u : State} {k w : Nat} {d : RegDesc} (req : Requester) (hd : findReg regTable k = some (d, w))
include hd

theorem State.readKey_single (hwide : d.wide = false) :
    u.readKey req k = (u.regView k, if d.rc = true then u.wr k 0 else u) := by
  unfold State.readKey
  rw [hd]
  dsimp only
  rw [if_neg (by rw [hwide]; decide)]

theorem State.readKey_first (hwide : d.wide = true) (hw : w = 0) {t : State} (ht : t = u.setWide { u.wideOf req with
      latchReg := some k, latched := (List.range (d.words - 1)).map (fun i => u.regView (k + 4 * (i + 1))) }) :
    u.readKey req k = (u.regView k, if d.rc = true then t.wrWords k (List.replicate d.words 0) else t) := by
  subst hw ht
  unfold State.readKey
  rw [hd]
  exact (if_pos hwide).trans (if_pos rfl)

theorem State.readKey_later (hwide : d.wide = true) (hw : 0 < w) (hlatch : (u.wideOf req).latchReg = some (k - 4 * w)) :
    u.readKey req k = ((u.wideOf req).latched.getD (w - 1) 0, u) := by
  unfold State.readKey
  rw [hd]
  dsimp only
  rw [if_pos hwide, if_neg hw.ne', if_pos hlatch]

end

/-! ### Where a write goes -/

/-- Whether a write of a register acts depends on the register alone. -/
theorem actingWrite_none {k : Nat} (h : (actingWrite .pf0 k 0).isSome = false) (r : Requester) (v : Reg) : actingWrite r k v = none := by
  revert h
  unfold actingWrite
  dsimp only
  repeat' split
  all_goals simp

/-- What is written of a plain register once every gate is passed: neither a command nor a register whose write acts. -/
theorem State.writeKey_plain {u : State} {req : Requester} {k : Nat} {v : Reg} (hreach : Reaches u req k) (hplain : plainReg k = true)
    (hhold : u.holdWord req k v = none) : u.writeKey req k v = u.putKey req k v := by
  simp only [plainReg, Bool.not_eq_true', Bool.or_eq_false_iff, Bool.and_eq_false_iff, beq_eq_false_iff_ne, decide_eq_false_iff_not,
    Option.isSome_eq_false_iff, Option.isNone_iff_eq_none] at hplain
  obtain ⟨⟨⟨⟨⟨⟨hcmd, hqueue⟩, hcommand⟩, hacting⟩, hmailbox⟩, harg⟩, hstage⟩ := hplain
  have hacts : actingWrite req k v = none := actingWrite_none (by rw [hacting]; rfl) req v
  unfold State.writeKey
  rw [hhold]
  dsimp only
  rw [if_neg hcmd, if_neg (not_and_or.mpr hqueue), if_neg (by rw [hcommand]; decide), hacts, hmailbox]
  dsimp only
  rw [if_neg (not_or.mpr ⟨harg, not_and_or.mpr hstage⟩), guarded_of_reaches hreach]

section
variable {u : State} {req : Requester} {k w : Nat} {d : RegDesc} {v : Reg} (hd : findReg regTable k = some (d, w))
include hd

/-- A low word of a writable wide register is held. -/
theorem State.holdWord_low (hwide : d.wide = true) (hrw : d.rw ≠ 0) (hact : d.base ≠ R.tickAct 0) (hlow : w + 1 < d.words) :
    u.holdWord req k v = some (u.setWide ((u.wideOf req).hold (k - 4 * w) w v)) := by
  unfold State.holdWord
  rw [hd]
  exact if_pos (by simp [hwide, hrw, hact, hlow])

/-- No word of a register that is not wide, of one that takes no write, and no last word is held. -/
theorem State.holdWord_none (h : d.wide = false ∨ d.rw = 0 ∨ d.words ≤ w + 1) : u.holdWord req k v = none := by
  unfold State.holdWord
  rw [hd]
  refine if_neg ?_
  obtain hwide | hrw | hlast := h
  · simp [hwide]
  · simp [hrw]
  · simp [hlast]

/-! ### What a write that passed every gate does -/

section
variable (hfree : u.ownedBy k = none) (hopen : u.writeBarred k = false)
include hfree hopen

theorem State.putKey_wide (hwide : d.wide = true) : u.putKey req k v = if d.rw = 0 then u
    else State.wrWords (u.setWide ((u.wideOf req).release (k - 4 * w))) (k - 4 * w)
      (maskWords (k - 4 * w) ((u.wideOf req).whole (k - 4 * w) w v)) := by
  unfold State.putKey
  rw [hfree]
  dsimp only
  rw [if_neg (by rw [hopen]; decide), hd]
  exact if_pos hwide

theorem State.putKey_single (hwide : d.wide = false) {m : Reg} {t : State}
    (hm : m = ((v &&& BitVec.ofNat 32 d.rw) ||| (u.rd k &&& ~~~ BitVec.ofNat 32 d.rw &&& ~~~ (BitVec.ofNat 32 d.w1c &&& v)) |||
      (BitVec.ofNat 32 d.w1c &&& u.rd k &&& (u.stickySet k ||| u.setNowOf k))))
    (ht : t = (if isLater k = true then u.wrLater k m else u.wr k m)) :
    u.putKey req k v = match elemAt (R.prtLTxeq 0) 0x1000 128 0 k with | some l => t.txeqWritten l | none => t := by
  have hplain : u.plainWrite k v = t := by
    subst ht hm
    unfold State.plainWrite
    rw [hd]
    rfl
  unfold State.putKey
  rw [hfree]
  dsimp only
  rw [if_neg (by rw [hopen]; decide), hd]
  dsimp only
  rw [if_neg (by rw [hwide]; decide), hplain] <;> rfl

end

end

/-! ### Writes of BAR0 -/

section
variable {s u : State} {req : Requester} {off : Nat} {v : Reg}

theorem State.barWrite_beyond (h : s.barSize req ≤ off) : s.barWrite req .bar0 off v = s := if_pos (Or.inl h)

variable (hoff : off < s.barSize req) (halign : off % 4 = 0)
include hoff halign

theorem State.barWrite_nothing (hreg : s.busReg req off = .nothing) : s.barWrite req .bar0 off v = s := by
  refine (if_neg (by omega)).trans ?_
  rw [hreg]

theorem State.barWrite_reg {k : Nat} (hreg : s.busReg req off = .reg k) (hboot : 6 ≤ s.boot.stage) (hclock : s.clockStopped k = false)
    (hu : u = s.wakeReg k) : s.barWrite req .bar0 off v = u.writeKey req k v := by
  subst hu
  refine (if_neg (by omega)).trans ?_
  rw [hreg]
  dsimp only
  rw [hclock, decide_eq_false (not_lt.mpr hboot)]
  rfl

end

/-- A held word reaches BAR0 while it answers and the clock runs. -/
theorem State.writeKey_held {u t : State} {req : Requester} {k : Nat} {v : Reg} (hhold : u.holdWord req k v = some t)
    (hboot : 6 ≤ u.boot.stage) (hclock : u.clockStopped k = false) : u.writeKey req k v = t := by
  unfold State.writeKey
  rw [hhold]
  exact (if_neg (not_lt.mpr hboot)).trans (if_neg (by rw [hclock]; decide))

/-- A plain register that a write reaches: its owner's counter, a bar, or the value under its types. -/
theorem State.writeKey_of_plain {u : State} {req : Requester} {k w : Nat} {d : RegDesc} {v : Reg} (hd : findReg regTable k = some (d, w))
    (hreach : Reaches u req k) (hplain : plainReg k = true) :
    (∀ c, u.ownedBy k = some c → (d.wide = false ∨ d.words ≤ w + 1) → u.writeKey req k v = u.inc c) ∧
    (u.ownedBy k = none → u.writeBarred k = true → (d.wide = false ∨ d.words ≤ w + 1) → u.writeKey req k v = u) ∧
    (u.ownedBy k = none → u.writeBarred k = false →
      (d.wide = true → d.rw ≠ 0 → w + 1 = d.words → u.writeKey req k v =
        State.wrWords (u.setWide ((u.wideOf req).release (k - 4 * w))) (k - 4 * w)
          (maskWords (k - 4 * w) ((u.wideOf req).whole (k - 4 * w) w v))) ∧
      (d.wide = true → d.rw = 0 → u.writeKey req k v = u) ∧
      (∀ m t, d.wide = false → m = ((v &&& BitVec.ofNat 32 d.rw) |||
          (u.rd k &&& ~~~ BitVec.ofNat 32 d.rw &&& ~~~ (BitVec.ofNat 32 d.w1c &&& v)) |||
          (BitVec.ofNat 32 d.w1c &&& u.rd k &&& (u.stickySet k ||| u.setNowOf k))) →
        t = (if isLater k = true then u.wrLater k m else u.wr k m) →
        (∀ l, elemAt (R.prtLTxeq 0) 0x1000 128 0 k = some l → u.writeKey req k v = t.txeqWritten l) ∧
        (elemAt (R.prtLTxeq 0) 0x1000 128 0 k = none → u.writeKey req k v = t))) := by
  have hput (h : d.wide = false ∨ d.rw = 0 ∨ d.words ≤ w + 1) : u.writeKey req k v = u.putKey req k v :=
    State.writeKey_plain hreach hplain (State.holdWord_none hd h)
  refine ⟨fun c howner hlast => ?owned, fun hfree hbar hlast => ?barred, fun hfree hopen => ⟨fun hwide hrw hlast => ?whole,
    fun hwide hrw => ?readOnly, fun m t hwide hm ht => ?single⟩⟩
  case owned =>
    rw [hput (hlast.imp_right Or.inr)]
    unfold State.putKey
    rw [howner]
  case barred =>
    rw [hput (hlast.imp_right Or.inr)]
    unfold State.putKey
    rw [hfree]
    exact if_pos hbar
  case whole => rw [hput (Or.inr (Or.inr hlast.ge)), State.putKey_wide hd hfree hopen hwide, if_neg hrw]
  case readOnly => rw [hput (Or.inr (Or.inl hrw)), State.putKey_wide hd hfree hopen hwide, if_pos hrw]
  case single =>
    rw [hput (Or.inl hwide), State.putKey_single hd hfree hopen hwide hm ht]
    exact ⟨fun l hl => by rw [hl], fun hl => by rw [hl]⟩

/-! ### An access that meets a stopped clock (R489) -/

theorem exec_csrTimeout {s : State} {req : Requester} {off k : Nat} (wr : Option Reg) (hreg : s.busReg req off = .reg k) :
    exec (.csrTimeout req off wr) s = .next (if s.boot.stage < 6 ∨ s.clockStopped k = false then s
      else match wr with | some _ => s.csrTimeout k | none => (s.csrTimeout k).answer req (some 0xFFFFFFFF)) := by
  refine congrArg Host.Outcome.next ?_
  rw [hreg] <;> rfl

theorem exec_csrTimeout_of_none {s : State} {req : Requester} {off : Nat} (wr : Option Reg) (hreg : ∀ k, s.busReg req off ≠ .reg k) :
    exec (.csrTimeout req off wr) s = .next s := by
  refine congrArg Host.Outcome.next ?_
  cases hbus : s.busReg req off with
  | reg k => exact absurd hbus (hreg k)
  | vfMod j => rfl
  | nothing => rfl

/-- Settles O9: an access goes by its size and alignment, by what its offset names, by clock and owner, and by the register's type. -/
theorem registerAccessesFollowTheirTypes : Obligations.RegisterAccessesFollowTheirTypes := by
  refine ⟨fun s req off => ⟨fun size => ?size, fun size tags => ?bars, fun hoff hboot => ?page, State.readOne_beyond,
      fun hoff halign => ⟨State.readOne_nothing hoff halign, fun k hreg => ⟨State.readOne_unserved hoff halign hreg,
        fun hserved => ⟨State.readOne_stopped hoff halign hreg hserved, fun d w u hclock hd hu => ?read⟩⟩⟩⟩,
    fun s req off v => ⟨fun bar size be x => ?write, rfl, rfl, State.barWrite_beyond, fun hoff halign hboot =>
      ⟨State.barWrite_nothing hoff halign, fun k d w u x hreg hd hclock hu hx => ⟨fun hwide hrw hact hlow hup hrun => ?held,
        fun hreach hplain => ?plain⟩⟩, fun k hreg => ⟨fun hboot hclock e he => ?timeout, fun hidle wr => ?running⟩,
      fun hreg wr => exec_csrTimeout_of_none wr hreg⟩⟩
  case size =>
    simp only [List.forall_mem_cons, List.not_mem_nil, IsEmpty.forall_iff, implies_true, and_true]
    exact ⟨Answer.of_size rfl, Answer.of_size rfl⟩
  case bars =>
    simp only [List.forall_mem_cons, List.not_mem_nil, IsEmpty.forall_iff, implies_true, and_true]
    exact ⟨Answer.of_size rfl, Answer.of_size rfl⟩
  case page => exact if_neg (not_or.mpr ⟨not_le.mpr hoff, not_lt.mpr hboot⟩)
  case read =>
    rw [State.readOne_running hoff halign hreg hserved hclock hu]
    refine ⟨fun hwide hrc => ?_, fun hwide hrc => ?_, fun t hwide hw ht => ?_, fun hwide hw hlatch => ?_⟩
    · rw [State.readKey_single req hd hwide, if_pos hrc]
    · rw [State.readKey_single req hd hwide, if_neg (by rw [hrc]; decide)]
    · rw [State.readKey_first req hd hwide hw ht]
    · rw [State.readKey_later req hd hwide hw hlatch]
  case write =>
    refine ⟨fun hnone => ?_, fun hs ho hbe => ?_, fun hs ho hbe => ?_⟩
    · obtain hbe | ⟨hfour, height⟩ := hnone
      · exact Answer.of_pos (by rw [hbe]; rfl) rfl
      · refine congrArg Host.Outcome.next ((congrArg (ite _ s) ?_).trans (ite_self s))
        exact (if_neg (not_and_or.mpr hfour)).trans (if_neg (not_and_or.mpr height))
    · exact (Answer.of_size (Answer.of_neg (by rw [hbe]; decide) rfl)).1 hs ho
    · exact (Answer.of_size (Answer.of_neg (by rw [hbe]; decide) rfl)).2.1 hs ho
  case held =>
    subst hx
    rw [State.barWrite_reg hoff halign hreg hboot hclock hu]
    exact State.writeKey_held (State.holdWord_low hd hwide hrw hact hlow) hup hrun
  case plain =>
    subst hx
    rw [State.barWrite_reg hoff halign hreg hboot hclock hu]
    exact State.writeKey_of_plain hd hreach hplain
  case timeout =>
    subst he
    have hmet : ¬(s.boot.stage < 6 ∨ s.clockStopped k = false) := by
      rw [hclock]
      exact not_or.mpr ⟨not_lt.mpr hboot, by decide⟩
    exact ⟨Answer.of_neg hmet (exec_csrTimeout (some v) hreg), Answer.of_neg hmet (exec_csrTimeout none hreg)⟩
  case running => exact Answer.of_pos hidle (exec_csrTimeout wr hreg)

end Sys2Proof.Machine
end

section
/-! The commands of the time bases (R116 to R127) and reads of TIME (R130). -/

namespace Sys2Proof.Machine

section
variable {c : Instr} {s : State} {req : Requester} {n : Nat} {legal : State → Bool} {f : State → State}
  (h : Reaches s req (R.tsuTbCtl n)) (hc : exec c s = .next (s.tsuCommand req n legal f))
include h hc

theorem exec_tsuCommand_legal (hn : n < 8) (hon : s.tbOn n = true) (hlegal : legal s = true) {t : State} (ht : f s = t) :
    exec c s = .next ((s.afterStep t).result (R.tsuTbStatus n) 0x00) :=
  exec_of_reaches h hc ((if_pos ⟨hn, hon, hlegal⟩).trans (by rw [ht]))

theorem exec_tsuCommand_illegal (hill : s.tbOn n = false ∨ legal s = false) :
    exec c s = .next (s.result (R.tsuTbStatus n) 0x02) := by
  refine exec_of_reaches h hc (if_neg ?_)
  rintro ⟨-, hon, hlegal⟩
  rw [hon, hlegal] at hill
  exact absurd hill (by decide)

end

/-! ### A read of TIME -/

/-- TIME is a wide register of four words that no read clears. -/
theorem findReg_tsuTbTime {n : Nat} (hn : n < 8) :
    ∃ d, findReg regTable (R.tsuTbTime n) = some (d, 0) ∧ d.wide = true ∧ d.rc = false ∧ d.words = 4 := by
  have hall : ∀ n < 8, (findReg regTable (R.tsuTbTime n)).map (fun e => (e.1.wide, e.1.rc, e.1.words, e.2)) =
      some (true, false, 4, 0) := by decide
  obtain ⟨⟨d, w⟩, hd, hfields⟩ := Option.map_eq_some_iff.mp (hall n hn)
  simp only [Prod.mk.injEq] at hfields
  obtain ⟨hwide, hrc, hwords, rfl⟩ := hfields
  exact ⟨d, hd, hwide, hrc, hwords⟩

/-- The registers of a time base are no lane's, no pair's and no unit's, so every requester but a virtual function finds them at
their offset. -/
theorem State.busReg_tsuTbTime {s : State} {req : Requester} {n : Nat} (hn : n < 8) (hpf : (s.acting req).vfNum = 0) :
    s.busReg req (R.tsuTbTime n) = .reg (R.tsuTbTime n) := by
  obtain ⟨d, hd, -⟩ := findReg_tsuTbTime hn
  have hoff : R.tsuTbTime n < 0x400000 := by unfold R.tsuTbTime; omega
  have hreg : isReg (R.tsuTbTime n) = true := by rw [isReg, hd]; rfl
  have hpair : R.tsuTbTime n < R.strRpCtl 0 := hoff.trans (by decide)
  unfold State.busReg
  rw [if_neg (not_not_intro hpf), if_neg (by omega), if_neg (by omega), if_pos (by omega), regOrNothing, if_pos hreg]

theorem State.wakeReg_tsuTbTime (s : State) {n : Nat} (hn : n < 8) : s.wakeReg (R.tsuTbTime n) = s := by
  have hall : ∀ n < 8, unitOfReg (R.tsuTbTime n) = none := by decide
  unfold State.wakeReg
  rw [hall n hn]

/-- A word of TIME shows the count. -/
theorem State.regView_tsuTbTime (s : State) {n i : Nat} (hn : n < 8) (hi : i < 4) :
    s.regView (R.tsuTbTime n + 4 * i) = (timeWords 16 (s.tb n).count).getD i 0 := by
  have hlow : R.tsuTbTime n + 4 * i < R.strRpCtl 0 := by unfold R.tsuTbTime R.strRpCtl; omega
  have hsummary : R.tsuTbTime n + 4 * i ≠ R.fcrSummary := by unfold R.tsuTbTime R.fcrSummary; omega
  have hstatus : R.tsuTbTime n + 4 * i ≠ R.rdnStatus := by unfold R.tsuTbTime R.rdnStatus; omega
  have hblock : R.tsuTbCtl 0 ≤ R.tsuTbTime n + 4 * i ∧ R.tsuTbTime n + 4 * i < R.tsuTbCtl 8 := by
    unfold R.tsuTbTime R.tsuTbCtl; omega
  have hbase : (R.tsuTbTime n + 4 * i - R.tsuTbCtl 0) / 0x400 = n := by unfold R.tsuTbTime R.tsuTbCtl; omega
  have hofs : (R.tsuTbTime n + 4 * i - R.tsuTbCtl 0) % 0x400 = 0x10 + 4 * i := by unfold R.tsuTbTime R.tsuTbCtl; omega
  have hword : s.tbWord n (0x10 + 4 * i) = (timeWords 16 (s.tb n).count)[i]? := by
    unfold State.tbWord
    rw [if_pos (by omega), show (0x10 + 4 * i - 0x10) / 4 = i by omega]
  have hlen : i < (timeWords 16 (s.tb n).count).length := hi
  unfold State.regView
  rw [if_neg hsummary, if_neg hstatus, if_neg (by omega), if_pos hblock, hbase, hofs, hword, List.getElem?_eq_getElem hlen]
  simp [hlen]

/-- A read of the first word of TIME answers that word of the count and latches the other three for its reader. -/
theorem exec_timeReadCapture {s : State} {req : Requester} {n : Nat} {ws : List Reg} (hn : n < 8) (hws : ws = timeWords 16 (s.tb n).count)
    (hboot : 6 ≤ s.boot.stage) (hclock : s.clockStopped (R.tsuTbTime n) = false) (hpf : (s.acting req).vfNum = 0) :
    exec (.timeReadCapture req n) s = .next (State.answer (s.setWide { s.wideOf req with
      latchReg := some (R.tsuTbTime n), latched := ws.drop 1 }) req ws.head?) := by
  subst hws
  obtain ⟨d, hd, hwide, hrc, hwords⟩ := findReg_tsuTbTime hn
  have hoff : R.tsuTbTime n < s.barSize req := by
    unfold State.barSize
    rw [if_neg (not_not_intro hpf)]
    unfold R.tsuTbTime
    omega
  have halign : R.tsuTbTime n % 4 = 0 := by unfold R.tsuTbTime; omega
  have hfirst : s.regView (R.tsuTbTime n) = (timeWords 16 (s.tb n).count).getD 0 0 := s.regView_tsuTbTime (i := 0) hn (by decide)
  have hrest : (List.range (d.words - 1)).map (fun i => s.regView (R.tsuTbTime n + 4 * (i + 1))) =
      (timeWords 16 (s.tb n).count).drop 1 := by
    rw [hwords]
    calc _ = (List.range 3).map (fun i => (timeWords 16 (s.tb n).count).getD (i + 1) 0) :=
          List.map_congr_left (fun i hi => s.regView_tsuTbTime hn (by have := List.mem_range.mp hi; omega))
      _ = _ := rfl
  have hread : exec (.timeReadCapture req n) s = .next (s.readOne req (R.tsuTbTime n)) :=
    (Answer.of_size (Answer.of_pos hn rfl)).1 rfl halign
  rw [hread, State.readOne_running hoff halign (State.busReg_tsuTbTime hn hpf) (Or.inl hboot) hclock rfl, s.wakeReg_tsuTbTime hn,
    State.readKey_first req hd hwide rfl rfl, hrc, hfirst, hrest]
  rfl

/-- Settles O22: each TSU command acts where it is legal, ADJ_FREQ is stored and may set FREQ, and a read of TIME captures it. -/
theorem timeBaseCommandsTakeEffect : Obligations.TimeBaseCommandsTakeEffect := by
  refine ⟨fun s req n hn hon h => ⟨fun hstate u hu => ?accept, fun hstate => ?_, fun hstate hsrc => ?set, fun hill => ?_, fun hhost => ?_,
      fun hhost => ?_, fun hfree => ?_, fun hreq => ?_⟩,
    fun s req n hn => ⟨fun hoff h => ?off, fun v h => ⟨fun hhost hon => ?freq, fun hidle => ?store⟩,
      fun ws hws hboot hclock hpf => exec_timeReadCapture hn hws hboot hclock hpf⟩⟩
  case accept =>
    subst hu
    exact exec_tsuCommand_legal h rfl hn hon (by simp [hstate]) rfl
  case set => exact exec_tsuCommand_legal h rfl hn hon (by rw [hstate, hsrc]; rfl) rfl
  · exact exec_tsuCommand_illegal h rfl (Or.inr (beq_eq_false_iff_ne.mpr hstate))
  · refine exec_tsuCommand_illegal h rfl (Or.inr ?_)
    rw [Bool.and_eq_false_iff, Bool.not_eq_false']
    exact hill.imp_left beq_eq_false_iff_ne.mpr
  · exact exec_tsuCommand_legal h rfl hn hon hhost rfl
  · exact exec_tsuCommand_illegal h rfl (Or.inr hhost)
  · exact exec_tsuCommand_legal h rfl hn hon (by rw [hfree]; rfl) rfl
  · exact exec_tsuCommand_illegal h rfl (Or.inr (by rw [hreq]; rfl))
  case off =>
    simp only [List.forall_mem_cons, List.not_mem_nil, IsEmpty.forall_iff, implies_true, and_true]
    exact ⟨exec_tsuCommand_illegal h rfl (Or.inl hoff), exec_tsuCommand_illegal h rfl (Or.inl hoff),
      exec_tsuCommand_illegal h rfl (Or.inl hoff), exec_tsuCommand_illegal h rfl (Or.inl hoff)⟩
  case freq => exact exec_of_reaches h rfl (if_pos ⟨hn, hhost, hon⟩)
  case store =>
    refine exec_of_reaches h rfl (if_neg ?_)
    rintro ⟨-, hhost, hon⟩
    rw [hhost, hon] at hidle
    exact absurd hidle (by decide)

end Sys2Proof.Machine
end

section
/-! Reference samples and their loss (R112, R124 to R127, R135, R140). -/

namespace Sys2Proof.Machine

/-! ### Samples -/

/-- While TIME runs, a sample of a time base of the plan goes by its kind. -/
theorem exec_servoSample {s : State} {n : Nat} (x : RefSample) (hn : n < 8) (htb : s.im.hasTb n = true) (htime : s.timeRuns = true) :
    exec (.servoSample n x) s = .next (match x with
      | .ptp o log => if (s.im.timeBase n).ref = 0 then s.afterStep (s.sample n o (pow2Frac log).1 (pow2Frac log).2) else s
      | .pps o => if (s.im.timeBase n).ref = 1 ∨ (s.im.timeBase n).ref = 2 then s.afterStep (s.sample n o 1 1) else s
      | .tenMhz k sub =>
        if (s.im.timeBase n).ref = 3 ∧ !(s.tb n).ref10mStop ∧ s.pps.last0.isSome then
          s.afterStep (s.sample n (toQ16 (s.sincePps n sub - ofNs (k * 1000000))) 1 1000)
        else s) :=
  Answer.of_neg (by simp [hn, htb, htime]) rfl

/-! ### A lost reference -/

theorem exec_referenceLoss {s : State} {n : Nat} (hn : n < 8) (htb : s.im.hasTb n = true) (hon : s.tbOn n = true) {t : Time}
    (ht : t = (s.tb n).lastSample + ofMs (s.inForce (R.tsuTbLossMs n)).toNat) :
    exec (.referenceLoss n) s = .next (match s.reachClock t with
      | none => s
      | some u => match ppsOf (s.im.timeBase n).ref with
        | some i => (u.loseReference n).setPpsLast i none
        | none => u.loseReference n) := by
  subst ht
  exact Answer.of_neg (by simp [hn, htb, hon]) rfl

/-! ### A silent foreign clock -/

theorem exec_announceTimeout {s : State} {n k : Nat} {f : Foreign} (hf : (s.tb n).foreign[k]? = some f) :
    exec (.announceTimeout n k) s = .next (match s.reachClock (s.announceDue n f) with
      | none => s
      | some u => u.dropForeign n k f) := by
  refine congrArg Host.Outcome.next ?_
  rw [hf] <;> rfl

/-- A dropped record that was not the selected one changes nothing else; else the best of the rest is selected, or the reference lost. -/
theorem State.dropForeign_eq {u w : State} {n k : Nat} {f : Foreign} {gone : Bool}
    (hw : w = u.setTb n { u.tb n with foreign := (u.tb n).foreign.eraseIdx k })
    (hgone : gone = ((u.tb n).selected == some f.source && u.getF (R.tsuTbStatus n) 23 16 == f.port)) :
    (gone = false → u.dropForeign n k f = w) ∧
    (gone = true → (u.tb n).foreign.eraseIdx k ≠ [] → u.dropForeign n k f = w.selectMaster n) ∧
    (gone = true → (u.tb n).foreign.eraseIdx k = [] → ∀ x,
      x = (w.setTb n { w.tb n with selected := none, twoStep := none }).setF (R.tsuTbStatus n) 23 16 0xFF →
      (u.tbState n = 3 ∨ u.tbState n = 5 → u.dropForeign n k f = x.loseReference n) ∧
      (u.tbState n ≠ 3 → u.tbState n ≠ 5 → u.dropForeign n k f = x)) := by
  subst hw
  unfold State.dropForeign
  dsimp only
  rw [← hgone]
  refine ⟨fun hkeep => if_pos (by rw [hkeep]; rfl), fun hdrop hleft => ?_, fun hdrop hleft => ?_⟩
  · exact (if_neg (by rw [hdrop]; decide)).trans (if_neg (by simpa using hleft))
  · rintro x rfl
    have hlost {a b : State} : (if (!gone) = true then a else
        if ((u.tb n).foreign.eraseIdx k).isEmpty = true then b else a.selectMaster n) = b :=
      (if_neg (by rw [hdrop]; decide)).trans (if_pos (by rw [hleft]; rfl))
    exact ⟨fun hstate => hlost.trans (if_pos hstate), fun hlocked hrefused => hlost.trans (if_neg (not_or.mpr ⟨hlocked, hrefused⟩))⟩

/-- Settles O21: a sample of the base's own kind reaches the servo; a reference or a foreign clock is lost at its instant. -/
theorem referenceSamplesReachTheServo : Obligations.ReferenceSamplesReachTheServo := by
  refine ⟨fun s n hn htb htime => ⟨fun o log => ⟨fun href => ?_, fun href => ?_⟩, fun o => ⟨fun href => ?_, fun hone htwo => ?_⟩,
      fun k sub => ⟨fun href hstop hlast => ?_, fun hother => ?_⟩⟩,
    fun s n => ⟨fun hn htb hon t ht => ?loss, fun hoff => ?off, fun k f hf => ?announce, fun k hnone => ?none⟩⟩
  · exact Answer.of_pos href (exec_servoSample (.ptp o log) hn htb htime)
  · exact Answer.of_neg href (exec_servoSample (.ptp o log) hn htb htime)
  · exact Answer.of_pos href (exec_servoSample (.pps o) hn htb htime)
  · exact Answer.of_neg (not_or.mpr ⟨hone, htwo⟩) (exec_servoSample (.pps o) hn htb htime)
  · exact Answer.of_pos ⟨href, by rw [hstop]; rfl, hlast⟩ (exec_servoSample (.tenMhz k sub) hn htb htime)
  · refine Answer.of_neg ?_ (exec_servoSample (.tenMhz k sub) hn htb htime)
    rintro ⟨href, hstop, hlast⟩
    obtain hne | hstopped | hnone := hother
    · exact hne href
    · rw [hstopped] at hstop
      exact absurd hstop (by decide)
    · rw [hnone] at hlast
      exact absurd hlast (by decide)
  case loss =>
    rw [exec_referenceLoss hn htb hon ht]
    refine ⟨fun hwait => by rw [hwait], fun u hu => ?_⟩
    rw [hu]
    refine ⟨fun href => ?_, fun href => ?_, fun href => ?_⟩
    · rw [ppsOf, if_pos href]
    · rw [ppsOf, if_neg (by rw [href]; decide), if_pos href]
    · simp only [List.mem_cons, List.not_mem_nil, or_false, not_or] at href
      obtain ⟨hone, htwo, hthree⟩ := href
      rw [ppsOf, if_neg (not_or.mpr ⟨hone, hthree⟩), if_neg htwo]
  case off => exact Answer.of_pos (by simp [hoff]) rfl
  case announce =>
    rw [exec_announceTimeout hf]
    refine ⟨fun hwait => by rw [hwait], fun u w gone hu hw hgone => ?_⟩
    obtain ⟨hkeep, hselect, hlose⟩ := State.dropForeign_eq hw hgone
    rw [hu]
    exact ⟨fun h => congrArg _ (hkeep h), fun h hleft => congrArg _ (hselect h hleft), fun h hleft x hx =>
      ⟨fun hstate => congrArg _ ((hlose h hleft x hx).1 hstate),
        fun hlocked hrefused => congrArg _ ((hlose h hleft x hx).2 hlocked hrefused)⟩⟩
  case none =>
    refine congrArg Host.Outcome.next ?_
    rw [hnone]

end Sys2Proof.Machine
end

section
/-! Pulses of the timing pins, own messages and slews of the time bases (R117, R133, R140 to R142, R317). -/

namespace Sys2Proof.Machine

/-- A rising edge of a PPS input is captured by every running time base, and is valid when it stays high and is spaced a second. -/
theorem exec_ppsInputEdge {s c : State} {i sub edges : Nat} {high spaced : Bool} {on : List Nat} {capt : Nat → Nat} (hi : i < 2)
    (htime : s.timeRuns = true) (hon : on = (List.range 8).filter s.tbOn)
    (hcapt : capt = (fun (n : Nat) => if i = 0 then R.tsuTbPps0Capt n else R.tsuTbPps1Capt n))
    (hc : c = forEach on (fun n (x : State) => x.wrWords (capt n) (timeWords 16 ((x.tb n).count + ofPs80 (sub % 10)))) s)
    (hspaced : spaced = (s.ppsLast i).all (fun t => decide ((s.clock + ofPs80 (sub % 10) - t - oneSec).natAbs ≤ (ofMs 1).natAbs))) :
    exec (.ppsInputEdge i sub high edges) s = .next (if (high && spaced) = true then
      s.afterStep (forEach (on.filter (fun n => s.im.hasTb n && (s.im.timeBase n).ref == 1 + i))
        (fun n (x : State) => x.sample n (x.ppsOffset i ((s.tb n).count + ofPs80 (sub % 10))) 1 1)
        (if i = 0 then (forEach on (fun n (x : State) => x.setTb n { x.tb n with pps0At := (x.tb n).count + ofPs80 (sub % 10) })
            (c.setPpsLast i (some (s.clock + ofPs80 (sub % 10))))).ref10m edges (s.ppsLast 0).isNone
          else c.setPpsLast i (some (s.clock + ofPs80 (sub % 10)))))
      else ((c.hwSet (R.tsuPpsInSt i) 1).incF (R.tsuPpsInSt i) 31 16).raise (Src.ppsInFault i) []) := by
  have hmatch : spaced = match s.ppsLast i with
      | some t => decide ((s.clock + ofPs80 (sub % 10) - t - oneSec).natAbs ≤ (ofMs 1).natAbs)
      | none => true := by
    rw [hspaced]
    cases s.ppsLast i <;> rfl
  subst hmatch hc hcapt hon
  exact Answer.of_neg (by simp [hi, htime]) rfl

/-- An output that is on rises at the next whole second, unless a landing comes first. -/
theorem exec_ppsOutputEdge {s u : State} {n us : Nat} {d : Time} (hd : d = latency (s.rd (R.tsuTbPpsOutDelay n)))
    (hu : u = s.untilTb n (((s.tb n).count - d) / oneSec * oneSec + oneSec + d)) (hus : us = s.getF (R.tsuTbPpsOut n) 18 0) :
    exec (.ppsOutputEdge n) s = .next (if n < 8 ∧ s.tbOn n = true ∧ s.bit (R.tsuTbPpsOut n) 31 = true then
      if (s.running && decide (s.landingAt s.nextTick ≤ u.srcNow)) = true then s
      else (u.setTb n { u.tb n with ppsUntil := u.clock + ofUs us }).emit (.ppsEdge n us)
      else s) := by
  subst hus hu hd
  rfl

/-- A slew that no landing interrupts runs until nothing of it is left. -/
theorem exec_slewComplete {s u : State} {n : Nat} (hu : u = s.edges (ceilDiv (-(s.tb n).slewRem) (s.tbSlew n))) :
    exec (.slewComplete n) s = .next (if n < 8 ∧ (s.tb n).slewRem < 0 ∧ 0 < s.tbSlew n then
      if (s.running && decide (s.landingAt s.nextTick ≤ u.srcNow)) = true then s else u else s) := by
  subst hu
  rfl

/-- An own request is offered at once the first time, and an interval after the one before. -/
theorem exec_ptpMessageSend {s : State} {n p : Nat} (h : s.sendsPtp n p = true) : exec (.ptpMessageSend n p) s = .next (
    match (s.peer n p).sentAt with
    | none => s.ptpRequest n p
    | some t => (match s.reachClock (t + s.ptpInterval n) with
      | some u => u.ptpRequest n p
      | none => s)) :=
  Answer.of_neg (by rw [h]; decide) rfl

/-- Settles O24: an edge is valid or a fault, an output and a slew wait for no landing, and requests leave at their intervals. -/
theorem timeBasesPulseAndCapture : Obligations.TimeBasesPulseAndCapture := by
  refine fun s htime => ⟨fun i sub high edges on capt c spaced hi hon hcapt hc hspaced => ?input, fun n d u us hn htb hd hu hus => ?output,
    fun n p => ⟨fun hsends hfirst => ?first, fun t u hsends hsent hu => ?next, fun hsends => ?silent⟩,
    fun n u hn hrem hslew hu => ?slew, fun n hrem => Answer.of_neg (fun h => absurd h.2.1 (not_lt.mpr hrem)) rfl⟩
  case input =>
    have hexec := exec_ppsInputEdge (high := high) (edges := edges) hi htime hon hcapt hc hspaced
    refine ⟨fun hbad => Answer.of_neg ?_ hexec, fun hhigh hgood a b ha hb => ?_⟩
    · rw [Bool.not_eq_true, Bool.and_eq_false_iff]
      exact hbad
    · subst hb ha
      exact Answer.of_pos (by rw [hhigh, hgood]; rfl) hexec
  case output =>
    have hexec := exec_ppsOutputEdge hd hu hus
    refine ⟨fun hbit => ⟨fun hfree => ?_, fun hlands => ?_⟩, fun hbit => ?_⟩
    · exact Answer.of_neg (by rw [hfree]; decide) (Answer.of_pos ⟨hn, htb, hbit⟩ hexec)
    · exact Answer.of_pos hlands (Answer.of_pos ⟨hn, htb, hbit⟩ hexec)
    · refine Answer.of_neg ?_ hexec
      rw [hbit]
      exact fun h => absurd h.2.2 (by decide)
  case first => rw [exec_ptpMessageSend hsends, hfirst]
  case next => simp only [exec_ptpMessageSend hsends, hsent, hu]
  case silent => exact Answer.of_pos (by rw [hsends]; rfl) rfl
  case slew =>
    have hexec := Answer.of_pos ⟨hn, hrem, hslew⟩ (exec_slewComplete hu)
    exact ⟨fun hfree => Answer.of_neg (by rw [hfree]; decide) hexec, fun hlands => Answer.of_pos hlands hexec⟩

end Sys2Proof.Machine
end

section
/-! The link state machine of a port (R151, R154). -/

namespace Sys2Proof.Machine

/-! ### The state that STATUS.LINK shows -/

section
variable {s : State} (hs : Sound s) (p : Nat) {st : Nat} (hst : st < 8)
include hs

include hst in
theorem State.link_linkTo : (s.linkTo p st).link p = st :=
  (State.getF_setF_self hs (R.prtPStatus p) st (by decide : 0 ≤ 2) (by decide)).trans (Nat.mod_eq_of_lt hst)

theorem State.getF_linkTo {hi lo : Nat} (h3 : 3 ≤ lo) :
    (s.linkTo p st).getF (R.prtPStatus p) hi lo = s.getF (R.prtPStatus p) hi lo :=
  State.getF_setF_of_gt hs (R.prtPStatus p) st (by decide : 0 ≤ 2) (by decide) h3

end

/-! ### Where a row acts -/

section
variable {s : State} {p : Nat}

theorem exec_linkUp {start : Nat} (hused : s.portUsed p = true) (hstate : s.link p = 4 ∨ (s.link p = 2 ∧ start ≤ 500000000))
    (hlanes : s.lanesClocked p = true) {t : Time}
    (ht : t = (s.port p).since + ofNs start + ofMs (max 1 (s.getF (R.prtPLinkTmr p) 15 0))) :
    exec (.linkUp p start) s = .next (match s.reachClock t with
      | some u => (((u.setF (R.prtPStatus p) 18 14 3).linkTo p 3).startVerify p).emitFault u p
      | none => s) := by
  subst ht
  exact Answer.of_pos (by simpa [hused, hlanes] using hstate) rfl

/-- A fault of a link that is up or in FAULT shows in STATUS, and takes an UP link down when it lasts. -/
theorem exec_linkFault {st ns : Nat} {x : State} (hused : s.portUsed p = true) (hstate : s.link p = 3 ∨ s.link p = 4)
    (hx : x = s.setF (R.prtPStatus p) 18 14 st) : exec (.linkFault p st ns) s = .next (
      if s.link p = 3 ∧ s.getF (R.prtPLinkTmr p) 31 16 * 1000 < ns then x.linkLeave p 4 else x.emitFault s p) := by
  subst hx
  exact Answer.of_pos (by simpa [hused] using hstate) rfl

theorem exec_retrain {req : Requester} (h : Reaches s req (R.prtPCtl p)) (hused : s.portUsed p = true) :
    exec (.retrain req p) s = .next (if s.link p = 3 ∨ s.link p = 4 then (s.linkLeave p 1).result (R.prtPStatus p) 0x00
      else s.result (R.prtPStatus p) 0x02) :=
  exec_of_reaches h rfl (if_neg (by rw [hused]; decide))

end

/-- Settles O26: each row moves a link from its states at its instants, and entering a state changes STATUS.LINK alone. -/
theorem linkStatesFollowTheirEvents : Obligations.LinkStatesFollowTheirEvents := by
  refine ⟨fun s p hused => ⟨fun hlink hlanes => ?_, fun hidle => ?_, fun start t hstate hlanes ht => ?up, fun start hidle => ?_,
      fun hlink => ?timeout, fun hlink => Answer.of_neg hlink rfl, fun st ns x hx => ⟨fun hlink hlong => ?_, fun hshort => ?_,
        fun hup hfault => ?_⟩, fun l => ⟨fun hlink hlane => Answer.of_pos ⟨hlink, hlane⟩ rfl,
        fun hlink => Answer.of_neg (fun h => hlink h.1) rfl⟩, fun req h => ⟨fun hstate => Answer.of_pos hstate (exec_retrain h hused),
        fun hup hfault => Answer.of_neg (not_or.mpr ⟨hup, hfault⟩) (exec_retrain h hused)⟩⟩,
    fun s p st hi lo hs hst h3 _ _ => ⟨State.link_linkTo hs p hst, State.getF_linkTo hs p h3,
      fun k hk => s.rd_setF_of_ne _ k 2 0 st hk, rfl⟩⟩
  case up => exact Answer.of_reach (exec_linkUp hused hstate hlanes ht)
  case timeout => exact Answer.of_reach (Answer.of_pos hlink (rfl : exec (.alignTimeout p) s = _))
  · exact Answer.of_pos (by simp [hused, hlink, hlanes]) rfl
  · refine Answer.of_neg ?_ rfl
    rw [Bool.not_eq_true]
    simp only [Bool.and_eq_false_iff, beq_eq_false_iff_ne]
    exact hidle.imp_left Or.inr
  · refine Answer.of_neg ?_ rfl
    rw [Bool.not_eq_true]
    simp only [Bool.and_eq_false_iff, Bool.or_eq_false_iff, beq_eq_false_iff_ne, decide_eq_false_iff_not, not_le]
    obtain ⟨hfault, halign⟩ | ⟨halign, hlate⟩ | hlanes := hidle
    · exact Or.inl (Or.inr ⟨hfault, Or.inl halign⟩)
    · exact Or.inl (Or.inr ⟨by rw [halign]; decide, Or.inr hlate⟩)
    · exact Or.inr hlanes
  · exact Answer.of_pos ⟨hlink, hlong⟩ (exec_linkFault hused (Or.inl hlink) hx)
  · refine Answer.of_neg ?_ (exec_linkFault hused (hshort.symm.imp_left And.left) hx)
    rintro ⟨hup, hlong⟩
    obtain hfault | ⟨-, hshort⟩ := hshort
    · rw [hup] at hfault
      exact absurd hfault (by decide)
    · exact absurd hlong (not_lt.mpr hshort)
  · refine Answer.of_neg ?_ rfl
    rw [Bool.not_eq_true]
    simp only [Bool.and_eq_false_iff, Bool.or_eq_false_iff, beq_eq_false_iff_ne]
    exact Or.inr ⟨hup, hfault⟩

end Sys2Proof.Machine
end

section
/-! The timers of streams and nodes, supervision frames, and the STR commands (R185 to R208). -/

namespace Sys2Proof.Machine

/-! ### Timers of a stream -/

/-- The timers of a stream that is due let the next landing take effect. -/
theorem exec_streamTimers {s : State} {sh : Nat} {r : StreamRec} (hr : s.stream? sh = some r) :
    exec (.twinResetTimer sh) s = .next (if s.twinDue r s.nextTick = true then s.landNow none [] else s) ∧
      exec (.pathDown sh) s = .next (if s.pathsDue r s.nextTick ≠ (false, false) then s.landNow none [] else s) := by
  constructor
  all_goals
    refine congrArg Host.Outcome.next ?_
    rw [hr]

theorem exec_streamTimers_of_none {s : State} {sh : Nat} (hr : s.stream? sh = none) :
    exec (.twinResetTimer sh) s = .next s ∧ exec (.pathDown sh) s = .next s := by
  constructor
  all_goals
    refine congrArg Host.Outcome.next ?_
    rw [hr]

/-- A path that is due at a landing sets its bit and is raised. -/
theorem State.pathTimer_due {s : State} {r : StreamRec} {a b : Bool} (hd : s.pathsDue r s.now = (a, b)) (hdue : a = true ∨ b = true) :
    s.pathTimer r = (s.setHandle r.sh { s.handle r.sh with
      pathDownA := (s.handle r.sh).pathDownA || a, pathDownB := (s.handle r.sh).pathDownB || b }).raise
      (Src.pathLoss (s.home r.sh)) [Cu.gallery (s.home r.sh)] := by
  unfold State.pathTimer
  rw [hd]
  exact if_pos (by simpa using hdue)

/-! ### Nodes and supervision -/

theorem exec_nodeForget {s : State} {pair mac : Nat} {n : Node} (hn : s.node? pair mac = some n) {t : Time}
    (ht : t = n.seen + ofMs (s.getF (R.strRpForget pair) 15 0)) :
    exec (.nodeForget pair mac) s = .next (match s.reachClock t with
      | some u => { u with str := { u.str with nodes := u.str.nodes.filter (fun m => m.pair != pair || m.mac != mac) } }
      | none => s) := by
  subst ht
  refine congrArg Host.Outcome.next ?_
  rw [hn] <;> rfl

/-- The supervision frame of a pair with SUP_EN and a MAC is ready at once the first time, then LIFE_CHECK_MS after the one before. -/
theorem exec_supervisionSend {s : State} {p : Nat} (hpair : s.pairOf p = some p) (hen : s.bit (R.strRpCtl p) 0 = true)
    (hmac : s.rd64 (R.strRpMac p) % 2 ^ 48 ≠ 0) {before : Option Time} (hbefore : before = Tab.get (fun _ => none) s.str.supAt p) :
    exec (.supervisionSend p) s = .next (match (generalizing := false) before with
      | none => s.supervise p
      | some t => (match s.reachClock (t + ofMs (s.getF (R.strRpCtl p) 31 16)) with
        | some u => u.supervise p
        | none => s)) := by
  subst hbefore
  have hopen : s.pairOf p = some p ∧ s.bit (R.strRpCtl p) 0 = true ∧ s.rd64 (R.strRpMac p) % 2 ^ 48 ≠ 0 := ⟨hpair, hen, hmac⟩
  exact Answer.of_pos hopen rfl

/-! ### The STR commands -/

section
variable {c : Instr} {s w : State} {req : Requester} {sh : Nat} {legal : StreamRec → State → Bool} {f : State → State}
  (h : Reaches s req R.strCmd) (hw : w = s.setF R.strCmd 31 16 sh) (hc : exec c s = .next (s.strCommand req sh legal f))
include h hw hc

theorem exec_strCommand {r : StreamRec} (hr : w.stream? (sh % 65536) = some r) :
    (legal r w = true → exec c s = .next ((f w).result R.strStatus 0x00)) ∧
      (legal r w = false → exec c s = .next (w.result R.strStatus 0x02)) := by
  subst hw
  have hexec : exec c s = .next (if legal r (s.setF R.strCmd 31 16 sh) = true then
      (f (s.setF R.strCmd 31 16 sh)).result R.strStatus 0x00 else (s.setF R.strCmd 31 16 sh).result R.strStatus 0x02) := by
    refine exec_of_reaches h hc ?_
    dsimp only
    rw [hr]
  exact ⟨fun hlegal => Answer.of_pos hlegal hexec, fun hlegal => Answer.of_neg (by rw [hlegal]; decide) hexec⟩

theorem exec_strCommand_of_none (hr : w.stream? (sh % 65536) = none) : exec c s = .next (w.result R.strStatus 0x02) := by
  subst hw
  refine exec_of_reaches h hc ?_
  dsimp only
  rw [hr]

end

/-- Settles O28: the timers act when they are due, a supervision frame leaves at its interval, and a command where it is legal. -/
theorem streamTimersAndCommandsAct : Obligations.StreamTimersAndCommandsAct := by
  refine ⟨fun s => ⟨fun sh r hr => ?timers, fun sh => exec_streamTimers_of_none, fun r x hdue hx => ?twin,
      fun r a b hd hdue => State.pathTimer_due hd hdue, fun pair mac n t hn ht => Answer.of_reach (exec_nodeForget hn ht),
      fun pair mac hn => ?noNode, fun p before hbefore => ⟨fun hpair hen hmac => ?sends, fun hidle => ?silent, rfl, ?counts⟩⟩,
    fun s w req sh h hw => ⟨fun r hr => ⟨fun hrec htwin => ?reset, fun hill => ?noReset, fun hfree => ?_, fun hheld => ?_, fun hheld => ?_,
      fun hfree => ?_⟩, fun hr => ?none⟩⟩
  case timers =>
    obtain ⟨htwin, hpath⟩ := exec_streamTimers hr
    exact ⟨fun hdue => Answer.of_pos hdue htwin, fun hdue => Answer.of_neg (by rw [hdue]; decide) htwin,
      fun hdue => Answer.of_pos hdue hpath, fun hdue => Answer.of_neg (not_not_intro hdue) hpath⟩
  case twin =>
    subst hx
    exact if_pos hdue
  case noNode =>
    refine congrArg Host.Outcome.next ?_
    rw [hn]
  case sends =>
    have hexec := exec_supervisionSend hpair hen hmac hbefore
    refine ⟨?_, ?_, ?_⟩
    · rintro rfl
      exact hexec
    · rintro t u rfl hu
      rw [hexec]
      simp only [hu]
    · rintro t rfl hu
      rw [hexec]
      simp only [hu]
  case silent =>
    refine Answer.of_neg ?_ rfl
    rintro ⟨hpair, hen, hmac⟩
    obtain hne | hoff | hzero := hidle
    · exact hne hpair
    · rw [hoff] at hen
      exact absurd hen (by decide)
    · exact hmac hzero
  case counts => exact List.length_append
  case reset => exact (exec_strCommand (c := .recovReset req sh) h hw rfl hr).1 (by simp [hrec, htwin])
  case noReset =>
    refine (exec_strCommand (c := .recovReset req sh) h hw rfl hr).2 ?_
    rw [Bool.and_eq_false_iff, Bool.not_eq_false', bne_eq_false_iff_eq]
    exact hill
  · exact (exec_strCommand (c := .contain req sh) h hw rfl hr).1 (by rw [hfree]; rfl)
  · exact (exec_strCommand (c := .strRelease req sh) h hw rfl hr).1 hheld
  · exact (exec_strCommand (c := .contain req sh) h hw rfl hr).2 (by rw [hheld]; rfl)
  · exact (exec_strCommand (c := .strRelease req sh) h hw rfl hr).2 hfree
  case none =>
    exact ⟨exec_strCommand_of_none h hw rfl hr, exec_strCommand_of_none h hw rfl hr, exec_strCommand_of_none h hw rfl hr⟩

end Sys2Proof.Machine
end

section
/-! The timers of a port, and transmission (R153, R163, R167, R169, R216 to R224, R300). -/

namespace Sys2Proof.Machine

/-! ### Timers -/

section
variable {s : State} {p : Nat}

/-- The verification timer of an UP port that verifies and carries traffic: the next Verify, or the failure after the last. -/
theorem exec_verifyTimer (hlink : s.link p = 3) (hverify : s.getF (R.prtPStatus p) 23 20 = 2) (hcarries : s.portCarries p = true)
    {t : Time} (ht : t = (s.port p).since + ofMs ((s.port p).verifies * s.verifyMs p)) :
    exec (.verifyTimer p) s = .next (match s.reachClock t with
      | some u => if (s.port p).verifies < u.getF (R.prtPMmCfg p) 19 16 then
          (u.setPort p { u.port p with verifies := (s.port p).verifies + 1 }).emit (.mPacket p false)
        else ((u.setF (R.prtPStatus p) 23 20 4).settlePreempt p).raise (Src.mmVerifyFail (s.portGallery p)) [Cu.port p]
      | none => s) := by
  subst ht
  have hopen : s.link p = Link.up ∧ s.getF (R.prtPStatus p) 23 20 = Verify.verifying ∧ s.portCarries p = true :=
    ⟨hlink, hverify, hcarries⟩
  exact Answer.of_pos hopen rfl

theorem exec_treadStart (hopen : (s.running && s.portUsed p) = true) :
    exec (.treadStart p) s = .next (match s.nextTreadAt p with
      | some t => (s.untilSrc t).settlePort p
      | none => s.settlePort p) :=
  Answer.of_pos hopen rfl

/-- The hold of a tread that is next, HOLD_ADV before it. -/
theorem exec_mmHoldAssert (hopen : (s.running && s.portUsed p) = true) {u : State} (hu : u = s.settlePort p) :
    exec (.mmHoldAssert p) s = .next (match u.treadsAhead p with
      | (t, d) :: _ => if d.hold = true ∧ t - ofNs (u.rdN (R.prtPHoldAdv p)) < u.landingAt u.nextTick then
          ((u.untilSrc (t - ofNs (u.rdN (R.prtPHoldAdv p)))).settleLine p).assertHold p else u
      | [] => u) := by
  subst hu
  exact Answer.of_pos hopen rfl

end

/-! ### Selection -/

/-- The frame that goes next on port `p`, after what is due in its treads and queues. -/
def State.selectNext (b : State) (p : Nat) (fast best : Option TxFrame) : State :=
  match (b.port p).line with
  | some _ => if fast.isSome then b.preemptNow p else b
  | none => match fast, (b.port p).preempted with
    | some f, _ => b.startFrame p f
    | none, some l => if b.mayContinue p l then b.startRest p l else b
    | none, none => match best with
      | some f => if b.holding p then b else b.startFrame p f
      | none => b

/-- What a selection does once the line's time is reached. -/
def State.selectOn (a : State) (p : Nat) : State :=
  if !a.portCarries p then a
  else
    let b := a.countDefer p
    let ok := (b.heads p).filter (b.eligible p)
    b.selectNext p (b.bestOf p (ok.filter (fun f => b.express p f.tc))) (b.bestOf p ok)

/-- A selection of a port of the plan, while CORE runs and no landing holds time. -/
theorem exec_txSelect {s w a : State} {p : Nat} (hused : s.portUsed p = true) (hholds : s.holds = false) (hcore : s.coreRuns = true)
    (hw : w = (if (s.port p).line.isNone then s.untilClock (s.port p).freeAt else s))
    (ha : a = (((w.settlePort p).ripen p).noteBlocked p).flushPort p) : exec (.txSelect p) s = .next (a.selectOn p) := by
  have hopen : ¬(!s.portUsed p || s.holds || !s.coreRuns) = true := by rw [hused, hholds, hcore]; decide
  refine congrArg Host.Outcome.next ((if_neg hopen).trans ?_)
  dsimp only
  rw [← hw, ← ha]
  rfl

theorem State.selectOn_of_carries {a b : State} {p : Nat} (hcarries : a.portCarries p = true) {ok : List TxFrame}
    {fast : Option TxFrame} (hb : b = a.countDefer p) (hok : ok = (b.heads p).filter (b.eligible p))
    (hfast : fast = b.bestOf p (ok.filter (fun f => b.express p f.tc))) :
    a.selectOn p = b.selectNext p fast (b.bestOf p ok) := by
  subst hfast hok hb
  exact if_neg (by rw [hcarries]; decide)

/-! ### Launch and end -/

section
variable {s u : State} {p : Nat} {l : LineSt} (hu : u = s.settlePort p) (hl : (u.port p).line = some l)
include hu hl

theorem exec_txLaunch (k : Nat) (ue : Option Bool) : exec (.txLaunch p k ue) s = .next (
    if (l.launched || !s.coreRuns) = true then u
    else if (!u.mayLaunch p l (ofPs80 (k % 10))) = true then u.unselect p
    else match ue with
      | some true => u.discardUe p l
      | some false => (u.bufCe (u.bufGallery p l.frame)).launch p k l
      | none => u.launch p k l) := by
  subst hu
  refine congrArg Host.Outcome.next ?_
  dsimp only
  rw [hl] <;> rfl

theorem exec_txEnd (ue : Option Bool) {x : State} (hx : x = u.untilClock (u.lineEnd p l)) : exec (.txEnd p ue) s = .next (
    if l.launched = true then match ue with
      | some true => x.stompUe p l
      | some false => (x.bufCe (x.bufGallery p l.frame)).lineOver p
      | none => x.lineOver p
    else u) := by
  subst hx hu
  refine congrArg Host.Outcome.next ?_
  dsimp only
  rw [hl] <;> rfl

end

/-- Without a frame on the line there is none to launch or to end. -/
theorem exec_txLaunch_txEnd_of_free {s u : State} {p : Nat} (hu : u = s.settlePort p) (hl : (u.port p).line = none) (k : Nat)
    (ue : Option Bool) : exec (.txLaunch p k ue) s = .next u ∧ exec (.txEnd p ue) s = .next u := by
  subst hu
  constructor
  all_goals
    refine congrArg Host.Outcome.next ?_
    dsimp only
    rw [hl]

/-- Settles O27: each timer acts at its instant, and a frame is selected, launched and ended by what its line holds. -/
theorem framesAreSelectedLaunchedAndEnded : Obligations.FramesAreSelectedLaunchedAndEnded := by
  refine ⟨fun s p => ⟨fun t hlink hverify hcarries ht => ?verify, fun hidle => ?noVerify, fun hruns hused => ?treads, fun hidle => ?idle⟩,
    fun s p => ⟨fun w a b ok fast hused hholds hcore hw ha => ?select, fun hidle => ?noSelect, fun u hu =>
      ⟨fun l k hl hlaunched hcore => ?launch, fun l x hl hlaunched hx => ?ends, fun hnone k ue => ?noLaunch, fun hnone ue => ?noEnd⟩⟩⟩
  case verify =>
    have hexec := exec_verifyTimer hlink hverify hcarries ht
    refine ⟨fun u hu => ?_, fun hwait => ?_⟩
    · rw [hexec, hu]
      exact ⟨fun hmore => congrArg _ (if_pos hmore), fun hlast => congrArg _ (if_neg (not_lt.mpr hlast))⟩
    · rw [hexec, hwait]
  case noVerify =>
    refine Answer.of_neg ?_ rfl
    rintro ⟨hlink, hverify, hcarries⟩
    rw [hcarries] at hidle
    obtain hne | hne | hfalse := hidle
    · exact hne hlink
    · exact hne hverify
    · exact absurd hfalse (by decide)
  case treads =>
    have hopen : (s.running && s.portUsed p) = true := by rw [hruns, hused]; rfl
    refine ⟨fun t ht => by rw [exec_treadStart hopen, ht], fun hnone => by rw [exec_treadStart hopen, hnone], fun u hu => ?_⟩
    rw [exec_mmHoldAssert hopen hu]
    refine ⟨?_, fun hnone => by rw [hnone]⟩
    rintro t d rest t0 hahead rfl
    rw [hahead]
    refine ⟨fun hhold hbefore => congrArg _ (if_pos ⟨hhold, hbefore⟩), fun hno => congrArg _ (if_neg ?_)⟩
    rintro ⟨hhold, hbefore⟩
    rw [hhold] at hno
    exact absurd hbefore (not_lt.mpr (hno.resolve_left (by decide)))
  case idle =>
    have hclosed : ¬(s.running && s.portUsed p) = true := by
      rw [Bool.not_eq_true, Bool.and_eq_false_iff]
      exact hidle
    exact ⟨Answer.of_neg hclosed rfl, Answer.of_neg hclosed rfl⟩
  case select =>
    rw [exec_txSelect hused hholds hcore hw ha]
    refine ⟨fun hsilent => congrArg _ (if_pos (by rw [hsilent]; rfl)), fun hcarries hb hok hfast => ?_⟩
    rw [State.selectOn_of_carries hcarries hb hok hfast]
    unfold State.selectNext
    refine ⟨fun l hl => by rw [hl], fun hfree => ?_⟩
    rw [hfree]
    refine ⟨fun f hf => by rw [hf], fun l hf hl => by rw [hf, hl], fun f hf hl hbest => by rw [hf, hl, hbest],
      fun hf hl hbest => by rw [hf, hl, hbest]⟩
  case noSelect =>
    refine Answer.of_pos ?_ rfl
    simpa [or_assoc] using hidle
  case launch =>
    refine ⟨fun hmay => ?_, fun hmay ue => ?_⟩
    · have hexec (ue : Option Bool) := Answer.of_neg (by rw [hmay]; decide)
        (Answer.of_neg (by rw [hlaunched, hcore]; decide) (exec_txLaunch hu hl k ue))
      exact ⟨hexec none, hexec (some false), hexec (some true)⟩
    · exact Answer.of_pos (by rw [hmay]; rfl) (Answer.of_neg (by rw [hlaunched, hcore]; decide) (exec_txLaunch hu hl k ue))
  case ends =>
    have hexec (ue : Option Bool) := Answer.of_pos hlaunched (exec_txEnd hu hl ue hx)
    exact ⟨hexec none, hexec (some false), hexec (some true)⟩
  case noLaunch =>
    cases hl : (u.port p).line with
    | none => exact (exec_txLaunch_txEnd_of_free hu hl k ue).1
    | some l =>
      refine Answer.of_pos ?_ (exec_txLaunch hu hl k ue)
      simpa using hnone l hl
  case noEnd =>
    cases hl : (u.port p).line with
    | none => exact (exec_txLaunch_txEnd_of_free hu hl 0 ue).2
    | some l => exact Answer.of_neg (by rw [hnone l hl]; decide) (exec_txEnd hu hl ue rfl)

end Sys2Proof.Machine
end

section
/-! GOOSE control blocks (R306 to R313) and SV publishers (R315, R316). -/

namespace Sys2Proof.Machine

/-! ### The commands of GOOSE control blocks -/

section
variable {s w : State} {req : Requester} {i : Nat} (h : Reaches s req R.txeCmd)
  (hw : w = (s.setF R.txeCmd 15 12 0).setF R.txeCmd 27 16 i) (hi : i < 4096)
include h hw hi

theorem exec_loadPending : exec (.loadPending req i) s = .next (
    if ((w.gcb i).loading.isSome || w.gcbMirrored i) = true then w.result R.txeStatus 0x02
    else ((State.setGcb (w.setBit (R.txeGcbStatus i) 3 false) i
      { w.gcb i with loading := some (w.newLoad req (w.gcbPort i)) }).settleTxeBusy).defer (R.txeGcbCfg i)) := by
  subst hw
  refine exec_of_reaches h rfl ?_
  rw [Nat.mod_eq_of_lt hi]
  rfl

theorem exec_gcbCommit : exec (.gcbCommit req i) s = .next (
    if (w.gcbRuns i && w.bit (R.txeGcbStatus i) 3 && !w.gcbMirrored i) = true then
      (w.gcbCommitFirst i false).result R.txeStatus 0x00 else w.result R.txeStatus 0x02) := by
  subst hw
  refine exec_of_reaches h rfl ?_
  rw [Nat.mod_eq_of_lt hi]
  rfl

theorem exec_gcbEnable : exec (.gcbEnable req i) s = .next (
    if (w.gcbOn i || !w.bit (R.txeGcbStatus i) 3 || w.gcbMirrored i) = true then w.result R.txeStatus 0x02
    else if (w.portRec (w.getF (R.txeGcbCfg i) 6 0)).lanes = 0 then w.result R.txeStatus 0x03
    else (w.setGcb i { w.gcb i with enReq := true }).result R.txeStatus 0x00) := by
  subst hw
  refine exec_of_reaches h rfl ?_
  rw [Nat.mod_eq_of_lt hi]
  rfl

theorem exec_gcbDisable : exec (.gcbDisable req i) s = .next (if (w.gcbOn i && !w.gcbMirrored i) = true then
    (w.setGcb i { w.gcb i with disReq := true }).result R.txeStatus 0x00 else w.result R.txeStatus 0x02) := by
  subst hw
  refine exec_of_reaches h rfl ?_
  rw [Nat.mod_eq_of_lt hi]
  rfl

end

/-! ### Templates and due instants -/

/-- A load in flight ends when its read does, which waits while its function is in D3hot. -/
theorem State.loadRead_some {s : State} {l : TplLoad} {o : Option TplLoad} {f : TplLoad → State → State} (ho : o = some l) :
    (s.inD3 l.req = false → s.loadRead o f = f l (s.emit (.hostRead l.req l.addr l.len))) ∧
      (s.inD3 l.req = true → s.loadRead o f = s) := by
  subst ho
  exact ⟨fun hawake => if_neg (by rw [hawake]; decide), fun hsleeps => if_pos hsleeps⟩

theorem exec_templateLoadDone_gcb {s : State} {i : Nat} (hi : i < 4096) (bytes : Option (List Byte)) :
    exec (.templateLoadDone 0 i bytes) s = .next (s.loadRead (s.gcb i).loading (fun l x => x.gcbLoaded i l bytes)) := by
  have hindex : exec (.templateLoadDone 0 i bytes) s =
      .next (s.loadRead (s.gcb (i % 4096)).loading (fun l x => x.gcbLoaded (i % 4096) l bytes)) := rfl
  rw [hindex, Nat.mod_eq_of_lt hi]

/-- The steps of a curve: 0 counts as 1 and more than 8 as 8. -/
theorem State.gcbSteps_eq (s : State) (i : Nat) :
    s.gcbSteps i = max 1 (min 8 ((s.inForce (R.txeGcbCfg i)).toNat / 65536 % 16)) := by
  have hfld : fld (s.gcbCfg i) 19 16 = (s.inForce (R.txeGcbCfg i)).toNat / 65536 % 16 := rfl
  unfold State.gcbSteps
  rw [hfld]
  omega

/-- The interval before due instant `k` in hardware mode: T1 doubled up to T0 for the steps of the curve, then T0. -/
theorem State.gcbInterval_of_curve {s : State} {i t1 t0 : Nat} (k : Nat) (hflat : (s.gcb i).flat = false)
    (ht1 : t1 = (s.inForce (R.txeGcbT1Us i)).toNat % 16777216) (ht0 : t0 = (s.inForce (R.txeGcbT0Ms i)).toNat % 65536) :
    s.gcbInterval i k = if s.gcbSteps i < k then t0 * 1000000 else min (t1 * 1000 * 2 ^ (k - 1)) (t0 * 1000000) := by
  have hfld1 : fld (s.inForce (R.txeGcbT1Us i)) 23 0 = t1 := by rw [ht1, fld, Nat.pow_zero, Nat.div_one] <;> rfl
  have hfld0 : fld (s.inForce (R.txeGcbT0Ms i)) 15 0 = t0 := by rw [ht0, fld, Nat.pow_zero, Nat.div_one] <;> rfl
  unfold State.gcbInterval
  simp only [hfld1, hfld0, hflat, Bool.false_eq_true, false_or]

/-- Settles O33: each command acts where it is legal, a load ends with its read, and the curve doubles T1 up to T0. -/
theorem gooseBlocksLoadCommitAndSend : Obligations.GooseBlocksLoadCommitAndSend := by
  refine ⟨fun s i hi => ⟨fun w req h hw => ?commands, fun l bytes hl => ?load, fun bytes hnone => ?noLoad, fun hruns => ?due,
    fun hruns => Answer.of_neg (by rw [hruns]; decide) rfl⟩, fun s i k steps t1 t0 hk hflat ht1 ht0 hsteps => ?interval⟩
  case commands =>
    rw [exec_loadPending h hw hi, exec_gcbCommit h hw hi, exec_gcbEnable h hw hi, exec_gcbDisable h hw hi]
    refine ⟨fun hnone hown => ?_, fun hill => ?_, fun hruns hready hown => ?_, fun hill => ?_, fun hoff hready hown => ?_, fun hill => ?_,
      fun hon hown => ?_, fun hill => ?_⟩
    · rw [if_neg (by rw [hnone, hown]; decide)]
    · rw [if_pos (by simpa using hill)]
    · rw [if_pos (by rw [hruns, hready, hown]; rfl)]
    · rw [if_neg]
      rw [Bool.not_eq_true]
      simpa only [Bool.and_eq_false_iff, Bool.not_eq_false', or_assoc] using hill
    · rw [if_neg (by rw [hoff, hready, hown]; decide)]
      exact ⟨fun hlanes => by rw [if_neg hlanes], fun hlanes => by rw [if_pos hlanes]⟩
    · rw [if_pos (by simpa [or_assoc] using hill)]
    · rw [if_pos (by rw [hon, hown]; rfl)]
    · rw [if_neg]
      rw [Bool.not_eq_true]
      simpa only [Bool.and_eq_false_iff, Bool.not_eq_false'] using hill
  case load =>
    rw [exec_templateLoadDone_gcb hi]
    exact ⟨fun hawake => congrArg _ ((State.loadRead_some hl).1 hawake), fun hsleeps => congrArg _ ((State.loadRead_some hl).2 hsleeps)⟩
  case noLoad =>
    rw [exec_templateLoadDone_gcb hi, hnone]
    rfl
  case due => exact Answer.of_reach (Answer.of_pos hruns (rfl : exec (.gcbFrameDue i) s = _))
  case interval =>
    rw [State.gcbInterval_of_curve k hflat ht1 ht0, State.gcbSteps_eq, ← hsteps]
    exact ⟨fun hle => if_neg (not_lt.mpr hle), fun hlt => if_pos hlt⟩

/-! ### The commands of publishers -/

section
variable {s w : State} {req : Requester} {n : Nat} (h : Reaches s req R.txeCmd)
  (hw : w = (s.setF R.txeCmd 15 12 1).setF R.txeCmd 27 16 n)
include h hw

theorem exec_svpLoad : exec (.svpLoad req n) s = .next (
    if 64 ≤ n ∨ w.svpOn n = true ∨ (w.svp n).loading.isSome = true then w.result R.txeStatus 0x02
    else ((State.setSvp (w.setBit (R.txeSvpStatus n) 1 false) n
      { w.svp n with loading := some (w.newLoad req (fld (w.svpCfg n) 6 0)) }).settleTxeBusy).defer (R.txeSvpCfg n)) := by
  subst hw
  exact exec_of_reaches h rfl rfl

theorem exec_svpEnable : exec (.svpEnable req n) s = .next (
    if 64 ≤ n ∨ w.svpOn n = true ∨ (!w.bit (R.txeSvpStatus n) 1) = true then w.result R.txeStatus 0x02
    else (w.setSvp n { w.svp n with enReq := true }).result R.txeStatus 0x00) := by
  subst hw
  exact exec_of_reaches h rfl rfl

theorem exec_svpDisable : exec (.svpDisable req n) s = .next (if 64 ≤ n ∨ (!w.svpOn n) = true then w.result R.txeStatus 0x02
    else (w.setSvp n { w.svp n with disReq := true }).result R.txeStatus 0x00) := by
  subst hw
  exact exec_of_reaches h rfl rfl

end

/-! ### Slots and frames -/

/-- A read of a value slot of a tick up to the next one, by a publisher that runs with its function awake. -/
theorem exec_svpSlotRead {s : State} {n f : Nat} (values : Option (List Byte)) : exec (.svpSlotRead n f values) s = .next (
    if (decide (n < 64) && s.svpOn n && decide ((s.svp n).next ≤ f) && decide (f / max 1 (s.svpPerTick n) ≤ s.now + 1) &&
      !s.inD3 (s.svpFunc n)) = true then
      (s.emit (.hostRead (s.svpFunc n) (s.svpSlotAt n f) (s.svpSlot n))).setSvp n
        { s.svp n with slots := (s.svp n).slots.filter (fun e => e.1 != f) ++ [(f, values)] }
    else s) := rfl

/-- The frame of publisher `n` whose instant came: offered with the values of its slot, or an underrun. -/
def State.svpOffer (w s : State) (n j : Nat) (got : Option (List Byte)) : State :=
  if !(s.txPorts (fld (s.svpCfg n) 6 0)).any s.portCarries then w.inc (R.txeSvpUnderrun n)
  else match got with
    | some v => w.enqueue ⟨0, .svp n, s.txPorts (fld (s.svpCfg n) 6 0), fld (s.svpCfg n) 10 8, false, w.svpBytes n s.now j v, none,
        s.pairOf (fld (s.svpCfg n) 6 0), none, true, none, true⟩
    | none => (w.inc (R.txeSvpUnderrun n)).raise Src.svpUnderrun []

/-- The next frame of a publisher is ready at its last grid instant. -/
theorem exec_svpFrameReady {s : State} {n f j : Nat} (hf : f = max (s.svp n).next (s.now * s.svpPerTick n))
    (hj : j = f - s.now * s.svpPerTick n) : exec (.svpFrameReady n) s = .next (
      if (decide (n < 64) && s.svpOn n && s.running && decide (j < s.svpPerTick n)) = true then
        match s.reach (s.gridAt s.now (j * s.svpAsdus n + s.svpAsdus n - 1) (fld (s.svpCfg n) 31 16) * 65536) with
        | none => s
        | some u => (u.setSvp n { s.svp n with next := f + 1, slots := (s.svp n).slots.filter (fun e => decide (f < e.1)) }).svpOffer
            s n j (((s.svp n).slots.find? (fun e => e.1 == f)).bind (·.2))
      else s) := by
  subst hj hf
  rfl

/-- Settles O34: each command acts where it is legal, a slot is read for its frame, and a frame goes at its instant or underruns. -/
theorem publishersLoadReadAndSend : Obligations.PublishersLoadReadAndSend := by
  refine fun s n => ⟨fun w req h hw => ?commands, fun l bytes hn hl => ?load, fun bytes hidle => ?noLoad,
    fun f values => ⟨fun hn hon hnext htick hawake => ?slot, fun hidle => ?noSlot⟩,
    fun f j hf hj => ⟨fun hn hon hruns hlast => ?frame, fun hidle => ?noFrame⟩⟩
  case commands =>
    rw [exec_svpLoad h hw, exec_svpEnable h hw, exec_svpDisable h hw]
    refine ⟨fun hn hoff hnone => ?_, fun hill => by rw [if_pos hill], fun hn hoff hready => ?_, fun hill => ?_, fun hn hon => ?_,
      fun hill => ?_⟩
    · rw [if_neg (by simp [hn, hoff, hnone])]
    · rw [if_neg (by simp [hn, hoff, hready])]
    · rw [if_pos (by simpa using hill)]
    · rw [if_neg (by simp [hn, hon])]
    · rw [if_pos (by simpa using hill)]
  case load =>
    have hexec : exec (.templateLoadDone 1 n bytes) s = .next (s.loadRead (s.svp n).loading (fun l x => x.svpLoaded n l bytes)) :=
      Answer.of_pos hn rfl
    rw [hexec]
    exact ⟨fun hawake => congrArg _ ((State.loadRead_some hl).1 hawake), fun hsleeps => congrArg _ ((State.loadRead_some hl).2 hsleeps)⟩
  case noLoad =>
    by_cases hn : n < 64
    · have hexec : exec (.templateLoadDone 1 n bytes) s = .next (s.loadRead (s.svp n).loading (fun l x => x.svpLoaded n l bytes)) :=
        Answer.of_pos hn rfl
      rw [hexec, hidle.resolve_left (not_le.mpr hn)]
      rfl
    · exact Answer.of_neg hn rfl
  case slot => exact Answer.of_pos (by simp [hn, hon, hnext, htick, hawake]) (exec_svpSlotRead values)
  case noSlot =>
    refine Answer.of_neg ?_ (exec_svpSlotRead values)
    rw [Bool.not_eq_true]
    simpa only [Bool.and_eq_false_iff, Bool.not_eq_false', decide_eq_false_iff_not, not_lt, not_le, or_assoc] using hidle
  case frame =>
    rw [Answer.of_pos (by simp [hn, hon, hruns, hlast]) (exec_svpFrameReady hf hj)]
    refine ⟨?_, fun hwait => by rw [hwait]⟩
    rintro u w got hu rfl rfl
    rw [hu]
    unfold State.svpOffer
    refine ⟨fun hports => ?_, fun hports => by rw [hports] <;> rfl⟩
    rw [hports]
    exact ⟨fun v hv => by rw [hv] <;> rfl, fun hv => by rw [hv] <;> rfl⟩
  case noFrame =>
    refine Answer.of_neg ?_ (exec_svpFrameReady hf hj)
    rw [Bool.not_eq_true]
    simpa only [Bool.and_eq_false_iff, decide_eq_false_iff_not, not_lt, or_assoc] using hidle

end Sys2Proof.Machine
end

section
/-! Transmit entries and run-ahead bindings (R299, R319 to R322, R349). -/

namespace Sys2Proof.Machine

/-! ### Where an entry is used -/

/-- The oldest cached entry of a transmit queue or A-ring that is RUN or HELD, its function awake and no read of it failed, is used with
a completion slot and waits without. -/
theorem exec_txFetchDone {s : State} {q : Nat} {r : SqRec} {e : Entry} (frame : Option (List Byte)) (hr : s.sq? q = some r)
    (he : s.oldestCached q = some e) (hkind : r.kind = 0 ∨ r.kind = 2) (hstate : s.qState q = 1 ∨ s.qState q = 2)
    (hawake : s.inD3 (s.qOwner q) = false) (hread : s.readFailed q = false) :
    exec (.txFetchDone q frame) s = .next (if s.canReserve (s.qRing q) 1 = true then
      (if r.kind = 0 then s.txUse r e frame else s.aqUse r e frame) else s.stall (s.qRing q)) := by
  have hopen : ¬(!(r.kind == 0 || r.kind == 2) || !(s.qState q == QS.run || s.qState q == QS.held) || s.inD3 (s.qOwner q) ||
      s.readFailed q) = true := by
    have hk : (r.kind == 0 || r.kind == 2) = true := by simpa using hkind
    have hq : (s.qState q == QS.run || s.qState q == QS.held) = true := by simpa using hstate
    rw [hk, hq, hawake, hread]
    decide
  refine congrArg Host.Outcome.next ?_
  rw [hr, he]
  exact if_neg hopen

theorem exec_txFetchDone_idle {s : State} {q : Nat} (frame : Option (List Byte)) (hidle : s.sq? q = none ∨ s.oldestCached q = none ∨
    s.inD3 (s.qOwner q) = true ∨ s.readFailed q = true ∨ (s.qState q ≠ 1 ∧ s.qState q ≠ 2) ∨
    (∀ r, s.sq? q = some r → r.kind ≠ 0 ∧ r.kind ≠ 2)) : exec (.txFetchDone q frame) s = .next s := by
  refine congrArg Host.Outcome.next ?_
  cases hr : s.sq? q with
  | none => rfl
  | some r =>
    cases he : s.oldestCached q with
    | none => rfl
    | some e =>
      refine if_pos ?_
      rw [hr, he] at hidle
      obtain hfalse | hfalse | hsleeps | hfailed | ⟨hrun, hheld⟩ | hkind := hidle
      · exact absurd hfalse (Option.some_ne_none r)
      · exact absurd hfalse (Option.some_ne_none e)
      · simp [hsleeps]
      · simp [hfailed]
      · have hq : (s.qState q == QS.run || s.qState q == QS.held) = false := by
          rw [Bool.or_eq_false_iff, beq_eq_false_iff_ne, beq_eq_false_iff_ne]
          exact ⟨hrun, hheld⟩
        simp [hq]
      · obtain ⟨hzero, htwo⟩ := hkind r rfl
        simp [hzero, htwo]

/-! ### Transmit queues -/

section
variable {s u : State} {r : SqRec} {e : Entry} (hu : u = s.reserve (s.qRing r.qid) 1)
include hu

theorem State.txUse_eq (frame : Option (List Byte)) : s.txUse r e frame =
    if (!s.txOk r.port e.bytes) = true then u.complete r.qid e.idx (leAt e.bytes 0xA 2) 0x03 0
    else match frame with
      | none => (u.readFrame r.qid e.bytes).failRead r.qid e
      | some b => State.enqueue ((u.readFrame r.qid e.bytes).setEntry r.qid { e with
            stage := .ready
            left := (s.hostFrame r e.idx (slice b 0 (leAt e.bytes 8 2)) ((leAt e.bytes 0xC 1).testBit 0) true).ports.length
            slot := true }) (s.hostFrame r e.idx (slice b 0 (leAt e.bytes 8 2)) ((leAt e.bytes 0xC 1).testBit 0) true) := by
  subst hu
  rfl

/-! ### A-rings -/

/-- An A-ring entry: late past its window, waiting beyond the run-ahead depth, then by its checks, its cancellation and its room. -/
theorem State.aqUse_eq {b : List Byte} {used : Nat} (hb : b = e.bytes) (hused : used = R.txeGRaUsed (s.portGallery r.port))
    (frame : Option (List Byte)) : s.aqUse r e frame =
    if s.aqExpired b = true then s.aqLateEntry r.qid e
    else if (s.aqDepth r.qid : Int) < tickDiff (aqTarget b) s.now then s
    else if (!s.aqOk r.port b) = true then u.complete r.qid e.idx (leAt b 0xA 2) 0x03 0
    else if leAt b 0x15 1 = 1 then u.complete r.qid e.idx (leAt b 0xA 2) 0x07 0
    else if 1048576 < s.rdN used + leAt b 8 2 then s
    else match frame with
      | none => (u.readFrame r.qid b).failRead r.qid e
      | some fr => State.enqueue (State.setEntry
          (((u.readFrame r.qid b).inc (R.txeAqBound r.qid)).wrN used (s.rdN used + leAt b 8 2)) r.qid { e with
            stage := .bound
            left := (s.hostFrame r e.idx (slice fr 0 (leAt b 8 2)) ((leAt b 0x16 1).testBit 0) false).ports.length
            slot := true }) (s.hostFrame r e.idx (slice fr 0 (leAt b 8 2)) ((leAt b 0x16 1).testBit 0) false) := by
  subst hu hb hused
  rfl

end

theorem exec_raWindowExpiry {s : State} {q i : Nat} {e : Entry} (he : s.entry? q i = some e) :
    exec (.raWindowExpiry q i) s = .next (if e.stage = .bound ∧ s.qKind q = 2 ∧ s.aqExpired e.bytes = true then
      ((s.unline (.host q i)).aqExpire q e).settleStop q else s) := by
  refine congrArg Host.Outcome.next ?_
  rw [he]

/-- Settles O36: the oldest entry is used with a slot, by its checks; an A-ring entry also by its window, depth and room. -/
theorem transmitEntriesAreUsedInOrder : Obligations.TransmitEntriesAreUsedInOrder := by
  refine ⟨fun s q frame => ⟨fun r e u hr he hkind hstate hawake hread hu => ?transmit, exec_txFetchDone_idle frame⟩,
    fun s q => ⟨fun r e fr b used x hr he hkind hstate hawake hread hb hused hx => ?ring, fun i e he => ?expiry, fun i hnone => ?none⟩⟩
  case transmit =>
    rw [exec_txFetchDone frame hr he (Or.inl hkind) hstate hawake hread]
    refine ⟨fun hslot => ?_, fun hslot => congrArg _ (if_neg (by rw [hslot]; decide))⟩
    rw [if_pos hslot, if_pos hkind, State.txUse_eq hu]
    refine ⟨fun hbad => congrArg _ (if_pos (by rw [hbad]; rfl)), ?_, fun hok hfailed => ?_⟩
    · rintro b f hok rfl rfl
      exact congrArg _ (if_neg (by rw [hok]; decide))
    · rw [hfailed]
      exact congrArg _ (if_neg (by rw [hok]; decide))
  case ring =>
    have hne : r.kind ≠ 0 := by rw [hkind]; decide
    rw [exec_txFetchDone fr hr he (Or.inr hkind) hstate hawake hread]
    refine ⟨fun hslot => ?_, fun hslot => congrArg _ (if_neg (by rw [hslot]; decide))⟩
    rw [if_pos hslot, if_neg hne, State.aqUse_eq hx hb hused]
    refine ⟨fun hlate => congrArg _ (if_pos hlate), fun hlive hfar => ?_, fun hlive hnear => ?_⟩
    · rw [if_neg (by rw [hlive]; decide), if_pos hfar]
    rw [if_neg (by rw [hlive]; decide), if_neg (not_lt.mpr hnear)]
    refine ⟨fun hbad => congrArg _ (if_pos (by rw [hbad]; rfl)), fun hok => ?_⟩
    rw [if_neg (by rw [hok]; decide)]
    refine ⟨fun hcancelled => congrArg _ (if_pos hcancelled), fun hposted => ?_⟩
    rw [if_neg hposted]
    refine ⟨fun hfull => congrArg _ (if_pos hfull), fun hroom => ?_⟩
    rw [if_neg (not_lt.mpr hroom)]
    refine ⟨?_, ?_⟩
    · rintro rfl
      rfl
    · rintro fb f rfl rfl
      rfl
  case expiry =>
    refine ⟨fun hbound hkind hlate => Answer.of_pos ⟨hbound, hkind, hlate⟩ (exec_raWindowExpiry he),
      fun hidle => Answer.of_neg ?_ (exec_raWindowExpiry he)⟩
    rintro ⟨hbound, hkind, hlate⟩
    rw [hlate] at hidle
    obtain hne | hne | hfalse := hidle
    · exact hne hbound
    · exact hne hkind
    · exact absurd hfalse (by decide)
  case none =>
    refine congrArg Host.Outcome.next ?_
    rw [hnone]

end Sys2Proof.Machine
end

section
/-! Fetched descriptors and received frames (R328 to R349). -/

namespace Sys2Proof.Machine

/-! ### The descriptor cache (R341) -/

/-- What comes for an index that is still wanted joins the cache; for any other the fetch goes on. -/
theorem exec_descFetchDone {s x y : State} {q i : Nat} {stale : Bool} (data : Option (List Byte)) (hx : x = s.issueFetch q)
    (hfetch : (x.queue q).fetching = some (i, stale)) (hy : y = x.setQueue q { x.queue q with fetching := none }) :
    exec (.descFetchDone q data) s = .next (
      if (stale || (y.queue q).done.contains i || (y.entry? q i).isSome || !y.mayFetch q) = true then y.issueFetch q
      else y.fetched q i data) := by
  subst hy hx
  refine congrArg Host.Outcome.next ?_
  dsimp only
  rw [hfetch]

theorem exec_descFetchDone_of_none {s x : State} {q : Nat} (data : Option (List Byte)) (hx : x = s.issueFetch q)
    (hfetch : (x.queue q).fetching = none) : exec (.descFetchDone q data) s = .next x := by
  subst hx
  refine congrArg Host.Outcome.next ?_
  dsimp only
  rw [hfetch]

/-- A failed read joins the cache as failed. -/
theorem State.fetched_none (y : State) (q i : Nat) : y.fetched q i none = ((State.setF (y.setQueue q { y.queue q with
    entries := insertEntry (y.qHead q) ⟨i, [], .failed, 0, [], 0, none, false⟩ (y.queue q).entries })
    (R.qmQFetched q) 15 0 (i + 1)).settleFailed q).settleStop q := rfl

/-- An entry that was read joins the cache in ring order; an A-ring's unless it lies beyond the run-ahead depth or has no room. -/
theorem State.fetched_some {y z : State} {q i : Nat} {d b : List Byte} (hb : b = slice d 0 (entrySize (y.qKind q)))
    (hz : z = State.setF (y.setQueue q { y.queue q with
      entries := insertEntry (y.qHead q) ⟨i, b, .cached, 0, [], 0, none, false⟩ (y.queue q).entries }) (R.qmQFetched q) 15 0 (i + 1)) :
    y.fetched q i (some d) = if y.qKind q = 2 ∧ ((y.aqDepth q : Int) < tickDiff (aqTarget b) y.now ∨
        1048576 < y.rdN (R.txeGRaUsed (y.qGallery q)) + leAt b 8 2) then y
      else (if y.qKind q = 2 then z.aqLateFront q else z).issueFetch q := by
  subst hz hb
  rfl

/-! ### Received frames (R338, R347) -/

/-- The oldest waiting frame of a running receive queue, its function awake, goes to the next entry in ring order. -/
def State.rxGive (s : State) (q : Nat) (e : Entry) (f : RxFrame) (rest : List RxFrame) : State :=
  let u := s.reserve (s.qRing q) 1
  let w := u.setQueue q { u.queue q with rxWait := rest }
  let ts := (s.queue q).rxTs && !f.stamp.isEmpty
  let tail := (if ts then f.stamp else []) ++ f.twin
  let trl := (f.bytes.length + 7) / 8 * 8
  if !rxOk e.bytes then (u.complete q e.idx (leAt e.bytes 0xA 2) 0x03 0).rxStarve q
  else if leAt e.bytes 8 2 < trl + tail.length then
    w.complete q e.idx (leAt e.bytes 0xA 2) 0x0D (rxInfo f.bytes.length false f.tick)
  else State.complete ((w.dataWrite (s.qOwner q) (leAt e.bytes 0 8) f.bytes).dataWrite (s.qOwner q) (leAt e.bytes 0 8 + trl) tail)
    q e.idx (leAt e.bytes 0xA 2) 0x00 (rxInfo f.bytes.length ts f.tick)

theorem exec_rxFrameDeliver {s : State} {q : Nat} {e : Entry} {f : RxFrame} {rest : List RxFrame} (he : s.rxNext q = some e)
    (hwait : (s.queue q).rxWait = f :: rest) (hkind : s.qKind q = 1) (hrun : s.qState q = 1) (hawake : s.inD3 (s.qOwner q) = false) :
    exec (.rxFrameDeliver q) s = .next (if (!s.canReserve (s.qRing q) 1) = true then s.stall (s.qRing q)
      else s.rxGive q e f rest) := by
  have hopen : ¬(s.qKind q ≠ 1 ∨ s.qState q ≠ QS.run ∨ s.inD3 (s.qOwner q) = true) := by
    rw [hawake]
    rintro (hne | hne | hfalse)
    · exact hne hkind
    · exact hne hrun
    · exact absurd hfalse (by decide)
  refine congrArg Host.Outcome.next ?_
  rw [he, hwait]
  exact if_neg hopen

theorem exec_rxFrameDeliver_idle {s : State} {q : Nat} (hidle : s.rxNext q = none ∨ (s.queue q).rxWait = [] ∨ s.qKind q ≠ 1 ∨
    s.qState q ≠ 1 ∨ s.inD3 (s.qOwner q) = true) : exec (.rxFrameDeliver q) s = .next s := by
  refine congrArg Host.Outcome.next ?_
  cases he : s.rxNext q with
  | none => rfl
  | some e =>
    cases hwait : (s.queue q).rxWait with
    | nil => rfl
    | cons f rest =>
      rw [he, hwait] at hidle
      exact if_pos ((hidle.resolve_left (Option.some_ne_none e)).resolve_left (List.cons_ne_nil f rest))

/-- What a frame that is given brings: CHECK, NO_RESOURCE, or its octets, its trailers and OK. -/
theorem State.rxGive_eq {s u w : State} {q trl : Nat} {e : Entry} {f : RxFrame} {rest : List RxFrame} {ts : Bool} {tail : List Byte}
    (hu : u = s.reserve (s.qRing q) 1) (hw : w = u.setQueue q { u.queue q with rxWait := rest })
    (hts : ts = ((s.queue q).rxTs && !f.stamp.isEmpty)) (hstamped : ts = true → tail = f.stamp ++ f.twin)
    (hplain : ts = false → tail = f.twin) (htrl : trl = (f.bytes.length + 7) / 8 * 8) :
    s.rxGive q e f rest = if (!rxOk e.bytes) = true then (u.complete q e.idx (leAt e.bytes 0xA 2) 0x03 0).rxStarve q
      else if leAt e.bytes 8 2 < trl + tail.length then
        w.complete q e.idx (leAt e.bytes 0xA 2) 0x0D (rxInfo f.bytes.length false f.tick)
      else State.complete ((w.dataWrite (s.qOwner q) (leAt e.bytes 0 8) f.bytes).dataWrite (s.qOwner q)
        (leAt e.bytes 0 8 + trl) tail) q e.idx (leAt e.bytes 0xA 2) 0x00 (rxInfo f.bytes.length ts f.tick) := by
  have htail : tail = (if ts = true then f.stamp else []) ++ f.twin := by
    cases ts with
    | true => exact hstamped rfl
    | false => exact hplain rfl
  subst htail htrl hts hw hu
  rfl

/-- Settles O37: a read joins the cache or is discarded, and a waiting frame is given by the entry's checks and room. -/
theorem receiveQueuesFetchAndDeliver : Obligations.ReceiveQueuesFetchAndDeliver := by
  refine fun s q => ⟨fun data x hx => ⟨exec_descFetchDone_of_none data hx, fun i stale y hfetch hy => ⟨fun hgone => ?gone,
      fun hfresh hopen hnew hmay => ?joins⟩⟩,
    fun e f rest he hwait hkind hrun hawake => ?deliver, exec_rxFrameDeliver_idle⟩
  case gone =>
    refine Answer.of_pos ?_ (exec_descFetchDone data hx hfetch hy)
    simpa only [Bool.or_eq_true, Bool.not_eq_true', or_assoc] using hgone
  case joins =>
    have hexec := Answer.of_neg (by rw [hfresh, hopen, hnew, hmay]; decide) (exec_descFetchDone data hx hfetch hy)
    rw [hexec]
    refine ⟨?_, ?_⟩
    · rintro rfl
      exact congrArg _ (y.fetched_none q i)
    · rintro d b z rfl hb hz
      rw [State.fetched_some hb hz]
      refine ⟨fun hkind => ?_, fun hkind => ⟨fun hout => congrArg _ (if_pos ⟨hkind, hout⟩), fun hdepth hroom => ?_⟩⟩
      · rw [if_neg (fun h => hkind h.1), if_neg hkind]
      · rw [if_neg (fun h => h.2.elim (not_lt.mpr hdepth) (not_lt.mpr hroom)), if_pos hkind]
  case deliver =>
    have hexec := exec_rxFrameDeliver he hwait hkind hrun hawake
    refine ⟨fun hslot => Answer.of_pos (by rw [hslot]; rfl) hexec, fun u w ts tail trl hslot hu hw hts hstamped hplain htrl => ?_⟩
    rw [Answer.of_neg (by rw [hslot]; decide) hexec, State.rxGive_eq hu hw hts hstamped hplain htrl]
    refine ⟨fun hbad => congrArg _ (if_pos (by rw [hbad]; rfl)), fun hok => ?_⟩
    rw [if_neg (by rw [hok]; decide)]
    exact ⟨fun hsmall => congrArg _ (if_pos hsmall), fun hroom => congrArg _ (if_neg (not_lt.mpr hroom))⟩

end Sys2Proof.Machine
end

section
/-! Work entries (R339, R340, R349): how one issues, and what its operation does. -/

namespace Sys2Proof.Machine

/-! ### How an entry issues -/

section
variable {s s1 : State} {q : Nat} {e e1 : Entry} {b : List Byte} (he : s.oldestCached q = some e) (hb : b = e.bytes)
  (hkind : s.qKind q = 3) (hrun : s.qState q = 1) (hawake : s.inD3 (s.qOwner q) = false) (hread : s.readFailed q = false)
  (hcore : s.coreRuns = true) (he1 : e1 = { e with stage := .issued, slot := true })
  (hs1 : s1 = (s.reserve (s.qRing q) 1).setEntry q e1)
include he hb hkind hrun hawake hread hcore he1 hs1

/-- The oldest entry of a RUN queue goes by its operation, its fence, its slot and its check. -/
theorem State.issue_eq (op : Nat) (f : Entry → State → State) : s.issue q op f =
    if s.workReason q b = 0 ∧ workOp b ≠ op then s
    else if (workClean b && workFence b && !(e.idx == s.qHead q)) = true then s
    else if (!s.canReserve (s.qRing q) 1) = true then s.stall (s.qRing q)
    else if s.workReason q b ≠ 0 then s1.workDone q e1 0x03 (s.workReason q b * 4294967296)
    else f e1 s1 := by
  have hopen : ¬(s.qKind q ≠ 3 ∨ s.qState q ≠ QS.run ∨ s.inD3 (s.qOwner q) = true ∨ s.readFailed q = true ∨ (!s.coreRuns) = true) := by
    rw [hawake, hread, hcore]
    rintro (hne | hne | hfalse | hfalse | hfalse)
    · exact hne hkind
    · exact hne hrun
    all_goals exact absurd hfalse (by decide)
  subst hs1 he1 hb
  unfold State.issue
  rw [he]
  exact if_neg hopen

variable {c : Instr} {op : Nat} {f : Entry → State → State} (hc : exec c s = .next (s.issue q op f))
include hc

/-- An entry of the row's operation or one that fails its check, not held by its fence: its slot, then CHECK or its effect. -/
theorem exec_work_issues (hpass : workClean b = false ∨ workFence b = false ∨ e.idx = s.qHead q) :
    (s.canReserve (s.qRing q) 1 = true →
      (s.workReason q b ≠ 0 → exec c s = .next (s1.workDone q e1 0x03 (s.workReason q b * 4294967296))) ∧
      (s.workReason q b = 0 → workOp b = op → exec c s = .next (f e1 s1))) ∧
    (s.canReserve (s.qRing q) 1 = false → s.workReason q b ≠ 0 ∨ workOp b = op → exec c s = .next (s.stall (s.qRing q))) := by
  have hfence : ¬(workClean b && workFence b && !(e.idx == s.qHead q)) = true := by
    rw [Bool.not_eq_true]
    simpa only [Bool.and_eq_false_iff, Bool.not_eq_false', beq_iff_eq, or_assoc] using hpass
  rw [hc, State.issue_eq he hb hkind hrun hawake hread hcore he1 hs1]
  refine ⟨fun hslot => ⟨fun hbad => ?_, fun hgood hop => ?_⟩, fun hslot hmine => ?_⟩
  · rw [if_neg (fun h => hbad h.1), if_neg hfence, if_neg (by rw [hslot]; decide), if_pos hbad]
  · rw [if_neg (fun h => h.2 hop), if_neg hfence, if_neg (by rw [hslot]; decide), if_neg (not_not_intro hgood)]
  · rw [if_neg (fun h => hmine.elim (· h.1) h.2), if_neg hfence, if_pos (by rw [hslot]; rfl)]

/-- A fenced entry waits while an earlier one has no completion. -/
theorem exec_work_fenced (hclean : workClean b = true) (hfence : workFence b = true) (hlater : e.idx ≠ s.qHead q) :
    exec c s = .next s := by
  rw [hc, State.issue_eq he hb hkind hrun hawake hread hcore he1 hs1, if_pos (c := (_ && _ && _) = true) (by simp [hclean, hfence, hlater]),
    ite_self]

/-- A row of another operation does nothing. -/
theorem exec_work_other (hgood : s.workReason q b = 0) (hop : workOp b ≠ op) : exec c s = .next s := by
  rw [hc, State.issue_eq he hb hkind hrun hawake hread hcore he1 hs1, if_pos ⟨hgood, hop⟩]

end

/-- A queue without a cached entry, or in another state, does nothing. -/
theorem State.issue_idle {s : State} {q : Nat} (hidle : s.oldestCached q = none ∨ s.qKind q ≠ 3 ∨ s.qState q ≠ 1 ∨
    s.inD3 (s.qOwner q) = true ∨ s.readFailed q = true ∨ s.coreRuns = false) (op : Nat) (f : Entry → State → State) :
    s.issue q op f = s := by
  unfold State.issue
  cases he : s.oldestCached q with
  | none => rfl
  | some e =>
    refine if_pos ?_
    rw [Bool.not_eq_true']
    exact hidle.resolve_left (by rw [he]; exact Option.some_ne_none e)

/-! ### What the operations do -/

section
variable {s : State} {q : Nat} {e : Entry} {b : List Byte} (hb : b = e.bytes)
include hb

theorem State.csrWork_stopped {alt : State} (info : Nat) (h : s.workStopped q (workArg b) = true) :
    (if s.workStopped q (workArg e.bytes) = true then s.workTimeout q e info else alt) = s.workTimeout q e info :=
  if_pos (hb ▸ h)

theorem State.csrWork_running {alt : State} (info : Nat) (h : s.workStopped q (workArg b) = false) :
    (if s.workStopped q (workArg e.bytes) = true then s.workTimeout q e info else alt) = alt :=
  if_neg (by rw [← hb, h]; decide)

end

/-- Settles O38: an entry issues by its fence, slot and check, then does what its operation says. -/
theorem workEntriesIssueAndComplete : Obligations.WorkEntriesIssueAndComplete := by
  refine fun s q => ⟨fun e e1 s1 b he hb hkind hrun hawake hread hcore he1 hs1 => ?issues, fun hidle => ?idle⟩
  case idle =>
    simp only [List.forall_mem_cons, List.not_mem_nil, IsEmpty.forall_iff, implies_true, and_true]
    refine ⟨?_, ?_, ?_, ?_, ?_⟩ <;> exact congrArg Host.Outcome.next (State.issue_idle hidle _ _)
  case issues =>
    have hb1 : b = e1.bytes := by rw [he1, hb]
    have hissues {c : Instr} {op : Nat} {f : Entry → State → State} (hc : exec c s = .next (s.issue q op f)) :=
      exec_work_issues he hb hkind hrun hawake hread hcore he1 hs1 hc
    have hother {c : Instr} {op : Nat} {f : Entry → State → State} (hc : exec c s = .next (s.issue q op f)) :=
      exec_work_other he hb hkind hrun hawake hread hcore he1 hs1 hc
    have hfenced {c : Instr} {op : Nat} {f : Entry → State → State} (hc : exec c s = .next (s.issue q op f)) :=
      exec_work_fenced he hb hkind hrun hawake hread hcore he1 hs1 hc
    refine ⟨fun hpass => ⟨fun hslot => ⟨fun hbad => ?check, fun hgood => ?done⟩, fun hslot => ?stall⟩, fun hclean hfence hlater => ?fenced,
      fun hgood => ⟨hother rfl hgood, hother rfl hgood, hother rfl hgood, hother rfl hgood, hother rfl hgood⟩⟩
    case check =>
      simp only [List.forall_mem_cons, List.not_mem_nil, IsEmpty.forall_iff, implies_true, and_true]
      exact ⟨((hissues rfl hpass).1 hslot).1 hbad, ((hissues rfl hpass).1 hslot).1 hbad, ((hissues rfl hpass).1 hslot).1 hbad,
        ((hissues rfl hpass).1 hslot).1 hbad, ((hissues rfl hpass).1 hslot).1 hbad⟩
    case done =>
      have hdone {c : Instr} {op : Nat} {f : Entry → State → State} (hc : exec c s = .next (s.issue q op f)) (hop : workOp b = op) :
          exec c s = .next (f e1 s1) := ((hissues hc hpass).1 hslot).2 hgood hop
      refine ⟨fun hop => (hdone (c := .nop q) rfl hop).trans rfl, fun hop hclock => ?_, fun hop hclock x hx => ?_, fun hop hclock => ?_, fun hop hclock a ha => ?_,
        fun hop hclock => ?_, fun hop hclock => ?_, fun hop hclock => ?_, fun hop hclock => ?_⟩
      · subst hb1
        exact (hdone rfl hop).trans (congrArg _ (State.csrWork_running rfl 0 hclock))
      · subst hb1 hx
        refine (hdone rfl hop).trans (congrArg _ ((State.csrWork_running rfl _ hclock).trans ?_))
        dsimp only
        cases (s1.busRead (.wq q) (workArg e1.bytes)).1 <;> rfl
      · subst hb1
        exact (hdone rfl hop).trans (congrArg _ (State.csrWork_running rfl 0 hclock))
      · subst hb1 ha
        exact (hdone rfl hop).trans (congrArg _ (if_neg (by rw [hclock]; decide)))
      · subst hb1
        exact (hdone rfl hop).trans (congrArg _ (State.csrWork_stopped rfl 0 hclock))
      · subst hb1
        exact (hdone rfl hop).trans (congrArg _ (State.csrWork_stopped rfl _ hclock))
      · subst hb1
        exact (hdone rfl hop).trans (congrArg _ (State.csrWork_stopped rfl 0 hclock))
      · subst hb1
        exact (hdone rfl hop).trans (congrArg _ (if_pos hclock))
    case stall =>
      simp only [List.forall_mem_cons, List.not_mem_nil, IsEmpty.forall_iff, implies_true, and_true]
      simp only [List.mem_cons, List.not_mem_nil, Prod.mk.injEq, reduceCtorEq, false_and, true_and, or_false, false_or]
      exact ⟨(hissues rfl hpass).2 hslot, (hissues rfl hpass).2 hslot, (hissues rfl hpass).2 hslot, (hissues rfl hpass).2 hslot,
        (hissues rfl hpass).2 hslot⟩
    case fenced =>
      simp only [List.forall_mem_cons, List.not_mem_nil, IsEmpty.forall_iff, implies_true, and_true]
      exact ⟨hfenced rfl hclean hfence hlater, hfenced rfl hclean hfence hlater, hfenced rfl hclean hfence hlater,
        hfenced rfl hclean hfence hlater, hfenced rfl hclean hfence hlater⟩

end Sys2Proof.Machine
end

section
/-! The commands of QM.CMD on queues and rings (R352 to R355, R358). -/

namespace Sys2Proof.Machine

section
variable {s w t : State} {req : Requester} {ring : Bool} {index i : Nat} {c : Instr} {f : Nat → State → State}
  (hc : exec c s = .next (s.qmCommand req ring index f)) (hboot : 6 ≤ s.boot.stage) (hclock : s.clockStopped R.qmCmd = false)
  (hw : w = (s.setBit R.qmCmd 15 ring).setF R.qmCmd 31 16 index) (hi : i = w.qmIndex req ring index)
include hc hboot hclock hw hi

/-- A command of a requester that may act on a queue or ring that no mirror owns has its effect. -/
theorem exec_qmCommand_of_may {o : Nat × Nat} (howner : w.qmOwner ring i = some o) (hmay : w.qmMay req o.1 o.2 = true)
    (hfree : ring = true ∨ w.qMirrored i = false) (ht : f i w = t) : exec c s = .next t :=
  hc.trans (congrArg _ ((State.qmCommand_of_may f hboot hclock hw hi howner hmay hfree).trans ht))

theorem exec_qmCommand_of_foreign {o : Nat × Nat} (howner : w.qmOwner ring i = some o) (hmay : w.qmMay req o.1 o.2 = false) :
    exec c s = .next ((w.inc R.qmForeignWr).result R.qmStatus 0x02) :=
  hc.trans (congrArg _ (State.qmCommand_of_foreign f hboot hclock hw hi howner hmay))

theorem exec_qmCommand_of_not_planned (howner : w.qmOwner ring i = none) : exec c s = .next (w.result R.qmStatus 0x02) :=
  hc.trans (congrArg _ (State.qmCommand_of_not_planned f hboot hclock hw hi howner))

theorem exec_qmCommand_of_mirrored {o : Nat × Nat} (howner : w.qmOwner ring i = some o) (hmay : w.qmMay req o.1 o.2 = true)
    (hring : (!ring) = true) (hmirror : w.qMirrored i = true) : exec c s = .next (w.result R.qmStatus 0x02) :=
  hc.trans (congrArg _ (State.qmCommand_of_mirrored f hboot hclock hw hi howner hmay hring hmirror))

end

/-- What each command does to a queue that it may act on: its effect in the states that allow it, else STATE. -/
theorem queueCommands_by_state {s w : State} {req : Requester} {index i : Nat} (hboot : 6 ≤ s.boot.stage)
    (hclock : s.clockStopped R.qmCmd = false) (hw : w = (s.setBit R.qmCmd 15 false).setF R.qmCmd 31 16 index)
    (hi : i = w.qmIndex req false index) {o : Nat × Nat} (howner : w.qmOwner false i = some o) (hmay : w.qmMay req o.1 o.2 = true)
    (hmirror : w.qMirrored i = false) :
    exec (.qmEnable req false index) s = .next (if w.qState i = 0 ∧ w.qBaseOk i = true ∧ w.crEnabled (w.qRing i) = true then
        (((w.takeCfg i).setF (R.qmQStatus i) 2 0 1).issueFetch i).result R.qmStatus 0x00 else w.result R.qmStatus 0x02) ∧
    exec (.qmHold req false index) s = .next (if (w.qState i == 1) = true then (w.holdQueue i).result R.qmStatus 0x00
      else w.result R.qmStatus 0x02) ∧
    exec (.qmRelease req false index) s = .next (if (w.qState i == 2) = true then (w.releaseQueue i).result R.qmStatus 0x00
      else w.result R.qmStatus 0x02) ∧
    exec (.qmStop req false index) s = .next (if (w.qState i == 1 || w.qState i == 2) = true then State.settleStop (State.stopQueue
        (((w.setQueue i { w.queue i with stopCmd := true }).setBit R.qmStatus 0 true).defer (R.qmQCfg i)) i 1) i
      else w.result R.qmStatus 0x02) ∧
    exec (.resume req false index) s = .next (if (w.qState i == 4) = true then State.result (State.issueFetch (State.setF (State.setF
        (w.takeCfg i) (R.qmQFetched i) 15 0 (w.qHead i)) (R.qmQStatus i) 2 0 1) i) R.qmStatus 0x00 else w.result R.qmStatus 0x02) ∧
    exec (.qmDisable req false index) s = .next (if w.qState i = 4 then (w.setF (R.qmQStatus i) 2 0 0).result R.qmStatus 0x00
      else w.result R.qmStatus 0x02) ∧
    exec (.resetIdx req false index) s = .next (if w.qState i = 0 then (w.clearIdx i).result R.qmStatus 0x00
      else w.result R.qmStatus 0x02) := by
  have hmine {c : Instr} {t : State} {f : Nat → State → State} (hc : exec c s = .next (s.qmCommand req false index f))
      (ht : f i w = t) : exec c s = .next t := exec_qmCommand_of_may hc hboot hclock hw hi howner hmay (Or.inr hmirror) ht
  exact ⟨hmine rfl rfl, hmine rfl rfl, hmine rfl rfl, hmine rfl rfl, hmine rfl rfl, hmine rfl rfl, hmine rfl rfl⟩

/-- What each command does to a ring that it may act on. -/
theorem ringCommands_by_state {s w : State} {req : Requester} {index i : Nat} (hboot : 6 ≤ s.boot.stage)
    (hclock : s.clockStopped R.qmCmd = false) (hw : w = (s.setBit R.qmCmd 15 true).setF R.qmCmd 31 16 index)
    (hi : i = w.qmIndex req true index) {o : Nat × Nat} (howner : w.qmOwner true i = some o) (hmay : w.qmMay req o.1 o.2 = true) :
    exec (.qmEnable req true index) s = .next (
      if (!w.crEnabled i && baseOk (w.rd64 (R.qmCrBase i)) (w.crSize i * 16)) = true then
        (w.setBit (R.qmCrInfo i) 16 true).result R.qmStatus 0x00 else w.result R.qmStatus 0x02) ∧
    exec (.qmDisable req true index) s = .next (
      if (w.crEnabled i && (w.queuesOf i).all (fun q => w.qState q == 0)) = true then
        (w.setBit (R.qmCrInfo i) 16 false).result R.qmStatus 0x00 else w.result R.qmStatus 0x02) ∧
    exec (.resetIdx req true index) s = .next (if w.crEnabled i = true then w.result R.qmStatus 0x02
      else ((w.setF (R.qmCrHead i) 15 0 0).setF (R.qmCrTail i) 15 0 0).result R.qmStatus 0x00) ∧
    exec (.qmHold req true index) s = .next (w.result R.qmStatus 0x02) ∧
    exec (.qmRelease req true index) s = .next (w.result R.qmStatus 0x02) ∧
    exec (.qmStop req true index) s = .next (w.result R.qmStatus 0x02) ∧
    exec (.resume req true index) s = .next (w.result R.qmStatus 0x02) := by
  have hmine {c : Instr} {t : State} {f : Nat → State → State} (hc : exec c s = .next (s.qmCommand req true index f))
      (ht : f i w = t) : exec c s = .next t := exec_qmCommand_of_may hc hboot hclock hw hi howner hmay (Or.inl rfl) ht
  exact ⟨hmine rfl rfl, hmine rfl rfl, hmine rfl rfl, hmine rfl rfl, hmine rfl rfl, hmine rfl rfl, hmine rfl rfl⟩

/-- Settles O39: each command acts by the state of its queue or ring, and by the right to issue it. -/
theorem queueAndRingCommandsTakeEffect : Obligations.QueueAndRingCommandsTakeEffect := by
  refine ⟨fun s w req index i hboot hclock hw hi => ⟨fun o howner hmay hmirror => ?queue, ?queueRight, fun q => ?stopped⟩,
    fun s w req index i hboot hclock hw hi => ⟨fun o howner hmay => ?ring, ?ringRight⟩⟩
  case queue =>
    obtain ⟨henable, hhold, hrelease, hstop, hresume, hdisable, hreset⟩ :=
      queueCommands_by_state hboot hclock hw hi howner hmay hmirror
    refine ⟨fun hoff hbase hring => Answer.of_pos ⟨hoff, hbase, hring⟩ henable, fun hill => ?_, fun hrun => ?_, fun hrun => ?_,
      fun hheld => ?_, fun hheld => ?_, fun hopen => ?_, fun hrun hheld => ?_, fun hst => ?_, fun hst => ?_,
      fun hst => Answer.of_pos hst hdisable, fun hst => Answer.of_neg hst hdisable, fun hoff => Answer.of_pos hoff hreset,
      fun hoff => Answer.of_neg hoff hreset⟩
    · refine Answer.of_neg ?_ henable
      rintro ⟨hoff, hbase, hring⟩
      rw [hbase, hring] at hill
      exact hill.elim (· hoff) (by decide)
    · have hheld : w.holdQueue i = w.setF (R.qmQStatus i) 2 0 2 := if_pos hrun
      rw [← hheld]
      exact Answer.of_pos (beq_iff_eq.mpr hrun) hhold
    · exact Answer.of_neg (fun h => hrun (beq_iff_eq.mp h)) hhold
    · have hrun : w.releaseQueue i = w.setF (R.qmQStatus i) 2 0 1 := if_pos hheld
      rw [← hrun]
      exact Answer.of_pos (beq_iff_eq.mpr hheld) hrelease
    · exact Answer.of_neg (fun h => hheld (beq_iff_eq.mp h)) hrelease
    · exact Answer.of_pos (by simpa using hopen) hstop
    · exact Answer.of_neg (by simp [hrun, hheld]) hstop
    · exact Answer.of_pos (beq_iff_eq.mpr hst) hresume
    · exact Answer.of_neg (fun h => hst (beq_iff_eq.mp h)) hresume
  case queueRight =>
    simp only [List.forall_mem_cons, List.not_mem_nil, IsEmpty.forall_iff, implies_true, and_true]
    have hright {c : Instr} {f : Nat → State → State} (hc : exec c s = .next (s.qmCommand req false index f)) :
        (∀ o, w.qmOwner false i = some o → w.qmMay req o.1 o.2 = false →
          exec c s = .next ((w.inc R.qmForeignWr).result R.qmStatus 0x02)) ∧
        (∀ o, w.qmOwner false i = some o → w.qmMay req o.1 o.2 = true → w.qMirrored i = true →
          exec c s = .next (w.result R.qmStatus 0x02)) ∧
        (w.qmOwner false i = none → exec c s = .next (w.result R.qmStatus 0x02)) :=
      ⟨fun o howner hmay => exec_qmCommand_of_foreign hc hboot hclock hw hi howner hmay,
        fun o howner hmay hmirror => exec_qmCommand_of_mirrored hc hboot hclock hw hi howner hmay rfl hmirror,
        exec_qmCommand_of_not_planned hc hboot hclock hw hi⟩
    exact ⟨hright rfl, hright rfl, hright rfl, hright rfl, hright rfl, hright rfl, hright rfl⟩
  case stopped => exact ⟨fun hex => Answer.of_pos hex rfl, fun hex => Answer.of_neg (by rw [hex]; decide) rfl⟩
  case ring =>
    obtain ⟨henable, hdisable, hreset, hhold, hrelease, hstop, hresume⟩ := ringCommands_by_state hboot hclock hw hi howner hmay
    refine ⟨fun hoff hbase => Answer.of_pos (by rw [hoff, hbase]; rfl) henable, fun hill => Answer.of_neg ?_ henable,
      fun hon hqueues => Answer.of_pos (by rw [hon, hqueues]; rfl) hdisable, fun hill => Answer.of_neg ?_ hdisable,
      fun hoff => Answer.of_neg (by rw [hoff]; decide) hreset, fun hon => Answer.of_pos hon hreset, ?_⟩
    · rw [Bool.not_eq_true]
      simpa only [Bool.and_eq_false_iff, Bool.not_eq_false'] using hill
    · rw [Bool.not_eq_true, Bool.and_eq_false_iff]
      exact hill
    · simp only [List.forall_mem_cons, List.not_mem_nil, IsEmpty.forall_iff, implies_true, and_true]
      exact ⟨hhold, hrelease, hstop, hresume⟩
  case ringRight =>
    simp only [List.forall_mem_cons, List.not_mem_nil, IsEmpty.forall_iff, implies_true, and_true]
    have hright {c : Instr} {f : Nat → State → State} (hc : exec c s = .next (s.qmCommand req true index f)) :
        (∀ o, w.qmOwner true i = some o → w.qmMay req o.1 o.2 = false →
          exec c s = .next ((w.inc R.qmForeignWr).result R.qmStatus 0x02)) ∧
        (w.qmOwner true i = none → exec c s = .next (w.result R.qmStatus 0x02)) :=
      ⟨fun o howner hmay => exec_qmCommand_of_foreign hc hboot hclock hw hi howner hmay,
        exec_qmCommand_of_not_planned hc hboot hclock hw hi⟩
    exact ⟨hright rfl, hright rfl, hright rfl, hright rfl, hright rfl, hright rfl, hright rfl⟩

end Sys2Proof.Machine
end

section
/-! Doorbells and head reports (R322, R331 to R334, R343, R358). -/

namespace Sys2Proof.Machine

/-! ### Who a doorbell reaches -/

section
variable {s : State} {req : Requester} {q : Nat} (f : State → State)

theorem State.doorbell_of_closed (h : s.barOpen = false) : s.doorbell req q f = s :=
  if_pos (by rw [h]; rfl)

/-- Through any other function, and of a queue that is not in the plan, a doorbell is dropped and counted. -/
theorem State.doorbell_of_foreign (hopen : s.barOpen = true)
    (hforeign : ∀ x, s.sq? q = some x → req.owns x.func x.vf = false) : s.doorbell req q f = s.inc R.qmDbDrop := by
  refine (if_neg (by rw [hopen]; decide)).trans ?_
  cases hx : s.sq? q with
  | none => rfl
  | some x => exact if_neg (by rw [hforeign x hx]; decide)

variable (hopen : s.barOpen = true) {x : SqRec} (hx : s.sq? q = some x) (hown : req.owns x.func x.vf = true)
include hopen hx hown

theorem State.doorbell_of_owner : s.doorbell req q f = f s := by
  refine (if_neg (by rw [hopen]; decide)).trans ?_
  rw [hx]
  exact if_pos hown

theorem State.postDoorbell_of_free (hfree : s.qMirrored q = false) : s.postDoorbell req q f = f s :=
  (State.doorbell_of_owner _ hopen hx hown).trans (if_neg (by rw [hfree]; decide))

theorem State.postDoorbell_of_mirrored (hmirror : s.qMirrored q = true) : s.postDoorbell req q f = s.inc R.rdnOwnedDrop :=
  (State.doorbell_of_owner _ hopen hx hown).trans (if_pos hmirror)

end

/-! ### Head reports (R331) -/

/-- A report at most the ring's size behind its tail is taken, any other is a lap error. -/
theorem State.reportHead_eq (s : State) (i h : Nat) : s.reportHead i h = if s.crSize i < idxDist (s.crTail i) h then
    (s.hwSet (R.qmCrStatus i) 0).raise Src.qmCrLap []
    else forEach (s.queuesOf i) (fun q x => x.drainQueue q) (s.setF (R.qmCrHead i) 15 0 h) := rfl

section
variable {s : State} {req : Requester} {r i : Nat} {v : Reg} (hboot : 6 ≤ s.boot.stage) (hclock : s.clockStopped (R.qmCrHead i) = false)
  (hi : i = s.qmIndex req true r)
include hboot hclock hi

/-- A write of a ring's HEAD that BAR0 takes goes by the ring's owner. -/
theorem exec_crHeadWrite : exec (.crHeadWrite req r v) s = .next (match s.qmOwner true i with
    | some o => if s.qmMay req o.1 o.2 then s.reportHead i (fld v 15 0)
      else if isMgmt (s.acting req) then s.inc R.topMgtWrDrop else s.inc R.qmForeignWr
    | none => if isMgmt (s.acting req) then s.inc R.topMgtWrDrop else s.inc R.qmForeignWr) := by
  subst hi
  exact congrArg Host.Outcome.next (State.qmReach_of_open hboot hclock _)

theorem exec_crHeadWrite_of_foreign (hforeign : ∀ o, s.qmOwner true i = some o → s.qmMay req o.1 o.2 = false) :
    exec (.crHeadWrite req r v) s = .next (s.inc (if isMgmt (s.acting req) then R.topMgtWrDrop else R.qmForeignWr)) := by
  rw [exec_crHeadWrite hboot hclock hi, apply_ite s.inc]
  cases howner : s.qmOwner true i with
  | none => rfl
  | some o => exact congrArg _ (if_neg (by rw [hforeign o howner]; decide))

end

/-- Settles O35: a doorbell acts for the owner of its queue alone, and a head report goes by its distance behind the tail. -/
theorem doorbellsAndHeadReports : Obligations.DoorbellsAndHeadReports := by
  refine ⟨fun s req q v tag tags => ⟨fun hopen => ⟨fun x hx hown => ⟨fun hfree => ⟨fun u hu => ?tail, ?cancel, fun c n live u hc hall hsome
      hlive hu => ?inval⟩, fun hmirror => ?mirror, ?head⟩, fun hforeign => ?foreign⟩, fun hclosed => ?closed⟩,
    fun s req r i v hboot hclock hi => ⟨fun o howner hmay => ?report, exec_crHeadWrite_of_foreign hboot hclock hi⟩⟩
  case tail =>
    subst hu
    have hexec : exec (.tail req q v) s = .next _ := congrArg Host.Outcome.next (State.postDoorbell_of_free _ hopen hx hown hfree)
    exact ⟨fun hnear => Answer.of_pos hnear hexec, fun hfar => Answer.of_neg (not_le.mpr hfar) hexec⟩
  case cancel => exact congrArg Host.Outcome.next (State.postDoorbell_of_free _ hopen hx hown hfree)
  case inval =>
    have hn : n = if c = 0 ∨ s.qSize q < c then s.qSize q else c := by
      split
      next hwhole => exact hall hwhole
      next hpart =>
        rw [not_or, not_lt] at hpart
        exact hsome hpart.1 hpart.2
    subst hu hlive hn hc
    exact congrArg Host.Outcome.next (State.postDoorbell_of_free _ hopen hx hown hfree)
  case mirror =>
    have hdrop (f : State → State) : (.next (s.postDoorbell req q f) : Answer) = .next (s.inc R.rdnOwnedDrop) :=
      congrArg _ (State.postDoorbell_of_mirrored f hopen hx hown hmirror)
    exact ⟨hdrop _, hdrop _, hdrop _⟩
  case head => exact congrArg Host.Outcome.next (State.doorbell_of_owner _ hopen hx hown)
  case foreign =>
    have hdrop (f : State → State) : (.next (s.doorbell req q f) : Answer) = .next (s.inc R.qmDbDrop) :=
      congrArg _ (State.doorbell_of_foreign f hopen hforeign)
    exact ⟨hdrop _, hdrop _, hdrop _, hdrop _⟩
  case closed =>
    have hnone (f : State → State) : (.next (s.doorbell req q f) : Answer) = .next s :=
      congrArg _ (State.doorbell_of_closed f hclosed)
    exact ⟨hnone _, hnone _, hnone _, hnone _⟩
  case report =>
    rw [exec_crHeadWrite hboot hclock hi, howner]
    dsimp only
    rw [if_pos hmay, State.reportHead_eq]
    exact ⟨fun hnear => by rw [if_neg (not_lt.mpr hnear)], fun hlap => by rw [if_pos hlap]⟩

end Sys2Proof.Machine
end

section
/-! The commands and the doorbell of a DMA channel (R74, R371 to R373, R378, R384). -/

namespace Sys2Proof.Machine

section
variable {s t : State} {req : Requester} {c : Nat}

/-- A command of an existing channel that reaches its register has the effect of its body. -/
theorem exec_dmaCommand {i : Instr} {f : State → State} (h : Reaches s req (R.dmaChCtl c)) (hchan : c < 256)
    (hi : exec i s = .next (s.dmaCommand req c f)) (ht : f s = t) : exec i s = .next t :=
  exec_of_reaches h hi ((if_pos hchan).trans ht)

/-- Where COMMIT is legal, its first guard lets it pass. -/
theorem State.dmaCommit_legal (hstate : s.chState c = 1 ∨ s.chState c = 2) (harmed : s.armed c = false)
    (hown : s.swapAtLanding c = true ∨ s.requested (.dmaSet c) = false) :
    ¬((s.chState c ≠ Ch.idle ∧ s.chState c ≠ Ch.run) ∨ s.armed c = true ∨
    (s.requested (.dmaSet c) = true ∧ s.swapAtLanding c = false)) := by
  rintro (⟨hidle, hrun⟩ | harm | ⟨hreq, hswap⟩)
  · exact hstate.elim hidle hrun
  · exact absurd harm (by rw [harmed]; decide)
  · exact hown.elim (fun hat => absurd hswap (by rw [hat]; decide)) (fun hfree => absurd hreq (by rw [hfree]; decide))

variable (h : Reaches s req (R.dmaChCtl c)) (hchan : c < 256)
include h hchan

/-! ### ENABLE, STOP, CLEAR and DISABLE -/

theorem exec_dmaEnable_state (hno : s.chState c ≠ 0 ∨ s.requested (.dmaSet c) = true) :
    exec (.dmaEnable req c) s = .next (s.result (R.dmaChStatus c) 0x02) :=
  exec_dmaCommand h hchan rfl (if_pos hno)

theorem exec_dmaEnable_ring (hoff : s.chState c = 0) (hfree : s.requested (.dmaSet c) = false) :
    (s.chRingOk c = true → ∀ next, (s.chGroup c = none → next = 0) →
      (∀ g r, s.chGroup c = some (g, r) → next = (s.group g).nextSeal) →
      exec (.dmaEnable req c) s = .next (State.result (State.setF (State.setChan (s.emptySets c) c
        { (s.emptySets c).chan c with nextPane := next }) (R.dmaChStatus c) 2 0 1) (R.dmaChStatus c) 0x00)) ∧
    (s.chRingOk c = false → exec (.dmaEnable req c) s = .next (s.result (R.dmaChStatus c) 0x03)) := by
  have hopen : ¬(s.chState c ≠ Ch.off ∨ s.requested (.dmaSet c) = true) := by
    rw [hfree]
    exact fun hno => hno.elim (fun hstate => hstate hoff) (by decide)
  refine ⟨fun hring next hnone hsome => ?_, fun hring => ?_⟩
  · refine exec_dmaCommand h hchan rfl ((if_neg hopen).trans ((if_neg (by rw [hring]; decide)).trans ?_))
    cases hgroup : s.chGroup c with
    | none => rw [hnone hgroup]; rfl
    | some gr => rw [hsome gr.1 gr.2 hgroup]; rfl
  · exact exec_dmaCommand h hchan rfl ((if_neg hopen).trans (if_pos (by rw [hring]; rfl)))

theorem exec_dmaStop_cases :
    (s.chState c = 1 → exec (.dmaStop req c) s = .next ((s.setF (R.dmaChStatus c) 2 0 4).result (R.dmaChStatus c) 0x00)) ∧
    (s.chState c = 2 → exec (.dmaStop req c) s = .next ((s.result (R.dmaChStatus c) 0x00).stopRun c)) ∧
    (s.chState c ≠ 1 → s.chState c ≠ 2 → exec (.dmaStop req c) s = .next (s.result (R.dmaChStatus c) 0x02)) := by
  refine ⟨fun hidle => ?_, fun hrun => ?_, fun hidle hrun => ?_⟩
  · exact exec_dmaCommand h hchan rfl (if_pos hidle)
  · exact exec_dmaCommand h hchan rfl ((if_neg (by rw [hrun]; decide)).trans (if_pos hrun))
  · exact exec_dmaCommand h hchan rfl ((if_neg hidle).trans (if_neg hrun))

theorem exec_dmaClear_cases :
    (s.chState c = 4 → exec (.dmaClear req c) s = .next (State.enterIdle (State.result (State.showSet (State.setChan
      (s.setBit (R.dmaChStatus c) 9 false) c { s.chan c with pendLate := false }) (R.dmaChActive c) ((s.chan c).loaded.getD []))
      (R.dmaChStatus c) 0x00) c)) ∧
    (s.chState c ≠ 4 → exec (.dmaClear req c) s = .next (s.result (R.dmaChStatus c) 0x02)) :=
  ⟨fun hstopped => exec_dmaCommand h hchan rfl (if_neg (not_not_intro hstopped)),
    fun hstopped => exec_dmaCommand h hchan rfl (if_pos hstopped)⟩

theorem exec_dmaDisable_cases :
    (s.chState c = 1 ∨ s.chState c = 4 → s.requested (.dmaSet c) = false → exec (.dmaDisable req c) s =
      .next ((((s.emptySets c).setBit (R.dmaChStatus c) 9 false).setF (R.dmaChStatus c) 2 0 0).result (R.dmaChStatus c) 0x00)) ∧
    ((s.chState c ≠ 1 ∧ s.chState c ≠ 4) ∨ s.requested (.dmaSet c) = true →
      exec (.dmaDisable req c) s = .next (s.result (R.dmaChStatus c) 0x02)) := by
  refine ⟨fun hstate hfree => exec_dmaCommand h hchan rfl (if_neg ?_), fun hno => exec_dmaCommand h hchan rfl (if_pos hno)⟩
  rw [hfree]
  rintro (⟨hidle, hstopped⟩ | hreq)
  · exact hstate.elim hidle hstopped
  · exact absurd hreq (by decide)

/-! ### COMMIT -/

theorem exec_dmaCommit_state
    (hno : (s.chState c ≠ 1 ∧ s.chState c ≠ 2) ∨ s.armed c = true ∨ (s.requested (.dmaSet c) = true ∧ s.swapAtLanding c = false)) :
    exec (.dmaCommit req c) s = .next (s.result (R.dmaChStatus c) 0x02) :=
  exec_dmaCommand h hchan rfl (if_pos hno)

variable (hstate : s.chState c = 1 ∨ s.chState c = 2) (harmed : s.armed c = false)
  (hown : s.swapAtLanding c = true ∨ s.requested (.dmaSet c) = false)
include hstate harmed hown

theorem exec_dmaCommit_check (hset : s.chSetOk c (s.shadowSet c) = false) :
    exec (.dmaCommit req c) s = .next (s.result (R.dmaChStatus c) 0x03) :=
  exec_dmaCommand h hchan rfl ((if_neg (State.dmaCommit_legal hstate harmed hown)).trans (if_pos (by rw [hset]; rfl)))

/-- A shadow that passes its check is armed, and swapped as SWAP_AT and the channel's state say. -/
theorem exec_dmaCommit_arms (hset : s.chSetOk c (s.shadowSet c) = true) {u : State}
    (hu : (if s.swapAtLanding c then (s.setBit (R.dmaChStatus c) 8 true).requestNext (.dmaSet c)
      else if s.chState c = Ch.idle then (s.setBit (R.dmaChStatus c) 8 true).swapSets c
      else s.setBit (R.dmaChStatus c) 8 true) = u) :
    exec (.dmaCommit req c) s = .next (u.result (R.dmaChStatus c) 0x00) :=
  exec_dmaCommand h hchan rfl ((if_neg (State.dmaCommit_legal hstate harmed hown)).trans
    ((if_neg (by rw [hset]; decide)).trans (congrArg (State.result · (R.dmaChStatus c) 0x00) hu)))

end

/-! ### Triggers (R372, R384) -/

section
variable {s u : State} {c : Nat}

/-- A trigger takes effect after the deadline of a pane run that has come. -/
theorem State.triggerAfter_eq (kind : Nat) (late : Bool)
    (hmiss : ∀ r, (s.chan c).run = some r → s.isPaneCh c = true → r.phase = .move → r.deadline ≤ s.srcNow → u = s.missDeadline c r)
    (hkeep : (∀ r, (s.chan c).run = some r → s.isPaneCh c = false ∨ r.phase ≠ .move ∨ s.srcNow < r.deadline) → u = s) :
    s.triggerAfter c kind late = u.trigger c kind late := by
  unfold State.triggerAfter
  cases hrun : (s.chan c).run with
  | none => rw [hkeep (fun r hr => by rw [hrun] at hr; cases hr)]
  | some r =>
    by_cases hdue : s.isPaneCh c = true ∧ r.phase = .move ∧ r.deadline ≤ s.srcNow
    · obtain ⟨hpane, hmove, hat⟩ := hdue
      rw [hmiss r hrun hpane hmove hat]
      exact if_pos ⟨hpane, hmove, hat⟩
    · rw [hkeep fun r' hr' => ?_]
      · exact if_neg hdue
      · obtain rfl : r = r' := Option.some.inj (hrun.symm.trans hr')
        simpa only [not_and_or, Bool.not_eq_true, not_le] using hdue

theorem State.trigger_of_ignored {kind : Nat} {late : Bool} (h : s.getF (R.dmaChCfg c) 3 2 ≠ kind ∨
    (s.chState c ≠ 1 ∧ s.chState c ≠ 2) ∨ setEmpty (s.chan c).loaded = true) :
    s.trigger c kind late = s.inc (R.dmaChTrigIgnored c) :=
  if_pos h

variable {kind : Nat} {late : Bool} (hkind : s.getF (R.dmaChCfg c) 3 2 = kind) (hstate : s.chState c = 1 ∨ s.chState c = 2)
  (hset : setEmpty (s.chan c).loaded = false)
include hkind hstate hset

theorem State.trigger_taken : ¬(s.getF (R.dmaChCfg c) 3 2 ≠ kind ∨
    (s.chState c ≠ Ch.idle ∧ s.chState c ≠ Ch.run) ∨ setEmpty (s.chan c).loaded = true) := by
  rintro (hother | ⟨hidle, hrun⟩ | hempty)
  · exact hother hkind
  · exact hstate.elim hidle hrun
  · exact absurd hempty (by rw [hset]; decide)

theorem State.trigger_of_merged (hpend : s.trigPend c = true) : s.trigger c kind late =
    (s.setChan c { s.chan c with pendLate := (s.chan c).pendLate || late }).inc (R.dmaChTrigMerged c) :=
  (if_neg (State.trigger_taken hkind hstate hset)).trans (if_pos hpend)

theorem State.trigger_of_pending (hpend : s.trigPend c = false) {x : State}
    (hx : x = (s.setBit (R.dmaChStatus c) 9 true).setChan c { s.chan c with pendLate := late, pendAt := s.srcNow }) :
    (s.chState c = 2 → s.trigger c kind late = x) ∧ (s.chState c = 1 → s.trigger c kind late = x.tryStart c) := by
  subst hx
  have htaken := State.trigger_taken hkind hstate hset
  have hfirst : ¬s.trigPend c = true := by rw [hpend]; decide
  exact ⟨fun hrun => (if_neg htaken).trans ((if_neg hfirst).trans (if_neg (by rw [hrun]; decide))),
    fun hidle => (if_neg htaken).trans ((if_neg hfirst).trans (if_pos hidle))⟩

end

theorem State.tryStart_of_empty {w : State} {c : Nat} (h : setEmpty (w.chan c).loaded = true) :
    w.tryStart c = w.ignoreTrigger c := by
  unfold State.tryStart
  cases hset : (w.chan c).loaded with
  | none => simp only [hset]
  | some b =>
    rw [hset] at h
    simp only [hset, h, if_true]

theorem State.tryStart_of_full {w : State} {c : Nat} (h : setEmpty (w.chan c).loaded = false)
    (hfull : w.canReserve (w.chRing c) 1 = false) : w.tryStart c = w.stall (w.chRing c) := by
  cases hset : (w.chan c).loaded with
  | none => rw [hset] at h; cases h
  | some b =>
    rw [hset] at h
    simp only [State.tryStart, hset, h, hfull, Bool.false_eq_true, if_false, Bool.not_false, if_true]

/-- Settles O42: a command has its effect in the states that allow it, and a doorbell is ignored, merges, or is pending. -/
theorem dmaCommandsTakeEffect : Obligations.DmaCommandsTakeEffect := by
  unfold Obligations.DmaCommandsTakeEffect
  refine ⟨fun s req c st hchan h hst => ?_, fun s u req c x hchan h hmiss hkeep hx => ?_⟩
  · subst hst
    obtain ⟨hstopIdle, hstopRun, hstopNo⟩ := exec_dmaStop_cases h hchan
    obtain ⟨hclear, hclearNo⟩ := exec_dmaClear_cases h hchan
    obtain ⟨hdisable, hdisableNo⟩ := exec_dmaDisable_cases h hchan
    refine ⟨exec_dmaEnable_ring h hchan, exec_dmaEnable_state h hchan, fun hstate harmed => ⟨fun hcount hfree hset => ?_,
      fun hland hset => ?_, fun hown hset => exec_dmaCommit_check h hchan hstate harmed hown hset,
      fun hcount hreq => exec_dmaCommit_state h hchan (.inr (.inr ⟨hreq, hcount⟩))⟩, fun hno => ?_, hstopIdle, hstopRun, hstopNo,
      hclear, hclearNo, hdisable, hdisableNo⟩
    · have harms {v : State} := exec_dmaCommit_arms (u := v) h hchan hstate harmed (.inr hfree) hset
      refine ⟨fun hidle => harms ?_, fun hrun => harms ?_⟩ <;> rw [if_neg (by rw [hcount]; decide)]
      · exact if_pos hidle
      · exact if_neg (by rw [hrun]; decide)
    · exact exec_dmaCommit_arms h hchan hstate harmed (.inl hland) hset (if_pos hland)
    · exact exec_dmaCommit_state h hchan (hno.imp_right .inl)
  · subst hx
    have htrigger {v : State} (hv : u.trigger c 0 false = v) : exec (.dmaDoorbell req c) s = .next v :=
      exec_of_reaches h rfl ((if_pos hchan).trans ((State.triggerAfter_eq 0 false hmiss hkeep).trans hv))
    refine ⟨fun hignored => htrigger (State.trigger_of_ignored hignored), fun hkind hstate hset => ?_,
      fun w => ⟨State.tryStart_of_empty, State.tryStart_of_full⟩⟩
    have hpending (hpend : u.trigPend c = false) := State.trigger_of_pending (late := false) hkind hstate hset hpend rfl
    refine ⟨fun hpend => htrigger ?_, fun hpend hrun => htrigger ((hpending hpend).1 hrun),
      fun hpend hidle => htrigger ((hpending hpend).2 hidle)⟩
    rw [State.trigger_of_merged hkind hstate hset hpend, Bool.or_false]

end Sys2Proof.Machine
end

section
/-! The bursts of a DMA run, and the deadline of a pane run (R362 to R366, R374, R378, R379, R384). -/

namespace Sys2Proof.Machine

section
variable {s : State} {c n : Nat}

/-! ### DMA_BURST_ISSUE -/

/-- The row is the issue of the channel once a waiting trigger has started. -/
theorem exec_dmaBurstIssue {u : State} (hstart : s.chState c = 1 ∧ s.trigPend c = true → u = s.tryStart c)
    (hkeep : s.chState c ≠ 1 ∨ s.trigPend c = false → u = s) :
    ((u.chan c).run = none → exec (.dmaBurstIssue c) s = .next u) ∧
    (∀ r, (u.chan c).run = some r →
      (∀ g p, u.chGroup c = some (g, p) → u.isPaneCh c = true → r.pane = none → r.phase = .move →
        exec (.dmaBurstIssue c) s = .next ((u.nextPaneOf c g (r.panes.length + 1)).issueBurst c)) ∧
      (u.chGroup c = none ∨ u.isPaneCh c = false ∨ r.pane.isSome = true ∨ r.phase ≠ .move →
        exec (.dmaBurstIssue c) s = .next (u.issueBurst c))) := by
  have hfirst : (if s.chState c = Ch.idle ∧ s.trigPend c = true then s.tryStart c else s) = u := by
    split
    next hpend => exact (hstart hpend).symm
    next hno => exact (hkeep (by simpa only [not_and_or, Bool.not_eq_true] using hno)).symm
  change (_ → execDmaBurstIssue c s = _) ∧ ∀ r, _ → (∀ g p, _ → _ → _ → _ → execDmaBurstIssue c s = _) ∧
    (_ → execDmaBurstIssue c s = _)
  unfold execDmaBurstIssue
  rw [hfirst]
  refine ⟨fun hrun => by simp only [hrun], fun r hrun => ⟨fun g p hgroup hpane hnone hmove => ?_, fun hno => ?_⟩⟩
  · simp only [hrun, hgroup, hpane, hnone, hmove, Option.isNone_none, and_self, if_true]
  · simp only [hrun]
    cases hgroup : u.chGroup c with
    | none => rfl
    | some g =>
      rw [hgroup] at hno
      refine congrArg _ (if_neg ?_)
      rintro ⟨hpane, hnone, hmove⟩
      rcases hno with hno | hno | hno | hno
      · cases hno
      · exact absurd hpane (by rw [hno]; decide)
      · rw [Option.isNone_iff_eq_none] at hnone
        rw [hnone] at hno
        cases hno
      · exact hno hmove

theorem State.issueBurst_cases {r : DmaRun} (hrun : (s.chan c).run = some r) :
    (∀ b, s.nextBurst c r = some b → s.burstRoom c b.len = true → s.burstTurn c = true →
      s.issueBurst c = ((s.addBurst c r b).served c).flushBursts c 1) ∧
    (s.nextBurst c r = none ∨ s.burstTurn c = false → s.issueBurst c = s) := by
  unfold State.issueBurst
  simp only [hrun]
  refine ⟨fun b hb hroom hturn => ?_, fun hno => ?_⟩
  · simp only [hb, hroom, hturn, Bool.and_self, if_true]
  · cases hb : s.nextBurst c r with
    | none => rfl
    | some b =>
      have hturn : s.burstTurn c = false := hno.resolve_left (by rw [hb]; exact nofun)
      simp only [hturn, Bool.and_false, Bool.false_eq_true, if_false]

/-! ### DMA_READ_DONE -/

variable {data : Option (List Byte)} {ecc : List EccFind}

theorem exec_dmaReadDone_none (h : (s.chan c).run = none ∨ (∀ r, (s.chan c).run = some r → r.bursts[n]? = none ∨
    (r.bursts[n]?).all (fun b => b.data.isSome) = true)) : exec (.dmaReadDone c n data ecc) s = .next s := by
  change execDmaReadDone c n data ecc s = _
  unfold execDmaReadDone
  cases hrun : (s.chan c).run with
  | none => rfl
  | some r =>
    have hburst := (h.resolve_left (by rw [hrun]; exact nofun)) r hrun
    cases hb : r.bursts[n]? with
    | none => simp only [hb]
    | some b =>
      rw [hb] at hburst
      have hdata : b.data.isSome = true := hburst.resolve_left nofun
      simp only [hb, hdata, if_true]

section
variable {r : DmaRun} {b : DmaBurst} (hrun : (s.chan c).run = some r) (hb : r.bursts[n]? = some b) (hdata : b.data = none)
include hrun hb hdata

theorem exec_dmaReadDone_pane {g t : Nat} {p : PgRec} (hpane : s.isPaneCh c = true) (hgroup : s.chGroup c = some (g, p))
    (htick : r.pane = some t) : exec (.dmaReadDone c n data ecc) s = .next (s.paneRead c g p n b t ecc) := by
  change execDmaReadDone c n data ecc s = _
  unfold execDmaReadDone
  simp only [hrun, hb, hdata, hpane, hgroup, htick, Option.isSome_none, Bool.false_eq_true, if_false, if_true]

/-- Of a copy run: what comes is handed over, or the run fails with HOST_RD_ERR. -/
theorem exec_dmaReadDone_copy (hcopy : s.isPaneCh c = false) {u : State} {x : State × Option (List Byte)}
    (hu : u = (if dDstDdr r.cur then s.eccFound b.dst b.len (ecc.filter (fun e => !covers b.dst b.len e.1)) else s))
    (hx : x = (if dSrcDdr r.cur then u.ddrRead b.src b.len ecc else (u, data.map (fun d => slice d 0 b.len)))) :
    (∀ d, x.2 = some d → exec (.dmaReadDone c n data ecc) s = .next (((x.1.setRun c { r with
      bursts := r.bursts.mapIdx (fun i y => if i = n then { y with data := some d } else y) }).flushBursts c
      r.bursts.length).settleRun c)) ∧
    (x.2 = none → exec (.dmaReadDone c n data ecc) s = .next ((((x.1.freeBurst b.len).failRun c
      { r with bursts := r.bursts.eraseIdx n } 0x04).flushBursts c r.bursts.length).settleRun c)) := by
  change (∀ d, _ → execDmaReadDone c n data ecc s = _) ∧ (_ → execDmaReadDone c n data ecc s = _)
  unfold execDmaReadDone
  simp only [hrun, hb, hdata, hcopy, Option.isSome_none, Bool.false_eq_true, if_false, ← hu, ← hx]
  refine ⟨fun d hd => ?_, fun hd => ?_⟩
  · simp only [hd, List.length_mapIdx]
  · simp only [hd]

end

/-! ### DMA_DESC_FETCH_DONE -/

theorem exec_dmaDescFetchDone_none (h : (s.chan c).run = none ∨ s.inD3 (s.chFunc c) = true ∨
    (∀ r, (s.chan c).run = some r → r.phase ≠ .fetch)) : exec (.dmaDescFetchDone c data) s = .next s := by
  change execDmaDescFetchDone c data s = _
  unfold execDmaDescFetchDone
  cases hrun : (s.chan c).run with
  | none => rfl
  | some r =>
    refine congrArg _ (if_pos ?_)
    rcases h with h | h | h
    · rw [hrun] at h
      cases h
    · exact .inr h
    · exact .inl (h r hrun)

theorem exec_dmaDescFetchDone_cases {r r1 : DmaRun} (hrun : (s.chan c).run = some r) (hfetch : r.phase = .fetch)
    (hawake : s.inD3 (s.chFunc c) = false) (hr : r1 = { r with hop := r.hop + 1 }) :
    (data = none → exec (.dmaDescFetchDone c data) s = .next (s.failRun c r1 0x04)) ∧
    (∀ d, data = some d → s.setOk true (slice d 0 64) = false →
      exec (.dmaDescFetchDone c data) s = .next (s.failRun c r1 0x03)) ∧
    (∀ d r2, data = some d → s.setOk true (slice d 0 64) = true → r2 = { r1 with
        cur := slice d 0 64, ofs := 0, done := 0, crc := 0xFFFFFFFF#32, sum := 0, phase := .move, chkWritten := false } →
      exec (.dmaDescFetchDone c data) s = .next (((s.wrN (R.dmaChCurHop c) r1.hop).setRun c r2).showLive c r2)) := by
  subst hr
  change (_ → execDmaDescFetchDone c data s = _) ∧ (∀ d, _ → _ → execDmaDescFetchDone c data s = _) ∧
    (∀ d r2, _ → _ → _ → execDmaDescFetchDone c data s = _)
  have hopen : ¬(r.phase ≠ .fetch ∨ s.inD3 (s.chFunc c) = true) := by
    rw [hawake]
    exact fun hno => hno.elim (fun hphase => hphase hfetch) (by decide)
  unfold execDmaDescFetchDone
  simp only [hrun, if_neg hopen]
  refine ⟨?_, ?_, ?_⟩
  · rintro rfl
    rfl
  · rintro d rfl hbad
    exact congrArg _ (if_pos (by rw [hbad]; rfl))
  · rintro d r2 rfl hok rfl
    exact congrArg _ (if_neg (by rw [hok]; decide))

/-! ### DMA_WRITE_RESPONSE -/

/-- What an answered write of run `w` comes to: with an error it amends a run that was reported, or ends the one that moves. -/
def State.writeAnswered (s u : State) (c : Nat) (w : DmaWrite) (err : Bool) : State :=
  if !err then u
  else match (s.chan c).past.find? (fun p => p.run == w.run) with
    | some p => u.amendRun c p
    | none =>
      (match (u.chan c).run with
       | some r =>
         if r.id ≠ w.run then u
         else if r.phase = .await then u.setRun c { r with status := Code.wrErrLast, chkDue := none }
         else u.failRun c r Code.hostWr
       | none => u)

/-- The cases that the statement tells apart determine what the answer comes to. -/
theorem State.eq_writeAnswered {u x : State} {w : DmaWrite} {err : Bool} (hok : err = false → x = u)
    (herr : err = true → (∀ p, (s.chan c).past.find? (fun p => p.run == w.run) = some p → x = u.amendRun c p) ∧
      ((s.chan c).past.find? (fun p => p.run == w.run) = none →
        (∀ r, (u.chan c).run = some r →
          (r.id ≠ w.run → x = u) ∧
          (r.id = w.run → r.phase = .await → x = u.setRun c { r with status := 0x0C, chkDue := none }) ∧
          (r.id = w.run → r.phase ≠ .await → x = u.failRun c r 0x05)) ∧
        ((u.chan c).run = none → x = u))) : x = s.writeAnswered u c w err := by
  unfold State.writeAnswered
  cases err with
  | false => exact hok rfl
  | true =>
    obtain ⟨hpast, hrun⟩ := herr rfl
    cases hfind : (s.chan c).past.find? (fun p => p.run == w.run) with
    | some p => exact hpast p hfind
    | none =>
      obtain ⟨hsome, hnone⟩ := hrun hfind
      cases hr : (u.chan c).run with
      | none => exact hnone hr
      | some r =>
        obtain ⟨hother, hawait, hmoves⟩ := hsome r hr
        by_cases hid : r.id = w.run
        · by_cases hphase : r.phase = .await
          · rw [hawait hid hphase]
            simp [hid, hphase, Code.wrErrLast]
          · rw [hmoves hid hphase]
            simp [hid, hphase, Code.hostWr]
        · rw [hother hid]
          simp [hid]

theorem exec_dmaWriteResponse {err : Bool} {w : DmaWrite} {v u x y : State} (hw : (s.chan c).unanswered[n]? = some w)
    (hv : v = s.setChan c { s.chan c with unanswered := (s.chan c).unanswered.eraseIdx n })
    (hu : u = (if w.len = 0 then v else v.freeBurst w.len)) (hx : x = s.writeAnswered u c w err)
    (hy : y = (x.freePast c).tryAwait c) :
    (∀ r, (y.chan c).run = some r →
      (r.phase = .barrier → exec (.dmaWriteResponse c n err) s = .next ((y.passBarrier c r).tryDrain c)) ∧
      (r.phase ≠ .barrier → exec (.dmaWriteResponse c n err) s = .next (y.tryDrain c))) ∧
    ((y.chan c).run = none → exec (.dmaWriteResponse c n err) s = .next y) := by
  have hexec : exec (.dmaWriteResponse c n err) s = .next (match (y.chan c).run with
      | some r => if r.phase = .barrier then (y.passBarrier c r).tryDrain c else y.tryDrain c
      | none => y) := by
    change execDmaWriteResponse c n err s = _
    unfold execDmaWriteResponse
    simp only [hw, ← hv, ← hu]
    rw [hy, hx]
    rfl
  refine ⟨fun r hr => ⟨fun hbarrier => ?_, fun hphase => ?_⟩, fun hr => ?_⟩
  · rw [hexec, hr]
    exact congrArg _ (if_pos hbarrier)
  · rw [hexec, hr]
    exact congrArg _ (if_neg hphase)
  · rw [hexec, hr]

/-! ### DMA_RUN_DEADLINE -/

theorem exec_dmaRunDeadline {r : DmaRun} (hrun : (s.chan c).run = some r) (hpane : s.isPaneCh c = true) (hmove : r.phase = .move) :
    (∀ u, s.reach r.deadline = some u → exec (.dmaRunDeadline c) s = .next (u.missDeadline c r)) ∧
    (s.reach r.deadline = none → exec (.dmaRunDeadline c) s = .next s) := by
  change (∀ u, _ → execDmaRunDeadline c s = _) ∧ (_ → execDmaRunDeadline c s = _)
  unfold execDmaRunDeadline
  simp only [hrun, hpane, hmove, Bool.not_true, Bool.false_eq_true, ne_eq, not_true_eq_false, or_self, if_false]
  exact ⟨fun u hu => by rw [hu], fun hu => by rw [hu]⟩

theorem exec_dmaRunDeadline_none (h : (s.chan c).run = none ∨ s.isPaneCh c = false ∨
    (∀ r, (s.chan c).run = some r → r.phase ≠ .move)) : exec (.dmaRunDeadline c) s = .next s := by
  change execDmaRunDeadline c s = _
  unfold execDmaRunDeadline
  cases hrun : (s.chan c).run with
  | none => rfl
  | some r =>
    refine congrArg _ (if_pos ?_)
    rcases h with h | h | h
    · rw [hrun] at h
      cases h
    · exact .inl (by rw [h]; rfl)
    · exact .inr (h r hrun)

/-- A run with a pane under way and none to follow ends at its deadline, abandoned. -/
theorem State.missDeadline_last {u : State} {r : DmaRun} {t : Nat} (htick : r.pane = some t) (hlast : r.panes = []) :
    u.missDeadline c r = State.finishRun (State.panePast (forEach r.bursts (fun b x => x.freeBurst b.len)
      ((((u.hwSet R.tickOvrCause 3).raise Src.tickOverrun []).inc (R.dmaChPaneAbandon c)).dropPane c)) c t) c
      { r with bursts := [], pane := none, panes := [], abandoned := true, dropped := r.dropped + 1 } 0x00 false := by
  unfold State.missDeadline
  simp only [htick, hlast, Option.isSome_some, if_true, List.getLast?_nil, List.length_nil]
  rfl

end

/-- Settles O43: the rows of a burst act on the run, burst or write they name, and a pane run ends at its deadline. -/
theorem dmaRunsMoveTheirBursts : Obligations.DmaRunsMoveTheirBursts := by
  unfold Obligations.DmaRunsMoveTheirBursts
  refine ⟨fun s c => ⟨fun u => exec_dmaBurstIssue, fun r => State.issueBurst_cases, fun n data ecc => ⟨?_, exec_dmaReadDone_none⟩,
    fun data => ⟨fun r r1 => exec_dmaDescFetchDone_cases, exec_dmaDescFetchDone_none⟩, fun n err => ⟨?_, ?_⟩⟩,
    fun s c => ⟨fun r hrun hpane hmove => ?_, exec_dmaRunDeadline_none⟩⟩
  · intro r b hrun hb hdata
    exact ⟨fun g p t => exec_dmaReadDone_pane hrun hb hdata, fun hcopy u x => exec_dmaReadDone_copy hrun hb hdata hcopy⟩
  · intro w v u x hw hv hu hok herr y hy
    exact exec_dmaWriteResponse hw hv hu (State.eq_writeAnswered hok herr) hy
  · intro hw
    change execDmaWriteResponse c n err s = _
    unfold execDmaWriteResponse
    simp only [hw]
  · obtain ⟨hdue, hnotDue⟩ := exec_dmaRunDeadline hrun hpane hmove
    exact ⟨fun u hu => ⟨hdue u hu, fun t => State.missDeadline_last⟩, hnotDue⟩

end Sys2Proof.Machine
end

section
/-! The Ustor tick bus: its frames, its edges, and the calibration of its delay (R94 to R106). -/

namespace Sys2Proof.Machine

section
variable {s : State}

/-! ### TICK frames (R94, R96 to R98, R104, R106) -/

section
variable (hplan : s.hasPlan = true) (htime : s.timeRuns = true) (hrun : s.running = true)
include hplan htime hrun

/-- Once the tick runs, the row is what a source, or a follower in HOLDOVER, sends. -/
theorem State.tickFrameSend_open : ¬(!(s.hasPlan && s.timeRuns && s.running)) = true := by
  rw [hplan, htime, hrun]
  decide

/-- A source sends its verdict on the hall-synchronous group, where one waits. -/
theorem exec_tickFrameSend_source {u : State} (hu : u = s.untilSrc (s.landingNow + ofUs 4)) (hsource : s.isSource = true)
    (hnone : s.tick.missedTo = none) :
    (∀ go w, u.sourceVerdict s.nextTick = some go →
      w = { u with tick := { u.tick with verdict := some (s.nextTick, go) } } →
      exec .tickFrameSend s = .next (w.sendDown (w.tickFrame s.nextTick [false, go, !go, false]))) ∧
    (u.sourceVerdict s.nextTick = none → exec .tickFrameSend s =
      .next (u.sendDown (u.tickFrame s.nextTick [false, false, false, false]))) := by
  have hmissed : ¬s.tick.missedTo.isSome = true := by rw [hnone]; decide
  change (∀ go w, _ → _ → execTickFrameSend s = _) ∧ (_ → execTickFrameSend s = _)
  unfold execTickFrameSend
  simp only [if_neg (State.tickFrameSend_open hplan htime hrun), hsource, if_true, if_neg hmissed, ← hu]
  refine ⟨?_, fun hv => ?_⟩
  · rintro go w hv rfl
    cases go <;> simp only [hv] <;> rfl
  · simp only [hv]
    rfl

/-- A step that missed ticks is announced at once. -/
theorem exec_tickFrameSend_missed (hsource : s.isSource = true) (hmissed : s.tick.missedTo.isSome = true) {w : State}
    (hw : w = { s with tick := { s.tick with verdict := some (s.nextTick, false) } }) :
    exec .tickFrameSend s = .next (w.sendDown (w.tickFrame s.nextTick [false, false, true, true])) := by
  subst hw
  exact Answer.of_pos hmissed (Answer.of_pos hsource (Answer.of_neg (State.tickFrameSend_open hplan htime hrun) rfl))

theorem exec_tickFrameSend_holdover (hsource : s.isSource = false) (hbus : s.bus = 4) (hframe : s.tick.frameTick ≠ s.nextTick) :
    exec .tickFrameSend s = .next (State.sendDown (s.untilSrc (s.landingNow + ofUs 4))
      (State.tickFrame (s.untilSrc (s.landingNow + ofUs 4)) s.nextTick [true])) := by
  change execTickFrameSend s = _
  unfold execTickFrameSend
  simp only [if_neg (State.tickFrameSend_open hplan htime hrun), hsource, Bool.false_eq_true, if_false]
  exact congrArg _ (if_pos ⟨hbus, hframe⟩)

end

/-- A follower relays what it receives, and takes a frame that is whole and fits its plan. -/
theorem exec_tickFrameReceive_cases (hfollows : s.follows = true) {b : List Byte} (hlen : b.length = 16) {x : State}
    (hx : x = s.sendDown (s.relayed b)) :
    (ustorOk b = true → beAt b 0 1 = 1 → s.frameFits b = true → exec (.tickFrameReceive b) s = .next (x.acceptFrame b)) ∧
    (ustorOk b = true → beAt b 0 1 = 1 → s.frameFits b = false → exec (.tickFrameReceive b) s =
      .next ((if s.bus = 1 then x.raise Src.ustorCfg [] else x).frameFailed false)) ∧
    (ustorOk b = false → exec (.tickFrameReceive b) s = .next (x.frameFailed true)) ∧
    (ustorOk b = true → beAt b 0 1 ≠ 1 → exec (.tickFrameReceive b) s = .next s) := by
  subst hx
  have hopen : ¬(!(s.follows && b.length == 16)) = true := by rw [hfollows, hlen]; decide
  have hopened := Answer.of_neg hopen (rfl : exec (.tickFrameReceive b) s = _)
  have hwhole (hok : ustorOk b = true) (hkind : beAt b 0 1 = 1) :=
    Answer.of_neg (not_not_intro hkind) (Answer.of_neg (by rw [hok]; decide) hopened)
  refine ⟨fun hok hkind hfits => ?_, fun hok hkind hfits => ?_, fun hbad => ?_, fun hok hkind => ?_⟩
  · exact Answer.of_neg (by rw [hfits]; decide) (hwhole hok hkind)
  · exact Answer.of_pos (by rw [hfits]; rfl) (hwhole hok hkind)
  · exact Answer.of_pos (by rw [hbad]; rfl) hopened
  · exact Answer.of_pos hkind (Answer.of_neg (by rw [hok]; decide) hopened)

/-! ### STATUS frames (R105, R106) -/

/-- The STATUS frame leaves at the instant that its followers' reports allow. -/
theorem exec_statusFrameSend (hfollows : s.follows = true) (hrun : s.running = true) {cs : List Child} {u : State}
    (hcs : cs = [s.tick.child0, s.tick.child1].filter (fun c => c.present))
    (hu : u = (if cs.isEmpty then s.untilSrc (s.landingNow + ofNs 500)
      else if cs.all (fun c => c.target == s.nextTick) then s else s.untilSrc (s.landingNow + ofNs 3500))) :
    exec .statusFrameSend s = .next (u.emit (.ustor 0 (ustorFrame (
      [2, flagByte [(u.hallVote s.nextTick).1, (u.hallVote s.nextTick).2, u.bit R.tickStatus 7 || cs.any (fun c => c.unlocked)]] ++
      beBytes 2 u.im.tick.hallId ++ beBytes 8 s.nextTick ++
      [BitVec.ofNat 8 u.im.tick.devIndex, BitVec.ofNat 8 u.lockedBelow])))) := by
  have hopen : ¬(!(s.follows && s.running)) = true := by rw [hfollows, hrun]; decide
  change execStatusFrameSend s = _
  unfold execStatusFrameSend
  simp only [if_neg hopen, ← hcs]
  rw [← hu]

theorem exec_statusFrameReceive_cases {d1 : Bool} {b : List Byte} {f : Byte} {c : Child} (hplan : s.hasPlan = true)
    (htime : s.timeRuns = true) (hf : f = b.getD 1 0)
    (hc : c = Child.mk true (beAt b 4 8) (f.getLsbD 0) (f.getLsbD 1) (beAt b 13 1) (f.getLsbD 2) 0) :
    ((d1 = true → s.getF R.tickStatus 1 0 ≠ 0) → ustorOk b = true → beAt b 0 1 = 2 → beAt b 2 2 = s.im.tick.hallId →
      exec (.statusFrameReceive d1 b) s = .next { s with tick := if d1 then { s.tick with child1 := c }
        else { s.tick with child0 := c } }) ∧
    ((d1 = true ∧ s.getF R.tickStatus 1 0 = 0) ∨ ustorOk b = false ∨ beAt b 0 1 ≠ 2 ∨ beAt b 2 2 ≠ s.im.tick.hallId →
      exec (.statusFrameReceive d1 b) s = .next s) := by
  subst hc hf
  have hgate : ((s.hasPlan && s.timeRuns && !(d1 && s.getF R.tickStatus 1 0 == 0)) && ustorOk b && beAt b 0 1 == 2 &&
      beAt b 2 2 == s.im.tick.hallId) = true ↔
      (d1 = true → s.getF R.tickStatus 1 0 ≠ 0) ∧ ustorOk b = true ∧ beAt b 0 1 = 2 ∧ beAt b 2 2 = s.im.tick.hallId := by
    simp only [hplan, htime, Bool.and_eq_true, Bool.not_eq_true', Bool.and_eq_false_imp, beq_eq_false_iff_ne, beq_iff_eq,
      true_and, and_assoc, ne_eq]
  refine ⟨fun hport hok hkind hhall => Answer.of_pos (hgate.mpr ⟨hport, hok, hkind, hhall⟩) rfl, fun hno => ?_⟩
  refine Answer.of_neg (fun hyes => ?_) rfl
  obtain ⟨hport, hok, hkind, hhall⟩ := hgate.mp hyes
  rcases hno with ⟨hd, hzero⟩ | hbad | hother | hother
  · exact hport hd hzero
  · exact absurd hok (by rw [hbad]; decide)
  · exact hother hkind
  · exact hother hhall

/-! ### Landing edges of the parent (R96, R97, R99) -/

section
variable (hfollows : s.follows = true)
include hfollows

theorem exec_ustorEdgeReceive_cases {sub : Nat} :
    (∀ t x, s.tick.nextEdge = some t → x = s.edgeAt t (s.srcNow + ofPs80 (sub % 10) - s.hallDelay) →
      exec (.ustorEdgeReceive sub) s = .next { x with tick := { x.tick with nextEdge := none } }) ∧
    (s.tick.nextEdge = none → exec (.ustorEdgeReceive sub) s = .next { s with tick := { s.tick with goodRun := 0 } }) := by
  have hopen : ¬(!s.follows) = true := by rw [hfollows]; decide
  change (∀ t x, _ → _ → execUstorEdgeReceive sub s = _) ∧ (_ → execUstorEdgeReceive sub s = _)
  unfold execUstorEdgeReceive
  rw [if_neg hopen]
  refine ⟨?_, fun hedge => by rw [hedge]⟩
  rintro t x hedge rfl
  rw [hedge]

/-- A missing edge: the run of good edges ends, and the bus leaves the states that need its parent. -/
theorem exec_ustorEdgeMissing_cases {w : State}
    (hw : w = { s with tick := { s.tick with goodRun := 0, badCrc := 0, badFrames := 0, nextEdge := none, calOut := false } }) :
    (s.bus = 2 → exec .ustorEdgeMissing s = .next ((w.setBus 1).raise Src.ustorLoss [])) ∧
    (s.bus = 3 → exec .ustorEdgeMissing s =
      .next (((if s.tick.recal then w.recalEnd 0x0B else w).setBus 4).raise Src.ustorLoss [])) ∧
    (s.bus = 4 → exec .ustorEdgeMissing s = .next { w with tick := { w.tick with recal := false } }) ∧
    (s.bus ∉ [2, 3, 4] → exec .ustorEdgeMissing s = .next w) := by
  subst hw
  have hexec : exec .ustorEdgeMissing s = .next s.parentLost := Answer.of_pos hfollows rfl
  rw [hexec]
  refine ⟨fun hbus => ?_, fun hbus => ?_, fun hbus => ?_, fun hbus => ?_⟩
  · exact congrArg _ (if_pos hbus)
  · exact congrArg _ ((if_neg (by rw [hbus]; decide)).trans (if_pos hbus))
  · exact congrArg _ ((if_neg (by rw [hbus]; decide)).trans ((if_neg (by rw [hbus]; decide)).trans (if_pos hbus)))
  · simp only [List.mem_cons, List.not_mem_nil, or_false, not_or] at hbus
    obtain ⟨hcalibrating, hlocked, hholdover⟩ := hbus
    exact congrArg _ ((if_neg hcalibrating).trans ((if_neg hlocked).trans (if_neg hholdover)))

/-- The first lock is overdue once, in the states before it. -/
theorem exec_ustorNoLock_cases :
    (∀ t, s.tick.lockBy = some t → s.tick.everLocked = false → s.bus = 1 ∨ s.bus = 2 →
      exec .ustorNoLock s = .next (State.raise { s.untilClock t with tick := { s.tick with lockBy := none } } Src.ustorNoLock [])) ∧
    (s.tick.lockBy = none ∨ s.tick.everLocked = true → exec .ustorNoLock s = .next s) := by
  change (∀ t, _ → _ → _ → execUstorNoLock s = _) ∧ (_ → execUstorNoLock s = _)
  unfold execUstorNoLock
  refine ⟨fun t hlock hever hbus => ?_, fun hno => ?_⟩
  · rw [hlock]
    refine congrArg _ (if_pos ?_)
    rw [hfollows, hever]
    rcases hbus with hbus | hbus <;> rw [hbus] <;> decide
  · cases hlock : s.tick.lockBy with
    | none => rfl
    | some t =>
      have hever : s.tick.everLocked = true := hno.resolve_left (by rw [hlock]; exact nofun)
      exact congrArg _ (if_neg (by simp [hever]))

end

/-- In SEEKING the fourth good edge begins calibration. -/
theorem State.edgeAt_seeking (hbus : s.bus = 1) (t : Nat) (est : Time) {x : State}
    (hx : x = { s with tick := { s.tick with goodRun := s.tick.goodRun + 1 } }) :
    (s.tick.goodRun < 3 → s.edgeAt t est = x) ∧
    (3 ≤ s.tick.goodRun → s.edgeAt t est =
      State.setBus (State.calStart { x with tick := { x.tick with goodRun := 0 } } false false) 2) := by
  subst hx
  refine ⟨fun hfew => ?_, fun hmany => ?_⟩
  · exact (if_pos hbus).trans (if_neg (show ¬4 ≤ s.tick.goodRun + 1 by omega))
  · exact (if_pos hbus).trans (if_pos (show 4 ≤ s.tick.goodRun + 1 by omega))

/-! ### Calibration of the one-way delay (R95) -/

/-- Calibration runs in CALIBRATING, and while a recalibration does. -/
theorem State.calibrates_iff : s.calibrates = true ↔ s.bus = 2 ∨ s.tick.recal = true := by
  simp [State.calibrates, Bus.calibrating]

/-- Calibration does not run otherwise. -/
theorem State.calibrates_eq_false_iff : s.calibrates = false ↔ s.bus ≠ 2 ∧ s.tick.recal = false := by
  simp [State.calibrates, Bus.calibrating]

theorem exec_calPulseSend_cases (hfollows : s.follows = true) {a u : State}
    (hearly : s.bus = 3 → s.tick.recal = false → s.now < s.tick.calAt + 2 ^ 20 → a = s)
    (hagain : s.bus = 3 → s.tick.recal = false → s.tick.calAt + 2 ^ 20 ≤ s.now → a = s.calStart true false)
    (hother : s.bus ≠ 3 ∨ s.tick.recal = true → a = s)
    (hu : u = (if a.running then a.untilSrc (a.landingNow + a.period / 2) else a)) :
    (a.bus = 2 ∨ a.tick.recal = true → a.tick.calOut = false → exec .calPulseSend s =
      .next (State.emit { u with tick := { u.tick with calOut := true, calTicks := u.tick.calTicks + 1 } } (.calPulse 0))) ∧
    (a.tick.calOut = true ∨ (a.bus ≠ 2 ∧ a.tick.recal = false) → exec .calPulseSend s = .next a) := by
  have hfirst : (if s.bus = Bus.locked ∧ (!s.tick.recal) = true ∧ s.tick.calAt + 2 ^ 20 ≤ s.now then s.calStart true false
      else s) = a := by
    by_cases hbus : s.bus = 3
    · cases hrecal : s.tick.recal with
      | true =>
        rw [hother (.inr hrecal)]
        exact if_neg fun hyes => absurd hyes.2.1 (by decide)
      | false =>
        by_cases hdue : s.tick.calAt + 2 ^ 20 ≤ s.now
        · rw [hagain hbus hrecal hdue]
          exact if_pos ⟨hbus, rfl, hdue⟩
        · rw [hearly hbus hrecal (not_le.mp hdue)]
          exact if_neg fun hyes => hdue hyes.2.2
    · rw [hother (.inl hbus)]
      exact if_neg fun hyes => hbus hyes.1
  have hopen : ¬(!s.follows) = true := by rw [hfollows]; decide
  change (_ → _ → execCalPulseSend s = _) ∧ (_ → execCalPulseSend s = _)
  unfold execCalPulseSend
  simp only [if_neg hopen, hfirst, ← hu]
  refine ⟨fun hcal hout => congrArg _ (if_pos ?_), fun hno => congrArg _ (if_neg ?_)⟩
  · rw [State.calibrates_iff.mpr hcal, hout]
    rfl
  · rcases hno with hout | hno
    · simp [hout]
    · simp [State.calibrates_eq_false_iff.mpr hno]

/-- A pulse comes back in time and counts, or starts the run anew, as a missing one does. -/
theorem exec_calPulseArrive_cases (hfollows : s.follows = true) (hcal : s.bus = 2 ∨ s.tick.recal = true)
    (hout : s.tick.calOut = true) :
    (∀ trip x, trip ≤ 25600 → x = { s with tick := { s.tick with
        calOut := false, calCount := s.tick.calCount + 1, calSum := s.tick.calSum + 80 * trip } } →
      (s.tick.calCount = 15 → exec (.calPulseArrive trip) s = .next x.calDone) ∧
      (s.tick.calCount ≠ 15 → exec (.calPulseArrive trip) s = .next x.calExpire)) ∧
    (∀ x, x = { s with tick := { s.tick with calOut := false, calCount := 0, calSum := 0 } } →
      exec .calPulseTimeout s = .next x.calExpire ∧
      (∀ trip, 25600 < trip → exec (.calPulseArrive trip) s = .next x.calExpire)) := by
  have hwait : (s.follows && s.calibrates && s.tick.calOut) = true := by
    rw [hfollows, State.calibrates_iff.mpr hcal, hout]
    rfl
  have hopen : ¬(!(s.follows && s.calibrates && s.tick.calOut)) = true := by rw [hwait]; decide
  constructor
  · rintro trip x hshort rfl
    have hopened := Answer.of_neg hopen (rfl : exec (.calPulseArrive trip) s = _)
    obtain ⟨hlast, hmore⟩ := Answer.of_ite (Answer.of_neg (show ¬2048000 < 80 * trip by omega) hopened)
    exact ⟨fun h => hlast (congrArg (· + 1) h), fun h => hmore (fun h16 => h (Nat.succ.inj h16))⟩
  · rintro x rfl
    exact ⟨Answer.of_pos hwait rfl, fun trip hlong => Answer.of_pos (show 2048000 < 80 * trip by omega) (Answer.of_neg hopen rfl)⟩

/-- No pulse is out for this follower: nothing comes back. -/
theorem exec_calPulse_idle (hno : s.follows = false ∨ (s.bus ≠ 2 ∧ s.tick.recal = false) ∨ s.tick.calOut = false) :
    exec .calPulseTimeout s = .next s ∧ ∀ trip, exec (.calPulseArrive trip) s = .next s := by
  have hshut : (s.follows && s.calibrates && s.tick.calOut) = false := by
    rcases hno with hno | hno | hno
    · rw [hno]
      rfl
    · rw [State.calibrates_eq_false_iff.mpr hno, Bool.and_false]
      rfl
    · rw [hno, Bool.and_false]
  exact ⟨Answer.of_neg (by rw [hshut]; decide) rfl, fun trip => Answer.of_pos (by rw [hshut]; rfl) rfl⟩

/-- The sixteenth round trip sets the delay, and the bus leaves calibration for the state that its own state names. -/
theorem State.calDone_cases {x : State} (hx : x = s.wrN R.tickHallDelay ((s.tick.calSum - 16384000) / 32)) :
    (s.bus = 2 → s.calDone = State.setBus { x with tick := { x.tick with calAt := x.now } } 3) ∧
    (s.bus = 4 → s.calDone = (x.recalEnd 0x00).setBus 5) ∧
    (s.bus ≠ 2 → s.bus ≠ 4 → s.calDone = x.recalEnd 0x00) := by
  subst hx
  exact ⟨fun hbus => if_pos hbus, fun hbus => (if_neg (by rw [hbus]; decide)).trans (if_pos hbus),
    fun hcalibrating hholdover => (if_neg hcalibrating).trans (if_neg hholdover)⟩

end

/-- Settles O19: each row of the tick bus acts as the state of the bus asks. -/
theorem tickBusFollowsFramesEdgesAndPulses : Obligations.TickBusFollowsFramesEdgesAndPulses := by
  unfold Obligations.TickBusFollowsFramesEdgesAndPulses
  refine ⟨fun s hplan htime => ⟨fun hrun u hu => ⟨exec_tickFrameSend_source hplan htime hrun hu, fun hsource hmissed w =>
    exec_tickFrameSend_missed hplan htime hrun hsource hmissed, fun hsource hbus hframe => ?_⟩, fun hfollows b hlen x =>
    exec_tickFrameReceive_cases hfollows hlen⟩, fun s => ⟨fun hfollows hrun cs u => exec_statusFrameSend hfollows hrun,
    fun d1 b f c => exec_statusFrameReceive_cases⟩, fun s hfollows => ?_, fun s => ?_⟩
  · rw [hu]
    exact exec_tickFrameSend_holdover hplan htime hrun hsource hbus hframe
  · obtain ⟨hoverdue, hsettled⟩ := exec_ustorNoLock_cases hfollows
    exact ⟨fun sub => (exec_ustorEdgeReceive_cases hfollows).1, fun sub => (exec_ustorEdgeReceive_cases hfollows).2,
      fun t est x hbus => State.edgeAt_seeking hbus t est, fun w => exec_ustorEdgeMissing_cases hfollows, hoverdue, hsettled⟩
  · refine ⟨fun a u hfollows => exec_calPulseSend_cases hfollows, fun d1 hplan htime hport => ?_, exec_calPulseArrive_cases,
      exec_calPulse_idle, fun x => State.calDone_cases, fun hticks => if_pos hticks⟩
    exact Answer.of_pos (by rw [hplan, htime, hport]; rfl) rfl

end Sys2Proof.Machine
end
